-- ==== Sys2Proof/Word.lean ====
section
/-! DEFINITION. The plain types the model is written over: words, the table type, the names the spec
enumerates (functions, transports, fault classes, device and function states), and the operands that
the commands of Syntax.lean carry. -/

namespace Sys2Proof

/-- One byte of a frame or of a value. -/
abbrev Byte := BitVec 8

/-- A 32-bit word. -/
abbrev Word := BitVec 32

/-- One cell of the object store: a Ledger value zero-extended to 64 bits (R608); for a Ridge-backed
object bits [31:0] are the value and bits [35:32] the sideband of R29. -/
abbrev Cell := BitVec 64

/-- A table from Nat keys, kept as a list in one canonical form: keys strictly rising, no entry equal
to what an unlisted key reads as. -/
abbrev Tab (α : Type) := List (Nat × α)

/-- The seven functions of R17, in FUNC order of R188. -/
inductive Fn where
  | driveA | driveB | charger | converter | pump | parkLock | clutch
deriving DecidableEq, Repr

/-- The two traction drives. -/
inductive Drv where
  | a | b
deriving DecidableEq, Repr

/-- The transports of a session (R121). -/
inductive Transport where
  | udp | can0 | can1 | host
deriving DecidableEq, Repr

/-- The 24 fault classes of R524, in code order 0x01 to 0x18. -/
inductive Cls where
  | oc | ov | uv | sc | st | ot | pos | acq | cmp | trs | rdg | lan | dmp | chg | cnv | act | bst
  | way | com | sec | cfg | tst | mem | clk
deriving DecidableEq, Repr

/-- The device states of R43 and R44. -/
inductive Dev where
  | off | camp | boot | check | preop | operational | lockout
deriving DecidableEq, Repr

/-- The function states of R50, in code order 0 to 6. -/
inductive FnSt where
  | idle | shored | armed | run | stopped | safe | lockout
deriving DecidableEq, Repr

/-- The driven level of a lane ball: low, high, or high impedance with the pull-down (R188). -/
inductive Level where
  | low | high | hiZ
deriving DecidableEq, Repr

/-- Where the power-up controller stands (R59, R60, R72, R73). -/
inductive PowerUp where
  | idle        -- not started: VBAT_AON low, or PORST_N low
  | waitPg      -- step 2: PMIC_EN high, PMIC_PG awaited
  | waitXtal    -- step 3: the 25 MHz oscillator runs, its qualification is awaited
  | waitPll     -- step 5: the PLLs are awaited
  | running     -- step 6 reached: the eight domains have left reset
  | retryWait   -- an attempt failed, the 100 ms wait runs
  | parked      -- three attempts failed
deriving DecidableEq, Repr

/-- The choice of a drive's safe-state selector (R364). -/
inductive Choice where
  | none | freewheel | ascLow | ascHigh
deriving DecidableEq, Repr

/-- The modes of an actuator's commutator (R460). -/
inductive CommMode where
  | off | drive | brake
deriving DecidableEq, Repr

/-- One Ledger request of a session, as it reached its service: the session, REQID, TYPE and DATA of
R99. -/
structure Req where
  ses   : Nat
  reqid : Byte
  ty    : Byte
  data  : List Byte
deriving DecidableEq, Repr

/-- A Ledger frame of R97 on UDP or CAN with its origin: peer is laid out as Session.Peer of R121;
on CAN ident is the identifier it came on and xl whether it came as CAN XL, classical as classical CAN. -/
structure LFrame where
  tr        : Transport
  peer      : BitVec 64
  /-- Ethernet source address of the frame on UDP -/
  mac       : BitVec 48
  ident     : Nat
  classical : Bool
  xl        : Bool
  vk        : Byte
  session   : Byte
  fresh     : Word
  plen      : Nat
  payload   : List Byte
  tag       : BitVec 64
deriving DecidableEq, Repr

/-- An OPEN request (R104, R113): the frame it came in, with its message as payload; on the host port the message alone
(R103). -/
structure OpenReq where
  frame    : LFrame
  /-- the device's draw of its random number generator for this OPEN (R114) -/
  devNonce : BitVec 64
deriving DecidableEq, Repr

/-- The input of a converter that a mux code selects (R224): a ball, a supply, the windows' readback bus, a die sensor, or an
actuator drive's current-sense amplifier. -/
inductive AdcIn where
  | ain (n : Nat)
  | agnd | vddRef | vdda | vddCore | vgd | vbatAon | dacBus
  | die (p : Nat)
  | act (n : Nat)
  | cpSns | ppSns
deriving DecidableEq, Repr

/-- What a conversion meets (R224, R225, R233): the input and its voltage in µV, at the ball, the supply or the sensor, or across
ACTn_ISP and ACTn_ISN; in DUPLEX with the voltage that the partner sees. -/
structure AdcMeas where
  src : AdcIn
  uv  : Int
  uv2 : Int
deriving DecidableEq, Repr

/-- One modulator clock of a demodulator: SDDd as seen at the rising and at the falling edge of the clock at its ball (R249). -/
structure SdBit where
  rise : Bool
  fall : Bool
deriving DecidableEq, Repr

/-- A source update of R153: position absent for a rate-only update; the position is 32.32 counts, the
rate counts per tick with 32 fractional bits, the acceleration units of 2^-32 counts per tick². -/
structure RodUpd where
  ts    : Nat
  pos   : Option (BitVec 64)
  rate  : Int
  accel : Int
deriving DecidableEq, Repr

/-- What the readback of a modulator clock's ball has seen since its last report: the clock, edges missed, edges too many (R248). -/
structure SdcSeen where
  clock   : Nat
  missing : Nat
  extra   : Nat
deriving DecidableEq, Repr

/-- The sense voltage of an actuator drive in µV, across ACTn_ISP and ACTn_ISN (R456, R461). -/
structure ShuntMeas where
  drive : Nat
  uv    : Int
deriving DecidableEq, Repr

/-- What a resolver's converters read in one half excitation period (R208): the 16 samples of each secondary in the order of their
strobe instances, the excitation readback (R212), and the device time of the first strobe instance. -/
structure ResMeas where
  sin : List Int
  cos : List Int
  /-- the DAC readback at RSV_x_EXC, mV peak -/
  excMv : Nat
  strobeMissing : Bool
  t0 : Nat
deriving DecidableEq, Repr

/-- An element that fails the start-up self-test of check 11 (R78): a converter, a window, or a lane's readback. -/
inductive TestElem where
  | converter (cv : Nat)
  | window (w : Nat)
  | laneReadback (l : Nat)
deriving DecidableEq, Repr

/-- What the checks of CHECK find that is not already in the state (R78). -/
structure CheckFind where
  lockstepFail : Bool
  /-- SAFE RC against the 25 MHz crystal off by more than 3 % -/
  safeClkOff   : Bool
  /-- an uncorrectable word in the MRAM record area -/
  recUncorr    : Bool
  /-- corrected words in the record area and the configuration area -/
  corrected    : Nat
  /-- temperature of the control die and the power-interface die, 0.001 °C -/
  dieMilliC    : Int × Int
  /-- blocks whose configuration area holds an uncorrectable word; 0x1000 stands for the device-level objects -/
  cfgUncorr    : List Nat
  /-- the elements that fail the start-up self-test -/
  selfTest     : List TestElem
deriving DecidableEq, Repr

/-- The trigger that ends CAMP (R448): the set of codes 1 to 8 met in one AON period, the AON periods
counted from the capture edge with the 32.768 kHz crystal and, after its loss, with the RC. -/
structure WakeEv where
  codes       : List Nat
  /-- inputs of windows 28 to 31, by number less 28: µV at the ball in successive AON periods, oldest first (R277) -/
  wins        : List (Nat × List Int)
  periodsX32  : Nat
  periodsRc   : Nat
  /-- µs for which CAN0_RX and CAN1_RX have been low (R448) -/
  can0Us      : Nat := 0
  can1Us      : Nat := 0
deriving DecidableEq, Repr

/-- A received Ethernet frame, parsed (R549 to R558). -/
structure EthFrame where
  dst      : BitVec 48
  src      : BitVec 48
  length   : Nat
  fcsOk    : Bool
  /-- VLAN tag: VID, absent when untagged -/
  vid      : Option Nat
  ethertype : Nat
  /-- for IPv4: destination, header length in bytes, header checksum correct, fragment, protocol -/
  ipDst    : Word
  ipSrc    : Word
  ihl      : Nat
  ipSumOk  : Bool
  fragment : Bool
  proto    : Nat
  /-- for UDP: ports, and whether a non-zero checksum verifies -/
  dport    : Nat
  sport    : Nat
  udpSumOk : Bool
  payload  : List Byte
deriving DecidableEq, Repr

/-- A received ARP message (R557). -/
structure ArpMsg where
  isReply  : Bool
  senderIp : Word
  senderMac : BitVec 48
  targetIp : Word
deriving DecidableEq, Repr

/-- A received CAN frame (R571). -/
structure CanFrame where
  ide   : Bool
  ident : Nat
  fdf   : Bool
  brs   : Bool
  xl    : Bool
  sec   : Bool
  vcid  : Byte
  data  : List Byte
deriving DecidableEq, Repr

/-- How a CAN transmit attempt ended (R573). -/
inductive TxResult where
  | sent | lostArbitration | error
deriving DecidableEq, Repr

/-- A Waybill frame with its origin (R498): peer as Wb.Peer names it. -/
structure WbFrame where
  tr    : Transport
  peer  : BitVec 64
  mac   : BitVec 48
  bytes : List Byte
deriving DecidableEq, Repr

/-- How one watchdog window of a service processor went (R489). -/
inductive SignIn where
  | inWindow | early | missing
deriving DecidableEq, Repr

/-- What one poll of the PHY read (R550). -/
structure LinkPoll where
  sgmiiSync  : Bool
  anLink     : Bool
  fullDuplex : Bool
  /-- speed code of Net.Eth.Speed: 1, 2 or 3 -/
  speed      : Nat
  reg        : BitVec 16
deriving DecidableEq, Repr

/-- A received gPTP message (R564 to R566): domain, sequence number, log interval, two-step flag, the time the
message carries in ns, its correction field and its receive timestamp in ns, and its clock identity. -/
structure PtpMsg where
  domain : Nat
  seq : Nat
  logInterval : Int
  twoStep : Bool
  timeNs : Nat
  corrNs : Int
  rxNs : Nat
  clock : BitVec 64
deriving DecidableEq, Repr

/-- Sampled lane readback: the level seen at the ball or gate output (R191, R455). -/
structure Readback where
  lane : Nat
  seen : Bool
deriving DecidableEq, Repr

end Sys2Proof
end

