-- ==== Sys2Proof/Syntax.lean ====
section
/-! DEFINITION. The commands: one constructor for each row of the spec's table of operations and events, with
what the command brings from outside as its operands. -/

namespace Sys2Proof

/-- The commands of the block. -/
inductive Instr where
  /-- VBAT_RISE (R60): VBAT_AON rises through 5.9 V with PORST_N high and the power-up controller leaves idle and starts the cold start. -/
  | vbatRise
  /-- VBAT_FALL (R60): VBAT_AON falls through 5.6 V and the device returns to OFF. -/
  | vbatFall
  /-- PORST_N_LOW (R66): PORST_N is low for 1 µs or longer and forces OFF. -/
  | porstNLow
  /-- PORST_N_RELEASE (R66): PORST_N returns high with VBAT_AON above 5.9 V and the power-up sequence starts again. -/
  | porstNRelease
  /-- PMIC_PG_LOSS (R62): PMIC_PG is low for 2 µs or longer while the device runs, so the device drops PMIC_EN and enters OFF. -/
  | pmicPgLoss
  /-- PMIC_PG_RISE (R72): PMIC_PG rises, and the 25 MHz oscillator and the SAFE RC start. -/
  | pmicPgRise
  /-- VDD_REF_SAMPLE (R63): 100 µs after PMIC_PG rises, VDD_REF is sampled and the external reference or the internal driver is chosen. -/
  | vddRefSample (mv : Nat)
  /-- CRYSTAL_QUALIFIED (R70): The 25 MHz crystal completes 2048 good cycles and is qualified. -/
  | crystalQualified
  /-- PLL_LOCK (R72): PLL_M and PLL_N lock, the eight domains leave reset and the device enters BOOT. -/
  | pllLock (us : Nat)
  /-- POWER_UP_ATTEMPT_FAIL (R73): A power-up timeout for PMIC_PG, the crystal or PLL lock expires, and the attempt fails and drops PMIC_EN. -/
  | powerUpAttemptFail
  /-- POWER_UP_RETRY (R73): The 100 ms wait after a failed attempt expires and the controller restarts at step 2. -/
  | powerUpRetry
  /-- WAKE_RESTART (R73): A rising edge on WAKE after three failed attempts restarts the power-up at step 2. -/
  | wakeRestart
  /-- SEAL_FUSE_LOAD (R72): The seal fuses are loaded and their CRCs checked, and the lanes take their sealed safe states. -/
  | sealFuseLoad
  /-- FIRMWARE_VERIFIED (R76): The boot ROM verifies a firmware bank, runs it and the device enters CHECK, or stays in BOOT if neither bank is valid. -/
  | firmwareVerified
  /-- CHECK_COMPLETE (R78): The checks of CHECK finish, and the device enters PREOP or LOCKOUT and raises the check faults. -/
  | checkComplete (x : CheckFind)
  /-- SRST_N_ACCEPT (R67): The SAFE filter sees SRST_N low for its full length and the device is held in reset. -/
  | srstNAccept
  /-- SRST_N_RELEASE (R67): SRST_N rises after an accepted reset and the device enters BOOT. -/
  | srstNRelease
  /-- X32_QUALIFIED (R71): The 32.768 kHz crystal is qualified and AON switches to it without a glitch. -/
  | x32Qualified
  /-- X32_TIMEOUT (R71): No 32.768 kHz oscillation is qualified within 1 s and AON stays on the RC. -/
  | x32Timeout
  /-- X32_LOSS (R85): The 32.768 kHz crystal is lost outside CAMP, AON switches to the RC and CLK at L1 is raised. -/
  | x32Loss
  /-- CLOCK_SUPERVISION_FAULT (R84): Plumb detects crystal loss, PLL unlock or a ratio error, overrides every lane and raises CLK at L5. -/
  | clockSupervisionFault
  /-- LEDGER_FRAME_RX (R116): A Ledger frame is received and checked for version, tag and freshness, and is dropped or passed to its service. -/
  | ledgerFrameRx (x : LFrame)
  /-- READ (R105): A READ request is checked and answered with the object's value. -/
  | read (r : Req) (idx : Nat) (sub : Nat)
  /-- WRITE (R105): A WRITE request to an object without its own behaviour is checked and the value is put in place for its consumer. -/
  | write (r : Req) (idx : Nat) (sub : Nat)
  /-- BLOCK_READ (R108): A BLOCK_READ segment is answered, and offset 0 captures a snapshot. -/
  | blockRead (r : Req) (idx : Nat) (sub : Nat)
  /-- BLOCK_WRITE (R108): A BLOCK_WRITE segment is taken in sequence, and the last segment applies the whole value. -/
  | blockWrite (r : Req) (idx : Nat) (sub : Nat)
  /-- BLOCK_TRANSFER_TIMEOUT (R108): More than 1 s passes between segments and the block transfer ends. -/
  | blockTransferTimeout (ses : Nat)
  /-- SUBSCRIBE (R109): A SUBSCRIBE request creates a subscription and sends its first notification. -/
  | subscribe (r : Req) (idx : Nat) (sub : Nat)
  /-- UNSUBSCRIBE (R109): An UNSUBSCRIBE request ends a subscription of the session. -/
  | unsubscribe (r : Req)
  /-- SUBSCRIPTION_SAMPLE (R109): A subscription interval expires, the object is sampled and a notification is sent when due. -/
  | subscriptionSample (ses : Nat) (n : Nat)
  /-- TIME (R110): A TIME request is answered with its receive and transmit stamps. -/
  | time (r : Req)
  /-- OPEN (R115): An OPEN request is checked for key slot, tag and free slot, a session slot is assigned and the session key is derived. -/
  | open (x : OpenReq)
  /-- PENDING_SESSION_TIMEOUT (R115): A pending session sees no Ks-tagged request within 100 ms and is closed. -/
  | pendingSessionTimeout (ses : Nat)
  /-- CLOSE (R117): A CLOSE request closes the session, its subscriptions, its block transfer and its manifests. -/
  | close (r : Req)
  /-- SESSION_TIMEOUT (R117): No accepted frame arrives within the session timeout and the session closes. -/
  | sessionTimeout (ses : Nat)
  /-- STATE_REQUEST (R637): A write to System.StateRequest is decided and moves the device between PREOP and OPERATIONAL. -/
  | stateRequest (r : Req)
  /-- ARM (R51): The ARM command moves a function from IDLE to ARMED when its interlocks allow. -/
  | arm (r : Req) (f : Fn)
  /-- RUN (R51): The RUN command moves a function from ARMED to RUN when its start conditions hold. -/
  | run (r : Req) (f : Fn)
  /-- STOP (R52): The STOP command starts the function's controlled stop. -/
  | stop (r : Req) (f : Fn)
  /-- DISARM (R52): The DISARM command returns a function from ARMED to IDLE, stopping first in RUN. -/
  | disarm (r : Req) (f : Fn)
  /-- SHORE (R135): A write of a block index to Ledger.Shore is checked and starts stopping the block's elements. -/
  | shore (r : Req)
  /-- SHORE_COMPLETE (R136): The last element of a shored block stops, the shore instant is fixed and the response is sent. -/
  | shoreComplete (blk : Nat)
  /-- STRIKE (R142): A write to Ledger.Strike is queued, checked for consistency and budget, and builds its shadow tables. -/
  | strike (r : Req)
  /-- STRIKE_RELEASE (R142): At the release instant the shadow tables become active, the struck blocks are released and the response is sent. -/
  | strikeRelease
  /-- STRIKE_PERSIST (R142): 20 ms after release the struck SH and RW values are persisted. -/
  | strikePersist
  /-- ABANDON (R146): A write to Ledger.Abandon discards the pending values and releases the blocks with their values in effect. -/
  | abandon (r : Req)
  /-- STORE (R94): A write to Ledger.Store persists the block's RW objects, or the device-level objects. -/
  | store (r : Req)
  /-- RESTORE (R94): A write to Ledger.Restore loads the defaults into the pending values of a shored block. -/
  | restore (r : Req)
  /-- MANIFEST_ENABLE (R124): A write of 1 to Manifest.Enable checks and commits the manifest and starts it. -/
  | manifestEnable (r : Req) (m : Nat)
  /-- MANIFEST_DISABLE (R122): A write of 0 to Manifest.Enable stops the manifest. -/
  | manifestDisable (r : Req) (m : Nat)
  /-- MANIFEST_PUBLISH (R125): At a cycle instant a publication manifest latches its entries and hands its frame over. -/
  | manifestPublish (m : Nat)
  /-- MANIFEST_CONSUME_FRAME (R126): A consumption frame is accepted into its window, and an earlier frame of the window counts as an overrun. -/
  | manifestConsumeFrame (m : Nat)
  /-- MANIFEST_CONSUME_APPLY (R126): At the end of a consumption window the latest accepted frame is applied. -/
  | manifestConsumeApply (m : Nat)
  /-- MARK_FIRE (R167): A source passes an armed mark instance, which fires its lane action, trigger line, blanking or capture. -/
  | markFire (k : Nat) (j : Nat)
  /-- ONESHOT_END (R179): The width of a ONESHOT pulse expires and the lane goes inactive. -/
  | oneshotEnd (l : Nat)
  /-- GATE_TIMEOUT (R179): A GATE lane reaches its longest open time, closes and counts in Lane.Runts. -/
  | gateTimeout (l : Nat)
  /-- ROD_SOURCE_UPDATE (R153): A source update reaches LANE and sets the rod's rate, acceleration and residual. -/
  | rodSourceUpdate (rod : Nat)
  /-- ROD_TIMEOUT (R157): No update arrives within Rod.Timeout, so the rod runs on at its last rate with STL. -/
  | rodTimeout (rod : Nat)
  /-- CARRIER_WRAP_APPLY (R162): A pending carrier mode, ratio or rate write takes effect at the next wrap of the carrier phase. -/
  | carrierWrapApply (rod : Nat)
  /-- LANE_READBACK_COMPARE (R191): A readback comparison runs after an edge or on the 1 µs grid, and three mismatches raise LAN at L3. -/
  | laneReadbackCompare (x : Readback)
  /-- CAPTURE_EDGE (R194): A filtered edge on a capture input is recorded with its time and source position. -/
  | captureEdge (u : Nat) (rising : Bool) (phase : Nat)
  /-- CAPTURE_NEXT_READ (R196): A read of Capture.Next returns the held records and removes them. -/
  | captureNextRead (r : Req) (u : Nat)
  /-- RESOLVER_UPDATE (R209): A half excitation period completes, the observer updates and sends a rod update. -/
  | resolverUpdate (i : Nat) (x : ResMeas)
  /-- ENCODER_EDGE (R214): A filtered quadrature edge is counted or confirms SEQ. -/
  | encoderEdge (e : Nat) (was : Bool × Bool) (lv : Bool × Bool)
  /-- ENCODER_INDEX (R214): A rising edge of the index input sets c_Z or checks the index position. -/
  | encoderIndex (e : Nat)
  /-- ENCODER_UPDATE (R215): An Encoder.UpdatePeriod ends and the rate, acceleration and position update is sent. -/
  | encoderUpdate (e : Nat)
  /-- HALL_EDGE (R217): A Hall code change is accepted, the sector changes and a position update is sent. -/
  | hallEdge (h : Nat) (code : Nat)
  /-- HALL_RATE_UPDATE (R217): Every 100 µs between Hall edges a rate-only update is sent. -/
  | hallRateUpdate (h : Nat)
  /-- GRID_PLL_STEP (R218): The grid PLL is stepped and sends an update to rod 3. -/
  | gridPllStep
  /-- FREQUENCY_WORD_UPDATE (R202): A frequency word source sends its periodic rate-only update every 100 µs. -/
  | frequencyWordUpdate (rod : Nat)
  /-- SEQ_TRIGGER (R229): A trigger line event reaches a conversion sequence, which starts, waits or is dropped. -/
  | seqTrigger (q : Nat)
  /-- CONVERTER_FREE (R229): A converter becomes free and the lowest-numbered waiting instance starts. -/
  | converterFree (cv : Nat)
  /-- SEQ_WAIT_DROP (R229): A waiting instance reaches Seq.MaxWait and is dropped. -/
  | seqWaitDrop (q : Nat)
  /-- CONVERSION_COMPLETE (R227): A step's conversion completes and its channel word is written to Ridge. -/
  | conversionComplete (q : Nat) (k : Nat) (src : AdcIn) (uv : Int × Int)
  /-- CAL_CAPTURE_LOW (R242): Calibration command 1 starts capturing the low point. -/
  | calCaptureLow (r : Req) (ch : Nat)
  /-- CAL_CAPTURE_HIGH (R242): Calibration command 2 starts capturing the high point. -/
  | calCaptureHigh (r : Req) (ch : Nat)
  /-- CAL_COMPUTE (R244): Calibration command 3 computes, stores and persists the gain and offset. -/
  | calCompute (r : Req) (ch : Nat)
  /-- CAL_CLEAR (R242): Calibration command 4 clears the channel's calibration. -/
  | calClear (r : Req) (ch : Nat)
  /-- CAL_ABANDON (R242): Calibration command 5 abandons the captures. -/
  | calAbandon (r : Req) (ch : Nat)
  /-- CAL_CAPTURE_DONE (R243): The 256th fresh conversion of a capture arrives and the mean code is held. -/
  | calCaptureDone (ch : Nat)
  /-- CAL_CAPTURE_TIMEOUT (R243): A capture does not gather 256 conversions within 10 s and fails. -/
  | calCaptureTimeout (ch : Nat)
  /-- PAIR_CHECK (R245): A checking pair converts its check input in a gap and compares the two codes. -/
  | pairCheck (p : Nat) (src : AdcIn) (uv : Int × Int)
  /-- SD_OUTPUT (R250): A demodulator writes its data filter output in FREE or at a trigger event. -/
  | sdOutput (dm : Nat) (rise : List Bool) (fall : List Bool)
  /-- SDC_FAULT (R248): The SDC readback misses 4 edges and CLK is confirmed on the demodulators of that clock. -/
  | sdcFault (x : SdcSeen)
  /-- SD_STUCK (R254): SDDd has not changed for Sd.StuckLimit clocks and STUCK is confirmed. -/
  | sdStuck (dm : Nat)
  /-- STAT_BOUNDARY (R259): A statistic period boundary latches the figures and restarts the accumulators. -/
  | statBoundary (u : Nat)
  /-- STAT_TIMEOUT (R261): A period reaches Stat.MaxPeriod and ends with TIMEOUT. -/
  | statTimeout (u : Nat)
  /-- WINDOW_CROSSING (R268): A filtered raw output change of a window reaches its logic, asserts L or H, trips lanes and raises its fault. -/
  | windowCrossing (w : Nat) (uv : Int) (phase : Nat)
  /-- BLANK_MAX_TIMEOUT (R269): A mark-opened blanking stays open for Win.BlankMax and closes. -/
  | blankMaxTimeout (w : Nat)
  /-- BLANK_TIME_END (R271): A lane blanking reaches Win.BlankTime and closes, asserting L if the raw output still asserts. -/
  | blankTimeEnd (w : Nat)
  /-- WIN_CLEAR (R272): A write to Win.Clear clears the latched output, which reasserts if the raw output still asserts. -/
  | winClear (r : Req) (w : Nat)
  /-- WIN_PERIOD_CLEAR (R272): The clear source passes Win.ClearPosition and clears a PERIOD-latched output. -/
  | winPeriodClear (w : Nat)
  /-- WINDOW_CHECK (R279): The Outrider starts a window check on a relief comparator and runs its tie and swap tests. -/
  | windowCheck (w : Nat) (agree : Bool)
  /-- WINDOW_CHECK_READBACK (R279): At a converter gap the window's DAC readback of the check is made. -/
  | windowCheckReadback (w : Nat) (codeL : Nat) (codeH : Nat)
  /-- WINDOW_CHECK_END (R280): A window reconnects after its check, and the check passes or fails. -/
  | windowCheckEnd (w : Nat) (agree : Bool)
  /-- LOOP_TRIGGER (R306): A trigger event starts a triggered loop with its due nested loops, or is dropped as an overrun. -/
  | loopTrigger (lp : Nat)
  /-- BRACE_COEF_WRITE (R286): A coefficient write forms its working copy and may set COEFCLIP. -/
  | braceCoefWrite (r : Req) (i : Nat) (bank : Nat) (k : Nat)
  /-- BRACE_SELECT (R303): A write to Brace.Select changes bank at the next evaluation and presets if SelectPreset is set. -/
  | braceSelect (r : Req) (i : Nat)
  /-- BRACE_PRESET (R302): A write to Brace.Preset sets the brace history at its next evaluation. -/
  | bracePreset (r : Req) (i : Nat)
  /-- INJECT_START (R322): A write of 1 to Inject.Start starts the test-signal generator. -/
  | injectStart (r : Req)
  /-- INJECT_STOP (R322): A write of 2 to Inject.Start aborts the injection. -/
  | injectStop (r : Req)
  /-- INJECT_DONE (R322): Injection reaches Inject.Length evaluations and ends with state 2. -/
  | injectDone
  /-- RESP_ARM (R326): Resp.Command 1 clears the memory and arms the response capture. -/
  | respArm (r : Req)
  /-- RESP_TRIGGER (R324): Resp.Command 2 triggers the response capture. -/
  | respTrigger (r : Req)
  /-- RESP_STOP (R324): Resp.Command 3 stops recording at once with state 3. -/
  | respStop (r : Req)
  /-- RESP_FULL (R324): The response capture fills its capacity after the trigger and stops with state 3. -/
  | respFull
  /-- DRIVE_RELEASE (R357): The second latch after the presets of a drive start arrives and the lanes follow their commands. -/
  | driveRelease (d : Drv)
  /-- DRIVE_SETTLE_END (R357): Start.Settle expires after release and T_ref follows the target. -/
  | driveSettleEnd (d : Drv)
  /-- DRIVE_STOP_COMPLETE (R354): During a controlled stop T_ref is 0 and the EMF ratio below the limit, so the lanes turn off and the drive enters ARMED. -/
  | driveStopComplete (d : Drv)
  /-- DRIVE_FAULT_RAMP_END (R355): In STOPPED the torque ramp ends or Stop.FaultRamp expires and the lanes take their OFF level. -/
  | driveFaultRampEnd (d : Drv)
  /-- DIRECTION_SELECT (R359): A write to Direction.Select is checked against speed and changes the selected direction. -/
  | directionSelect (r : Req) (d : Drv)
  /-- DERATE_UPDATE (R360): Every 1 ms the sequencer writes Derate.Factor from its inputs. -/
  | derateUpdate (f : Fn)
  /-- FAULT_INPUT_EDGE (R373): A filtered low edge on a FLT input turns the drive's leg lanes off and opens collection. -/
  | faultInputEdge (k : Nat)
  /-- COLLECT_CLOSE (R373): Prot.Collect expires and the drive latches a one-bank or two-bank short. -/
  | collectClose (d : Drv)
  /-- ASC_APPLY (R366): Prot.AscDelay passes after the OFF level and the chosen bank reaches its ASC level. -/
  | ascApply (d : Drv)
  /-- LINK_WORD (R380): A link channel word is compared with Ov1 and Ov2 and drives the dump lane and OV reactions. -/
  | linkWord
  /-- LINK_STALE_TIMEOUT (R380): No compared link word arrives within Link.Timeout, STALE is set and ACQ at L3 is raised. -/
  | linkStaleTimeout
  /-- DUMP_OBSERVE_TIMEOUT (R383): No dump current is observed within 50 µs of the command and DMP at L3 is raised. -/
  | dumpObserveTimeout
  /-- DUMP_MAXON_TIMEOUT (R383): The dump command reaches Link.DumpMaxOn and is ended. -/
  | dumpMaxonTimeout
  /-- DUMP_TEST (R387): The Outrider pulses the dump lane and checks the dump current. -/
  | dumpTest (src : AdcIn) (uv : Int)
  /-- PILOT_EVAL (R394): Every 10 ms the pilot frequency, duty, levels and state are formed. -/
  | pilotEval
  /-- PROXIMITY_EVAL (R396): Every 10 ms the proximity resistance is evaluated and its code accepted after debounce. -/
  | proximityEval
  /-- SESSION_PILOT_READY (R415): The pilot allows charging, CP_S2 goes high and the safety timer starts. -/
  | sessionPilotReady
  /-- SESSION_GRID_READY (R415): The grid PLL locks with every phase in range and the precharge relay lane goes active. -/
  | sessionGridReady
  /-- SESSION_AC_TIMEOUT (R415): The grid is not ready within Session.AcTimeout and the session ends with NO_POWER. -/
  | sessionAcTimeout
  /-- SESSION_PRECHARGE_DONE (R415): The bus reaches 0.9 of the rectified peak and the main relay lane goes active. -/
  | sessionPrechargeDone
  /-- SESSION_PRECHARGE_TIMEOUT (R415): The bus does not precharge within 500 ms and the session ends with PRECHARGE. -/
  | sessionPrechargeTimeout
  /-- SESSION_PFC_LIVE (R415): 20 ms after the main relay the precharge lane goes inactive and the PFC legs go live. -/
  | sessionPfcLive
  /-- SESSION_BUS_READY (R415): The bus comes within 2 % of Pfc.BusRef and the DAB legs go live. -/
  | sessionBusReady
  /-- CHARGER_LIMIT_STAGE (R410): Every 50 µs the charger limit stage computes Ref.Idc and BIND. -/
  | chargerLimitStage
  /-- SESSION_PAUSE (R416): ilim stays 0 for 1 s and the session pauses. -/
  | sessionPause
  /-- SESSION_RESUME (R416): ilim stays above 0 for 1 s and the session resumes from step 5. -/
  | sessionResume
  /-- SESSION_COMPLETE (R413): The CV termination conditions hold for Profile.EndTime and the session ends with COMPLETE. -/
  | sessionComplete
  /-- SAFETY_TIMER_TICK (R414): Every 1 s the safety timer advances and may expire with TIMER. -/
  | safetyTimerTick
  /-- SESSION_DAB_OFF (R417): During a stop the output current falls or 100 ms pass and the DAB legs turn off. -/
  | sessionDabOff
  /-- PFC_ZERO_CROSS_OFF (R416): Rod 3 passes a phase's zero crossing and that phase's PFC leg turns off. -/
  | pfcZeroCrossOff (ph : Nat)
  /-- SESSION_END (R417): The last PFC leg is off, CP_S2 goes low, the relays open and Session.Reason is written. -/
  | sessionEnd
  /-- GRID_RIDETHROUGH_TIMEOUT (R421): The grid does not return within Grid.RideThrough and the session ends with GRID_FAULT. -/
  | gridRidethroughTimeout
  /-- DAB_FSW_WRITE (R409): A write of Charger.Dab.Fsw is checked and sent to rod 4 as a rate-only update. -/
  | dabFswWrite (r : Req)
  /-- V2L_BACKFEED_CHECK (R425): 100 ms after a vehicle-to-load RUN the phases are checked for backfeed and the DAB legs go live. -/
  | v2lBackfeedCheck
  /-- V2L_RAMP_END (R425): The V2l.Vd ramp ends and phase 10 begins. -/
  | v2lRampEnd
  /-- V2L_OVERLOAD (R426): Clipping or excess power lasts V2l.OverloadTime and the session ends with OVERLOAD. -/
  | v2lOverload
  /-- CONVERTER_LIMIT_STAGE (R434): Every 50 µs the converter limit stage computes I_max, I_min and its set points. -/
  | converterLimitStage
  /-- DCX_SOFTSTART_STEP (R436): Every 100 µs of soft start the DCX frequency word steps toward Dcx.Fsw. -/
  | dcxSoftstartStep
  /-- DCX_SOFTSTART_END (R436): Dcx.SoftStart ends, the bus is checked and the braces are preset. -/
  | dcxSoftstartEnd
  /-- BUCK_LIVE (R436): Two latch intervals after the presets the buck-boost legs go live. -/
  | buckLive
  /-- PRECHARGE_REACHED (R436): The link comes within 2 % of Pre.Target and PRECHARGED is set. -/
  | prechargeReached
  /-- PRECHARGE_HOLD_END (R436): Pre.HoldTime expires after precharge and a controlled stop follows. -/
  | prechargeHoldEnd
  /-- PRECHARGE_TIMEOUT (R436): Precharge is not reached within Pre.Timeout and CNV at L3 is raised. -/
  | prechargeTimeout
  /-- CONVERTER_STOP_DONE (R438): The inductor current falls or 10 ms pass after STOP and the converter legs turn off. -/
  | converterStopDone
  /-- DCX_FSW_WRITE (R432): A write of Converter.Dcx.Fsw is checked and sent to rod 5. -/
  | dcxFswWrite (r : Req)
  /-- AXLE_EVAL (R442): Every 1 ms, or on OV1 entry, the arbiter divides the BMS limits into grants. -/
  | axleEval
  /-- HVIL_CURRENT_LOSS (R445): Loop current is lost while the HVIL switch is closed and COM at L1 is raised. -/
  | hvilCurrentLoss
  /-- CAMP_ENTER (R446): A write of 1 to System.Camp.Enter opens the HVIL switch and starts the camp-entry sequencer. -/
  | campEnter (r : Req)
  /-- CAMP_LINK_LOW (R446): The link falls below Camp.LinkLevel and the sessions close and blocks are dropped. -/
  | campLinkLow
  /-- CAMP_LINK_TIMEOUT (R447): The link does not fall within Camp.LinkTimeout and camp entry ends with result 3. -/
  | campLinkTimeout
  /-- CAMP_ENTRY_COMPLETE (R446): The lanes take their R64 state, device time is captured, PMIC_EN falls and the device enters CAMP. -/
  | campEntryComplete (rcps : Nat)
  /-- CAMP_WAKE (R448): A WAKE, window, CAN or timer wake event in CAMP starts the wake sequence. -/
  | campWake (x : WakeEv)
  /-- ACT_PERIOD_START (R458): An actuator PWM period starts, pulses the period lane and latches the duty. -/
  | actPeriodStart (n : Nat)
  /-- ACT_ILIMIT (R461): The sense current reaches Act.ILimit and the PWM high side turns off for the period. -/
  | actIlimit (x : ShuntMeas)
  /-- ACT_ITRIP (R461): The sense current reaches Act.ITrip and every switch turns off and OC at L3 is raised. -/
  | actItrip (x : ShuntMeas)
  /-- ACT_REFRESH (R463): A high side has been on for Act.RefreshInterval and a low-side refresh pulse is inserted. -/
  | actRefresh (n : Nat) (leg : Nat)
  /-- VGD_LOCKOUT (R466): VGD falls below its lock-out threshold for 2 µs and all 18 gate outputs go low. -/
  | vgdLockout
  /-- VGD_LOCKOUT_RELEASE (R466): VGD stays above its rising threshold for 100 µs and the lock-out releases. -/
  | vgdLockoutRelease
  /-- PUMP_EVAL (R469): Every 10 ms the Pump sequencer reads the oil temperature and sets the speed demand. -/
  | pumpEval
  /-- PUMP_START (R471): A pump motor start reads MOTION and enters DRIVE or BRAKE. -/
  | pumpStart
  /-- PUMP_BRAKE_END (R471): MOTION reads standstill during a brake and the pump enters DRIVE. -/
  | pumpBrakeEnd
  /-- PUMP_BRAKE_TIMEOUT (R471): Pump.BrakeTime expires without standstill, ACT at L2 is raised and the pump drives. -/
  | pumpBrakeTimeout
  /-- PARKLOCK_REPORT (R474): Every 1 ms the park lock report is formed from its position channel. -/
  | parklockReport
  /-- PARKLOCK_ENGAGE (R476): An engage request is checked and drives the actuator toward the engaged band. -/
  | parklockEngage (r : Req)
  /-- PARKLOCK_RELEASE (R476): A release request is checked and drives the actuator toward the released band. -/
  | parklockRelease (r : Req)
  /-- PARKLOCK_TARGET_REACHED (R476): The park lock position enters its target band and the commutator turns off. -/
  | parklockTargetReached
  /-- PARKLOCK_TRAVEL_TIMEOUT (R476): ParkLock.TravelTime expires, the commutator turns off and TOOTH or ACT at L3 follows. -/
  | parklockTravelTimeout
  /-- PARKLOCK_INTERLOCK (R477): The rod rate crosses the park-lock speed limit and Plumb holds or frees the engaging lanes. -/
  | parklockInterlock
  /-- CLUTCH_CLOSE (R481): A close request starts the speed match of Drive B. -/
  | clutchClose (r : Req)
  /-- CLUTCH_TORQUE_UPDATE (R480): Every 1 ms during a close the sequencer sets Drive B's target torque from the slip. -/
  | clutchTorqueUpdate
  /-- CLUTCH_MATCH (R481): The slip stays in band for MatchTime and the actuator drives toward closed. -/
  | clutchMatch
  /-- CLUTCH_CLOSED (R481): The clutch position enters the closed band and the close ends. -/
  | clutchClosed
  /-- CLUTCH_RETRY (R482): The slip exceeds twice MatchBand during travel and the close reverses and restarts. -/
  | clutchRetry
  /-- CLUTCH_SYNC_TIMEOUT (R482): Step 2 is not reached within Clutch.SyncTimeout and the close ends. -/
  | clutchSyncTimeout
  /-- CLUTCH_TRAVEL_TIMEOUT (R482): Travel exceeds Clutch.TravelTime, the commutator turns off and ACT at L3 is raised. -/
  | clutchTravelTimeout
  /-- CLUTCH_OPEN (R483): An open request unloads Drive B and drives the actuator toward the open band. -/
  | clutchOpen (r : Req)
  /-- CLUTCH_UNLOAD (R483): T_ref falls to UnloadTorque and the actuator drives open. -/
  | clutchUnload
  /-- LOCKSTEP_FAULT (R488): The Plumb cores disagree and the device-wide override and TST at L5 follow. -/
  | lockstepFault
  /-- WATCHDOG_WINDOW (R489): A watchdog window ends or an early sign-in occurs, and two misses raise CLK at L4. -/
  | watchdogWindow (proc : Nat) (x : SignIn)
  /-- WAYBILL_COMMAND (R502): A Waybill command frame is checked and its requests take effect and are answered. -/
  | waybillCommand (x : WbFrame)
  /-- WAYBILL_STATUS_TIMER (R505): Wb.Watchdog / 2 passes without a status frame and one is sent. -/
  | waybillStatusTimer (p : Nat)
  /-- WAYBILL_WATCHDOG (R506): No command frame arrives within Wb.Watchdog and the connection fails with a WAY fault. -/
  | waybillWatchdog (p : Nat)
  /-- WAYBILL_CONNECT (R504): A write to Safety.Wb.Connect takes a slot and puts the profile in CONNECTING. -/
  | waybillConnect (r : Req)
  /-- DISCHARGE_DONE (R493): The link stays below 60 V for 100 ms while DIS is held, DISCHARGED is set and the dump lane goes inactive. -/
  | dischargeDone
  /-- DISCHARGE_TIMEOUT (R493): Safety.Discharge.Time passes without discharge and SF3FAIL and DMP at L4 follow. -/
  | dischargeTimeout
  /-- LOCKOUT_RESET_WRITE (R497): A Ledger write to Safety.Lockout.Reset is always refused with 0x0500_0004. -/
  | lockoutResetWrite (r : Req)
  /-- TK_OPEN (R517): Safety.Tk.Command 1 opens a twin-key transaction. -/
  | tkOpen (r : Req)
  /-- TK_PROPOSE (R517): Safety.Tk.Command 2 checks the pending set and publishes Tk.Proposed. -/
  | tkPropose (r : Req)
  /-- TK_APPROVE (R517): The witness writes Safety.Tk.Approve, approving or aborting the transaction. -/
  | tkApprove (r : Req)
  /-- TK_COMMIT (R518): Safety.Tk.Command 3 applies the pending values at the commit instant. -/
  | tkCommit (r : Req)
  /-- TK_COMMIT_DONE (R518): The staged groups are blown, values persisted, check values written and block 0x6000 released. -/
  | tkCommitDone (readOk : Bool)
  /-- TK_ABORT (R519): Safety.Tk.Command 4 aborts the transaction and abandons block 0x6000. -/
  | tkAbort (r : Req)
  /-- TK_TIMEOUT (R519): Safety.Tk.Timeout passes without a commit and the transaction is aborted. -/
  | tkTimeout
  /-- SEAL_STAGE_WRITE (R511): A write to Safety.Seal.Stage stages a blank seal group for blowing at commit. -/
  | sealStageWrite (r : Req) (g : Nat)
  /-- CHECK_VALUE_RECOMPUTE (R514): Every 100 ms Plumb recomputes the check value and a mismatch raises MEM at L4. -/
  | checkValueRecompute
  /-- FAULT_RAISE (R528): A detector raises a fault, its key sets the effective level and the function reacts. -/
  | faultRaise (cls : Cls) (lvl : Nat) (scope : Nat) (rank : Nat) (detail : Nat)
  /-- FAULT_COMMIT (R535): A raise is committed to the history, keys, summary, ERR_N and interrupt at its commit instant. -/
  | faultCommit
  /-- TALLY_ACK (R532): A write to Tally.Ack acknowledges matching keys and retires those whose cause has cleared. -/
  | tallyAck (r : Req)
  /-- ETH_FRAME_RX (R552): An Ethernet frame is received, stamped and filtered by address, VLAN and IPv4. -/
  | ethFrameRx (x : EthFrame)
  /-- ETH_LINK_POLL (R550): Every 10 ms the PHY link register is read over MDIO and the link state updated. -/
  | ethLinkPoll (x : LinkPoll)
  /-- MDIO_READ (R551): An Eth.Mdio.Command with WRITE 0 runs one MDIO read transaction. -/
  | mdioRead (r : Req) (answer : Option Nat)
  /-- MDIO_WRITE (R551): An Eth.Mdio.Command with WRITE 1 runs one MDIO write transaction. -/
  | mdioWrite (r : Req) (answered : Bool)
  /-- ARP_RX (R557): An ARP request or reply is received, answered or learnt into the cache. -/
  | arpRx (x : ArpMsg)
  /-- ARP_RETRY (R557): 1 s passes after an unanswered ARP request and it is repeated or the held frame dropped. -/
  | arpRetry (ip : Word)
  /-- ICMP_ECHO (R558): An ICMP echo request is answered within the rate limit. -/
  | icmpEcho (ip : Word) (mac : BitVec 48) (msg : List Byte)
  /-- PTP_SYNC (R566): A gPTP Sync is received and gives one time update in slave state. -/
  | ptpSync (x : PtpMsg)
  /-- PTP_FOLLOW_UP (R564): A gPTP Follow_Up is received and completes a two-step Sync. -/
  | ptpFollowUp (x : PtpMsg)
  /-- PTP_ANNOUNCE (R566): A gPTP Announce is received and the grandmaster is noted. -/
  | ptpAnnounce (x : PtpMsg)
  /-- PTP_PDELAY_TIMER (R564): Every 2^PdelayInterval s a Pdelay_Req is sent. -/
  | ptpPdelayTimer (t1 : Nat)
  /-- PTP_PDELAY_REQ_RX (R564): A received Pdelay_Req is answered with Pdelay_Resp and Follow_Up. -/
  | ptpPdelayReqRx (x : PtpMsg)
  /-- PTP_PDELAY_RESP_RX (R566): A Pdelay_Resp is received and link delay and rate ratio are computed. -/
  | ptpPdelayRespRx (x : PtpMsg)
  /-- PTP_RECEIPT_TIMEOUT (R566): announceReceiptTimeout or syncReceiptTimeout expires and Ptp.State changes. -/
  | ptpReceiptTimeout (announce : Bool)
  /-- TIME_SOURCE_LOST (R562): The time source is lost, holdover begins and COM at L1 is raised. -/
  | timeSourceLost
  /-- TIME_SOURCE_WRITE (R560): A write to Net.Time.Source selects a new reference and restarts acquisition. -/
  | timeSourceWrite (r : Req)
  /-- CAN_FRAME_RX (R571): A CAN frame is received, stamped and placed in a high-priority buffer or the FIFO. -/
  | canFrameRx (cn : Nat) (x : CanFrame)
  /-- CAN_REF_MESSAGE (R578): A reference message is received as slave and gives a time update. -/
  | canRefMessage (cn : Nat) (x : CanFrame) (sof : Nat)
  /-- CAN_TX_ATTEMPT_DONE (R573): A CAN transmit attempt completes, loses arbitration or meets an error. -/
  | canTxAttemptDone (cn : Nat) (x : TxResult) (sof : Nat)
  /-- CAN_BUS_OFF (R575): The controller enters bus-off and COM at L1 is raised. -/
  | canBusOff (cn : Nat)
  /-- CAN_BUS_OFF_RECOVERY (R575): 128 occurrences of 11 recessive bits end bus-off and the controller integrates again. -/
  | canBusOffRecovery (cn : Nat)
  /-- CAN_DETECT_ACCEPT (R576): A rate candidate receives its frames without error and its rates are taken. -/
  | canDetectAccept (cn : Nat) (brs : Bool)
  /-- CAN_DETECT_DWELL (R576): A candidate errors or reaches Detect.Dwell and the next candidate is tried. -/
  | canDetectDwell (cn : Nat) (error : Bool)
  /-- CAN_DETECT_TIMEOUT (R576): Detect.Timeout passes with no candidate and the controller stays in LISTEN. -/
  | canDetectTimeout (cn : Nat)
  /-- CAN_REF_CYCLE (R577): At each multiple of Can.RefCycle the time master queues a reference message. -/
  | canRefCycle (cn : Nat)
  /-- THERMAL_SAMPLE (R584): A die or NTC sensor sample is taken, limits checked, trims set and the next interval chosen. -/
  | thermalSample (sensor : Nat) (x : AdcMeas)
  /-- SHUTDOWN_COMPARATOR (R587): A shutdown comparator stays tripped for its filter time and raises OT at L5. -/
  | shutdownComparator (sensor : Nat)
  /-- OUTRIDER_CYCLE (R592): A coverage cycle starts, starved tests of the previous cycle are reported and tests restart. -/
  | outriderCycle
  /-- OUTRIDER_TEST (R593): An Outrider test of one element runs on a free resource and passes or fails. -/
  | outriderTest (t : Nat) (elem : Nat) (pass : Bool) (mended : Nat) (blk : Nat)
  /-- SPI_FRAME (R601): An SPI frame ends at SPI_CS_N rising, its CRC is checked and its operation executes. -/
  | spiFrame (mosi : BitVec 64)
  /-- SPI_FRAME_DISCARD (R601): A low period of SPI_CS_N without 64 SCK cycles is discarded as a framing error. -/
  | spiFrameDiscard
  /-- REGISTER_WRITE (R603): A host-port write to a register without behaviour of its own stores its value. -/
  | registerWrite (addr : Nat) (data : Word)
  /-- MBOX_SUBMIT (R605): A write of a length to MBOX_CTRL submits the mailbox message to the Ledger. -/
  | mboxSubmit (data : Word)
  /-- MBOX_RESPONSE (R605): The response is placed in MBOX_RSP, BUSY clears and READY is set. -/
  | mboxResponse
  /-- NOTE_POP (R606): A write to NOTE_POP removes the oldest notification. -/
  | notePop (data : Word)
  /-- IRQ_PEND_CLEAR (R610): A write of 1 to IRQ_PEND bits clears those pending events. -/
  | irqPendClear (data : Word)
  /-- WINDOW_BIND (R607): A write to SEL binds or unbinds a window slot to an object. -/
  | windowBind (w : Nat) (data : Word)
  /-- WINDOW_VAL_WRITE (R609): A write to VAL stages or commits a value as a Ledger WRITE. -/
  | windowValWrite (w : Nat) (high : Bool) (data : Word)
  /-- WINDOW_REFRESH (R608): Every 10 µs a bound window slot refreshes its copy of the object. -/
  | windowRefresh (w : Nat)
  /-- LOW_WORD_READ (R612): A read of the low word of a 64-bit register latches its high word into the shadow. -/
  | lowWordRead (addr : Nat)
  /-- LANE_TICK (R150): In every lane tick each rod that is not stopped advances by its rate and correction, its residual shrinks and its rate takes the acceleration under the MaxRate clamp. -/
  | laneTick
  /-- FAULT_INPUT_RISE (R365): A gate-driver fault input FLTk_N returns high, which clears the cause of its SC fault and the ARM refusal of R375. -/
  | faultInputRise (k : Nat)
  /-- CLUTCH_REPORT (R479): Every 1 ms the Clutch sequencer forms its open, closed, moving or unknown report from Clutch.PosChannel. -/
  | clutchReport
  /-- CAN_BUS_INTEGRATION (R567): A CAN controller integrates to its bus after BOOT and the Ledger begins to serve on it. -/
  | canBusIntegration (cn : Nat)
  /-- CAN_RECEIVE_ERROR (R575): A CAN controller detects an error in a frame it receives, raises its receive error counter and may enter error passive with COM at L0. -/
  | canReceiveError (cn : Nat)
  /-- ETH_TX_DONE (R554): An Ethernet frame finishes on the wire and leaves its transmit queue, and the next frame by strict priority starts. -/
  | ethTxDone
  /-- SDC_CLOCK_RETURN (R254): The readback of a modulator clock ball has shown correct edges for Sd.StuckLimit clocks, so CLK clears on its demodulators and they resume output. -/
  | sdcClockReturn (k : Nat)
  /-- HVIL_CURRENT_RETURN (R445): Loop current returns through the closed HVIL switch and the cause of the COM fault of its loss clears. -/
  | hvilCurrentReturn
  /-- ARP_ENTRY_EXPIRY (R557): An ARP cache entry reaches 300 s after it was learnt and leaves the cache. -/
  | arpEntryExpiry (ip : Word)
deriving DecidableEq, Repr

end Sys2Proof
end

