-- ==== Sys2Proof/Config.lean ====
section
/-! DEFINITION. What one device fixes and the spec does not give a number for: opaque constants, so
that no proof can see a value (free values). Each is named in the assumption log. -/

namespace Sys2Proof

/-- The n-th free value a run meets (DESIGN CHOICE, log 4). The counter of State that it is applied to is `free`. -/
opaque Config.freeWord : Nat → BitVec 64

/-- AES-128 CMAC under a key, all 128 bits (FIPS 197, NIST SP 800-38B): the tag before truncation and the session key
of R114. The standard's arithmetic is not in the spec's text; nothing in the model depends on a value of it (DESIGN CHOICE, log 5). -/
opaque Config.cmacFull : BitVec 128 → List Byte → BitVec 128

/-- The frame tag: the CMAC truncated to its leftmost 64 bits (R98). -/
def Config.cmac (key : BitVec 128) (b : List Byte) : BitVec 64 := (Config.cmacFull key b).extractLsb' 64 64

/-- The identity word 0x1000.00, vendor-assigned (R96; DESIGN CHOICE, log 11). -/
opaque Config.identity : Word

/-- The factory-assigned MAC address (R559; DESIGN CHOICE, log 11). -/
opaque Config.factoryMac : BitVec 48

/-- The vendor version number of the firmware image in a bank (R86; DESIGN CHOICE, log 11). -/
opaque Config.fwVersion : Nat → Word

/-- The key injected at manufacture in a key slot, its identifier and its roles (R118; DESIGN CHOICE, log 11). -/
opaque Config.slotKey : Nat → BitVec 128

/-- Identifier of the factory key (R118; DESIGN CHOICE, log 11). -/
opaque Config.factoryKeyId : Word

/-- The sine that a rotation unit forms of an angle in turns; the machine takes it within the error of R315 of the exact one
(DESIGN CHOICE, log 6). -/
opaque Config.sinTurns : Rat → Rat

/-- The cosine that a rotation unit forms (DESIGN CHOICE, log 6). -/
opaque Config.cosTurns : Rat → Rat

/-- Gain and offset stored at manufacture of an on-die temperature sensor (R581; DESIGN CHOICE, log 11). -/
opaque Config.dieGain : Nat → Rat

/-- Its offset in °C (DESIGN CHOICE, log 11). -/
opaque Config.dieOffset : Nat → Rat

/-- The table of a trim stored at manufacture: its value in 0.001 % for a die temperature (R589; DESIGN CHOICE, log 11). -/
opaque Config.trimTable : Nat → Rat → Int

end Sys2Proof
end

