-- ==== Sys2Proof/Machine/Num.lean ====
section
/-! DEFINITION. Arithmetic the operations share: little-endian bytes, two's complement, rounding, binary32
and block-floating words, and the two CRCs. -/

namespace Sys2Proof.Machine

/-- The n bytes of a value, least significant first (R89). -/
def leBytes : Nat → Nat → List Byte
  | 0, _ => []
  | n + 1, x => BitVec.ofNat 8 x :: leBytes n (x / 256)

/-- The value of bytes, least significant first (R89). -/
def leNat : List Byte → Nat
  | [] => 0
  | b :: bs => b.toNat + 256 * leNat bs

/-- A value of w bits read as two's complement. -/
def toInt (w x : Nat) : Int := if x % 2 ^ w < 2 ^ (w - 1) then (x % 2 ^ w : Nat) else (x % 2 ^ w : Nat) - (2 ^ w : Nat)

/-- The w-bit two's complement pattern of an integer. -/
def ofInt (w : Nat) (x : Int) : Nat := (x % (2 ^ w : Nat)).toNat

/-- An integer held within bounds. -/
def iclamp (lo hi x : Int) : Int := if x < lo then lo else if hi < x then hi else x

/-- A field of a number: bits [hi:lo]. -/
def bits (x hi lo : Nat) : Nat := x / 2 ^ lo % 2 ^ (hi + 1 - lo)

/-- One bit of a number. -/
def bit (x n : Nat) : Bool := x / 2 ^ n % 2 == 1

/-- A Boolean as bit n. -/
def bitAt (b : Bool) (n : Nat) : Nat := if b then 2 ^ n else 0

/-- Division of integers rounded to nearest, halves away from zero. -/
def divRound (a : Int) (b : Nat) : Int :=
  if a < 0 then -(((-a) * 2 + b) / (2 * b : Nat)) else (a * 2 + b) / (2 * b : Nat)

/-- Division of integers truncated toward zero. -/
def divTrunc (a : Int) (b : Nat) : Int := Int.tdiv a b

/-- The larger of two rationals. -/
def rmax (a b : Rat) : Rat := if a < b then b else a

/-- The smaller of two rationals. -/
def rmin (a b : Rat) : Rat := if b < a then b else a

/-- Magnitude of a rational. -/
def rabs (a : Rat) : Rat := if a < 0 then -a else a

/-- A rational held within bounds. -/
def rclamp (lo hi x : Rat) : Rat := if x < lo then lo else if hi < x then hi else x

/-- A rational rounded to nearest, halves away from zero. -/
def rround (x : Rat) : Int := if x < 0 then -((-x + mkRat 1 2).floor) else (x + mkRat 1 2).floor

/-- A rational rounded to nearest, halves up (R169). -/
def rroundUp (x : Rat) : Int := (x + mkRat 1 2).floor

/-- A rational rounded to nearest, halves to even. -/
def rroundEven (x : Rat) : Int :=
  let f := x.floor
  let r := x - f
  if r < mkRat 1 2 then f else if mkRat 1 2 < r then f + 1 else if f % 2 = 0 then f else f + 1

/-- A rational truncated toward zero. -/
def rtrunc (x : Rat) : Int := if x < 0 then -((-x).floor) else x.floor

/-- A power of two with an integer exponent. -/
def pow2 (e : Int) : Rat := if e < 0 then mkRat 1 (2 ^ (-e).toNat) else mkRat (2 ^ e.toNat : Nat) 1

/-- The largest e with 2 ^ e at most a positive rational. -/
def rlog2 (a : Rat) : Int :=
  let k : Int := (Nat.log2 a.num.natAbs : Int) - (Nat.log2 a.den : Int)
  if a < pow2 k then k - 1 else k

/-- The exponent field of a binary32 word is all ones: a NaN or an infinity (R90). -/
def f32IsSpecial (w : Nat) : Bool := bits w 30 23 == 255

/-- The value of a finite binary32 word; a subnormal counts as zero (R90). -/
def f32Val (w : Nat) : Rat :=
  let e := bits w 30 23
  let m := bits w 22 0
  if e = 0 then 0
  else
    let a := (mkRat (2 ^ 23 + m : Nat) 1) * pow2 ((e : Int) - 150)
    if bit w 31 then -a else a

/-- The word stored for a binary32 word: a subnormal becomes zero of the same sign (R90). -/
def f32Flush (w : Nat) : Nat := if bits w 30 23 = 0 then (if bit w 31 then 2 ^ 31 else 0) else w

/-- A finite binary32 word from any word: a NaN or an infinity loses its exponent's highest bit (DESIGN CHOICE, log 4). -/
def f32Finite (w : Nat) : Nat :=
  let x := w % 2 ^ 32
  f32Flush (if f32IsSpecial x then x - 2 ^ 30 else x)

/-- A rational rounded to binary32, nearest and ties to even; too large saturates to the largest finite
value and too small becomes zero, so that no NaN, infinity or subnormal results (R90; DEDUCED, log 6). -/
def f32Of (x : Rat) : Nat :=
  if x = 0 then 0
  else
    let s := if x < 0 then 2 ^ 31 else 0
    let a := rabs x
    let e := rlog2 a
    if e < -126 then s
    else
      let m := (rroundEven (a * pow2 (23 - e))).toNat
      let e' := if m = 2 ^ 24 then e + 1 else e
      let m' := if m = 2 ^ 24 then 2 ^ 23 else m
      if 127 < e' then s + 0x7F7FFFFF
      else s + (e' + 127).toNat * 2 ^ 23 + (m' - 2 ^ 23)

/-- The value of a block-floating word, M × 2 ^ (E − 23) (R91). -/
def bf32Val (w : Nat) : Rat := (toInt 24 (w / 256) : Rat) * pow2 (toInt 8 w - 23)

/-- A rational square root to 64 significant bits, truncated (DEDUCED, log 6). -/
def rsqrt (x : Rat) : Rat :=
  if x ≤ 0 then 0
  else
    let j := 64 - rlog2 x / 2
    mkRat (Nat.sqrt ((x * pow2 (2 * j)).floor.toNat) : Nat) 1 * pow2 (-j)

/-- A rational rounded to binary64, nearest and ties to even; the range of binary64 holds every figure formed from binary32 and
32-bit values (R244, R257). -/
def r64 (x : Rat) : Rat := if x = 0 then 0 else let e := rlog2 (rabs x); (rroundEven (x * pow2 (52 - e)) : Rat) * pow2 (e - 52)

/-- √3 and π as rational constants used where a formula names them (DEDUCED, log 6). -/
def sqrt3 : Rat := mkRat 17320508075688772935 10000000000000000000

/-- π (DEDUCED, log 6). -/
def piR : Rat := mkRat 31415926535897932385 10000000000000000000

/-- sin(k π / 16) for k = 0 to 8 (DEDUCED, log 6). -/
def sinQuarter : List Rat :=
  [0, mkRat 19509032201612826785 (10 ^ 20), mkRat 38268343236508977173 (10 ^ 20), mkRat 55557023301960222474 (10 ^ 20),
   mkRat 70710678118654752440 (10 ^ 20), mkRat 83146961230254523708 (10 ^ 20), mkRat 92387953251128675613 (10 ^ 20),
   mkRat 98078528040323044913 (10 ^ 20), 1]

/-- The 32-point sine table of the excitation (R206). -/
def sin32 (n : Nat) : Rat :=
  let m := n % 32
  let q (k : Nat) : Rat := sinQuarter.getD k 0
  if m ≤ 8 then q m else if m ≤ 16 then q (16 - m) else if m ≤ 24 then -q (m - 16) else -q (32 - m)

/-- The exponential of a rational between 0 and 4 in binary64, from 40 terms of its series (DEDUCED, log 7). -/
def rexp (x : Rat) : Rat := (List.range 40).foldl (fun a i => r64 (1 + x * a / ((40 - i : Nat) : Rat))) 1

/-- An angle in turns reduced to half a turn either way, cut to 2^-64 turns. -/
def halfTurn (x : Rat) : Rat := let f := ((x - (rroundUp x : Rat)) * (2 ^ 64 : Nat)).floor; mkRat f (2 ^ 64)

/-- The sine of an angle in turns, from 20 terms of its series (DEDUCED, log 6). -/
def sinT (x : Rat) : Rat :=
  let y := 2 * piR * halfTurn x
  y * (List.range 20).foldl (fun a i => 1 - y * y * a / ((2 * (20 - i) * (2 * (20 - i) + 1) : Nat) : Rat)) 1

/-- The cosine of an angle in turns (DEDUCED, log 6). -/
def cosT (x : Rat) : Rat := sinT (x + mkRat 1 4)

/-- The arctangent of a rational in radians: two halvings of the angle, and 24 terms of the series (DEDUCED, log 6). -/
def atanR (t : Rat) : Rat :=
  let h (u : Rat) : Rat := u / (1 + rsqrt (1 + u * u))
  let u := h (h t)
  4 * u * (List.range 24).foldl (fun a i => mkRat 1 (2 * (23 - i) + 1) - u * u * a) 0

/-- The angle in turns of a vector from its sine and cosine parts, between minus a half and a half; 0 for none (DEDUCED, log 6). -/
def atan2T (y x : Rat) : Rat :=
  let a (t : Rat) : Rat := atanR t / (2 * piR)
  if x = 0 ∧ y = 0 then 0
  else if rabs y ≤ rabs x then a (y / x) + (if 0 < x then 0 else if y < 0 then mkRat (-1) 2 else mkRat 1 2)
  else (if y < 0 then mkRat (-1) 4 else mkRat 1 4) - a (x / y)

/-- A free value held within an error of 2^-20 of a sine or cosine (R315; DESIGN CHOICE, log 6). -/
def nearTrig (exact free : Rat) : Rat := rclamp (exact - mkRat 1 (2 ^ 20)) (exact + mkRat 1 (2 ^ 20)) free

/-- Angle in 2^-64 turns that a state of angle, rate per tick and acceleration per tick² reaches after some ticks. -/
def trackAhead (x : Nat × Int × Int) (ticks : Rat) : Nat :=
  (((x.1 : Rat) + (x.2.1 : Rat) * ticks + (x.2.2 : Rat) * ticks * ticks / 2).floor % (2 ^ 64 : Nat)).toNat

/-- One step of a third-order tracking loop with its three poles at −2π × hz, from the error in turns of the angle it reached: the
poles of the sampled loop are those of the rule after one step (R209, R218; DESIGN CHOICE, log 7). -/
def trackStep (hz : Nat) (ticks : Rat) (x : Nat × Int × Int) (err : Rat) : Nat × Int × Int :=
  let z := 1 / rexp (2 * piR * (hz : Rat) * ticks / 200000000)
  let k := 1 - z
  let e := err * (2 ^ 64 : Nat)
  ((((trackAhead x ticks : Rat) + (1 - z * z * z) * e).floor % (2 ^ 64 : Nat)).toNat,
    ((x.2.1 : Rat) + (x.2.2 : Rat) * ticks + mkRat 3 2 * k * k * (1 + z) * e / ticks).floor,
    ((x.2.2 : Rat) + k * k * k * e / (ticks * ticks)).floor)

/-- One bit step of the reflected CRC-32C (PRESUMED, log 12). -/
def crc32Bit (c : Nat) : Nat := if c % 2 = 1 then Nat.xor (c / 2) 0x82F63B78 else c / 2

/-- n bit steps. -/
def crc32Bits : Nat → Nat → Nat
  | 0, c => c
  | n + 1, c => crc32Bits n (crc32Bit c)

/-- The running CRC-32C over bytes. -/
def crc32Run : List Byte → Nat → Nat
  | [], c => c
  | b :: bs, c => crc32Run bs (crc32Bits 8 (Nat.xor c b.toNat))

/-- CRC-32C with initial value and final exclusive-or 0xFFFF_FFFF (R499). -/
def crc32c (bs : List Byte) : Nat := Nat.xor (crc32Run bs 0xFFFFFFFF) 0xFFFFFFFF

/-- n bit steps of the CRC-8 with polynomial 0x2F, most significant bit first (R600). -/
def crc8Bits : Nat → Nat → Nat
  | 0, c => c
  | n + 1, c => crc8Bits n (if 128 ≤ c then Nat.xor (c * 2 % 256) 0x2F else c * 2 % 256)

/-- The running CRC-8 over bytes. -/
def crc8Run : List Byte → Nat → Nat
  | [], c => c
  | b :: bs, c => crc8Run bs (crc8Bits 8 (Nat.xor c b.toNat))

/-- CRC-8 with initial value and final exclusive-or 0xFF (R600). -/
def crc8 (bs : List Byte) : Nat := Nat.xor (crc8Run bs 0xFF) 0xFF

end Sys2Proof.Machine
end

