-- ==== Sys2Proof/Machine/Dict.lean ====
section
/-! DEFINITION. The object dictionary: one row per object entry of the spec's object tables, with its
instances, type code, access code, default and range (R8 to R13, R88, R92). -/

namespace Sys2Proof.Machine

/-- The access codes of R9. -/
inductive Acc where
  | ro | rw | sh | tk | wo | const
deriving DecidableEq, Repr

/-- The Range column of an object: any value of the type; one of some intervals (lowest, highest, step);
or a binary32 value between two words. -/
inductive Rng where
  | all
  | ints (l : List (Int × Int × Nat))
  | flt (lo hi : Nat)
deriving DecidableEq, Repr

/-- One row of an object table: first index, index stride and number of instances, first subindex and
number of subindices, type code of R88, access, default value, range, and whether it is Ridge-backed. -/
structure Row where
  base : Nat
  stride : Nat
  count : Nat
  sub : Nat
  subs : Nat
  ty : Nat
  acc : Acc
  dflt : Nat
  rng : Rng
  ridge : Bool
deriving DecidableEq, Repr

/-- Objects of the domain device level (0x1000 to 0x1FFF), part 1. -/
def dictDev0 : List Row := [
  ⟨0x1000, 1, 1, 0, 1, 4, .const, 0, .all, false⟩,  -- Identity, R96
  ⟨0x1010, 1, 1, 0, 1, 3, .wo, 0, .all, false⟩,  -- Ledger.Shore, R96
  ⟨0x1011, 1, 1, 0, 1, 3, .wo, 0, .all, false⟩,  -- Ledger.Strike, R96
  ⟨0x1012, 1, 1, 0, 1, 3, .wo, 0, .all, false⟩,  -- Ledger.Abandon, R96
  ⟨0x1013, 1, 1, 0, 1, 3, .wo, 0, .all, false⟩,  -- Ledger.Store, R96
  ⟨0x1014, 1, 1, 0, 1, 3, .wo, 0, .all, false⟩,  -- Ledger.Restore, R96
  ⟨0x1020, 1, 1, 0, 1, 5, .ro, 0, .all, false⟩,  -- Time.Device, R96
  ⟨0x1030, 1, 1, 1, 1, 3, .rw, 47310, .ints [(1024, 65535, 1)], false⟩,  -- Ledger.UdpPort, R96
  ⟨0x1030, 1, 1, 2, 1, 3, .rw, 448, .ints [(0, 2023, 1)], false⟩,  -- Ledger.CanBaseId, R96
  ⟨0x1030, 1, 1, 3, 1, 2, .rw, 2, .ints [(0, 0, 1), (1, 1, 1), (2, 2, 1)], false⟩,  -- Ledger.CanController, R96
  ⟨0x1030, 1, 1, 4, 1, 4, .rw, 2000, .ints [(100, 60000, 1)], false⟩,  -- Ledger.SessionTimeout, R96
  ⟨0x1100, 1, 8, 1, 1, 2, .ro, 0, .all, false⟩,  -- Session.State, R121
  ⟨0x1100, 1, 8, 2, 1, 2, .ro, 0, .all, false⟩,  -- Session.Transport, R121
  ⟨0x1100, 1, 8, 3, 1, 2, .ro, 0, .all, false⟩,  -- Session.KeySlot, R121
  ⟨0x1100, 1, 8, 4, 1, 5, .ro, 0, .all, false⟩,  -- Session.Peer, R121
  ⟨0x1100, 1, 8, 5, 1, 4, .ro, 0, .all, false⟩,  -- Session.RxFresh, R121
  ⟨0x1100, 1, 8, 6, 1, 4, .ro, 0, .all, false⟩,  -- Session.TxFresh, R121
  ⟨0x1100, 1, 8, 7, 1, 4, .ro, 0, .all, false⟩,  -- Session.Rejected, R121
  ⟨0x1100, 1, 8, 8, 1, 5, .ro, 0, .all, false⟩,  -- Session.Opened, R121
  ⟨0x1108, 1, 1, 1, 1, 4, .ro, 0, .all, false⟩,  -- Ledger.RefusedNoSlot, R121
  ⟨0x1108, 1, 1, 2, 1, 4, .ro, 0, .all, false⟩,  -- Ledger.RefusedAuth, R121
  ⟨0x1200, 1, 16, 1, 1, 2, .ro, 0, .all, false⟩,  -- KeySlot.Roles, R121
  ⟨0x1200, 1, 16, 2, 1, 4, .ro, 0, .all, false⟩,  -- KeySlot.KeyId, R121
  ⟨0x1200, 1, 16, 3, 1, 2, .ro, 0, .all, false⟩,  -- KeySlot.State, R121
  ⟨0x1400, 1, 32, 1, 1, 1, .rw, 0, .all, false⟩,  -- Manifest.Enable, R122
  ⟨0x1400, 1, 32, 2, 1, 2, .rw, 0, .ints [(0, 0, 1), (1, 1, 1)], false⟩,  -- Manifest.Direction, R122
  ⟨0x1400, 1, 32, 3, 1, 2, .rw, 0, .ints [(0, 0, 1), (1, 1, 1), (2, 2, 1)], false⟩,  -- Manifest.Transport, R122
  ⟨0x1400, 1, 32, 4, 1, 2, .rw, 0, .ints [(0, 7, 1)], false⟩,  -- Manifest.Session, R122
  ⟨0x1400, 1, 32, 5, 1, 4, .rw, 1000, .ints [(100, 1000000, 10)], false⟩,  -- Manifest.Cycle, R122
  ⟨0x1400, 1, 32, 6, 1, 4, .rw, 0, .ints [(0, 4294967290, 10)], false⟩,  -- Manifest.Phase, R122
  ⟨0x1400, 1, 32, 7, 1, 5, .rw, 0, .all, false⟩,  -- Manifest.Address, R122
  ⟨0x1400, 1, 32, 8, 1, 2, .rw, 3, .ints [(1, 255, 1)], false⟩,  -- Manifest.MissLimit, R122
  ⟨0x1400, 1, 32, 9, 1, 2, .rw, 3, .ints [(1, 4, 1)], false⟩,  -- Manifest.MissLevel, R122
  ⟨0x1500, 1, 32, 1, 1, 4, .ro, 0, .all, false⟩,  -- Manifest.Frames, R122
  ⟨0x1500, 1, 32, 2, 1, 4, .ro, 0, .all, false⟩,  -- Manifest.Misses, R122
  ⟨0x1500, 1, 32, 3, 1, 2, .ro, 0, .all, false⟩,  -- Manifest.Consecutive, R122
  ⟨0x1500, 1, 32, 4, 1, 4, .ro, 0, .all, false⟩,  -- Manifest.Overruns, R122
  ⟨0x1600, 1, 32, 0, 1, 2, .rw, 0, .ints [(0, 128, 1)], false⟩,  -- Manifest.Count, R122
  ⟨0x1600, 1, 32, 1, 128, 4, .rw, 0, .all, false⟩,  -- Manifest.Entry, R122
  ⟨0x1015, 1, 1, 0, 1, 12, .ro, 0, .all, false⟩  -- Ledger.ShoredBlocks, R147
  ]

/-- Objects of the domain device level (0x1000 to 0x1FFF), part 2. -/
def dictDev1 : List Row := [
  ⟨0x1016, 1, 1, 0, 1, 4, .ro, 0, .all, false⟩,  -- Ledger.StrikeResult, R147
  ⟨0x1017, 1, 1, 0, 1, 4, .ro, 0, .all, false⟩,  -- Ledger.StrikeDuration, R147
  ⟨0x1018, 1, 1, 0, 1, 5, .ro, 0, .all, false⟩  -- Ledger.StrikeRelease, R147
  ]

/-- Objects of the domain device level (0x1000 to 0x1FFF). -/
def dictDev : List Row := dictDev0 ++ dictDev1

/-- Objects of the domain System, part 1. -/
def dictSys0 : List Row := [
  ⟨0x2010, 1, 1, 0, 1, 4, .ro, 0, .all, false⟩,  -- System.Load.Truss, R37
  ⟨0x2011, 1, 1, 0, 1, 4, .ro, 0, .all, false⟩,  -- System.Load.Ridge, R37
  ⟨0x2012, 1, 1, 0, 1, 2, .ro, 0, .all, false⟩,  -- System.Load.Failed, R37
  ⟨0x2000, 1, 1, 0, 1, 2, .ro, 2, .all, false⟩,  -- System.State, R49
  ⟨0x2001, 1, 1, 0, 1, 2, .wo, 0, .ints [(4, 4, 1), (5, 5, 1)], false⟩,  -- System.StateRequest, R49
  ⟨0x2020, 1, 1, 1, 1, 2, .ro, 1, .all, false⟩,  -- System.Boot.Cause, R86
  ⟨0x2020, 1, 1, 2, 1, 2, .ro, 0, .all, false⟩,  -- System.Boot.Bank, R86
  ⟨0x2020, 1, 1, 3, 1, 4, .ro, 0, .all, false⟩,  -- System.Boot.FwVersion, R86
  ⟨0x2020, 1, 1, 4, 1, 2, .ro, 0, .all, false⟩,  -- System.Boot.PowerUpFailures, R86
  ⟨0x2020, 1, 1, 5, 1, 4, .ro, 0, .all, false⟩,  -- System.Boot.Check, R86
  ⟨0x2020, 1, 1, 6, 1, 4, .ro, 0, .all, false⟩,  -- System.Boot.Duration, R86
  ⟨0x2020, 1, 1, 7, 1, 2, .ro, 1, .all, false⟩,  -- System.Boot.Clock32, R86
  ⟨0x2020, 1, 1, 8, 1, 2, .ro, 0, .all, false⟩,  -- System.Boot.Reference, R86
  ⟨0x2100, 1, 1, 1, 1, 3, .sh, 65535, .all, false⟩,  -- System.Link.Channel, R389
  ⟨0x2100, 1, 1, 2, 1, 9, .tk, 0x445C0000, .flt 0x42C80000 0x447A0000, false⟩,  -- System.Link.Ov1, R389
  ⟨0x2100, 1, 1, 3, 1, 9, .tk, 0x44660000, .flt 0x42C80000 0x447A0000, false⟩,  -- System.Link.Ov2, R389
  ⟨0x2100, 1, 1, 4, 1, 9, .tk, 0x41A00000, .flt 0x3F800000 0x42C80000, false⟩,  -- System.Link.Hyst, R389
  ⟨0x2100, 1, 1, 5, 1, 3, .sh, 50, .ints [(10, 1000, 1)], false⟩,  -- System.Link.Timeout, R389
  ⟨0x2100, 1, 1, 6, 1, 3, .sh, 65535, .all, false⟩,  -- System.Link.DumpChannel, R389
  ⟨0x2100, 1, 1, 7, 1, 9, .sh, 0x40A00000, .flt 0x3DCCCCCD 0x43FA0000, false⟩,  -- System.Link.DumpMin, R389
  ⟨0x2100, 1, 1, 8, 1, 3, .sh, 1000, .ints [(10, 10000, 1)], false⟩,  -- System.Link.DumpMaxOn, R389
  ⟨0x2100, 1, 1, 9, 1, 3, .sh, 2000, .ints [(500, 10000, 1)], false⟩,  -- System.Link.TestPulse, R389
  ⟨0x2100, 1, 1, 10, 1, 9, .sh, 0x42C80000, .flt 0x42480000 0x43FA0000, false⟩,  -- System.Link.TestMinVolts, R389
  ⟨0x2101, 1, 1, 0, 1, 3, .ro, 0, .all, false⟩,  -- System.Link.Status, R389
  ⟨0x2102, 1, 1, 0, 1, 9, .ro, 0, .all, false⟩,  -- System.Link.Voltage, R389
  ⟨0x2103, 1, 1, 1, 1, 4, .ro, 0, .all, false⟩,  -- System.Link.DumpCommands, R389
  ⟨0x2103, 1, 1, 2, 1, 4, .ro, 0, .all, false⟩,  -- System.Link.OvReactions, R389
  ⟨0x2104, 1, 1, 1, 24, 4, .ro, 0, .all, false⟩,  -- System.Link.FltEvents, R389
  ⟨0x2105, 1, 1, 1, 29, 3, .ro, 0, .all, false⟩,  -- System.Link.Seal, R389
  ⟨0x2200, 1, 1, 1, 1, 2, .wo, 0, .ints [(1, 1, 1)], false⟩,  -- System.Camp.Enter, R451
  ⟨0x2200, 1, 1, 2, 1, 9, .rw, 0x42700000, .flt 0x41A00000 0x42F00000, false⟩,  -- System.Camp.LinkLevel, R451
  ⟨0x2200, 1, 1, 3, 1, 3, .rw, 5000, .ints [(500, 30000, 1)], false⟩,  -- System.Camp.LinkTimeout, R451
  ⟨0x2200, 1, 1, 4, 1, 2, .rw, 0, .ints [(0, 3, 1)], false⟩,  -- System.Camp.CanWake, R451
  ⟨0x2200, 1, 1, 5, 1, 3, .rw, 100, .ints [(61, 10000, 1)], false⟩,  -- System.Camp.CanWakeTime, R451
  ⟨0x2200, 1, 1, 6, 1, 4, .rw, 0, .ints [(0, 0, 1), (60, 2592000, 1)], false⟩,  -- System.Camp.TimerWake, R451
  ⟨0x2200, 1, 1, 7, 1, 2, .ro, 0, .all, false⟩,  -- System.Camp.Result, R451
  ⟨0x2200, 1, 1, 8, 1, 2, .ro, 0, .all, false⟩,  -- System.Camp.WakeCause, R451
  ⟨0x2200, 1, 1, 9, 1, 2, .ro, 0, .all, false⟩,  -- System.Camp.WakeSources, R451
  ⟨0x2200, 1, 1, 10, 1, 5, .ro, 0, .all, false⟩,  -- System.Camp.Entered, R451
  ⟨0x2200, 1, 1, 11, 1, 5, .ro, 0, .all, false⟩  -- System.Camp.Duration, R451
  ]

/-- Objects of the domain System, part 2. -/
def dictSys1 : List Row := [
  ⟨0x2200, 1, 1, 12, 1, 2, .ro, 0, .all, false⟩,  -- System.Camp.Holdover, R451
  ⟨0x2200, 1, 1, 13, 1, 9, .ro, 0, .all, false⟩,  -- System.Camp.RcPeriod, R451
  ⟨0x2201, 1, 1, 1, 1, 1, .rw, 1, .all, false⟩,  -- System.Hvil.Close, R451
  ⟨0x2201, 1, 1, 2, 1, 2, .ro, 0, .all, false⟩  -- System.Hvil.Status, R451
  ]

/-- Objects of the domain System. -/
def dictSys : List Row := dictSys0 ++ dictSys1

/-- Objects of the domain Rods and lanes, part 1. -/
def dictRod0 : List Row := [
  ⟨0x2800, 0x10, 8, 1, 1, 4, .ro, 0, .all, true⟩,  -- Rod.Position, R164
  ⟨0x2800, 0x10, 8, 2, 1, 7, .ro, 0, .all, true⟩,  -- Rod.Rate, R164
  ⟨0x2800, 0x10, 8, 3, 1, 7, .ro, 0, .all, false⟩,  -- Rod.Accel, R164
  ⟨0x2800, 0x10, 8, 4, 1, 7, .ro, 0, .all, false⟩,  -- Rod.Residual, R164
  ⟨0x2800, 0x10, 8, 5, 1, 4, .ro, 0, .all, false⟩,  -- Rod.Jumps, R164
  ⟨0x2800, 0x10, 8, 6, 1, 4, .ro, 0, .all, false⟩,  -- Rod.Clamps, R164
  ⟨0x2801, 0x10, 8, 1, 1, 2, .ro, 0, .all, false⟩,  -- Rod.Source, R164
  ⟨0x2811, 1, 1, 2, 1, 4, .sh, 0x14F8B6, .ints [(0, 2147483647, 1)], false⟩,  -- Rod.MaxRate, R164
  ⟨0x2821, 1, 1, 2, 1, 4, .sh, 0x14F8B6, .ints [(0, 2147483647, 1)], false⟩,  -- Rod.MaxRate, R164
  ⟨0x2831, 1, 1, 2, 1, 4, .sh, 22334, .ints [(0, 2147483647, 1)], false⟩,  -- Rod.MaxRate, R164
  ⟨0x2841, 1, 1, 2, 1, 4, .sh, 0x147AE148, .ints [(0, 2147483647, 1)], false⟩,  -- Rod.MaxRate, R164
  ⟨0x2851, 1, 1, 2, 1, 4, .sh, 0xA3D70A4, .ints [(0, 2147483647, 1)], false⟩,  -- Rod.MaxRate, R164
  ⟨0x2861, 1, 1, 2, 1, 4, .sh, 0x53E2D, .ints [(0, 2147483647, 1)], false⟩,  -- Rod.MaxRate, R164
  ⟨0x2871, 1, 1, 2, 1, 4, .sh, 0, .ints [(0, 2147483647, 1)], false⟩,  -- Rod.MaxRate, R164
  ⟨0x2811, 0x10, 7, 3, 1, 2, .sh, 32, .ints [(1, 128, 1)], false⟩,  -- Rod.SlewLimit, R164
  ⟨0x2811, 0x10, 7, 4, 1, 3, .sh, 16, .ints [(1, 4096, 1)], false⟩,  -- Rod.SlewFloor, R164
  ⟨0x2811, 0x10, 7, 5, 1, 4, .sh, 0x10000000, .ints [(1048576, 2147483648, 1)], false⟩,  -- Rod.JumpLimit, R164
  ⟨0x2811, 0x10, 7, 6, 1, 1, .sh, 1, .all, false⟩,  -- Rod.AccelEnable, R164
  ⟨0x2811, 0x10, 7, 7, 1, 4, .sh, 200, .ints [(1, 10000, 1)], false⟩,  -- Rod.Timeout, R164
  ⟨0x2802, 0x10, 8, 1, 1, 2, .rw, 0, .ints [(0, 0, 1), (1, 1, 1), (2, 2, 1)], false⟩,  -- Carrier.Mode, R164
  ⟨0x2802, 0x10, 8, 2, 1, 3, .rw, 1, .ints [(1, 4096, 1)], false⟩,  -- Carrier.Ratio, R164
  ⟨0x2802, 0x10, 8, 3, 1, 4, .rw, 0, .all, false⟩,  -- Carrier.Rate, R164
  ⟨0x2812, 0x10, 7, 4, 1, 4, .sh, 0, .all, false⟩,  -- Carrier.MaxRate, R164
  ⟨0x2802, 0x10, 8, 5, 1, 4, .ro, 0, .all, true⟩,  -- Carrier.Position, R164
  ⟨0x2900, 1, 1, 1, 128, 3, .ro, 0, .all, false⟩,  -- Lane.Seal, R192
  ⟨0x2901, 1, 1, 1, 128, 3, .ro, 0, .all, false⟩,  -- Lane.Owner, R192
  ⟨0x2902, 1, 1, 1, 4, 4, .ro, 0, .all, false⟩,  -- Lane.Level, R192
  ⟨0x2903, 1, 1, 1, 1, 3, .rw, 50, .ints [(10, 2000, 1)], false⟩,  -- Lane.ReadbackDelay, R192
  ⟨0x2903, 1, 1, 2, 1, 4, .ro, 0, .all, false⟩,  -- Lane.ReadbackFaults, R192
  ⟨0x2904, 1, 1, 1, 8, 4, .ro, 0, .all, false⟩,  -- Lane.Overlaps, R192
  ⟨0x2905, 1, 1, 1, 8, 4, .ro, 0, .all, false⟩,  -- Lane.Runts, R192
  ⟨0x2906, 1, 1, 1, 8, 4, .ro, 0, .all, false⟩,  -- Lane.StalePeriods, R192
  ⟨0x2907, 1, 1, 1, 16, 3, .ro, 0, .all, false⟩,  -- Marks.Used, R192
  ⟨0x2907, 1, 1, 17, 1, 3, .ro, 1024, .all, false⟩,  -- Marks.Free, R192
  ⟨0x2A00, 1, 16, 1, 1, 2, .sh, 0, .all, false⟩,  -- Capture.Input, R196
  ⟨0x2A00, 1, 16, 2, 1, 2, .sh, 1, .ints [(1, 1, 1), (2, 2, 1), (3, 3, 1)], false⟩,  -- Capture.Edge, R196
  ⟨0x2A00, 1, 16, 3, 1, 2, .sh, 0, .ints [(0, 255, 1)], false⟩,  -- Capture.Filter, R196
  ⟨0x2A00, 1, 16, 4, 1, 2, .sh, 0, .ints [(0, 15, 1)], false⟩,  -- Capture.Source, R196
  ⟨0x2A00, 1, 16, 5, 1, 1, .rw, 0, .all, false⟩,  -- Capture.Enable, R196
  ⟨0x2A00, 1, 16, 6, 1, 2, .ro, 0, .all, false⟩  -- Capture.Count, R196
  ]

/-- Objects of the domain Rods and lanes, part 2. -/
def dictRod1 : List Row := [
  ⟨0x2A00, 1, 16, 7, 1, 4, .ro, 0, .all, false⟩,  -- Capture.Overflows, R196
  ⟨0x2A00, 1, 16, 8, 1, 12, .ro, 0, .all, false⟩,  -- Capture.Next, R196
  ⟨0x2B00, 1, 1, 1, 16, 2, .sh, 255, .ints [(0, 127, 1), (255, 255, 1)], false⟩,  -- Integ.Lane, R197
  ⟨0x2B01, 1, 1, 1, 16, 4, .sh, 16, .all, false⟩,  -- Integ.LaneConfig, R197
  ⟨0x2B02, 1, 1, 1, 16, 4, .sh, 0, .all, false⟩,  -- Integ.LaneTiming, R197
  ⟨0x2B03, 1, 1, 1, 64, 4, .rw, 0, .all, false⟩,  -- Integ.MarkPos, R197
  ⟨0x2B04, 1, 1, 1, 64, 4, .sh, 0, .all, false⟩,  -- Integ.MarkCtl, R197
  ⟨0x2B05, 1, 1, 0, 1, 7, .rw, 0, .all, false⟩  -- Integ.Rod7Rate, R197
  ]

/-- Objects of the domain Rods and lanes. -/
def dictRod : List Row := dictRod0 ++ dictRod1

/-- Objects of the domain Position, part 1. -/
def dictPos0 : List Row := [
  ⟨0x3000, 0x40, 2, 1, 1, 1, .sh, 0, .all, false⟩,  -- Resolver.Enable, R213
  ⟨0x3000, 0x40, 2, 2, 1, 3, .sh, 10000, .ints [(5000, 20000, 1)], false⟩,  -- Resolver.ExcFreq, R213
  ⟨0x3000, 0x40, 2, 3, 1, 3, .sh, 1000, .ints [(100, 1400, 1)], false⟩,  -- Resolver.ExcAmplitude, R213
  ⟨0x3000, 0x40, 2, 4, 1, 3, .sh, 0, .ints [(0, 50000, 25)], false⟩,  -- Resolver.SampleDelay, R213
  ⟨0x3000, 0x40, 2, 5, 1, 3, .sh, 16000, .ints [(1000, 30000, 1)], false⟩,  -- Resolver.NominalAmp, R213
  ⟨0x3000, 0x40, 2, 6, 1, 2, .sh, 50, .ints [(10, 90, 1)], false⟩,  -- Resolver.LowLimit, R213
  ⟨0x3000, 0x40, 2, 7, 1, 2, .sh, 130, .ints [(110, 200, 1)], false⟩,  -- Resolver.HighLimit, R213
  ⟨0x3000, 0x40, 2, 8, 1, 2, .sh, 30, .ints [(5, 90, 1)], false⟩,  -- Resolver.PhaseLimit, R213
  ⟨0x3000, 0x40, 2, 9, 1, 2, .sh, 1, .ints [(1, 8, 1)], false⟩,  -- Resolver.Ratio, R213
  ⟨0x3000, 0x40, 2, 10, 1, 1, .sh, 0, .all, false⟩,  -- Resolver.Invert, R213
  ⟨0x3000, 0x40, 2, 11, 1, 3, .sh, 1000, .ints [(200, 4000, 1)], false⟩,  -- Resolver.Bandwidth, R213
  ⟨0x3000, 0x40, 2, 12, 1, 4, .sh, 0x71C71C7, .ints [(11930465, 536870912, 1)], false⟩,  -- Resolver.TrackLimit, R213
  ⟨0x3000, 0x40, 2, 13, 1, 2, .sh, 2, .ints [(1, 16, 1)], false⟩,  -- Resolver.FaultCount, R213
  ⟨0x3000, 0x40, 2, 14, 1, 3, .sh, 10, .ints [(1, 10000, 1)], false⟩,  -- Resolver.MotionThreshold, R213
  ⟨0x3000, 0x40, 2, 16, 1, 4, .tk, 0, .all, false⟩,  -- Resolver.Offset, R213
  ⟨0x3001, 0x40, 2, 1, 1, 3, .ro, 1536, .all, false⟩,  -- Resolver.Status, R213
  ⟨0x3001, 0x40, 2, 2, 1, 3, .ro, 0, .all, false⟩,  -- Resolver.Amplitude, R213
  ⟨0x3001, 0x40, 2, 3, 1, 6, .ro, 0, .all, false⟩,  -- Resolver.PhaseError, R213
  ⟨0x3001, 0x40, 2, 4, 1, 4, .ro, 0, .all, false⟩,  -- Resolver.Angle, R213
  ⟨0x3001, 0x40, 2, 5, 1, 4, .ro, 0, .all, false⟩,  -- Resolver.Faults, R213
  ⟨0x3100, 0x40, 2, 1, 1, 1, .sh, 0, .all, false⟩,  -- Encoder.Enable, R215
  ⟨0x3100, 0x40, 2, 2, 1, 3, .sh, 1024, .ints [(16, 65535, 1)], false⟩,  -- Encoder.Lines, R215
  ⟨0x3100, 0x40, 2, 3, 1, 2, .sh, 1, .ints [(1, 16, 1)], false⟩,  -- Encoder.PolePairs, R215
  ⟨0x3100, 0x40, 2, 4, 1, 1, .sh, 0, .all, false⟩,  -- Encoder.Invert, R215
  ⟨0x3100, 0x40, 2, 5, 1, 2, .sh, 2, .ints [(1, 8, 1)], false⟩,  -- Encoder.Filter, R215
  ⟨0x3100, 0x40, 2, 6, 1, 2, .sh, 0, .ints [(0, 0, 1), (1, 1, 1)], false⟩,  -- Encoder.ZMode, R215
  ⟨0x3100, 0x40, 2, 7, 1, 2, .sh, 4, .ints [(1, 64, 1)], false⟩,  -- Encoder.IndexTolerance, R215
  ⟨0x3100, 0x40, 2, 8, 1, 3, .sh, 50, .ints [(10, 1000, 1)], false⟩,  -- Encoder.UpdatePeriod, R215
  ⟨0x3100, 0x40, 2, 9, 1, 3, .sh, 20, .ints [(1, 1000, 1)], false⟩,  -- Encoder.StallTime, R215
  ⟨0x3100, 0x40, 2, 10, 1, 3, .sh, 10, .ints [(1, 10000, 1)], false⟩,  -- Encoder.MotionThreshold, R215
  ⟨0x3100, 0x40, 2, 16, 1, 4, .tk, 0, .all, false⟩,  -- Encoder.Offset, R215
  ⟨0x3101, 0x40, 2, 1, 1, 3, .ro, 1536, .all, false⟩,  -- Encoder.Status, R215
  ⟨0x3101, 0x40, 2, 2, 1, 4, .ro, 0, .all, false⟩,  -- Encoder.Count, R215
  ⟨0x3101, 0x40, 2, 3, 1, 4, .ro, 0, .all, false⟩,  -- Encoder.Faults, R215
  ⟨0x3200, 0x20, 3, 1, 1, 1, .sh, 0, .all, false⟩,  -- Hall.Enable, R217
  ⟨0x3200, 0x20, 3, 2, 1, 3, .sh, 2000, .ints [(100, 50000, 1)], false⟩,  -- Hall.Filter, R217
  ⟨0x3200, 0x20, 3, 3, 1, 1, .sh, 0, .all, false⟩,  -- Hall.Invert, R217
  ⟨0x3200, 0x20, 3, 4, 1, 2, .sh, 6, .ints [(1, 12, 1)], false⟩,  -- Hall.Average, R217
  ⟨0x3200, 0x20, 3, 5, 1, 3, .sh, 50, .ints [(5, 1000, 1)], false⟩,  -- Hall.StallTime, R217
  ⟨0x3200, 0x20, 3, 6, 1, 4, .sh, 0, .all, false⟩  -- Hall.Offset, R217
  ]

/-- Objects of the domain Position, part 2. -/
def dictPos1 : List Row := [
  ⟨0x3201, 0x20, 3, 1, 1, 3, .ro, 1536, .all, false⟩,  -- Hall.Status, R217
  ⟨0x3201, 0x20, 3, 2, 1, 2, .ro, 255, .all, false⟩,  -- Hall.Sector, R217
  ⟨0x3201, 0x20, 3, 3, 1, 4, .ro, 0, .all, false⟩,  -- Hall.Faults, R217
  ⟨0x3300, 1, 1, 1, 1, 1, .sh, 0, .all, false⟩,  -- Grid.Enable, R218
  ⟨0x3300, 1, 1, 2, 1, 2, .sh, 3, .ints [(1, 1, 1), (3, 3, 1)], false⟩,  -- Grid.Phases, R218
  ⟨0x3300, 1, 1, 3, 3, 3, .sh, 65535, .all, false⟩,  -- Grid.Channel, R218
  ⟨0x3300, 1, 1, 6, 1, 3, .sh, 20, .ints [(5, 100, 1)], false⟩,  -- Grid.Bandwidth, R218
  ⟨0x3300, 1, 1, 7, 1, 3, .sh, 100, .ints [(20, 1000, 10)], false⟩,  -- Grid.UpdatePeriod, R218
  ⟨0x3300, 1, 1, 8, 1, 3, .sh, 60, .ints [(20, 200, 1)], false⟩,  -- Grid.LossLevel, R218
  ⟨0x3300, 1, 1, 9, 1, 2, .ro, 0, .all, false⟩,  -- Grid.Mode, R218
  ⟨0x3301, 1, 1, 1, 1, 3, .ro, 1536, .all, false⟩,  -- Grid.Status, R218
  ⟨0x3301, 1, 1, 2, 1, 9, .ro, 0, .all, false⟩,  -- Grid.Frequency, R218
  ⟨0x3301, 1, 1, 3, 1, 9, .ro, 0, .all, false⟩,  -- Grid.Amplitude, R218
  ⟨0x3301, 1, 1, 4, 1, 9, .ro, 0, .all, false⟩,  -- Grid.Unbalance, R218
  ⟨0x3301, 1, 1, 5, 1, 4, .ro, 0, .all, false⟩  -- Grid.Faults, R218
  ]

/-- Objects of the domain Position. -/
def dictPos : List Row := dictPos0 ++ dictPos1

/-- Objects of the domain Acquisition, part 1. -/
def dictAcq0 : List Row := [
  ⟨0x3420, 0x10, 32, 1, 1, 2, .sh, 0, .ints [(0, 15, 1)], false⟩,  -- Seq.Converter, R237
  ⟨0x3420, 0x10, 32, 2, 1, 2, .sh, 255, .ints [(0, 75, 1), (255, 255, 1)], false⟩,  -- Seq.Trigger, R237
  ⟨0x3420, 0x10, 32, 3, 1, 2, .sh, 1, .ints [(1, 16, 1)], false⟩,  -- Seq.Steps, R237
  ⟨0x3420, 0x10, 32, 4, 1, 2, .sh, 0, .ints [(0, 0, 1), (1, 1, 1), (2, 2, 1)], false⟩,  -- Seq.Mode, R237
  ⟨0x3420, 0x10, 32, 5, 1, 3, .sh, 1000, .ints [(0, 50000, 1)], false⟩,  -- Seq.MaxWait, R237
  ⟨0x3420, 0x10, 32, 6, 1, 4, .sh, 0, .ints [(0, 8000000, 1)], false⟩,  -- Seq.LineRate, R237
  ⟨0x3421, 0x10, 32, 1, 16, 2, .sh, 16, .ints [(0, 31, 1)], false⟩,  -- Step.Input, R237
  ⟨0x3422, 0x10, 32, 1, 16, 1, .sh, 0, .all, false⟩,  -- Step.RawOut, R237
  ⟨0x3423, 0x10, 32, 1, 16, 2, .sh, 0, .ints [(0, 4, 1)], false⟩,  -- Chan.Scaling, R237
  ⟨0x3424, 0x10, 32, 1, 16, 9, .sh, 0x3F800000, .all, false⟩,  -- Chan.NomGain, R237
  ⟨0x3425, 0x10, 32, 1, 16, 9, .sh, 0, .all, false⟩,  -- Chan.NomOffset, R237
  ⟨0x3426, 0x10, 32, 1, 16, 9, .rw, 0xFF61B1E6, .all, false⟩,  -- Chan.Min, R237
  ⟨0x3427, 0x10, 32, 1, 16, 9, .rw, 0x7F61B1E6, .all, false⟩,  -- Chan.Max, R237
  ⟨0x3428, 0x10, 32, 1, 16, 9, .ro, 0, .all, false⟩,  -- Chan.CalGain, R237
  ⟨0x3429, 0x10, 32, 1, 16, 9, .ro, 0, .all, false⟩,  -- Chan.CalOffset, R237
  ⟨0x342A, 0x10, 32, 1, 16, 2, .wo, 0, .ints [(1, 5, 1)], false⟩,  -- Chan.CalCommand, R237
  ⟨0x342B, 0x10, 32, 1, 16, 9, .rw, 0, .all, false⟩,  -- Chan.CalLow, R237
  ⟨0x342C, 0x10, 32, 1, 16, 9, .rw, 0, .all, false⟩,  -- Chan.CalHigh, R237
  ⟨0x342D, 0x10, 32, 1, 16, 9, .ro, 0, .all, true⟩,  -- Chan.Value, R237
  ⟨0x342E, 0x10, 32, 1, 16, 4, .ro, 0, .all, false⟩,  -- Sample.Value, R237
  ⟨0x342F, 0x10, 32, 1, 1, 4, .ro, 0, .all, false⟩,  -- Seq.Overruns, R237
  ⟨0x342F, 0x10, 32, 2, 1, 4, .ro, 0, .all, false⟩,  -- Seq.WaitDrops, R237
  ⟨0x342F, 0x10, 32, 3, 1, 4, .ro, 0, .all, false⟩,  -- Seq.MaxDelay, R237
  ⟨0x342F, 0x10, 32, 4, 1, 4, .ro, 0, .all, false⟩,  -- Seq.DuplexFaults, R237
  ⟨0x342F, 0x10, 32, 5, 1, 2, .ro, 0, .all, false⟩,  -- Cal.State, R237
  ⟨0x342F, 0x10, 32, 6, 1, 2, .ro, 255, .all, false⟩,  -- Cal.Step, R237
  ⟨0x3400, 1, 1, 1, 16, 4, .ro, 0, .all, false⟩,  -- Acq.UrgentDrops, R247
  ⟨0x3401, 1, 1, 1, 16, 4, .ro, 0, .all, false⟩,  -- Acq.OutriderAborts, R247
  ⟨0x3402, 1, 1, 1, 16, 3, .ro, 0, .all, false⟩,  -- Acq.Occupancy, R247
  ⟨0x3403, 1, 1, 1, 8, 2, .sh, 17, .ints [(0, 28, 1)], false⟩,  -- Pair.CheckInput, R247
  ⟨0x3404, 1, 1, 1, 8, 3, .sh, 64, .ints [(4, 4096, 1)], false⟩,  -- Pair.Limit, R247
  ⟨0x3405, 1, 1, 0, 1, 3, .sh, 1000, .ints [(100, 10000, 1)], false⟩,  -- Pair.CheckPeriod, R247
  ⟨0x3406, 1, 1, 0, 1, 2, .sh, 3, .ints [(1, 16, 1)], false⟩,  -- Pair.FaultCount, R247
  ⟨0x3407, 1, 1, 1, 8, 2, .ro, 2, .all, false⟩,  -- Pair.Status, R247
  ⟨0x3408, 1, 1, 1, 8, 7, .ro, 0, .all, false⟩,  -- Pair.Difference, R247
  ⟨0x3409, 1, 1, 1, 8, 4, .ro, 0, .all, false⟩,  -- Pair.Faults, R247
  ⟨0x3410, 1, 4, 1, 16, 3, .sh, 0, .all, false⟩,  -- Table.Code, R247
  ⟨0x3414, 1, 4, 1, 16, 9, .sh, 0, .all, false⟩,  -- Table.Value, R247
  ⟨0x3640, 8, 24, 1, 1, 1, .sh, 0, .all, false⟩,  -- Sd.Enable, R255
  ⟨0x3640, 8, 24, 2, 1, 2, .sh, 0, .ints [(0, 5, 1)], false⟩  -- Sd.Clock, R255
  ]

/-- Objects of the domain Acquisition, part 2. -/
def dictAcq1 : List Row := [
  ⟨0x3640, 8, 24, 3, 1, 3, .sh, 64, .ints [(16, 256, 1)], false⟩,  -- Sd.Osr, R255
  ⟨0x3640, 8, 24, 4, 1, 2, .sh, 0, .ints [(0, 0, 1), (1, 1, 1)], false⟩,  -- Sd.Output, R255
  ⟨0x3640, 8, 24, 5, 1, 2, .sh, 255, .ints [(0, 75, 1), (255, 255, 1)], false⟩,  -- Sd.Trigger, R255
  ⟨0x3640, 8, 24, 6, 1, 2, .sh, 16, .ints [(16, 64, 1)], false⟩,  -- Sd.ProtOsr, R255
  ⟨0x3640, 8, 24, 7, 1, 3, .sh, 256, .ints [(32, 4096, 1)], false⟩,  -- Sd.StuckLimit, R255
  ⟨0x3640, 8, 24, 8, 1, 2, .sh, 0, .ints [(0, 0, 1), (1, 1, 1)], false⟩,  -- Sd.Edge, R255
  ⟨0x3641, 8, 24, 1, 1, 2, .sh, 0, .ints [(0, 4, 1)], false⟩,  -- Chan.Scaling, R255
  ⟨0x3641, 8, 24, 2, 1, 9, .sh, 0x3F800000, .all, false⟩,  -- Chan.NomGain, R255
  ⟨0x3641, 8, 24, 3, 1, 9, .sh, 0, .all, false⟩,  -- Chan.NomOffset, R255
  ⟨0x3641, 8, 24, 4, 1, 9, .rw, 0xFF61B1E6, .all, false⟩,  -- Chan.Min, R255
  ⟨0x3641, 8, 24, 5, 1, 9, .rw, 0x7F61B1E6, .all, false⟩,  -- Chan.Max, R255
  ⟨0x3641, 8, 24, 6, 1, 9, .ro, 0, .all, false⟩,  -- Chan.CalGain, R255
  ⟨0x3641, 8, 24, 7, 1, 9, .ro, 0, .all, false⟩,  -- Chan.CalOffset, R255
  ⟨0x3641, 8, 24, 8, 1, 9, .rw, 0, .all, false⟩,  -- Chan.CalLow, R255
  ⟨0x3641, 8, 24, 9, 1, 9, .rw, 0, .all, false⟩,  -- Chan.CalHigh, R255
  ⟨0x3641, 8, 24, 10, 1, 2, .wo, 0, .ints [(1, 5, 1)], false⟩,  -- Chan.CalCommand, R255
  ⟨0x3641, 8, 24, 11, 1, 2, .ro, 0, .all, false⟩,  -- Cal.State, R255
  ⟨0x3642, 8, 24, 1, 1, 9, .ro, 0, .all, true⟩,  -- Chan.Value, R255
  ⟨0x3642, 8, 24, 2, 1, 7, .ro, 0, .all, false⟩,  -- Sample.Value, R255
  ⟨0x3642, 8, 24, 3, 1, 7, .ro, 0, .all, false⟩,  -- Sd.Prot, R255
  ⟨0x3642, 8, 24, 4, 1, 3, .ro, 0, .all, false⟩,  -- Sd.Status, R255
  ⟨0x3642, 8, 24, 5, 1, 4, .ro, 0, .all, false⟩,  -- Sd.Faults, R255
  ⟨0x3642, 8, 24, 6, 1, 4, .ro, 0, .all, false⟩,  -- Sd.Overflows, R255
  ⟨0x3700, 1, 1, 1, 6, 3, .sh, 0, .ints [(0, 0, 1), (64, 320, 2)], false⟩,  -- Sdc.Divider, R256
  ⟨0x3701, 1, 1, 1, 6, 2, .ro, 0, .all, false⟩  -- Sdc.Status, R256
  ]

/-- Objects of the domain Acquisition. -/
def dictAcq : List Row := dictAcq0 ++ dictAcq1

/-- Objects of the domain Comparators, part 1. -/
def dictCmp0 : List Row := [
  ⟨0x3800, 0x20, 32, 1, 1, 1, .sh, 0, .all, false⟩,  -- Win.Enable, R281
  ⟨0x3800, 0x20, 32, 2, 1, 2, .sh, 255, .all, false⟩,  -- Win.Source, R281
  ⟨0x3800, 0x20, 32, 3, 1, 3, .sh, 0, .ints [(0, 1023, 1)], false⟩,  -- Win.ThreshL, R281
  ⟨0x3800, 0x20, 32, 4, 1, 3, .sh, 1023, .ints [(0, 1023, 1)], false⟩,  -- Win.ThreshH, R281
  ⟨0x3800, 0x20, 32, 5, 1, 2, .sh, 1, .all, false⟩,  -- Win.Polarity, R281
  ⟨0x3800, 0x20, 32, 6, 1, 2, .sh, 2, .ints [(0, 15, 1)], false⟩,  -- Win.Hyst, R281
  ⟨0x3800, 0x20, 32, 7, 1, 2, .sh, 2, .ints [(0, 63, 1)], false⟩,  -- Win.Filter, R281
  ⟨0x3800, 0x20, 32, 8, 1, 2, .sh, 255, .ints [(0, 113, 1), (255, 255, 1)], false⟩,  -- Win.BlankLane, R281
  ⟨0x3800, 0x20, 32, 9, 1, 3, .sh, 0, .ints [(0, 65535, 1)], false⟩,  -- Win.BlankTime, R281
  ⟨0x3800, 0x20, 32, 10, 1, 3, .sh, 2000, .ints [(100, 20000, 1)], false⟩,  -- Win.BlankMax, R281
  ⟨0x3800, 0x20, 32, 11, 1, 2, .sh, 0, .ints [(0, 0, 1), (1, 1, 1), (2, 2, 1)], false⟩,  -- Win.Latch, R281
  ⟨0x3800, 0x20, 32, 12, 1, 2, .sh, 0, .ints [(0, 15, 1)], false⟩,  -- Win.ClearSource, R281
  ⟨0x3800, 0x20, 32, 13, 1, 4, .sh, 0, .all, false⟩,  -- Win.ClearPosition, R281
  ⟨0x3800, 0x20, 32, 14, 1, 2, .sh, 255, .ints [(0, 113, 1), (255, 255, 1)], false⟩,  -- Win.TripLane, R281
  ⟨0x3800, 0x20, 32, 15, 1, 2, .sh, 1, .ints [(1, 32, 1)], false⟩,  -- Win.TripCount, R281
  ⟨0x3800, 0x20, 32, 16, 1, 2, .sh, 0, .ints [(0, 0, 1), (1, 1, 1), (2, 2, 1), (3, 3, 1)], false⟩,  -- Win.TripOutputs, R281
  ⟨0x3800, 0x20, 32, 17, 1, 2, .sh, 9, .ints [(1, 24, 1)], false⟩,  -- Win.Class, R281
  ⟨0x3800, 0x20, 32, 18, 1, 2, .sh, 255, .ints [(0, 5, 1), (255, 255, 1)], false⟩,  -- Win.LevelL, R281
  ⟨0x3800, 0x20, 32, 19, 1, 2, .sh, 255, .ints [(0, 5, 1), (255, 255, 1)], false⟩,  -- Win.LevelH, R281
  ⟨0x3800, 0x20, 32, 20, 1, 1, .sh, 0, .all, false⟩,  -- Win.Wake, R281
  ⟨0x3800, 0x20, 32, 21, 1, 2, .wo, 0, .ints [(1, 1, 1), (2, 2, 1), (3, 3, 1)], false⟩,  -- Win.Clear, R281
  ⟨0x3800, 0x20, 32, 22, 1, 2, .ro, 0, .all, false⟩,  -- Win.Status, R281
  ⟨0x3800, 0x20, 32, 23, 1, 4, .ro, 0, .all, false⟩,  -- Win.EventsL, R281
  ⟨0x3800, 0x20, 32, 24, 1, 4, .ro, 0, .all, false⟩,  -- Win.EventsH, R281
  ⟨0x3800, 0x20, 32, 25, 1, 4, .ro, 0, .all, false⟩,  -- Win.BlankOverruns, R281
  ⟨0x3800, 0x20, 32, 26, 1, 5, .ro, 0, .all, false⟩,  -- Win.LastEvent, R281
  ⟨0x3800, 0x20, 32, 27, 1, 3, .ro, 0, .all, false⟩,  -- Win.Seal, R281
  ⟨0x3800, 0x20, 32, 28, 1, 4, .ro, 0, .all, false⟩  -- Win.CheckFaults, R281
  ]

/-- Objects of the domain Comparators. -/
def dictCmp : List Row := dictCmp0

/-- Objects of the domain Truss, part 1. -/
def dictTrs0 : List Row := [
  ⟨0x3D00, 4, 192, 1, 1, 2, .sh, 0, .ints [(0, 0, 1), (1, 1, 1)], false⟩,  -- Brace.Order, R295
  ⟨0x3D00, 4, 192, 2, 1, 6, .sh, 0, .ints [(-16, 8, 1)], false⟩,  -- Brace.CoefExp, R295
  ⟨0x3D00, 4, 192, 3, 1, 6, .sh, 0, .ints [(-64, 64, 1)], false⟩,  -- Brace.DataExp, R295
  ⟨0x3D00, 4, 192, 4, 1, 4, .sh, 0, .all, false⟩,  -- Brace.Ref, R295
  ⟨0x3D00, 4, 192, 5, 1, 4, .sh, 0, .all, false⟩,  -- Brace.Fb, R295
  ⟨0x3D00, 4, 192, 6, 1, 4, .sh, 0, .all, false⟩,  -- Brace.Ff, R295
  ⟨0x3D00, 4, 192, 7, 1, 2, .sh, 0, .ints [(0, 0, 1), (1, 1, 1), (2, 2, 1)], false⟩,  -- Brace.OutType, R295
  ⟨0x3D00, 4, 192, 8, 1, 1, .sh, 0, .all, false⟩,  -- Brace.Publish, R295
  ⟨0x3D00, 4, 192, 9, 1, 1, .sh, 0, .all, false⟩,  -- Brace.Shadow, R295
  ⟨0x3D00, 4, 192, 10, 1, 2, .sh, 0, .ints [(0, 0, 1), (1, 1, 1)], false⟩,  -- Brace.AntiWindup, R295
  ⟨0x3D01, 4, 192, 1, 7, 10, .rw, 0, .all, false⟩,  -- Brace.Bank0, R295
  ⟨0x3D02, 4, 192, 1, 7, 10, .rw, 0, .all, false⟩,  -- Brace.Bank1, R295
  ⟨0x3D03, 4, 192, 1, 1, 2, .rw, 0, .ints [(0, 0, 1), (1, 1, 1)], false⟩,  -- Brace.Select, R295
  ⟨0x3D03, 4, 192, 2, 1, 1, .rw, 0, .all, false⟩,  -- Brace.SelectPreset, R295
  ⟨0x3D03, 4, 192, 3, 1, 9, .rw, 0xBF800000, .all, false⟩,  -- Brace.OutMin, R295
  ⟨0x3D03, 4, 192, 4, 1, 9, .rw, 0x3F800000, .all, false⟩,  -- Brace.OutMax, R295
  ⟨0x3D03, 4, 192, 5, 1, 2, .rw, 0, .ints [(0, 0, 1), (1, 1, 1)], false⟩,  -- Brace.Mode, R295
  ⟨0x3D03, 4, 192, 6, 1, 9, .rw, 0, .all, false⟩,  -- Brace.Manual, R295
  ⟨0x3D03, 4, 192, 7, 1, 9, .wo, 0, .all, false⟩,  -- Brace.Preset, R295
  ⟨0x3D03, 4, 192, 8, 1, 9, .rw, 0, .all, false⟩,  -- Brace.Const, R295
  ⟨0x3D03, 4, 192, 9, 1, 9, .ro, 0, .all, true⟩,  -- Brace.Out, R295
  ⟨0x3D03, 4, 192, 10, 1, 3, .ro, 0, .all, false⟩,  -- Brace.Status, R295
  ⟨0x3D03, 4, 192, 11, 1, 4, .ro, 0, .all, false⟩,  -- Brace.Rate, R295
  ⟨0x3D03, 4, 192, 12, 1, 4, .ro, 0, .all, false⟩,  -- Brace.SatCount, R295
  ⟨0x3D03, 4, 192, 13, 1, 3, .ro, 0, .all, false⟩,  -- Brace.Owner, R295
  ⟨0x3D03, 4, 192, 14, 1, 2, .ro, 255, .all, false⟩,  -- Brace.Loop, R295
  ⟨0x3C80, 4, 32, 1, 1, 2, .sh, 255, .ints [(0, 75, 1), (255, 255, 1)], false⟩,  -- Loop.Trigger, R313
  ⟨0x3C80, 4, 32, 2, 1, 4, .sh, 0, .ints [(0, 100000, 5)], false⟩,  -- Loop.Delay, R313
  ⟨0x3C80, 4, 32, 3, 1, 2, .sh, 255, .ints [(0, 31, 1), (255, 255, 1)], false⟩,  -- Loop.Parent, R313
  ⟨0x3C80, 4, 32, 4, 1, 3, .sh, 1, .ints [(1, 65535, 1)], false⟩,  -- Loop.Divide, R313
  ⟨0x3C80, 4, 32, 5, 1, 2, .sh, 3, .ints [(0, 3, 1)], false⟩,  -- Loop.Priority, R313
  ⟨0x3C80, 4, 32, 6, 1, 4, .sh, 0, .ints [(0, 2000000, 1)], false⟩,  -- Loop.LineRate, R313
  ⟨0x3C80, 4, 32, 7, 1, 2, .sh, 0, .ints [(0, 16, 1)], false⟩,  -- Loop.Count, R313
  ⟨0x3C81, 4, 32, 1, 16, 3, .sh, 65535, .all, false⟩,  -- Loop.Member, R313
  ⟨0x3C82, 4, 32, 1, 1, 4, .ro, 0, .all, false⟩,  -- Loop.Rate, R313
  ⟨0x3C82, 4, 32, 2, 1, 4, .ro, 0, .all, false⟩,  -- Loop.Latency, R313
  ⟨0x3C82, 4, 32, 3, 1, 4, .ro, 0, .all, false⟩,  -- Loop.MaxLatency, R313
  ⟨0x3C82, 4, 32, 4, 1, 4, .ro, 0, .all, false⟩,  -- Loop.Overruns, R313
  ⟨0x3C82, 4, 32, 5, 1, 4, .ro, 0, .all, false⟩,  -- Loop.Evaluations, R313
  ⟨0x3C82, 4, 32, 6, 1, 3, .ro, 0, .all, false⟩  -- Loop.Owner, R313
  ]

/-- Objects of the domain Truss, part 2. -/
def dictTrs1 : List Row := [
  ⟨0x3C40, 2, 28, 1, 6, 4, .sh, 0, .all, false⟩,  -- Xf.In, R316
  ⟨0x3C40, 2, 28, 7, 1, 2, .sh, 0, .all, false⟩,  -- Xf.Mode, R316
  ⟨0x3C40, 2, 28, 8, 1, 6, .sh, 1, .ints [(-31, -1, 1), (1, 31, 1)], false⟩,  -- Xf.Order, R316
  ⟨0x3C40, 2, 28, 9, 1, 7, .sh, 0, .ints [(-100000, 100000, 1)], false⟩,  -- Xf.Lead, R316
  ⟨0x3C41, 2, 28, 1, 4, 9, .ro, 0, .all, true⟩,  -- Xf.Out, R316
  ⟨0x3C41, 2, 28, 5, 1, 3, .ro, 0, .all, false⟩,  -- Xf.Owner, R316
  ⟨0x3C41, 2, 28, 6, 1, 2, .ro, 255, .all, false⟩,  -- Xf.Loop, R316
  ⟨0x3C00, 1, 1, 1, 1, 2, .ro, 255, .all, false⟩,  -- Truss.Lanes, R319
  ⟨0x3C00, 1, 1, 2, 1, 2, .ro, 0, .all, false⟩,  -- Truss.BracesClaimed, R319
  ⟨0x3C00, 1, 1, 3, 1, 2, .ro, 0, .all, false⟩,  -- Truss.LoopsClaimed, R319
  ⟨0x3C00, 1, 1, 4, 1, 3, .ro, 0, .all, false⟩,  -- Truss.Utilisation, R319
  ⟨0x3C00, 1, 1, 5, 1, 4, .ro, 0, .all, false⟩,  -- Truss.EccCorrected, R319
  ⟨0x3C00, 1, 1, 6, 1, 4, .ro, 0, .all, false⟩,  -- Truss.EccUncorrected, R319
  ⟨0x3C20, 1, 1, 1, 1, 2, .rw, 255, .ints [(0, 191, 1), (255, 255, 1)], false⟩,  -- Inject.Brace, R323
  ⟨0x3C20, 1, 1, 2, 1, 2, .rw, 0, .ints [(0, 0, 1), (1, 1, 1), (2, 2, 1), (3, 3, 1)], false⟩,  -- Inject.Point, R323
  ⟨0x3C20, 1, 1, 3, 1, 2, .rw, 1, .ints [(1, 1, 1), (2, 2, 1), (3, 3, 1)], false⟩,  -- Inject.Shape, R323
  ⟨0x3C20, 1, 1, 4, 1, 9, .rw, 0, .all, false⟩,  -- Inject.Amplitude, R323
  ⟨0x3C20, 1, 1, 5, 1, 9, .rw, 0x42C80000, .flt 0x3DCCCCCD 0x49742400, false⟩,  -- Inject.Frequency, R323
  ⟨0x3C20, 1, 1, 6, 1, 2, .rw, 9, .ints [(7, 7, 1), (9, 9, 1), (11, 11, 1), (15, 15, 1)], false⟩,  -- Inject.PrbsOrder, R323
  ⟨0x3C20, 1, 1, 7, 1, 3, .rw, 1, .ints [(1, 1024, 1)], false⟩,  -- Inject.PrbsHold, R323
  ⟨0x3C20, 1, 1, 8, 1, 4, .rw, 1000, .ints [(1, 16777215, 1)], false⟩,  -- Inject.Length, R323
  ⟨0x3C20, 1, 1, 9, 1, 2, .wo, 0, .ints [(1, 1, 1), (2, 2, 1)], false⟩,  -- Inject.Start, R323
  ⟨0x3C20, 1, 1, 10, 1, 2, .ro, 0, .all, false⟩,  -- Inject.State, R323
  ⟨0x3C20, 1, 1, 11, 1, 5, .ro, 0, .all, false⟩,  -- Inject.StartTime, R323
  ⟨0x3C28, 1, 1, 1, 8, 4, .rw, 0, .all, false⟩,  -- Resp.Channel, R327
  ⟨0x3C29, 1, 1, 1, 1, 2, .rw, 1, .ints [(1, 8, 1)], false⟩,  -- Resp.Channels, R327
  ⟨0x3C29, 1, 1, 2, 1, 2, .rw, 0, .ints [(0, 31, 1)], false⟩,  -- Resp.Loop, R327
  ⟨0x3C29, 1, 1, 3, 1, 3, .rw, 1, .ints [(1, 65535, 1)], false⟩,  -- Resp.Decimate, R327
  ⟨0x3C29, 1, 1, 4, 1, 4, .rw, 0, .all, false⟩,  -- Resp.PreRows, R327
  ⟨0x3C29, 1, 1, 5, 1, 2, .rw, 0, .ints [(0, 0, 1), (1, 1, 1), (2, 2, 1), (3, 3, 1)], false⟩,  -- Resp.TriggerSource, R327
  ⟨0x3C29, 1, 1, 6, 1, 2, .rw, 0, .ints [(0, 31, 1)], false⟩,  -- Resp.Window, R327
  ⟨0x3C29, 1, 1, 7, 1, 2, .wo, 0, .ints [(1, 1, 1), (2, 2, 1), (3, 3, 1)], false⟩,  -- Resp.Command, R327
  ⟨0x3C29, 1, 1, 8, 1, 2, .ro, 0, .all, false⟩,  -- Resp.State, R327
  ⟨0x3C29, 1, 1, 9, 1, 4, .ro, 0, .all, false⟩,  -- Resp.Rows, R327
  ⟨0x3C29, 1, 1, 10, 1, 4, .ro, 0, .all, false⟩,  -- Resp.TriggerRow, R327
  ⟨0x3C29, 1, 1, 11, 1, 5, .ro, 0, .all, false⟩,  -- Resp.TriggerTime, R327
  ⟨0x3C2A, 1, 1, 0, 1, 12, .ro, 0, .all, false⟩,  -- Resp.Data, R327
  ⟨0x3C6D, 2, 6, 16, 12, 4, .ro, 0, .all, true⟩  -- Mod.Edge, R348
  ]

/-- Objects of the domain Truss. -/
def dictTrs : List Row := dictTrs0 ++ dictTrs1

/-- Objects of the domain DriveA, mirrored for DriveB (R13), part 1. -/
def dictDrv0 : List Row := [
  ⟨0x4000, 0x800, 2, 0, 1, 2, .ro, 0, .all, false⟩,  -- DriveA.State, R49
  ⟨0x4001, 0x800, 2, 0, 1, 2, .wo, 0, .ints [(1, 1, 1), (2, 2, 1), (3, 3, 1), (4, 4, 1)], false⟩,  -- DriveA.Command, R49
  ⟨0x4002, 0x800, 2, 0, 1, 3, .ro, 0, .all, false⟩,  -- DriveA.Status, R330
  ⟨0x4003, 0x800, 2, 1, 1, 2, .sh, 4, .ints [(1, 16, 1)], false⟩,  -- DriveA.Motor.PolePairs, R330
  ⟨0x4003, 0x800, 2, 2, 1, 9, .sh, 0x3C23D70A, .flt 0x38D1B717 0x41200000, false⟩,  -- DriveA.Motor.Rs, R330
  ⟨0x4003, 0x800, 2, 3, 1, 9, .sh, 0x38D1B717, .flt 0x358637BD 0x3DCCCCCD, false⟩,  -- DriveA.Motor.Ld, R330
  ⟨0x4003, 0x800, 2, 4, 1, 9, .sh, 0x3951B717, .flt 0x358637BD 0x3DCCCCCD, false⟩,  -- DriveA.Motor.Lq, R330
  ⟨0x4003, 0x800, 2, 5, 1, 9, .sh, 0x3D4CCCCD, .flt 0x3A83126F 0x40000000, false⟩,  -- DriveA.Motor.Flux, R330
  ⟨0x4003, 0x800, 2, 6, 1, 2, .sh, 3, .ints [(3, 3, 1), (6, 6, 1)], false⟩,  -- DriveA.Motor.Phases, R330
  ⟨0x4003, 0x800, 2, 7, 1, 9, .sh, 0x457A0000, .flt 0x41200000 0x457A0000, false⟩,  -- DriveA.Motor.MaxFreq, R330
  ⟨0x4004, 0x800, 2, 1, 1, 3, .sh, 65535, .all, false⟩,  -- DriveA.Link.Channel, R330
  ⟨0x4004, 0x800, 2, 2, 1, 9, .sh, 0x437A0000, .flt 0x42480000 0x44660000, false⟩,  -- DriveA.Link.VdcMin, R330
  ⟨0x4005, 0x800, 2, 1, 1, 2, .rw, 0, .ints [(0, 0, 1), (1, 1, 1), (2, 2, 1)], false⟩,  -- DriveA.Direction.Select, R330
  ⟨0x4005, 0x800, 2, 2, 1, 2, .tk, 0, .ints [(0, 0, 1), (1, 1, 1)], false⟩,  -- DriveA.Direction.Sense, R330
  ⟨0x4005, 0x800, 2, 3, 1, 3, .tk, 150, .ints [(10, 1000, 1)], false⟩,  -- DriveA.Direction.Threshold, R330
  ⟨0x4006, 0x800, 2, 1, 1, 3, .sh, 1000, .ints [(0, 100000, 1)], false⟩,  -- DriveA.Start.Settle, R330
  ⟨0x4006, 0x800, 2, 2, 1, 9, .sh, 0x3F666666, .flt 0x3F000000 0x3F800000, false⟩,  -- DriveA.Stop.EmfLimit, R330
  ⟨0x4006, 0x800, 2, 3, 1, 3, .sh, 10, .ints [(1, 100, 1)], false⟩,  -- DriveA.Stop.FaultRamp, R330
  ⟨0x4200, 0x800, 2, 1, 1, 9, .rw, 0, .flt 0xC4FA0000 0x44FA0000, true⟩,  -- DriveA.Torque.Command, R338
  ⟨0x4200, 0x800, 2, 2, 1, 9, .sh, 0x43960000, .flt 0x3F800000 0x44FA0000, false⟩,  -- DriveA.Torque.Peak, R338
  ⟨0x4200, 0x800, 2, 3, 1, 9, .rw, 0x41A00000, .flt 0x3DCCCCCD 0x447A0000, false⟩,  -- DriveA.Torque.Slew, R338
  ⟨0x4200, 0x800, 2, 4, 1, 9, .rw, 0x40A00000, .flt 0x3DCCCCCD 0x447A0000, false⟩,  -- DriveA.Torque.StaleSlew, R338
  ⟨0x4200, 0x800, 2, 5, 1, 9, .rw, 0x41200000, .flt 0x3DCCCCCD 0x447A0000, false⟩,  -- DriveA.Torque.StopSlew, R338
  ⟨0x4200, 0x800, 2, 6, 1, 9, .sh, 0x42480000, .flt 0x3F800000 0x447A0000, false⟩,  -- DriveA.Torque.SpeedFloor, R338
  ⟨0x4200, 0x800, 2, 7, 1, 9, .ro, 0, .all, true⟩,  -- DriveA.Torque.PowerMotor, R338
  ⟨0x4200, 0x800, 2, 8, 1, 9, .ro, 0, .all, true⟩,  -- DriveA.Torque.PowerRegen, R338
  ⟨0x4200, 0x800, 2, 9, 1, 3, .sh, 1, .ints [(1, 64, 1)], false⟩,  -- DriveA.Ref.Divide, R338
  ⟨0x4200, 0x800, 2, 10, 1, 9, .sh, 0x44480000, .flt 0x42C80000 0x44660000, false⟩,  -- DriveA.Fw.Vnom, R338
  ⟨0x4201, 0x800, 2, 1, 6, 9, .ro, 0, .all, true⟩,  -- DriveA.Ref.Out, R338
  ⟨0x4202, 0x800, 2, 0, 1, 2, .sh, 2, .ints [(2, 32, 1)], false⟩,  -- DriveA.Mtpa.Count, R338
  ⟨0x4202, 0x800, 2, 1, 1, 9, .sh, 0, .all, false⟩,  -- DriveA.Mtpa.Torque, R338
  ⟨0x4202, 0x800, 2, 2, 1, 9, .sh, 0x43960000, .all, false⟩,  -- DriveA.Mtpa.Torque, R338
  ⟨0x4202, 0x800, 2, 3, 30, 9, .sh, 0, .all, false⟩,  -- DriveA.Mtpa.Torque, R338
  ⟨0x4203, 0x800, 2, 1, 32, 9, .sh, 0, .all, false⟩,  -- DriveA.Mtpa.Id, R338
  ⟨0x4204, 0x800, 2, 1, 1, 9, .sh, 0, .all, false⟩,  -- DriveA.Mtpa.Iq, R338
  ⟨0x4204, 0x800, 2, 2, 1, 9, .sh, 0x42C80000, .all, false⟩,  -- DriveA.Mtpa.Iq, R338
  ⟨0x4204, 0x800, 2, 3, 30, 9, .sh, 0, .all, false⟩,  -- DriveA.Mtpa.Iq, R338
  ⟨0x4205, 0x800, 2, 0, 1, 2, .sh, 2, .ints [(2, 16, 1)], false⟩,  -- DriveA.Fw.Count, R338
  ⟨0x4205, 0x800, 2, 1, 1, 9, .sh, 0x447A0000, .all, false⟩,  -- DriveA.Fw.Speed, R338
  ⟨0x4205, 0x800, 2, 2, 1, 9, .sh, 0x457A0000, .all, false⟩  -- DriveA.Fw.Speed, R338
  ]

/-- Objects of the domain DriveA, mirrored for DriveB (R13), part 2. -/
def dictDrv1 : List Row := [
  ⟨0x4205, 0x800, 2, 3, 14, 9, .sh, 0, .all, false⟩,  -- DriveA.Fw.Speed, R338
  ⟨0x4206, 0x800, 2, 1, 1, 9, .sh, 0, .all, false⟩,  -- DriveA.Fw.Id, R338
  ⟨0x4206, 0x800, 2, 2, 1, 9, .sh, 0xC2480000, .all, false⟩,  -- DriveA.Fw.Id, R338
  ⟨0x4206, 0x800, 2, 3, 14, 9, .sh, 0, .all, false⟩,  -- DriveA.Fw.Id, R338
  ⟨0x4207, 0x800, 2, 1, 1, 9, .sh, 0x43960000, .all, false⟩,  -- DriveA.Fw.TorqueMax, R338
  ⟨0x4207, 0x800, 2, 2, 1, 9, .sh, 0x42960000, .all, false⟩,  -- DriveA.Fw.TorqueMax, R338
  ⟨0x4207, 0x800, 2, 3, 14, 9, .sh, 0, .all, false⟩,  -- DriveA.Fw.TorqueMax, R338
  ⟨0x4100, 0x800, 2, 1, 1, 2, .sh, 2, .ints [(1, 8, 1)], false⟩,  -- DriveA.Current.Samples, R340
  ⟨0x4100, 0x800, 2, 2, 1, 2, .sh, 255, .ints [(0, 63, 1)], false⟩,  -- DriveA.Current.Line, R340
  ⟨0x4100, 0x800, 2, 3, 1, 4, .sh, 0, .all, false⟩,  -- DriveA.Current.SampleOffset, R340
  ⟨0x4100, 0x800, 2, 4, 1, 2, .sh, 255, .ints [(0, 31, 1)], false⟩,  -- DriveA.Current.Loop, R340
  ⟨0x4100, 0x800, 2, 5, 1, 2, .sh, 255, .ints [(0, 31, 1), (255, 255, 1)], false⟩,  -- DriveA.Current.FwLoop, R340
  ⟨0x4100, 0x800, 2, 6, 1, 9, .sh, 0x42C80000, .flt 0x3F800000 0x44FA0000, false⟩,  -- DriveA.Current.Imax, R340
  ⟨0x4101, 0x800, 2, 1, 6, 3, .sh, 65535, .all, false⟩,  -- DriveA.Current.Channel, R340
  ⟨0x4102, 0x800, 2, 1, 5, 2, .sh, 255, .ints [(0, 191, 1), (255, 255, 1)], false⟩,  -- DriveA.Current.Brace, R340
  ⟨0x4110, 0x800, 2, 1, 8, 9, .sh, 0, .all, false⟩,  -- DriveA.Mod.BandFreq, R344
  ⟨0x4111, 0x800, 2, 1, 8, 3, .sh, 0, .ints [(0, 4096, 1)], false⟩,  -- DriveA.Mod.BandRatio, R344
  ⟨0x4112, 0x800, 2, 0, 1, 2, .sh, 1, .ints [(1, 8, 1)], false⟩,  -- DriveA.Mod.Bands, R344
  ⟨0x4113, 0x800, 2, 0, 1, 9, .sh, 0x461C4000, .flt 0x44FA0000 0x471C4000, false⟩,  -- DriveA.Mod.FreeFsw, R344
  ⟨0x4114, 0x800, 2, 0, 1, 2, .sh, 5, .ints [(0, 20, 1)], false⟩,  -- DriveA.Mod.BandHyst, R344
  ⟨0x4115, 0x800, 2, 0, 1, 2, .sh, 255, .ints [(22, 27, 1)], false⟩,  -- DriveA.Mod.Unit, R344
  ⟨0x4116, 0x800, 2, 0, 1, 2, .sh, 255, .ints [(0, 31, 1)], false⟩,  -- DriveA.Mod.Loop, R344
  ⟨0x4117, 0x800, 2, 0, 1, 2, .sh, 255, .ints [(0, 63, 1)], false⟩,  -- DriveA.Mod.Line, R344
  ⟨0x4118, 0x800, 2, 0, 1, 2, .sh, 1, .ints [(1, 1, 1), (2, 2, 1)], false⟩,  -- DriveA.Mod.Updates, R344
  ⟨0x4119, 0x800, 2, 0, 1, 2, .sh, 255, .ints [(0, 94, 2)], false⟩,  -- DriveA.Mod.FirstLane, R344
  ⟨0x411A, 0x800, 2, 0, 1, 3, .sh, 500, .ints [(0, 10000, 1)], false⟩,  -- DriveA.Mod.DeadTime, R344
  ⟨0x411B, 0x800, 2, 0, 1, 3, .sh, 20, .ints [(0, 318, 1)], false⟩,  -- DriveA.Mod.MinPulse, R344
  ⟨0x411C, 0x800, 2, 0, 1, 3, .rw, 0, .ints [(0, 5000, 1)], false⟩,  -- DriveA.Mod.DtcTime, R344
  ⟨0x411D, 0x800, 2, 0, 1, 9, .rw, 0x40000000, .flt 0x3DCCCCCD 0x42C80000, false⟩,  -- DriveA.Mod.DtcBand, R344
  ⟨0x4400, 0x800, 2, 1, 4, 3, .sh, 65535, .all, false⟩,  -- DriveA.Derate.Channel, R361
  ⟨0x4401, 0x800, 2, 1, 4, 9, .sh, 0x43160000, .all, false⟩,  -- DriveA.Derate.Start, R361
  ⟨0x4402, 0x800, 2, 1, 4, 9, .sh, 0x432A0000, .all, false⟩,  -- DriveA.Derate.End, R361
  ⟨0x4403, 0x800, 2, 1, 4, 2, .sh, 6, .ints [(1, 24, 1)], false⟩,  -- DriveA.Derate.Class, R361
  ⟨0x4404, 0x800, 2, 0, 1, 9, .rw, 0x3F000000, .flt 0x00000000 0x3F800000, false⟩,  -- DriveA.Derate.FaultFactor, R361
  ⟨0x4405, 0x800, 2, 0, 1, 9, .rw, 0x3F000000, .flt 0x00000000 0x3F800000, false⟩,  -- DriveA.Derate.Fallback, R361
  ⟨0x4406, 0x800, 2, 0, 1, 9, .rw, 0x3F800000, .flt 0x00000000 0x3F800000, false⟩,  -- DriveA.Derate.Host, R361
  ⟨0x4407, 0x800, 2, 0, 1, 9, .ro, 0x3F800000, .all, true⟩,  -- DriveA.Derate.Factor, R361
  ⟨0x4408, 0x800, 2, 1, 4, 9, .ro, 0x3F800000, .all, false⟩,  -- DriveA.Derate.Input, R361
  ⟨0x4700, 0x800, 2, 1, 1, 3, .tk, 0, .ints [(0, 40000, 1)], false⟩,  -- DriveA.Prot.AscSpeed, R388
  ⟨0x4700, 0x800, 2, 2, 1, 2, .tk, 10, .ints [(0, 50, 1)], false⟩  -- DriveA.Prot.AscHyst, R388
  ]

/-- Objects of the domain DriveA, mirrored for DriveB (R13), part 3. -/
def dictDrv2 : List Row := [
  ⟨0x4700, 0x800, 2, 3, 1, 2, .tk, 0, .ints [(0, 0, 1), (1, 1, 1)], false⟩,  -- DriveA.Prot.AscBank, R388
  ⟨0x4700, 0x800, 2, 4, 1, 3, .sh, 500, .ints [(100, 700, 1)], false⟩,  -- DriveA.Prot.AscDelay, R388
  ⟨0x4700, 0x800, 2, 5, 1, 3, .sh, 500, .ints [(100, 1000, 1)], false⟩,  -- DriveA.Prot.Collect, R388
  ⟨0x4700, 0x800, 2, 6, 1, 2, .sh, 4, .ints [(0, 40, 1)], false⟩,  -- DriveA.Prot.FltFilter, R388
  ⟨0x4700, 0x800, 2, 7, 1, 7, .ro, 0, .all, false⟩,  -- DriveA.Prot.AscRate, R388
  ⟨0x4700, 0x800, 2, 8, 1, 9, .ro, 0, .all, false⟩,  -- DriveA.Prot.AscSpeedEmf, R388
  ⟨0x4701, 0x800, 2, 0, 1, 3, .ro, 0, .all, false⟩,  -- DriveA.Prot.Status, R388
  ⟨0x4702, 0x800, 2, 0, 1, 5, .ro, 0, .all, false⟩,  -- DriveA.Prot.LastTrip, R388
  ⟨0x4703, 0x800, 2, 0, 1, 4, .ro, 0, .all, false⟩  -- DriveA.Prot.Trips, R388
  ]

/-- Objects of the domain DriveA, mirrored for DriveB (R13). -/
def dictDrv : List Row := dictDrv0 ++ dictDrv1 ++ dictDrv2

/-- Objects of the domain Charger, part 1. -/
def dictChg0 : List Row := [
  ⟨0x5000, 1, 1, 0, 1, 2, .ro, 0, .all, false⟩,  -- Charger.State, R49
  ⟨0x5001, 1, 1, 0, 1, 2, .wo, 0, .ints [(1, 4, 1)], false⟩,  -- Charger.Command, R49
  ⟨0x5100, 1, 1, 1, 1, 3, .sh, 65535, .all, false⟩,  -- Charger.Pilot.Channel, R400
  ⟨0x5100, 1, 1, 2, 1, 2, .sh, 255, .ints [(0, 31, 1)], false⟩,  -- Charger.Pilot.Window, R400
  ⟨0x5100, 1, 1, 3, 1, 2, .sh, 255, .ints [(0, 15, 1)], false⟩,  -- Charger.Pilot.Capture, R400
  ⟨0x5100, 1, 1, 4, 1, 3, .sh, 65535, .all, false⟩,  -- Charger.Pp.Channel, R400
  ⟨0x5100, 1, 1, 5, 1, 9, .sh, 0x43A50000, .flt 0x42C80000 0x461C4000, false⟩,  -- Charger.Pp.PullUp, R400
  ⟨0x5100, 1, 1, 6, 1, 9, .sh, 0x40A00000, .flt 0x40400000 0x40B00000, false⟩,  -- Charger.Pp.Supply, R400
  ⟨0x5100, 1, 1, 7, 1, 3, .sh, 100, .ints [(20, 1000, 1)], false⟩,  -- Charger.Pp.Debounce, R400
  ⟨0x5100, 1, 1, 8, 1, 2, .sh, 255, .ints [(0, 95, 1)], false⟩,  -- Charger.Relay.Main, R400
  ⟨0x5100, 1, 1, 9, 1, 2, .sh, 255, .ints [(0, 95, 1)], false⟩,  -- Charger.Relay.Pre, R400
  ⟨0x5101, 1, 1, 1, 1, 2, .ro, 255, .all, false⟩,  -- Charger.Pilot.State, R400
  ⟨0x5101, 1, 1, 2, 1, 3, .ro, 0, .all, false⟩,  -- Charger.Pilot.Duty, R400
  ⟨0x5101, 1, 1, 3, 1, 9, .ro, 0, .all, false⟩,  -- Charger.Pilot.High, R400
  ⟨0x5101, 1, 1, 4, 1, 9, .ro, 0, .all, false⟩,  -- Charger.Pilot.Low, R400
  ⟨0x5101, 1, 1, 5, 1, 9, .ro, 0, .all, false⟩,  -- Charger.Pilot.Current, R400
  ⟨0x5101, 1, 1, 6, 1, 2, .ro, 0, .all, false⟩,  -- Charger.Pp.Code, R400
  ⟨0x5101, 1, 1, 7, 1, 9, .ro, 0, .all, false⟩,  -- Charger.Pp.Resistance, R400
  ⟨0x5102, 1, 1, 1, 1, 9, .rw, 0, .flt 0x00000000 0x42A00000, true⟩,  -- Charger.Hlc.Current, R400
  ⟨0x5102, 1, 1, 2, 1, 1, .rw, 0, .all, false⟩,  -- Charger.Hlc.Ready, R400
  ⟨0x5002, 1, 1, 0, 1, 3, .ro, 0, .all, false⟩,  -- Charger.Status, R427
  ⟨0x5003, 1, 1, 1, 1, 2, .rw, 0, .ints [(0, 0, 1), (1, 1, 1)], false⟩,  -- Charger.Session.Mode, R427
  ⟨0x5003, 1, 1, 2, 1, 1, .rw, 0, .all, false⟩,  -- Charger.Session.AutoStart, R427
  ⟨0x5003, 1, 1, 3, 1, 3, .rw, 5000, .ints [(1000, 30000, 1)], false⟩,  -- Charger.Session.AcTimeout, R427
  ⟨0x5003, 1, 1, 4, 1, 2, .ro, 0, .all, false⟩,  -- Charger.Session.Phase, R427
  ⟨0x5003, 1, 1, 5, 1, 2, .ro, 0, .all, false⟩,  -- Charger.Session.Reason, R427
  ⟨0x5003, 1, 1, 6, 1, 5, .ro, 0, .all, false⟩,  -- Charger.Session.Start, R427
  ⟨0x5003, 1, 1, 7, 1, 9, .ro, 0, .all, false⟩,  -- Charger.Session.Energy, R427
  ⟨0x5004, 1, 1, 1, 1, 9, .rw, 0x41F00000, .flt 0x00000000 0x42C80000, false⟩,  -- Charger.Profile.Icc, R427
  ⟨0x5004, 1, 1, 2, 1, 9, .rw, 0x44480000, .flt 0x437A0000 0x44660000, true⟩,  -- Charger.Profile.Vcv, R427
  ⟨0x5004, 1, 1, 3, 1, 2, .rw, 5, .ints [(1, 50, 1)], false⟩,  -- Charger.Profile.EndFraction, R427
  ⟨0x5004, 1, 1, 4, 1, 3, .rw, 60, .ints [(1, 3600, 1)], false⟩,  -- Charger.Profile.EndTime, R427
  ⟨0x5004, 1, 1, 5, 1, 2, .sh, 255, .ints [(0, 191, 1)], false⟩,  -- Charger.Profile.CvBrace, R427
  ⟨0x5005, 1, 1, 1, 1, 9, .rw, 0, .flt 0x00000000 0x42C80000, true⟩,  -- Charger.Limit.Bms, R427
  ⟨0x5005, 1, 1, 2, 1, 9, .ro, 0, .all, true⟩,  -- Charger.Limit.Power, R427
  ⟨0x5005, 1, 1, 3, 1, 9, .sh, 0x42000000, .flt 0x40C00000 0x42000000, false⟩,  -- Charger.Limit.AcMax, R427
  ⟨0x5005, 1, 1, 4, 1, 9, .sh, 0x42700000, .flt 0x3F800000 0x42C80000, false⟩,  -- Charger.Limit.DcMax, R427
  ⟨0x5005, 1, 1, 5, 1, 9, .rw, 0x3C23D70A, .flt 0x3A83126F 0x41200000, false⟩,  -- Charger.Limit.SlewUp, R427
  ⟨0x5005, 1, 1, 6, 1, 9, .rw, 0x41200000, .flt 0x3DCCCCCD 0x447A0000, false⟩,  -- Charger.Limit.SlewDown, R427
  ⟨0x5005, 1, 1, 7, 1, 9, .sh, 0x3F733333, .flt 0x3F4CCCCD 0x3F800000, false⟩  -- Charger.Limit.Efficiency, R427
  ]

/-- Objects of the domain Charger, part 2. -/
def dictChg1 : List Row := [
  ⟨0x5005, 1, 1, 8, 1, 9, .ro, 0, .all, true⟩,  -- Charger.Ref.Idc, R427
  ⟨0x5006, 1, 1, 1, 1, 2, .rw, 14, .ints [(1, 24, 1)], false⟩,  -- Charger.Timer.Limit, R427
  ⟨0x5006, 1, 1, 2, 1, 4, .ro, 0, .all, false⟩,  -- Charger.Timer.Elapsed, R427
  ⟨0x5006, 1, 1, 3, 1, 9, .ro, 0x3F800000, .all, false⟩,  -- Charger.Timer.Rate, R427
  ⟨0x5200, 1, 1, 1, 1, 2, .sh, 0, .ints [(0, 2, 1)], false⟩,  -- Charger.Pfc.Topology, R428
  ⟨0x5200, 1, 1, 2, 1, 2, .sh, 255, .ints [(0, 94, 2)], false⟩,  -- Charger.Pfc.FirstLane, R428
  ⟨0x5200, 1, 1, 3, 1, 2, .sh, 255, .ints [(22, 27, 1)], false⟩,  -- Charger.Pfc.Unit, R428
  ⟨0x5200, 1, 1, 4, 1, 2, .sh, 255, .ints [(0, 31, 1)], false⟩,  -- Charger.Pfc.Loop, R428
  ⟨0x5200, 1, 1, 5, 1, 2, .sh, 255, .ints [(0, 31, 1)], false⟩,  -- Charger.Pfc.ModLoop, R428
  ⟨0x5200, 1, 1, 6, 1, 2, .sh, 255, .ints [(0, 31, 1)], false⟩,  -- Charger.Pfc.BusLoop, R428
  ⟨0x5200, 1, 1, 7, 1, 2, .sh, 255, .ints [(0, 63, 1)], false⟩,  -- Charger.Pfc.Line, R428
  ⟨0x5200, 1, 1, 8, 1, 3, .sh, 1600, .ints [(0, 0, 1), (445, 4096, 1)], false⟩,  -- Charger.Pfc.Ratio, R428
  ⟨0x5200, 1, 1, 9, 1, 9, .sh, 0x479C4000, .flt 0x469C4000 0x4888B800, false⟩,  -- Charger.Pfc.Fsw, R428
  ⟨0x5200, 1, 1, 10, 1, 3, .sh, 200, .ints [(0, 10000, 1)], false⟩,  -- Charger.Pfc.DeadTime, R428
  ⟨0x5200, 1, 1, 11, 1, 9, .rw, 0x443B8000, .flt 0x43C80000 0x44610000, true⟩,  -- Charger.Pfc.BusRef, R428
  ⟨0x5201, 1, 1, 1, 3, 3, .sh, 65535, .all, false⟩,  -- Charger.Pfc.Current, R428
  ⟨0x5201, 1, 1, 4, 1, 3, .sh, 65535, .all, false⟩,  -- Charger.Pfc.Bus, R428
  ⟨0x5202, 1, 1, 1, 3, 2, .sh, 255, .ints [(0, 191, 1)], false⟩,  -- Charger.Pfc.Brace, R428
  ⟨0x5203, 1, 1, 1, 1, 9, .sh, 0x42AA0000, .flt 0x42AA0000 0x43848000, false⟩,  -- Charger.Grid.Vmin, R428
  ⟨0x5203, 1, 1, 2, 1, 9, .sh, 0x43848000, .flt 0x42AA0000 0x43848000, false⟩,  -- Charger.Grid.Vmax, R428
  ⟨0x5203, 1, 1, 3, 1, 3, .sh, 20, .ints [(0, 1000, 1)], false⟩,  -- Charger.Grid.RideThrough, R428
  ⟨0x5203, 1, 1, 4, 3, 9, .ro, 0, .all, false⟩,  -- Charger.Grid.Vrms, R428
  ⟨0x5203, 1, 1, 7, 1, 9, .ro, 0, .all, true⟩,  -- Charger.Grid.Vlow, R428
  ⟨0x5204, 1, 1, 1, 1, 2, .sh, 255, .ints [(0, 191, 1)], false⟩,  -- Charger.Ivr.Brace, R428
  ⟨0x5204, 1, 1, 2, 1, 9, .rw, 0x43440000, .flt 0x42A00000 0x43848000, true⟩,  -- Charger.Ivr.Vset, R428
  ⟨0x5205, 1, 1, 1, 2, 9, .ro, 0, .all, true⟩,  -- Charger.Ref.PfcId, R428
  ⟨0x5205, 1, 1, 3, 1, 9, .ro, 0, .all, true⟩,  -- Charger.Ref.Quad, R428
  ⟨0x5300, 1, 1, 1, 1, 9, .rw, 0x48435000, .flt 0x47435000 0x49742400, false⟩,  -- Charger.Dab.Fsw, R428
  ⟨0x5300, 1, 1, 2, 1, 2, .sh, 255, .ints [(0, 88, 2)], false⟩,  -- Charger.Dab.FirstLane, R428
  ⟨0x5300, 1, 1, 3, 1, 2, .sh, 255, .ints [(0, 31, 1)], false⟩,  -- Charger.Dab.Loop, R428
  ⟨0x5300, 1, 1, 4, 1, 2, .sh, 255, .ints [(0, 63, 1)], false⟩,  -- Charger.Dab.Line, R428
  ⟨0x5300, 1, 1, 5, 1, 2, .sh, 1, .ints [(1, 1, 1), (2, 2, 1)], false⟩,  -- Charger.Dab.Samples, R428
  ⟨0x5300, 1, 1, 6, 1, 4, .sh, 0x40000000, .all, false⟩,  -- Charger.Dab.SampleOffset, R428
  ⟨0x5300, 1, 1, 7, 1, 2, .sh, 255, .ints [(0, 63, 1)], false⟩,  -- Charger.Dab.LatchLine, R428
  ⟨0x5300, 1, 1, 8, 1, 3, .sh, 100, .ints [(0, 10000, 1)], false⟩,  -- Charger.Dab.DeadTime, R428
  ⟨0x5300, 1, 1, 9, 1, 9, .sh, 0x3E800000, .flt 0x3C23D70A 0x3E800000, false⟩,  -- Charger.Dab.PhiMax, R428
  ⟨0x5300, 1, 1, 10, 2, 2, .sh, 255, .ints [(0, 191, 1)], false⟩,  -- Charger.Dab.Brace, R428
  ⟨0x5301, 1, 1, 1, 1, 3, .sh, 65535, .all, false⟩,  -- Charger.Out.Voltage, R428
  ⟨0x5301, 1, 1, 2, 1, 3, .sh, 65535, .all, false⟩,  -- Charger.Out.Current, R428
  ⟨0x5301, 1, 1, 3, 1, 2, .sh, 255, .ints [(0, 27, 1)], false⟩  -- Charger.Out.Window, R428
  ]

/-- Objects of the domain Charger, part 3. -/
def dictChg2 : List Row := [
  ⟨0x5301, 1, 1, 4, 1, 9, .sh, 0x437A0000, .flt 0x437A0000 0x44660000, false⟩,  -- Charger.Out.VMin, R428
  ⟨0x5301, 1, 1, 5, 1, 9, .sh, 0x44660000, .flt 0x437A0000 0x44660000, false⟩,  -- Charger.Out.VMax, R428
  ⟨0x5302, 1, 1, 0, 1, 9, .ro, 0, .all, false⟩,  -- Charger.Dab.Phase, R428
  ⟨0x5400, 1, 1, 1, 1, 9, .sh, 0x43660000, .flt 0x42C80000 0x43700000, false⟩,  -- Charger.V2l.Voltage, R428
  ⟨0x5400, 1, 1, 2, 1, 2, .sh, 50, .ints [(50, 50, 1), (60, 60, 1)], false⟩,  -- Charger.V2l.Freq, R428
  ⟨0x5400, 1, 1, 3, 1, 2, .sh, 3, .ints [(1, 1, 1), (3, 3, 1)], false⟩,  -- Charger.V2l.Phases, R428
  ⟨0x5400, 1, 1, 4, 1, 9, .rw, 0x41800000, .flt 0x3F800000 0x41800000, false⟩,  -- Charger.V2l.CurrentMax, R428
  ⟨0x5400, 1, 1, 5, 1, 9, .rw, 0x462BE000, .flt 0x42C80000 0x462BE000, false⟩,  -- Charger.V2l.PowerMax, R428
  ⟨0x5400, 1, 1, 6, 1, 3, .sh, 100, .ints [(10, 5000, 1)], false⟩,  -- Charger.V2l.RampTime, R428
  ⟨0x5400, 1, 1, 7, 1, 3, .sh, 2000, .ints [(10, 10000, 1)], false⟩,  -- Charger.V2l.OverloadTime, R428
  ⟨0x5400, 1, 1, 8, 1, 9, .sh, 0x41F00000, .flt 0x41200000 0x42700000, false⟩,  -- Charger.V2l.BackfeedLevel, R428
  ⟨0x5400, 1, 1, 9, 2, 2, .sh, 255, .ints [(0, 191, 1)], false⟩,  -- Charger.V2l.Brace, R428
  ⟨0x5400, 1, 1, 11, 1, 9, .ro, 0, .all, true⟩,  -- Charger.V2l.Vd, R428
  ⟨0x5010, 1, 1, 1, 4, 3, .sh, 65535, .all, false⟩,  -- Charger.Derate.Channel, R427
  ⟨0x5011, 1, 1, 1, 4, 9, .sh, 0x43160000, .all, false⟩,  -- Charger.Derate.Start, R427
  ⟨0x5012, 1, 1, 1, 4, 9, .sh, 0x432A0000, .all, false⟩,  -- Charger.Derate.End, R427
  ⟨0x5013, 1, 1, 1, 4, 2, .sh, 6, .ints [(1, 24, 1)], false⟩,  -- Charger.Derate.Class, R427
  ⟨0x5014, 1, 1, 0, 1, 9, .rw, 0x3F000000, .flt 0x00000000 0x3F800000, false⟩,  -- Charger.Derate.FaultFactor, R427
  ⟨0x5015, 1, 1, 0, 1, 9, .rw, 0x3F000000, .flt 0x00000000 0x3F800000, false⟩,  -- Charger.Derate.Fallback, R427
  ⟨0x5016, 1, 1, 0, 1, 9, .rw, 0x3F800000, .flt 0x00000000 0x3F800000, false⟩,  -- Charger.Derate.Host, R427
  ⟨0x5017, 1, 1, 0, 1, 9, .ro, 0x3F800000, .all, true⟩,  -- Charger.Derate.Factor, R427
  ⟨0x5018, 1, 1, 1, 4, 9, .ro, 0x3F800000, .all, false⟩  -- Charger.Derate.Input, R427
  ]

/-- Objects of the domain Charger. -/
def dictChg : List Row := dictChg0 ++ dictChg1 ++ dictChg2

/-- Objects of the domain Converter and power budget, part 1. -/
def dictCnv0 : List Row := [
  ⟨0x5800, 1, 1, 0, 1, 2, .ro, 0, .all, false⟩,  -- Converter.State, R49
  ⟨0x5801, 1, 1, 0, 1, 2, .wo, 0, .ints [(1, 4, 1)], false⟩,  -- Converter.Command, R49
  ⟨0x5802, 1, 1, 0, 1, 3, .ro, 0, .all, false⟩,  -- Converter.Status, R440
  ⟨0x5803, 1, 1, 1, 1, 2, .rw, 0, .ints [(0, 0, 1), (1, 1, 1)], false⟩,  -- Converter.Mode, R440
  ⟨0x5803, 1, 1, 2, 1, 9, .rw, 0x41600000, .flt 0x41000000 0x42580000, true⟩,  -- Converter.Vout, R440
  ⟨0x5803, 1, 1, 3, 1, 9, .rw, 0x3F800000, .flt 0x3C23D70A 0x42C80000, false⟩,  -- Converter.VSlew, R440
  ⟨0x5803, 1, 1, 4, 1, 9, .rw, 0x43B40000, .flt 0x3F800000 0x43D20000, false⟩,  -- Converter.Limit.Current, R440
  ⟨0x5803, 1, 1, 5, 1, 9, .rw, 0x459C4000, .flt 0x42C80000 0x459C4000, false⟩,  -- Converter.Limit.Power, R440
  ⟨0x5803, 1, 1, 6, 1, 9, .ro, 0, .all, true⟩,  -- Converter.Limit.Grant, R440
  ⟨0x5803, 1, 1, 7, 1, 9, .sh, 0x3F70A3D7, .flt 0x3F4CCCCD 0x3F800000, false⟩,  -- Converter.Efficiency, R440
  ⟨0x5803, 1, 1, 8, 1, 9, .sh, 0x437A0000, .flt 0x42C80000 0x44610000, false⟩,  -- Converter.LinkMin, R440
  ⟨0x5804, 1, 1, 1, 1, 9, .rw, 0, .flt 0x00000000 0x44660000, false⟩,  -- Converter.Pre.Target, R440
  ⟨0x5804, 1, 1, 2, 1, 9, .rw, 0x44160000, .flt 0x42480000 0x44160000, false⟩,  -- Converter.Pre.Power, R440
  ⟨0x5804, 1, 1, 3, 1, 9, .rw, 0x3F000000, .flt 0x3C23D70A 0x41200000, false⟩,  -- Converter.Pre.Slew, R440
  ⟨0x5804, 1, 1, 4, 1, 3, .rw, 3000, .ints [(100, 30000, 1)], false⟩,  -- Converter.Pre.Timeout, R440
  ⟨0x5804, 1, 1, 5, 1, 3, .rw, 2000, .ints [(0, 60000, 1)], false⟩,  -- Converter.Pre.HoldTime, R440
  ⟨0x5805, 1, 1, 1, 5, 9, .ro, 0, .all, true⟩,  -- Converter.Ref, R440
  ⟨0x5805, 1, 1, 6, 1, 9, .ro, 0, .all, true⟩,  -- Converter.Power, R440
  ⟨0x5900, 1, 1, 1, 1, 2, .sh, 255, .ints [(0, 92, 2)], false⟩,  -- Converter.Dcx.FirstLane, R441
  ⟨0x5900, 1, 1, 2, 1, 9, .rw, 0x48927C00, .flt 0x47C35000 0x48F42400, false⟩,  -- Converter.Dcx.Fsw, R441
  ⟨0x5900, 1, 1, 3, 1, 9, .sh, 0x48F42400, .flt 0x47C35000 0x48F42400, false⟩,  -- Converter.Dcx.StartFsw, R441
  ⟨0x5900, 1, 1, 4, 1, 3, .sh, 20, .ints [(1, 1000, 1)], false⟩,  -- Converter.Dcx.SoftStart, R441
  ⟨0x5900, 1, 1, 5, 1, 9, .sh, 0x41800000, .flt 0x3F800000 0x42C80000, false⟩,  -- Converter.Dcx.Ratio, R441
  ⟨0x5900, 1, 1, 6, 1, 3, .sh, 150, .ints [(0, 10000, 1)], false⟩,  -- Converter.Dcx.DeadTime, R441
  ⟨0x5901, 1, 1, 1, 1, 2, .sh, 255, .ints [(0, 88, 2)], false⟩,  -- Converter.Buck.FirstLane, R441
  ⟨0x5901, 1, 1, 2, 1, 2, .sh, 1, .ints [(1, 1, 1), (2, 2, 1)], false⟩,  -- Converter.Buck.Cells, R441
  ⟨0x5901, 1, 1, 3, 1, 9, .sh, 0x47435000, .flt 0x469C4000 0x48742400, false⟩,  -- Converter.Buck.Fsw, R441
  ⟨0x5901, 1, 1, 4, 1, 9, .sh, 0x3F733333, .flt 0x3F000000 0x3F7D70A4, false⟩,  -- Converter.Buck.DMax, R441
  ⟨0x5901, 1, 1, 5, 1, 3, .sh, 100, .ints [(0, 10000, 1)], false⟩,  -- Converter.Buck.DeadTime, R441
  ⟨0x5901, 1, 1, 6, 1, 2, .sh, 255, .ints [(0, 63, 1)], false⟩,  -- Converter.Buck.Line, R441
  ⟨0x5901, 1, 1, 7, 1, 2, .sh, 1, .ints [(1, 1, 1), (2, 2, 1)], false⟩,  -- Converter.Buck.Samples, R441
  ⟨0x5901, 1, 1, 8, 1, 2, .sh, 255, .ints [(0, 63, 1)], false⟩,  -- Converter.Buck.LatchLine, R441
  ⟨0x5901, 1, 1, 9, 1, 2, .sh, 255, .ints [(22, 27, 1)], false⟩,  -- Converter.Buck.Unit, R441
  ⟨0x5902, 1, 1, 1, 3, 2, .sh, 255, .ints [(0, 31, 1)], false⟩,  -- Converter.Loop, R441
  ⟨0x5902, 1, 1, 4, 2, 2, .sh, 255, .ints [(0, 191, 1)], false⟩,  -- Converter.Brace, R441
  ⟨0x5903, 1, 1, 1, 3, 3, .sh, 65535, .all, false⟩,  -- Converter.Chan, R441
  ⟨0x5903, 1, 1, 4, 1, 2, .sh, 255, .ints [(0, 27, 1)], false⟩,  -- Converter.Out.Window, R441
  ⟨0x5A00, 1, 1, 1, 1, 9, .rw, 0, .flt 0x00000000 0x48F42400, true⟩,  -- Axle.Bms.Discharge, R444
  ⟨0x5A00, 1, 1, 2, 1, 9, .rw, 0, .flt 0x00000000 0x48F42400, true⟩,  -- Axle.Bms.Charge, R444
  ⟨0x5A00, 1, 1, 3, 1, 3, .rw, 100, .ints [(10, 1000, 1)], false⟩  -- Axle.Bms.Hold, R444
  ]

/-- Objects of the domain Converter and power budget, part 2. -/
def dictCnv1 : List Row := [
  ⟨0x5A00, 1, 1, 4, 1, 9, .rw, 0x43FA0000, .flt 0x00000000 0x44FA0000, false⟩,  -- Axle.PumpReserve, R444
  ⟨0x5A00, 1, 1, 5, 1, 9, .rw, 0x3F000000, .flt 0x00000000 0x3F800000, false⟩,  -- Axle.Split, R444
  ⟨0x5A00, 1, 1, 6, 1, 9, .rw, 0x42C80000, .flt 0x3F800000 0x461C4000, false⟩,  -- Axle.GrantSlew, R444
  ⟨0x5A00, 1, 1, 7, 1, 2, .rw, 5, .ints [(1, 5, 1)], false⟩,  -- Axle.Ov1Ramp, R444
  ⟨0x5A01, 1, 1, 1, 4, 9, .ro, 0, .all, false⟩,  -- Axle.Demand, R444
  ⟨0x5A02, 1, 1, 0, 1, 2, .ro, 0, .all, false⟩  -- Axle.Status, R444
  ]

/-- Objects of the domain Converter and power budget. -/
def dictCnv : List Row := dictCnv0 ++ dictCnv1

/-- Objects of the domain Actuators, part 1. -/
def dictAct0 : List Row := [
  ⟨0x5C00, 1, 1, 0, 1, 2, .ro, 0, .all, false⟩,  -- Actuators.Pump.State, R49
  ⟨0x5C01, 1, 1, 0, 1, 2, .wo, 0, .ints [(1, 4, 1)], false⟩,  -- Actuators.Pump.Command, R49
  ⟨0x5C10, 1, 1, 0, 1, 2, .ro, 0, .all, false⟩,  -- Actuators.ParkLock.State, R49
  ⟨0x5C11, 1, 1, 0, 1, 2, .wo, 0, .ints [(1, 4, 1)], false⟩,  -- Actuators.ParkLock.Command, R49
  ⟨0x5C20, 1, 1, 0, 1, 2, .ro, 0, .all, false⟩,  -- Actuators.Clutch.State, R49
  ⟨0x5C21, 1, 1, 0, 1, 2, .wo, 0, .ints [(1, 4, 1)], false⟩,  -- Actuators.Clutch.Command, R49
  ⟨0x5C02, 1, 1, 0, 1, 2, .ro, 0, .all, false⟩,  -- Actuators.Pump.Status, R473
  ⟨0x5C03, 1, 1, 1, 1, 2, .sh, 4, .ints [(1, 16, 1)], false⟩,  -- Actuators.Pump.PolePairs, R473
  ⟨0x5C03, 1, 1, 2, 1, 3, .sh, 65535, .all, false⟩,  -- Actuators.Pump.TempChannel, R473
  ⟨0x5C03, 1, 1, 3, 1, 9, .rw, 0xC1200000, .flt 0xC2200000 0x43160000, false⟩,  -- Actuators.Pump.OnTemp, R473
  ⟨0x5C03, 1, 1, 4, 1, 9, .rw, 0x40A00000, .flt 0x00000000 0x41F00000, false⟩,  -- Actuators.Pump.Hyst, R473
  ⟨0x5C03, 1, 1, 5, 1, 9, .rw, 0x43FA0000, .flt 0x00000000 0x466A6000, false⟩,  -- Actuators.Pump.MinSpeed, R473
  ⟨0x5C03, 1, 1, 6, 1, 9, .rw, 0, .flt 0x00000000 0x466A6000, false⟩,  -- Actuators.Pump.Boost, R473
  ⟨0x5C03, 1, 1, 7, 1, 9, .rw, 0x453B8000, .flt 0x00000000 0x466A6000, false⟩,  -- Actuators.Pump.FallbackSpeed, R473
  ⟨0x5C03, 1, 1, 8, 1, 9, .sh, 0x45BB8000, .flt 0x42C80000 0x466A6000, false⟩,  -- Actuators.Pump.MaxSpeed, R473
  ⟨0x5C03, 1, 1, 9, 1, 3, .sh, 2000, .ints [(100, 2000, 1)], false⟩,  -- Actuators.Pump.BrakeTime, R473
  ⟨0x5C03, 1, 1, 10, 1, 2, .sh, 255, .ints [(0, 191, 1)], false⟩,  -- Actuators.Pump.Brace, R473
  ⟨0x5C03, 1, 1, 11, 1, 2, .sh, 255, .ints [(0, 31, 1)], false⟩,  -- Actuators.Pump.Loop, R473
  ⟨0x5C03, 1, 1, 12, 1, 2, .sh, 2, .ints [(2, 16, 1)], false⟩,  -- Actuators.Pump.CurveCount, R473
  ⟨0x5C04, 1, 1, 1, 1, 9, .sh, 0xC1200000, .all, false⟩,  -- Actuators.Pump.CurveTemp, R473
  ⟨0x5C04, 1, 1, 2, 1, 9, .sh, 0x42F00000, .all, false⟩,  -- Actuators.Pump.CurveTemp, R473
  ⟨0x5C04, 1, 1, 3, 14, 9, .sh, 0, .all, false⟩,  -- Actuators.Pump.CurveTemp, R473
  ⟨0x5C05, 1, 1, 1, 1, 9, .sh, 0x43FA0000, .all, false⟩,  -- Actuators.Pump.CurveSpeed, R473
  ⟨0x5C05, 1, 1, 2, 1, 9, .sh, 0x45BB8000, .all, false⟩,  -- Actuators.Pump.CurveSpeed, R473
  ⟨0x5C05, 1, 1, 3, 14, 9, .sh, 0, .all, false⟩,  -- Actuators.Pump.CurveSpeed, R473
  ⟨0x5C06, 1, 1, 0, 1, 7, .ro, 0, .all, true⟩,  -- Actuators.Pump.SpeedRef, R473
  ⟨0x5C07, 1, 1, 0, 1, 9, .ro, 0, .all, false⟩,  -- Actuators.Pump.Speed, R473
  ⟨0x5C12, 1, 1, 0, 1, 2, .ro, 0, .all, false⟩,  -- Actuators.ParkLock.Status, R478
  ⟨0x5C13, 1, 1, 1, 1, 2, .wo, 0, .ints [(1, 1, 1), (2, 2, 1)], false⟩,  -- Actuators.ParkLock.Request, R478
  ⟨0x5C13, 1, 1, 2, 1, 3, .sh, 65535, .all, false⟩,  -- Actuators.ParkLock.PosChannel, R478
  ⟨0x5C13, 1, 1, 3, 1, 9, .sh, 0xC0A00000, .flt 0xC1A00000 0x42F00000, false⟩,  -- Actuators.ParkLock.RelMin, R478
  ⟨0x5C13, 1, 1, 4, 1, 9, .sh, 0x40A00000, .flt 0xC1A00000 0x42F00000, false⟩,  -- Actuators.ParkLock.RelMax, R478
  ⟨0x5C13, 1, 1, 5, 1, 9, .sh, 0x42BE0000, .flt 0xC1A00000 0x42F00000, false⟩,  -- Actuators.ParkLock.EngMin, R478
  ⟨0x5C13, 1, 1, 6, 1, 9, .sh, 0x42D20000, .flt 0xC1A00000 0x42F00000, false⟩,  -- Actuators.ParkLock.EngMax, R478
  ⟨0x5C13, 1, 1, 7, 1, 9, .sh, 0x42700000, .flt 0x00000000 0x42C80000, false⟩,  -- Actuators.ParkLock.ToothLevel, R478
  ⟨0x5C13, 1, 1, 8, 1, 9, .rw, 0x3F19999A, .flt 0x3D4CCCCD 0x3F800000, false⟩,  -- Actuators.ParkLock.Duty, R478
  ⟨0x5C13, 1, 1, 9, 1, 2, .sh, 0, .ints [(0, 0, 1), (1, 1, 1)], false⟩,  -- Actuators.ParkLock.EngageDir, R478
  ⟨0x5C13, 1, 1, 10, 1, 3, .sh, 400, .ints [(50, 5000, 1)], false⟩,  -- Actuators.ParkLock.TravelTime, R478
  ⟨0x5C14, 1, 1, 1, 1, 9, .tk, 0x40000000, .flt 0x3F000000 0x41200000, false⟩,  -- Actuators.ParkLock.SpeedLimit, R478
  ⟨0x5C14, 1, 1, 2, 1, 9, .tk, 0, .flt 0x00000000 0x3DCCCCCD, false⟩  -- Actuators.ParkLock.KmhPerRpmA, R478
  ]

/-- Objects of the domain Actuators, part 2. -/
def dictAct1 : List Row := [
  ⟨0x5C14, 1, 1, 3, 1, 9, .tk, 0, .flt 0x00000000 0x3DCCCCCD, false⟩,  -- Actuators.ParkLock.KmhPerRpmB, R478
  ⟨0x5C14, 1, 1, 4, 1, 7, .ro, 0, .all, false⟩,  -- Actuators.ParkLock.RateLimitA, R478
  ⟨0x5C14, 1, 1, 5, 1, 7, .ro, 0, .all, false⟩,  -- Actuators.ParkLock.RateLimitB, R478
  ⟨0x5C15, 1, 1, 0, 1, 9, .ro, 0, .all, false⟩,  -- Actuators.ParkLock.Speed, R478
  ⟨0x5C22, 1, 1, 0, 1, 2, .ro, 0, .all, false⟩,  -- Actuators.Clutch.Status, R484
  ⟨0x5C23, 1, 1, 1, 1, 2, .wo, 0, .ints [(1, 1, 1), (2, 2, 1)], false⟩,  -- Actuators.Clutch.Request, R484
  ⟨0x5C23, 1, 1, 2, 1, 3, .sh, 65535, .all, false⟩,  -- Actuators.Clutch.PosChannel, R484
  ⟨0x5C23, 1, 1, 3, 1, 9, .sh, 0xC0A00000, .flt 0xC1A00000 0x42F00000, false⟩,  -- Actuators.Clutch.OpenMin, R484
  ⟨0x5C23, 1, 1, 4, 1, 9, .sh, 0x40A00000, .flt 0xC1A00000 0x42F00000, false⟩,  -- Actuators.Clutch.OpenMax, R484
  ⟨0x5C23, 1, 1, 5, 1, 9, .sh, 0x42BE0000, .flt 0xC1A00000 0x42F00000, false⟩,  -- Actuators.Clutch.ClosedMin, R484
  ⟨0x5C23, 1, 1, 6, 1, 9, .sh, 0x42D20000, .flt 0xC1A00000 0x42F00000, false⟩,  -- Actuators.Clutch.ClosedMax, R484
  ⟨0x5C23, 1, 1, 7, 1, 9, .rw, 0x3F19999A, .flt 0x3D4CCCCD 0x3F800000, false⟩,  -- Actuators.Clutch.Duty, R484
  ⟨0x5C23, 1, 1, 8, 1, 2, .sh, 0, .ints [(0, 0, 1), (1, 1, 1)], false⟩,  -- Actuators.Clutch.CloseDir, R484
  ⟨0x5C23, 1, 1, 9, 1, 3, .sh, 300, .ints [(50, 5000, 1)], false⟩,  -- Actuators.Clutch.TravelTime, R484
  ⟨0x5C24, 1, 1, 1, 1, 2, .sh, 1, .ints [(1, 1, 1), (7, 7, 1)], false⟩,  -- Actuators.Clutch.ShaftRod, R484
  ⟨0x5C24, 1, 1, 2, 1, 9, .sh, 0x3F800000, .flt 0x3DCCCCCD 0x41200000, false⟩,  -- Actuators.Clutch.Ratio, R484
  ⟨0x5C24, 1, 1, 3, 1, 9, .rw, 0x41F00000, .flt 0x3F800000 0x43FA0000, false⟩,  -- Actuators.Clutch.MatchBand, R484
  ⟨0x5C24, 1, 1, 4, 1, 3, .rw, 20, .ints [(1, 1000, 1)], false⟩,  -- Actuators.Clutch.MatchTime, R484
  ⟨0x5C24, 1, 1, 5, 1, 9, .rw, 0x3F000000, .flt 0x3A83126F 0x41200000, false⟩,  -- Actuators.Clutch.SyncGain, R484
  ⟨0x5C24, 1, 1, 6, 1, 9, .rw, 0x42200000, .flt 0x3F800000 0x43FA0000, false⟩,  -- Actuators.Clutch.SyncTorque, R484
  ⟨0x5C24, 1, 1, 7, 1, 9, .rw, 0x40A00000, .flt 0x00000000 0x42C80000, false⟩,  -- Actuators.Clutch.CloseTorque, R484
  ⟨0x5C24, 1, 1, 8, 1, 9, .rw, 0x40000000, .flt 0x00000000 0x42480000, false⟩,  -- Actuators.Clutch.UnloadTorque, R484
  ⟨0x5C24, 1, 1, 9, 1, 3, .rw, 2000, .ints [(100, 10000, 1)], false⟩,  -- Actuators.Clutch.SyncTimeout, R484
  ⟨0x5C24, 1, 1, 10, 1, 2, .rw, 3, .ints [(0, 10, 1)], false⟩,  -- Actuators.Clutch.Retries, R484
  ⟨0x5C25, 1, 1, 1, 1, 9, .ro, 0, .all, false⟩,  -- Actuators.Clutch.Slip, R484
  ⟨0x5C25, 1, 1, 2, 1, 2, .ro, 0, .all, false⟩,  -- Actuators.Clutch.RetryCount, R484
  ⟨0x5D00, 0x40, 3, 1, 1, 4, .sh, 25000, .ints [(25000, 100000, 5)], false⟩,  -- Actuators.Act.Period, R485
  ⟨0x5D00, 0x40, 3, 2, 1, 4, .sh, 0, .ints [(0, 99995, 5)], false⟩,  -- Actuators.Act.PhaseOffset, R485
  ⟨0x5D00, 0x40, 3, 3, 1, 3, .sh, 200, .ints [(100, 5000, 1)], false⟩,  -- Actuators.Act.DeadTime, R485
  ⟨0x5D00, 0x40, 3, 4, 1, 2, .sh, 0, .ints [(0, 5, 1)], false⟩,  -- Actuators.Act.CommShift, R485
  ⟨0x5D00, 0x40, 3, 5, 1, 2, .sh, 20, .ints [(10, 10, 1), (20, 20, 1), (50, 50, 1)], false⟩,  -- Actuators.Act.IsGain, R485
  ⟨0x5D00, 0x40, 3, 6, 1, 9, .sh, 0x3B03126F, .flt 0x3A03126F 0x3DCCCCCD, false⟩,  -- Actuators.Act.Shunt, R485
  ⟨0x5D00, 0x40, 3, 7, 1, 9, .rw, 0x41A00000, .flt 0x3F000000 0x43480000, false⟩,  -- Actuators.Act.ILimit, R485
  ⟨0x5D00, 0x40, 3, 8, 1, 9, .sh, 0x41F00000, .flt 0x3F800000 0x437A0000, false⟩,  -- Actuators.Act.ITrip, R485
  ⟨0x5D00, 0x40, 3, 9, 1, 3, .sh, 500, .ints [(100, 5000, 1)], false⟩,  -- Actuators.Act.IBlank, R485
  ⟨0x5D00, 0x40, 3, 10, 1, 3, .sh, 200, .ints [(20, 500, 1)], false⟩,  -- Actuators.Act.RefreshInterval, R485
  ⟨0x5D00, 0x40, 3, 11, 1, 3, .sh, 2000, .ints [(500, 20000, 1)], false⟩,  -- Actuators.Act.RefreshPulse, R485
  ⟨0x5D00, 0x40, 3, 12, 1, 2, .sh, 255, .ints [(116, 127, 1)], false⟩,  -- Actuators.Act.PeriodLane, R485
  ⟨0x5D01, 0x40, 3, 1, 1, 3, .ro, 1792, .all, false⟩,  -- Actuators.Act.Status, R485
  ⟨0x5D01, 0x40, 3, 2, 1, 9, .ro, 0, .all, true⟩  -- Actuators.Act.Duty, R485
  ]

/-- Objects of the domain Actuators, part 3. -/
def dictAct2 : List Row := [
  ⟨0x5D01, 0x40, 3, 3, 1, 4, .ro, 0, .all, false⟩,  -- Actuators.Act.Refreshes, R485
  ⟨0x5D01, 0x40, 3, 4, 1, 4, .ro, 0, .all, false⟩,  -- Actuators.Act.LimitCycles, R485
  ⟨0x5E00, 1, 1, 1, 1, 1, .ro, 1, .all, false⟩,  -- Actuators.Lockout.Active, R486
  ⟨0x5E00, 1, 1, 2, 1, 4, .ro, 0, .all, false⟩,  -- Actuators.Lockout.Events, R486
  ⟨0x5E00, 1, 1, 3, 1, 5, .ro, 0, .all, false⟩  -- Actuators.Lockout.Last, R486
  ]

/-- Objects of the domain Actuators. -/
def dictAct : List Row := dictAct0 ++ dictAct1 ++ dictAct2

/-- Objects of the domain Safety, part 1. -/
def dictSaf0 : List Row := [
  ⟨0x6040, 1, 1, 1, 1, 2, .ro, 0, .all, false⟩,  -- Safety.Wb.Open, R507
  ⟨0x6040, 1, 1, 2, 1, 3, .tk, 47311, .ints [(1024, 65535, 1)], false⟩,  -- Safety.Wb.UdpPort, R507
  ⟨0x6040, 1, 1, 3, 1, 4, .ro, 0, .all, false⟩,  -- Safety.Wb.FormFails, R507
  ⟨0x6040, 1, 1, 4, 1, 4, .ro, 0, .all, false⟩,  -- Safety.Wb.SeqFails, R507
  ⟨0x6040, 1, 1, 5, 1, 4, .ro, 0, .all, false⟩,  -- Safety.Wb.Refused, R507
  ⟨0x6040, 1, 1, 6, 1, 2, .wo, 0, .ints [(0, 31, 1)], false⟩,  -- Safety.Wb.Connect, R507
  ⟨0x6041, 1, 1, 1, 24, 2, .ro, 255, .all, false⟩,  -- Safety.Wb.SlotProfile, R507
  ⟨0x6080, 8, 32, 1, 1, 1, .tk, 0, .all, false⟩,  -- Safety.Wb.Enable, R508
  ⟨0x6080, 8, 32, 2, 1, 2, .tk, 0, .ints [(0, 0, 1), (1, 1, 1), (2, 2, 1)], false⟩,  -- Safety.Wb.Transport, R508
  ⟨0x6080, 8, 32, 3, 1, 5, .tk, 0, .all, false⟩,  -- Safety.Wb.Peer, R508
  ⟨0x6080, 8, 32, 4, 1, 4, .tk, 0, .ints [(1, 4294967295, 1)], false⟩,  -- Safety.Wb.Code, R508
  ⟨0x6080, 8, 32, 5, 1, 3, .tk, 20, .ints [(1, 1000, 1)], false⟩,  -- Safety.Wb.Watchdog, R508
  ⟨0x6080, 8, 32, 6, 1, 2, .tk, 0, .ints [(0, 127, 1)], false⟩,  -- Safety.Wb.Functions, R508
  ⟨0x6080, 8, 32, 7, 1, 2, .tk, 4, .ints [(3, 3, 1), (4, 4, 1)], false⟩,  -- Safety.Wb.LossLevel, R508
  ⟨0x6080, 8, 32, 8, 1, 2, .tk, 0, .ints [(0, 31, 1)], false⟩,  -- Safety.Wb.Rights, R508
  ⟨0x6080, 8, 32, 9, 1, 1, .tk, 0, .all, false⟩,  -- Safety.Wb.Initiate, R508
  ⟨0x6081, 8, 32, 1, 1, 2, .ro, 0, .all, false⟩,  -- Safety.Wb.State, R508
  ⟨0x6081, 8, 32, 2, 1, 3, .ro, 0, .all, false⟩,  -- Safety.Wb.RxSeq, R508
  ⟨0x6081, 8, 32, 3, 1, 3, .ro, 0, .all, false⟩,  -- Safety.Wb.TxSeq, R508
  ⟨0x6081, 8, 32, 4, 1, 5, .ro, 0, .all, false⟩,  -- Safety.Wb.LastRx, R508
  ⟨0x6081, 8, 32, 5, 1, 2, .ro, 255, .all, false⟩,  -- Safety.Wb.Slot, R508
  ⟨0x6200, 1, 1, 1, 11, 4, .ro, 0, .all, false⟩,  -- Safety.Seal.Crc, R512
  ⟨0x6201, 1, 1, 1, 11, 2, .ro, 0, .all, false⟩,  -- Safety.Seal.State, R512
  ⟨0x6202, 1, 1, 1, 11, 12, .tk, 0, .all, false⟩,  -- Safety.Seal.Stage, R512
  ⟨0x6000, 1, 1, 0, 1, 3, .ro, 0, .all, false⟩,  -- Safety.Status, R520
  ⟨0x6001, 1, 1, 1, 1, 2, .wo, 0, .ints [(1, 1, 1), (2, 2, 1), (3, 3, 1), (4, 4, 1)], false⟩,  -- Safety.Tk.Command, R520
  ⟨0x6001, 1, 1, 2, 1, 2, .ro, 0, .all, false⟩,  -- Safety.Tk.State, R520
  ⟨0x6001, 1, 1, 3, 1, 2, .ro, 255, .all, false⟩,  -- Safety.Tk.Keeper, R520
  ⟨0x6001, 1, 1, 4, 1, 2, .ro, 255, .all, false⟩,  -- Safety.Tk.Witness, R520
  ⟨0x6001, 1, 1, 5, 1, 4, .wo, 0, .all, false⟩,  -- Safety.Tk.Approve, R520
  ⟨0x6001, 1, 1, 6, 1, 3, .tk, 600, .ints [(60, 3600, 1)], false⟩,  -- Safety.Tk.Timeout, R520
  ⟨0x6001, 1, 1, 7, 1, 5, .ro, 0, .all, false⟩,  -- Safety.Tk.Opened, R520
  ⟨0x6001, 1, 1, 8, 1, 12, .ro, 0, .all, false⟩,  -- Safety.Tk.Pending, R520
  ⟨0x6001, 1, 1, 9, 1, 4, .ro, 0, .all, false⟩,  -- Safety.Tk.Result, R520
  ⟨0x6002, 1, 1, 0, 1, 4, .ro, 0, .all, false⟩,  -- Safety.Tk.Proposed, R520
  ⟨0x6003, 1, 1, 0, 1, 4, .ro, 0, .all, false⟩,  -- Safety.Check.Computed, R520
  ⟨0x6004, 1, 1, 0, 1, 4, .ro, 0, .all, false⟩,  -- Safety.Check.Confirmed, R520
  ⟨0x6006, 1, 1, 1, 1, 3, .tk, 3000, .ints [(500, 3000, 1)], false⟩,  -- Safety.Discharge.Time, R520
  ⟨0x6007, 1, 1, 0, 1, 4, .wo, 0, .all, false⟩,  -- Safety.Lockout.Reset, R520
  ⟨0x6008, 1, 1, 0, 1, 4, .ro, 0, .all, false⟩  -- Safety.Lockout.Token, R520
  ]

/-- Objects of the domain Safety. -/
def dictSaf : List Row := dictSaf0

/-- Objects of the domain Tally, part 1. -/
def dictTly0 : List Row := [
  ⟨0x6800, 1, 1, 0, 1, 4, .ro, 0x7000000, .all, false⟩,  -- Tally.Summary, R543
  ⟨0x6801, 1, 1, 0, 1, 12, .ro, 0, .all, false⟩,  -- Tally.Queue, R543
  ⟨0x6802, 1, 1, 0, 1, 4, .ro, 0, .all, false⟩,  -- Tally.Lost, R543
  ⟨0x6803, 1, 1, 0, 1, 4, .ro, 0, .all, false⟩,  -- Tally.Seq, R543
  ⟨0x6810, 1, 1, 0, 1, 3, .wo, 0, .all, false⟩,  -- Tally.Ack, R543
  ⟨0x6811, 1, 1, 0, 1, 2, .rw, 3, .ints [(1, 5, 1)], false⟩,  -- Tally.ErrLevel, R543
  ⟨0x6812, 1, 1, 0, 1, 12, .ro, 0, .all, false⟩,  -- Tally.Record.Current, R543
  ⟨0x6813, 1, 1, 0, 1, 12, .ro, 0, .all, false⟩,  -- Tally.Record.Log, R543
  ⟨0x6881, 1, 24, 1, 8, 4, .ro, 15, .all, false⟩  -- Tally.Key, R543
  ]

/-- Objects of the domain Tally. -/
def dictTly : List Row := dictTly0

/-- Objects of the domain Networks, part 1. -/
def dictNet0 : List Row := [
  ⟨0x6C00, 1, 1, 1, 1, 1, .rw, 1, .all, false⟩,  -- Net.Eth.Enable, R559
  ⟨0x6C00, 1, 1, 2, 1, 5, .rw, 0, .ints [(0, 281474976710655, 1)], false⟩,  -- Net.Eth.MacAddress, R559
  ⟨0x6C00, 1, 1, 3, 1, 4, .rw, 0, .all, false⟩,  -- Net.Eth.Ip, R559
  ⟨0x6C00, 1, 1, 4, 1, 4, .rw, 0xFFFFFF00, .all, false⟩,  -- Net.Eth.Netmask, R559
  ⟨0x6C00, 1, 1, 5, 1, 4, .rw, 0, .all, false⟩,  -- Net.Eth.Gateway, R559
  ⟨0x6C00, 1, 1, 6, 1, 3, .rw, 0, .ints [(0, 4094, 1)], false⟩,  -- Net.Eth.Vid, R559
  ⟨0x6C00, 1, 1, 7, 1, 1, .rw, 1, .all, false⟩,  -- Net.Eth.AcceptUntagged, R559
  ⟨0x6C00, 1, 1, 8, 1, 3, .rw, 25904, .all, false⟩,  -- Net.Eth.Pcp, R559
  ⟨0x6C00, 1, 1, 9, 1, 3, .rw, 0, .ints [(0, 2000, 1)], false⟩,  -- Net.Eth.RxLatency, R559
  ⟨0x6C00, 1, 1, 10, 1, 3, .rw, 0, .ints [(0, 2000, 1)], false⟩,  -- Net.Eth.TxLatency, R559
  ⟨0x6C00, 1, 1, 11, 1, 2, .rw, 0, .ints [(0, 31, 1)], false⟩,  -- Net.Eth.PhyAddress, R559
  ⟨0x6C00, 1, 1, 12, 1, 4, .rw, 274, .all, false⟩,  -- Net.Eth.LinkReg, R559
  ⟨0x6C01, 1, 1, 1, 1, 2, .ro, 0, .all, false⟩,  -- Net.Eth.Link, R559
  ⟨0x6C01, 1, 1, 2, 1, 2, .ro, 0, .all, false⟩,  -- Net.Eth.Speed, R559
  ⟨0x6C01, 1, 1, 3, 1, 4, .ro, 0, .all, false⟩,  -- Net.Eth.RxFrames, R559
  ⟨0x6C01, 1, 1, 4, 1, 4, .ro, 0, .all, false⟩,  -- Net.Eth.TxFrames, R559
  ⟨0x6C01, 1, 1, 5, 1, 4, .ro, 0, .all, false⟩,  -- Net.Eth.FcsErrors, R559
  ⟨0x6C02, 1, 1, 1, 7, 4, .ro, 0, .all, false⟩,  -- Net.Eth.Dropped, R559
  ⟨0x6C03, 1, 1, 0, 1, 5, .wo, 0, .all, false⟩,  -- Net.Eth.Mdio.Command, R559
  ⟨0x6C04, 1, 1, 0, 1, 4, .ro, 0, .all, false⟩,  -- Net.Eth.Mdio.Result, R559
  ⟨0x6C40, 1, 1, 1, 1, 2, .rw, 1, .ints [(0, 0, 1), (1, 1, 1), (2, 2, 1), (3, 3, 1)], false⟩,  -- Net.Time.Source, R563
  ⟨0x6C40, 1, 1, 2, 1, 3, .rw, 100, .ints [(1, 200, 1)], false⟩,  -- Net.Time.MaxPpm, R563
  ⟨0x6C40, 1, 1, 3, 1, 4, .rw, 0x186A0, .ints [(1000, 1000000000, 1)], false⟩,  -- Net.Time.StepLimit, R563
  ⟨0x6C40, 1, 1, 4, 1, 4, .rw, 1000, .ints [(10, 1000000, 1)], false⟩,  -- Net.Time.LockLimit, R563
  ⟨0x6C40, 1, 1, 5, 1, 2, .ro, 0, .all, false⟩,  -- Net.Time.State, R563
  ⟨0x6C40, 1, 1, 6, 1, 8, .ro, 0, .all, false⟩,  -- Net.Time.Offset, R563
  ⟨0x6C40, 1, 1, 7, 1, 7, .ro, 0, .all, false⟩,  -- Net.Time.Error, R563
  ⟨0x6C40, 1, 1, 8, 1, 7, .ro, 0, .all, false⟩,  -- Net.Time.Correction, R563
  ⟨0x6C40, 1, 1, 9, 1, 4, .ro, 0, .all, false⟩,  -- Net.Time.Steps, R563
  ⟨0x6C41, 1, 1, 1, 1, 2, .rw, 0, .ints [(0, 127, 1)], false⟩,  -- Net.Ptp.Domain, R563
  ⟨0x6C41, 1, 1, 2, 1, 6, .rw, 0, .ints [(-3, 3, 1)], false⟩,  -- Net.Ptp.PdelayInterval, R563
  ⟨0x6C41, 1, 1, 3, 1, 4, .rw, 800, .ints [(10, 100000, 1)], false⟩,  -- Net.Ptp.DelayThresh, R563
  ⟨0x6C41, 1, 1, 4, 1, 2, .ro, 0, .all, false⟩,  -- Net.Ptp.State, R563
  ⟨0x6C41, 1, 1, 5, 1, 4, .ro, 0, .all, false⟩,  -- Net.Ptp.LinkDelay, R563
  ⟨0x6C41, 1, 1, 6, 1, 9, .ro, 0x3F800000, .all, false⟩,  -- Net.Ptp.RateRatio, R563
  ⟨0x6C41, 1, 1, 7, 1, 5, .ro, 0, .all, false⟩,  -- Net.Ptp.Grandmaster, R563
  ⟨0x6D00, 0x80, 2, 1, 1, 2, .rw, 1, .ints [(0, 3, 1)], false⟩,  -- Net.Can.Mode, R579
  ⟨0x6D00, 0x80, 2, 2, 1, 3, .rw, 500, .ints [(125, 1000, 1)], false⟩,  -- Net.Can.NomRate, R579
  ⟨0x6D00, 0x80, 2, 3, 1, 3, .rw, 800, .ints [(500, 900, 1)], false⟩,  -- Net.Can.NomSample, R579
  ⟨0x6D00, 0x80, 2, 4, 1, 3, .rw, 2000, .ints [(0, 0, 1), (1000, 8000, 1)], false⟩  -- Net.Can.DataRate, R579
  ]

/-- Objects of the domain Networks, part 2. -/
def dictNet1 : List Row := [
  ⟨0x6D00, 0x80, 2, 5, 1, 3, .rw, 700, .ints [(500, 900, 1)], false⟩,  -- Net.Can.DataSample, R579
  ⟨0x6D00, 0x80, 2, 6, 1, 3, .rw, 0, .ints [(0, 0, 1), (1000, 10000, 1)], false⟩,  -- Net.Can.XlRate, R579
  ⟨0x6D00, 0x80, 2, 7, 1, 3, .rw, 700, .ints [(500, 900, 1)], false⟩,  -- Net.Can.XlSample, R579
  ⟨0x6D00, 0x80, 2, 8, 1, 1, .rw, 0, .all, false⟩,  -- Net.Can.XlTms, R579
  ⟨0x6D00, 0x80, 2, 9, 1, 2, .rw, 0, .ints [(0, 0, 1), (1, 1, 1)], false⟩,  -- Net.Can.TxFormat, R579
  ⟨0x6D00, 0x80, 2, 10, 1, 4, .rw, 0, .all, false⟩,  -- Net.Can.XlFields, R579
  ⟨0x6D01, 0x80, 2, 1, 1, 1, .rw, 0, .all, false⟩,  -- Net.Can.RefMaster, R579
  ⟨0x6D01, 0x80, 2, 2, 1, 3, .rw, 16, .ints [(0, 2047, 1)], false⟩,  -- Net.Can.RefId, R579
  ⟨0x6D01, 0x80, 2, 3, 1, 3, .rw, 10, .ints [(1, 100, 1)], false⟩,  -- Net.Can.RefCycle, R579
  ⟨0x6D01, 0x80, 2, 4, 1, 4, .ro, 0, .all, false⟩,  -- Net.Can.RefLate, R579
  ⟨0x6D02, 0x80, 2, 1, 1, 4, .rw, 0x1F407D0, .all, false⟩,  -- Net.Can.Detect.Candidate, R579
  ⟨0x6D02, 0x80, 2, 2, 1, 4, .rw, 0x1F40000, .all, false⟩,  -- Net.Can.Detect.Candidate, R579
  ⟨0x6D02, 0x80, 2, 3, 1, 4, .rw, 0x3E80000, .all, false⟩,  -- Net.Can.Detect.Candidate, R579
  ⟨0x6D02, 0x80, 2, 4, 1, 4, .rw, 0xFA0000, .all, false⟩,  -- Net.Can.Detect.Candidate, R579
  ⟨0x6D02, 0x80, 2, 5, 1, 4, .rw, 0x7D0000, .all, false⟩,  -- Net.Can.Detect.Candidate, R579
  ⟨0x6D02, 0x80, 2, 6, 3, 4, .rw, 0, .all, false⟩,  -- Net.Can.Detect.Candidate, R579
  ⟨0x6D02, 0x80, 2, 9, 1, 2, .rw, 3, .ints [(1, 16, 1)], false⟩,  -- Net.Can.Detect.Frames, R579
  ⟨0x6D02, 0x80, 2, 10, 1, 3, .rw, 200, .ints [(10, 10000, 1)], false⟩,  -- Net.Can.Detect.Dwell, R579
  ⟨0x6D02, 0x80, 2, 11, 1, 3, .rw, 10000, .ints [(100, 60000, 1)], false⟩,  -- Net.Can.Detect.Timeout, R579
  ⟨0x6D02, 0x80, 2, 12, 1, 1, .rw, 1, .all, false⟩,  -- Net.Can.Detect.Join, R579
  ⟨0x6D02, 0x80, 2, 13, 1, 2, .ro, 0, .all, false⟩,  -- Net.Can.Detect.Result, R579
  ⟨0x6D02, 0x80, 2, 14, 1, 2, .ro, 0, .all, false⟩,  -- Net.Can.Detect.Found, R579
  ⟨0x6D03, 0x80, 2, 1, 4, 5, .rw, 0, .all, false⟩,  -- Net.Can.Hpf.Filter, R579
  ⟨0x6D04, 0x80, 2, 1, 4, 4, .ro, 0, .all, false⟩,  -- Net.Can.Hpf.Count, R579
  ⟨0x6D05, 0x80, 2, 1, 4, 4, .ro, 0, .all, false⟩,  -- Net.Can.Hpf.Overwrites, R579
  ⟨0x6D06, 0x80, 2, 1, 4, 12, .ro, 0, .all, false⟩,  -- Net.Can.Hpf.Frame, R579
  ⟨0x6D07, 0x80, 2, 1, 1, 2, .ro, 0, .all, false⟩,  -- Net.Can.Status, R579
  ⟨0x6D07, 0x80, 2, 2, 1, 2, .ro, 0, .all, false⟩,  -- Net.Can.Tec, R579
  ⟨0x6D07, 0x80, 2, 3, 1, 2, .ro, 0, .all, false⟩,  -- Net.Can.Rec, R579
  ⟨0x6D07, 0x80, 2, 4, 1, 4, .ro, 0, .all, false⟩,  -- Net.Can.BusOffs, R579
  ⟨0x6D07, 0x80, 2, 5, 1, 4, .ro, 0, .all, false⟩,  -- Net.Can.RxFrames, R579
  ⟨0x6D07, 0x80, 2, 6, 1, 4, .ro, 0, .all, false⟩,  -- Net.Can.TxFrames, R579
  ⟨0x6D07, 0x80, 2, 7, 1, 4, .ro, 0, .all, false⟩,  -- Net.Can.RxDropped, R579
  ⟨0x6D07, 0x80, 2, 8, 1, 4, .ro, 0, .all, false⟩,  -- Net.Can.TxDropped, R579
  ⟨0x6D07, 0x80, 2, 9, 1, 4, .ro, 0, .all, false⟩,  -- Net.Can.Cancelled, R579
  ⟨0x6D07, 0x80, 2, 10, 1, 4, .ro, 0, .all, false⟩  -- Net.Can.ClassicDropped, R579
  ]

/-- Objects of the domain Networks. -/
def dictNet : List Row := dictNet0 ++ dictNet1

/-- Objects of the domain Thermal, part 1. -/
def dictThm0 : List Row := [
  ⟨0x7000, 1, 1, 1, 1, 9, .rw, 0x430C0000, .flt 0x42C80000 0x43160000, false⟩,  -- Thermal.Die.Warn, R590
  ⟨0x7000, 1, 1, 2, 1, 9, .rw, 0x43160000, .flt 0x42DC0000 0x43200000, false⟩,  -- Thermal.Die.Derate, R590
  ⟨0x7000, 1, 1, 3, 1, 9, .rw, 0x40400000, .flt 0x3F800000 0x41200000, false⟩,  -- Thermal.Hyst, R590
  ⟨0x7000, 1, 1, 4, 1, 9, .rw, 0x41000000, .flt 0x40000000 0x41A00000, false⟩,  -- Thermal.Die.Agree, R590
  ⟨0x7000, 1, 1, 5, 1, 9, .rw, 0x430C0000, .flt 0x42C80000 0x43160000, false⟩,  -- Thermal.ReleaseTemp, R590
  ⟨0x7001, 1, 1, 1, 8, 9, .ro, 0, .all, false⟩,  -- Thermal.Die.Temp, R590
  ⟨0x7002, 1, 1, 1, 2, 9, .ro, 0, .all, false⟩,  -- Thermal.Die.Max, R590
  ⟨0x7003, 1, 1, 1, 8, 2, .ro, 0, .all, false⟩,  -- Thermal.Die.Status, R590
  ⟨0x7004, 1, 1, 0, 1, 4, .ro, 0, .all, false⟩,  -- Thermal.LateSamples, R590
  ⟨0x7005, 1, 1, 1, 3, 6, .ro, 0, .all, false⟩,  -- Thermal.Comp.Trim, R590
  ⟨0x7040, 8, 12, 1, 1, 3, .sh, 65535, .all, false⟩,  -- Thermal.Ntc.Channel, R590
  ⟨0x7040, 8, 12, 2, 1, 9, .rw, 0x42F00000, .flt 0xC2200000 0x43480000, false⟩,  -- Thermal.Ntc.Warn, R590
  ⟨0x7040, 8, 12, 3, 1, 9, .rw, 0x43160000, .flt 0xC2200000 0x43480000, false⟩,  -- Thermal.Ntc.Stop, R590
  ⟨0x7040, 8, 12, 4, 1, 2, .sh, 0, .ints [(0, 127, 1)], false⟩,  -- Thermal.Ntc.Functions, R590
  ⟨0x7041, 8, 12, 1, 1, 9, .ro, 0, .all, false⟩,  -- Thermal.Ntc.Temp, R590
  ⟨0x7041, 8, 12, 2, 1, 2, .ro, 0, .all, false⟩  -- Thermal.Ntc.Status, R590
  ]

/-- Objects of the domain Thermal. -/
def dictThm : List Row := dictThm0

/-- Objects of the domain Outrider, part 1. -/
def dictOut0 : List Row := [
  ⟨0x7400, 1, 1, 1, 1, 3, .rw, 100, .ints [(10, 100, 1)], false⟩,  -- Outrider.Cycle, R596
  ⟨0x7400, 1, 1, 2, 1, 2, .rw, 3, .ints [(1, 10, 1)], false⟩,  -- Outrider.StarveLimit, R596
  ⟨0x7401, 1, 1, 0, 1, 4, .ro, 0, .all, false⟩,  -- Outrider.Cycles, R596
  ⟨0x7410, 1, 10, 1, 1, 2, .ro, 0, .all, false⟩,  -- Outrider.Test.Status, R596
  ⟨0x7410, 1, 10, 2, 1, 4, .ro, 0, .all, false⟩,  -- Outrider.Test.Passes, R596
  ⟨0x7410, 1, 10, 3, 1, 4, .ro, 0, .all, false⟩,  -- Outrider.Test.Failures, R596
  ⟨0x7410, 1, 10, 4, 1, 4, .ro, 0, .all, false⟩,  -- Outrider.Test.Starved, R596
  ⟨0x7410, 1, 10, 5, 1, 2, .ro, 0, .all, false⟩,  -- Outrider.Test.Consecutive, R596
  ⟨0x7410, 1, 10, 6, 1, 5, .ro, 0, .all, false⟩  -- Outrider.Test.LastComplete, R596
  ]

/-- Objects of the domain Outrider. -/
def dictOut : List Row := dictOut0

/-- Objects of the domain Statistics, part 1. -/
def dictSta0 : List Row := [
  ⟨0x7800, 0x10, 32, 1, 1, 4, .sh, 0, .ints [(0, 4294967040, 256)], false⟩,  -- Stat.Input, R263
  ⟨0x7800, 0x10, 32, 2, 1, 2, .sh, 16, .ints [(0, 16, 1)], false⟩,  -- Stat.PeriodSource, R263
  ⟨0x7800, 0x10, 32, 3, 1, 4, .sh, 0, .all, false⟩,  -- Stat.Position, R263
  ⟨0x7800, 0x10, 32, 4, 1, 3, .sh, 1, .ints [(1, 65535, 1)], false⟩,  -- Stat.Turns, R263
  ⟨0x7800, 0x10, 32, 5, 1, 4, .sh, 1000, .ints [(10, 10000000, 1)], false⟩,  -- Stat.Interval, R263
  ⟨0x7800, 0x10, 32, 6, 1, 4, .sh, 1000, .ints [(1, 60000, 1)], false⟩,  -- Stat.MaxPeriod, R263
  ⟨0x7800, 0x10, 32, 7, 1, 1, .sh, 0, .all, false⟩,  -- Stat.Enable, R263
  ⟨0x7801, 0x10, 32, 1, 1, 4, .ro, 0, .all, false⟩,  -- Stat.Period, R263
  ⟨0x7801, 0x10, 32, 2, 1, 5, .ro, 0, .all, false⟩,  -- Stat.Start, R263
  ⟨0x7801, 0x10, 32, 3, 1, 5, .ro, 0, .all, false⟩,  -- Stat.End, R263
  ⟨0x7801, 0x10, 32, 4, 1, 4, .ro, 0, .all, false⟩,  -- Stat.Count, R263
  ⟨0x7801, 0x10, 32, 5, 1, 4, .ro, 0, .all, false⟩,  -- Stat.Stale, R263
  ⟨0x7801, 0x10, 32, 6, 1, 4, .ro, 0, .all, false⟩,  -- Stat.Invalid, R263
  ⟨0x7801, 0x10, 32, 7, 1, 9, .ro, 0, .all, false⟩,  -- Stat.Min, R263
  ⟨0x7801, 0x10, 32, 8, 1, 9, .ro, 0, .all, false⟩,  -- Stat.Max, R263
  ⟨0x7801, 0x10, 32, 9, 1, 9, .ro, 0, .all, false⟩,  -- Stat.Mean, R263
  ⟨0x7801, 0x10, 32, 10, 1, 9, .ro, 0, .all, false⟩,  -- Stat.Rms, R263
  ⟨0x7801, 0x10, 32, 11, 1, 2, .ro, 0, .all, false⟩,  -- Stat.Flags, R263
  ⟨0x7801, 0x10, 32, 12, 1, 12, .ro, 0, .all, false⟩  -- Stat.Snapshot, R263
  ]

/-- Objects of the domain Statistics. -/
def dictSta : List Row := dictSta0

/-- The rows of the domain an index lies in (R11). The vendor range 0xF000 to 0xFFFF has no row: R11 documents nothing in it
beyond its existence, and every access to it is refused as to an index without an object (DESIGN CHOICE, log 103). -/
def dictOf (idx : Nat) : List Row :=
  if idx < 0x1000 then []
  else if idx ≤ 0x1FFF then dictDev
  else if idx < 0x2000 then []
  else if idx ≤ 0x27FF then dictSys
  else if idx < 0x2800 then []
  else if idx ≤ 0x2FFF then dictRod
  else if idx < 0x3000 then []
  else if idx ≤ 0x33FF then dictPos
  else if idx < 0x3400 then []
  else if idx ≤ 0x37FF then dictAcq
  else if idx < 0x3800 then []
  else if idx ≤ 0x3BFF then dictCmp
  else if idx < 0x3C00 then []
  else if idx ≤ 0x3FFF then dictTrs
  else if idx < 0x4000 then []
  else if idx ≤ 0x4FFF then dictDrv
  else if idx < 0x5000 then []
  else if idx ≤ 0x57FF then dictChg
  else if idx < 0x5800 then []
  else if idx ≤ 0x5BFF then dictCnv
  else if idx < 0x5C00 then []
  else if idx ≤ 0x5FFF then dictAct
  else if idx < 0x6000 then []
  else if idx ≤ 0x67FF then dictSaf
  else if idx < 0x6800 then []
  else if idx ≤ 0x6BFF then dictTly
  else if idx < 0x6C00 then []
  else if idx ≤ 0x6FFF then dictNet
  else if idx < 0x7000 then []
  else if idx ≤ 0x73FF then dictThm
  else if idx < 0x7400 then []
  else if idx ≤ 0x77FF then dictOut
  else if idx < 0x7800 then []
  else if idx ≤ 0x7BFF then dictSta
  else []

/-- A row describes the object at an index and subindex. -/
def rowHas (idx sub : Nat) (r : Row) : Bool :=
  decide (r.base ≤ idx) && decide ((idx - r.base) % r.stride = 0) && decide ((idx - r.base) / r.stride < r.count)
    && decide (r.sub ≤ sub) && decide (sub < r.sub + r.subs)

/-- The dictionary row of an index and subindex, none where no object is (R12). -/
def rowOf (idx sub : Nat) : Option Row := (dictOf idx).find? (rowHas idx sub)

/-- The address of an object in the store. -/
def oaddr (idx sub : Nat) : Nat := idx * 256 + sub

/-- The row of an address. -/
def rowAt (a : Nat) : Option Row := rowOf (a / 256) (a % 256)

/-- The default value of the object at an address (R92): its Default, with sideband INV and STL set for a
Ridge-backed object that the device writes (R29, R636), the vendor's word for the identity and the factory MAC address (DESIGN CHOICE, log 11), 0 where no object is. -/
def dfltAt (a : Nat) : Cell :=
  if a = 0x100000 then Config.identity.setWidth 64
  else if a = 0x6C0002 then Config.factoryMac.setWidth 64
  else match rowAt a with
  | none => 0
  | some r => if r.ridge && decide (r.acc = .ro) then BitVec.ofNat 64 (r.dflt + 5 * 2 ^ 32) else BitVec.ofNat 64 r.dflt

/-- Bytes of a value of a type code (R88); STR and DOMAIN have no fixed size. -/
def tySize (ty : Nat) : Nat :=
  if ty = 1 then 1 else if ty = 2 then 1 else if ty = 3 then 2 else if ty = 4 then 4 else if ty = 5 then 8
  else if ty = 6 then 2 else if ty = 7 then 4 else if ty = 8 then 8 else if ty = 9 then 4 else if ty = 10 then 4 else 0

/-- A value as an integer under its type. -/
def tyInt (ty x : Nat) : Int :=
  if ty = 6 then toInt 16 x else if ty = 7 then toInt 32 x else if ty = 8 then toInt 64 x else (x : Int)

/-- A value lies in a range (check 7 of R105). -/
def rngHas (g : Rng) (ty x : Nat) : Bool :=
  match g with
  | .all => true
  | .ints l => l.any (fun i => decide (i.1 ≤ tyInt ty x) && decide (tyInt ty x ≤ i.2.1) && decide ((tyInt ty x - i.1) % (i.2.2 : Int) = 0))
  | .flt lo hi => decide (f32Val lo ≤ f32Val x) && decide (f32Val x ≤ f32Val hi)

end Sys2Proof.Machine
end

