-- ==== Sys2Proof/Machine/Blocks.lean ====
section
/-! DEFINITION. Blocks and the objects they own (R19 to R21, R148, R198, R221, R264, R282, R328, R363, R390,
R429, R452, R487, R523, R545, R580), the functions, and the classes by their codes. -/

namespace Sys2Proof.Machine

/-- The block an index belongs to: a stride-aligned family inside a range. -/
def famBlock (lo n stride idx : Nat) : Option Nat :=
  if lo ≤ idx ∧ idx < lo + n * stride then some (lo + (idx - lo) / stride * stride) else none

/-- The block index that owns an index from 0x2000 to 0x7BFF, none where no block is (R19). -/
def blockOf (idx : Nat) : Option Nat :=
  if idx < 0x2020 then (if 0x2000 ≤ idx then some 0x2000 else none)
  else if idx < 0x2040 then some 0x2020
  else if 0x2100 ≤ idx ∧ idx < 0x2200 then some 0x2100
  else if 0x2200 ≤ idx ∧ idx < 0x2300 then some 0x2200
  else if 0x2800 ≤ idx ∧ idx < 0x2880 then famBlock 0x2800 8 0x10 idx
  else if 0x2900 ≤ idx ∧ idx < 0x2A00 then some 0x2900
  else if 0x2A00 ≤ idx ∧ idx < 0x2B00 then some 0x2A00
  else if 0x2B00 ≤ idx ∧ idx < 0x2C00 then some 0x2B00
  else if 0x3000 ≤ idx ∧ idx < 0x3080 then famBlock 0x3000 2 0x40 idx
  else if 0x3100 ≤ idx ∧ idx < 0x3180 then famBlock 0x3100 2 0x40 idx
  else if 0x3200 ≤ idx ∧ idx < 0x3260 then famBlock 0x3200 3 0x20 idx
  else if 0x3300 ≤ idx ∧ idx < 0x3340 then some 0x3300
  else if 0x3400 ≤ idx ∧ idx < 0x3420 then some 0x3400
  else if 0x3420 ≤ idx ∧ idx < 0x3620 then famBlock 0x3420 32 0x10 idx
  else if 0x3640 ≤ idx ∧ idx < 0x3700 then famBlock 0x3640 24 8 idx
  else if 0x3700 ≤ idx ∧ idx < 0x3710 then some 0x3700
  else if 0x3800 ≤ idx ∧ idx < 0x3C00 then famBlock 0x3800 32 0x20 idx
  else if 0x3C00 ≤ idx ∧ idx < 0x3C20 then some 0x3C00
  else if 0x3C20 ≤ idx ∧ idx < 0x3C40 then some 0x3C20
  else if 0x3C40 ≤ idx ∧ idx < 0x3C78 then famBlock 0x3C40 28 2 idx
  else if 0x3C80 ≤ idx ∧ idx < 0x3D00 then famBlock 0x3C80 32 4 idx
  else if 0x3D00 ≤ idx ∧ idx < 0x4000 then famBlock 0x3D00 192 4 idx
  else if 0x4000 ≤ idx ∧ idx < 0x5000 then
    let o := (idx - 0x4000) % 0x800
    let d := 0x4000 + (idx - 0x4000) / 0x800 * 0x800
    if o < 0x100 then some d else if o < 0x200 then some (d + 0x100) else if o < 0x300 then some (d + 0x200)
    else if 0x400 ≤ o ∧ o < 0x500 then some (d + 0x400) else if 0x700 ≤ o then some (d + 0x700) else none
  else if 0x5000 ≤ idx ∧ idx < 0x5500 then famBlock 0x5000 5 0x100 idx
  else if 0x5800 ≤ idx ∧ idx < 0x5B00 then famBlock 0x5800 3 0x100 idx
  else if 0x5C00 ≤ idx ∧ idx < 0x5C30 then famBlock 0x5C00 3 0x10 idx
  else if 0x5D00 ≤ idx ∧ idx < 0x5DC0 then famBlock 0x5D00 3 0x40 idx
  else if 0x5E00 ≤ idx ∧ idx < 0x5E10 then some 0x5E00
  else if 0x6000 ≤ idx ∧ idx < 0x6040 then some 0x6000
  else if 0x6040 ≤ idx ∧ idx < 0x6080 then some 0x6040
  else if 0x6080 ≤ idx ∧ idx < 0x6180 then famBlock 0x6080 32 8 idx
  else if 0x6200 ≤ idx ∧ idx < 0x6210 then some 0x6200
  else if 0x6800 ≤ idx ∧ idx < 0x6900 then some 0x6800
  else if 0x6C00 ≤ idx ∧ idx < 0x6C80 then famBlock 0x6C00 2 0x40 idx
  else if 0x6D00 ≤ idx ∧ idx < 0x6E00 then famBlock 0x6D00 2 0x80 idx
  else if 0x7000 ≤ idx ∧ idx < 0x7040 then some 0x7000
  else if 0x7040 ≤ idx ∧ idx < 0x7100 then some 0x7040
  else if 0x7400 ≤ idx ∧ idx < 0x7500 then some 0x7400
  else if 0x7800 ≤ idx ∧ idx < 0x7A00 then famBlock 0x7800 32 0x10 idx
  else none

/-- The block that owns the object at an address. -/
def blockAt (a : Nat) : Option Nat := blockOf (a / 256)

/-- A block index: the lowest index its block owns (R19). -/
def isBlock (b : Nat) : Bool := decide (blockOf b = some b)

/-- FUNC of R188. -/
def fnCode : Fn → Nat
  | .driveA => 1 | .driveB => 2 | .charger => 3 | .converter => 4 | .pump => 5 | .parkLock => 6 | .clutch => 7

/-- The function of a FUNC code. -/
def fnOf (k : Nat) : Option Fn :=
  if k = 1 then some .driveA else if k = 2 then some .driveB else if k = 3 then some .charger
  else if k = 4 then some .converter else if k = 5 then some .pump else if k = 6 then some .parkLock
  else if k = 7 then some .clutch else none

/-- The seven functions in FUNC order (R17). -/
def fnAll : List Fn := [.driveA, .driveB, .charger, .converter, .pump, .parkLock, .clutch]

/-- The function of a drive. -/
def drvFn : Drv → Fn
  | .a => .driveA
  | .b => .driveB

/-- First index of a drive's domain (R13). -/
def drvBase : Drv → Nat
  | .a => 0x4000
  | .b => 0x4800

/-- The rotor rod of a drive (R6). -/
def drvRod : Drv → Nat
  | .a => 1
  | .b => 2

/-- The function a block belongs to as its own block (R25, R51), none for a block of no function. -/
def fnOfBlock (b : Nat) : Option Fn :=
  if 0x4000 ≤ b ∧ b < 0x4800 then some .driveA
  else if 0x4800 ≤ b ∧ b < 0x5000 then some .driveB
  else if 0x5000 ≤ b ∧ b < 0x5800 then some .charger
  else if b = 0x5800 ∨ b = 0x5900 then some .converter
  else if b = 0x5C00 ∨ b = 0x5D00 then some .pump
  else if b = 0x5C10 ∨ b = 0x5D40 then some .parkLock
  else if b = 0x5C20 ∨ b = 0x5D80 then some .clutch
  else none

/-- Blocks whose shore is always refused with 0x0300_0005: blocks 0x2000, 0x2020, 0x2200 (R21), the device-time
block (R26), Safety blocks other than 0x6000 (R487), Tally (R523), Networks (R545), 0x7000 and 0x7400 (R580). -/
def noShore (b : Nat) : Bool :=
  decide (b = 0x2000 ∨ b = 0x2020 ∨ b = 0x2200 ∨ b = 0x2800)
    || decide (0x6040 ≤ b ∧ b < 0x7000) || decide (b = 0x7000 ∨ b = 0x7400)

/-- Class code of R524. -/
def clsCode : Cls → Nat
  | .oc => 1 | .ov => 2 | .uv => 3 | .sc => 4 | .st => 5 | .ot => 6 | .pos => 7 | .acq => 8 | .cmp => 9
  | .trs => 10 | .rdg => 11 | .lan => 12 | .dmp => 13 | .chg => 14 | .cnv => 15 | .act => 16 | .bst => 17
  | .way => 18 | .com => 19 | .sec => 20 | .cfg => 21 | .tst => 22 | .mem => 23 | .clk => 24

/-- The class of a code 0x01 to 0x18 (R524); any other code, which no object takes, stands for CMP. -/
def clsOf (n : Nat) : Cls :=
  match [Cls.oc, .ov, .uv, .sc, .st, .ot, .pos, .acq, .cmp, .trs, .rdg, .lan, .dmp, .chg, .cnv, .act, .bst,
    .way, .com, .sec, .cfg, .tst, .mem, .clk][n - 1]? with
  | some c => if n = 0 then .cmp else c
  | none => .cmp

end Sys2Proof.Machine
end

