-- ==== Sys2Proof/Machine/State.lean ====
section
/-! DEFINITION. The state of the block: every register, buffer, counter, mode and pin the spec gives it, as plain
data, with the queue of waiting commands, and the state after reset. Tables list only what differs from the value
an unlisted key reads as. -/

namespace Sys2Proof.Machine

/-- The power-up controller, resets and crystals (R59 to R75). -/
structure Power where
  ctl : PowerUp := .idle
  /-- VBAT_AON has risen through 5.9 V and not fallen through 5.6 V since (R60) -/
  vbat : Bool := false
  porstLow : Bool := false
  pmicEn : Bool := false
  pmicPg : Bool := false
  /-- consecutive failed attempts (R73) -/
  attempts : Nat := 0
  /-- AON retention register of failed attempts since the last entry into PREOP (R74) -/
  failures : Nat := 0
  /-- VDD_REF has been sampled since the rails came up, and the outcome was an external reference (R63) -/
  refSampled : Bool := false
  refExternal : Bool := false
  /-- V_REF in µV: the internal driver's 2.5 V or the external reference (R63) -/
  refUv : Nat := 2500000
  xtalOk : Bool := false
  pllLock : Bool := false
  /-- cause of the BOOT that a started sequence will reach (R86) -/
  cause : Nat := 1
  /-- a reset through SRST_N has been accepted and SRST_N is still low (R67) -/
  srstHeld : Bool := false
  /-- the 32.768 kHz crystal clocks AON, and the 1 s in which it may qualify is over (R71) -/
  x32On : Bool := false
  x32Given : Bool := false
  /-- every lane stands in its R64 state: from power-up or reset until the seal fuses are loaded (R64) -/
  laneR64 : Bool := true
  /-- the 32.768 kHz crystal was lost while a reset held the device: CLK at L1 is due at the BOOT that follows (R85) -/
  x32Lost : Bool := false
  /-- ERR_N is held low by R65: in OFF while VBAT_AON is present, and from a start or a reset until CHECK ends; with
  VBAT_AON absent, as at State.reset, it is released -/
  errnHeld : Bool := false
  /-- device time at entry into BOOT, and the µs that steps 1 to 6 of R72 took -/
  bootAt : Nat := 0
  preUs : Nat := 0
  /-- Plumb's device-wide override of row 2 of R182 -/
  override : Bool := false
deriving DecidableEq, Repr

/-- One firmware bank (R76). -/
structure Bank where
  signed : Bool := true
  rollback : Nat := 0
deriving DecidableEq, Repr

/-- The firmware banks, the boot selector word and the anti-rollback fuse counter (R76). -/
structure Firmware where
  bankA : Bank := {}
  bankB : Bank := {}
  selector : Nat := 0
  fuseCount : Nat := 0
  /-- the bank running, none before a bank has been verified (R77) -/
  running : Option Nat := none
  fallback : Bool := false
  /-- the MRAM statistics: words corrected in place (R79) -/
  mramFixed : Nat := 0
deriving DecidableEq, Repr

/-- The seal fuses (R188, R189, R509): words and CRC words as blown, what step 7 of R72 loaded, and the state
of each group: 0 blank, 1 valid, 2 failed. A word's key is 64 times its group plus its number. -/
structure Fuses where
  words : Tab (BitVec 16) := []
  crc : Tab Word := []
  loaded : Tab (BitVec 16) := []
  state : Tab Nat := []
deriving DecidableEq, Repr

/-- A LOCKOUT record (R541). -/
structure LockRec where
  stamp : Nat
  kind : Nat
  cls : Nat
  scope : Nat
  rank : Nat
  detail : Nat
  fwver : Word
  restores : Nat
  left : Nat
  leftAt : Nat
deriving DecidableEq, Repr

/-- A raise that is not yet committed, or an entry of the history (R526 to R538). -/
structure Raise where
  cls : Cls
  lvl : Nat
  eff : Nat
  /-- 0 no function, 1 to 7 function -/
  scope : Nat
  stamp : Nat
  rank : Nat
  detail : Nat
  merged : Bool
  count : Nat
  seq : Nat
  /-- the earliest commit instant (R535) -/
  due : Nat
deriving DecidableEq, Repr

/-- A key of the Tally (R527, R528, R539). -/
structure Key where
  active : Bool := false
  unack : Bool := false
  /-- the detectors that raised into the key and whose condition has not cleared (R530) -/
  srcs : List Nat := []
  /-- the detectors that raised into the key since it was last retired, 0 for a raise on an event (R360) -/
  from_ : List Nat := []
  eff : Nat := 0
  raised : Nat := 0
  count : Nat := 0
  /-- stamp of the latest raise -/
  stamp : Nat := 0
deriving DecidableEq, Repr

/-- The Tally (R523 to R544). Keys are numbered 16 times class code plus scope. -/
structure Tally where
  keys : Tab Key := []
  /-- the keys as every report reads them, from their commit instants on (R535) -/
  pub : Tab Key := []
  /-- raises that wait for their commit instant, in the order raised -/
  raised : List Raise := []
  /-- the committed raises, oldest first, at most 32 -/
  hist : List Raise := []
  lost : Nat := 0
  /-- Tally.Lost changed since the latest READ of Tally.Queue -/
  lostNew : Bool := false
  seq : Nat := 0
  /-- class code of the latest committed entry (R544) -/
  last : Nat := 0
  /-- ERR_N is driven low by the Tally's rule (R540) -/
  errn : Bool := false
  /-- overlaps of each function since its latest ST raise at L3: their stamps (R187) -/
  overlaps : Tab (List Nat) := []
  /-- the current LOCKOUT record and the log of the 16 latest, oldest first (R541, R542) -/
  lockRec : Option LockRec := none
  log : List LockRec := []
deriving DecidableEq, Repr

/-- A session slot (R113 to R121). -/
structure Session where
  /-- 0 free, 1 pending, 2 open -/
  st : Nat := 0
  tr : Transport := .udp
  keySlot : Nat := 0
  peer : BitVec 64 := 0
  mac : BitVec 48 := 0
  rxFresh : Nat := 0
  txFresh : Nat := 0
  rejected : Nat := 0
  opened : Nat := 0
  /-- consecutive drops of R116 -/
  drops : Nat := 0
  /-- stamp of the last accepted frame, or of the OPEN -/
  lastRx : Nat := 0
  /-- idle timeout in ms, fixed at the OPEN -/
  timeout : Nat := 2000
  /-- a frame with FRESH 0xFFFF_FFFF was accepted: the session closes once its answer is handed over -/
  ending : Bool := false
  key : BitVec 128 := 0
deriving DecidableEq, Repr

/-- A request that has reached its service and is not yet answered (R111). -/
structure QReq where
  ses : Nat
  reqid : Byte
  stamp : Nat
  svc : Nat
  idx : Nat
  sub : Nat
  ty : Byte
  data : List Byte
  /-- it came in a CAN XL frame (R569) -/
  xl : Bool
  /-- Ethernet source address of its frame (R557) -/
  mac : BitVec 48 := 0
  /-- the window slot of the host port that it comes from (R609) -/
  win : Option Nat := none
  /-- it came in the frame with the last freshness value: its answer ends the session (R116) -/
  last : Bool := false
deriving DecidableEq, Repr

/-- A subscription (R109). -/
structure Sub where
  ses : Nat
  num : Nat
  idx : Nat
  sub : Nat
  periodic : Bool
  /-- interval in ms -/
  interval : Nat
  /-- the cell last notified, with its sideband -/
  last : Cell
  /-- device time of the next sample -/
  due : Nat
deriving DecidableEq, Repr

/-- A block transfer (R108). -/
structure Xfer where
  write : Bool
  idx : Nat
  sub : Nat
  total : Nat
  /-- bytes taken so far, or the snapshot -/
  bytes : List Byte
  /-- device time of the latest segment -/
  lastAt : Nat
  /-- the transfer ended by the 1 s gap: its next segment is answered 0x0100_0004 -/
  timedOut : Bool
deriving DecidableEq, Repr

/-- A key slot (R118, R119). -/
structure KeySlot where
  state : Nat := 0
  roles : Nat := 0
  keyId : Word := 0
deriving DecidableEq, Repr

/-- A shored block (R135 to R139): its owner, whether its elements have stopped, and the request that waits for the
shore's answer. -/
structure Shored where
  blk : Nat
  owner : Option Nat
  done : Bool
  stamp : Nat
  req : Option QReq
  /-- from the shore instant on, what each RO object of the block holds, and whether the object store holds it (R138) -/
  frozen : List (Nat × Cell × Bool) := []
deriving DecidableEq, Repr

/-- A strike or abandon in the single queue of R140. -/
structure StrikeOp where
  req : QReq
  /-- the session still holds its request -/
  live : Bool
  /-- device time from which its times run: its stamp, or the end of the one ahead (R140) -/
  from_ : Nat
  blocks : List Nat
  abandon : Bool
  /-- the checks have passed and the shadow tables are built (steps 2 to 4 of R142) -/
  built : Bool
deriving DecidableEq, Repr

/-- The Ledger's own state (R88 to R147). -/
structure Ledger where
  sessions : Tab Session := []
  noSlot : Nat := 0
  authFails : Nat := 0
  keySlots : Tab KeySlot := []
  queue : List QReq := []
  subs : List Sub := []
  xfers : Tab (Option Xfer) := []
  shored : List Shored := []
  strikes : List StrikeOp := []
  /-- struck blocks whose values are to be persisted: the device time at which, the blocks, and the values struck
  (step 7 of R142) -/
  persist : List (Nat × List Nat × Tab Cell) := []
  /-- device time of each block's last persistence, plus one (R94) -/
  stored : Tab Nat := []
  /-- values, as restored at the latest BOOT, of the transport and network objects that take effect at a BOOT (R96,
  R559, R579) -/
  boot : Tab Cell := []
  /-- accepted consumption frames that no manifest has taken up: session, receive stamp and payload (R126) -/
  manRx : List (Nat × Nat × List Byte) := []
deriving DecidableEq, Repr

/-- A manifest's running state (R123 to R128). -/
structure Manif where
  cyc : Nat := 0
  /-- the cycle instant that the next publication or window end falls on -/
  due : Nat := 0
  /-- DATA and receive stamp of the latest frame accepted in the window -/
  held : Option (List Byte) := none
  heldAt : Nat := 0
  /-- its consumed values carry STL after a miss -/
  missed : Bool := false
deriving DecidableEq, Repr

/-- A rod and its carrier (R149 to R163). Positions are 32.32 counts, rates and residuals carry 32 fractional bits. -/
structure Rod where
  pos : BitVec 64 := 0
  /-- position at the start of the latest tick, and the signed advance in it -/
  prev : BitVec 64 := 0
  moved : Int := 0
  rate : Int := 0
  accel : Int := 0
  resid : Int := 0
  stl : Bool := true
  inv : Bool := true
  /-- the residual has exceeded JumpLimit and is not yet below a sixteenth of it (R155) -/
  jumped : Bool := false
  /-- the rate is held at MaxRate (R156) -/
  held : Bool := false
  /-- device time of the latest source update, and the latest position update (R157, R143) -/
  updAt : Nat := 0
  last : Option RodUpd := none
  /-- the carrier's setting in force, its phase, the phase before the latest tick, its advance and its anchor -/
  cmode : Nat := 0
  cratio : Nat := 1
  crate : Nat := 0
  cpos : BitVec 64 := 0
  cprev : BitVec 64 := 0
  cmoved : Int := 0
  anchor : BitVec 64 := 0
  /-- a write to the carrier's setting waits for the next wrap (R162) -/
  cpend : Bool := false
  /-- the movements of the 8 ticks before the latest one, newest first: position before the tick and signed advance of the
  rod and of its carrier (R160, R195) -/
  log : List (Nat × Int × Nat × Int) := []
deriving DecidableEq, Repr

/-- A mark that is held (R165, R166): its owner, its source, direction, action, target and repeat count, its
position, and the object that holds a live position. -/
structure Mark where
  blk : Nat
  src : Nat
  /-- the position of the latest tick computed (R173) -/
  pos : Nat
  /-- address of the live position object, 0 for none -/
  posAt : Nat
  dir : Nat
  action : Nat
  target : Nat
  reps : Nat
deriving DecidableEq, Repr

/-- A disarmed instance (R168): the tick in which it fired, and whether a carrier's new setting arms it after that tick
(R162). -/
structure Fired where
  tick : Nat
  again : Bool
deriving DecidableEq, Repr

/-- A lane's claim (R177, R178): block, configuration and timing words, and the addresses of its edge words. -/
structure Claim where
  blk : Nat := 0
  cfg : Nat := 0
  timing : Nat := 0
  onAt : Nat := 0
  offAt : Nat := 0
deriving DecidableEq, Repr

/-- The period of R180: source, position of the latch (32.32), and the offsets ON and OFF in counts. -/
structure EdgePeriod where
  src : Nat
  latch : Nat
  on : Nat
  off : Nat
deriving DecidableEq, Repr

/-- An edge of a lane's command on its way through the generator: its computed time, the lane's level after it, and the
level it gives the odd lane of a PAIR (R169, R179). -/
structure LaneEdge where
  t : Nat
  on : Bool
  pair : Bool
deriving DecidableEq, Repr

/-- A lane's generator (R179 to R187, R191, R274). Times are in interpolator phases since LANE left reset. -/
structure Lane where
  /-- the command, when it last changed, and its edges that the dead time has not yet taken -/
  cmd : Bool := false
  since : Nat := 0
  todo : List LaneEdge := []
  /-- the time at which the dead time lets the lane turn on (R186) -/
  up : Option Nat := none
  /-- the command after dead time, and when it last changed -/
  raw : Bool := false
  rawAt : Nat := 0
  /-- the command after the removals of R181, its edges on their way to the output stage, and removals not yet counted -/
  clean : Bool := false
  out : List (Nat × Bool) := []
  runts : Nat := 0
  /-- the command at the output stage, and the time of its latest edge (R160) -/
  on : Bool := false
  onAt : Nat := 0
  /-- the level driven in the latest tick of the output stage, none before its first change from the R64 state, the time of its
  latest edge, and the edges of the ticks that a comparison can still fall due for (R191, R269) -/
  lvl : Option Level := none
  edgeAt : Nat := 0
  eds : List Nat := []
  /-- the command as the capture units last saw it (R193) -/
  cap : Bool := false
  /-- when a ONESHOT pulse or a GATE's longest open time ends, 0 for none -/
  endAt : Nat := 0
  /-- the running period of R180, and a period lost to stale edge words -/
  edges : Option EdgePeriod := none
  lost : Bool := false
  /-- a cycle trip holds the lane inactive until its next edge to active (row 5 of R182) -/
  tripped : Bool := false
  /-- both commands of the lane's leg are on, and the time until which the interlock holds the leg off (R187) -/
  overlap : Bool := false
  lockUntil : Nat := 0
  /-- the claiming function lets the lane follow its command (row 4 of R182) -/
  live : Bool := false
  /-- consecutive readback mismatches, and the tick of the latest comparison plus one (R191) -/
  miss : Nat := 0
  seenAt : Nat := 0
deriving DecidableEq, Repr

/-- A trigger line event on its way to a consumer: its kind (0 conversion sequence, 1 Truss loop, 2 demodulator),
its number, and the device time at the start of its tick with its phase (R175). -/
structure TrigEv where
  kind : Nat
  num : Nat
  stamp : Nat
  phase : Nat
deriving DecidableEq, Repr

/-- A capture record (R195). -/
structure CapRec where
  stamp : Nat
  phase : Nat
  edge : Nat
  pos : Nat
deriving DecidableEq, Repr

/-- An edge on a capture unit's input whose new level has not yet held for Capture.Filter ticks (R194): the time at which it
will have, and the record of the edge itself. -/
structure CapWait where
  due : Nat
  rcd : CapRec
deriving DecidableEq, Repr

/-- A drive's safe-state selector (R364 to R388). -/
structure Selector where
  choice : Choice := .none
  oneBank : Bool := false
  twoBank : Bool := false
  /-- the bank of a one-bank short is the high bank -/
  highBank : Bool := false
  ov3 : Bool := false
  ov2 : Bool := false
  win : Bool := false
  fault : Bool := false
  /-- collection is open: when it opened, and whether suspects lie in the low and in the high bank -/
  collecting : Bool := false
  openedAt : Nat := 0
  /-- device time of the first low sample of the edge that opened it (R372) -/
  firstAt : Nat := 0
  susLow : Bool := false
  susHigh : Bool := false
  /-- the leg lanes last left a live command then, in units of device time, and the bank that is to reach ASC -/
  offAt : Nat := 0
  ascDue : Option Choice := none
  /-- the choice follows the speed rule -/
  byRule : Bool := false
  /-- the speed rule currently chooses ASC -/
  above : Bool := false
deriving DecidableEq, Repr

/-- The link guard and the dump path (R380 to R387). -/
structure Link where
  ov1 : Bool := false
  ov2 : Bool := false
  ov3 : Bool := false
  stale : Bool := false
  dumpOn : Bool := false
  dumpSeen : Bool := false
  testFail : Bool := false
  /-- device time at which the dump lane's command last became active, at which the guard's did, and of the latest compared word -/
  dumpAt : Nat := 0
  guardAt : Nat := 0
  wordAt : Nat := 0
  /-- the guard may not command the dump again until the link has left OV1 (R383) -/
  dumpBarred : Bool := false
  /-- the OV2 decision waits for the 50 µs of R385, and the reaction of this OV2 has been made -/
  ov2Wait : Bool := false
  ov2Done : Bool := false
  /-- Plumb commands the dump lane for SF3 (R493) -/
  plumbDump : Bool := false
  /-- start of the Outrider's latest dump pulse and whether its conversion has been taken or barred (R387) -/
  pulse : Option (Nat × Bool) := none
  /-- the dump path has been tested in this coverage cycle (R387) -/
  testDone : Bool := false
  /-- FLT0_N to FLT23_N read low at the ball after their filter -/
  fltLow : Tab Bool := []
deriving DecidableEq, Repr

/-- A Waybill connection (R503 to R508). -/
structure Wb where
  /-- 0 closed, 1 connecting, 2 open, 3 failed -/
  st : Nat := 0
  rxSeq : Nat := 0
  txSeq : Nat := 0
  lastRx : Nat := 0
  slot : Option Nat := none
  /-- requests held: bits STOA, STOB, DIS, CHI -/
  held : Nat := 0
  /-- the latest accepted frame carried RESET with the token (R496) -/
  resetSeen : Bool := false
  /-- device time of the latest status frame, or of taking the slot -/
  statusAt : Nat := 0
  since : Nat := 0
deriving DecidableEq, Repr

/-- Plumb and the Safety domain (R487 to R520). -/
structure Safety where
  wb : Tab Wb := []
  /-- stamp of the DIS that is held, plus one -/
  disAt : Nat := 0
  /-- device time since which every link word lay below 60 V, plus one; 0 for none -/
  lowSince : Nat := 0
  discharged : Bool := false
  sf3Fail : Bool := false
  /-- misses of each service processor's watchdog (R489) -/
  misses : Tab Nat := []
  /-- twin-key transaction: 0 idle, 1 open, 2 proposed, 3 approved (R517) -/
  tk : Nat := 0
  keeper : Option Nat := none
  witness : Option Nat := none
  tkOpened : Nat := 0
  /-- pending TK values, and the objects written in order of writing -/
  tkPend : Tab Cell := []
  tkList : List Nat := []
  /-- staged seal groups (R511) -/
  staged : Tab (List (BitVec 16)) := []
  proposed : Nat := 0
  tkResult : Nat := 0
  /-- a commit is past its commit instant: the request to answer, and when it started -/
  committing : Option (QReq × Nat) := none
  computed : Word := 0
  confirmed : Word := 0
deriving DecidableEq, Repr

/-- An Ethernet frame in a transmit queue (R554): destination, ports and payload of a UDP datagram, or another
message by its kind: 0 UDP, 1 ARP, 2 ICMP, 3 gPTP. -/
structure EthOut where
  kind : Nat
  mac : BitVec 48
  ip : Word
  dport : Nat
  sport : Nat
  bytes : List Byte
  /-- the manifest whose publication it carries (R122) -/
  man : Option Nat := none
  /-- its VLAN tag, PCP in bits [15:13] and VID in bits [11:0], or untagged (R553) -/
  tag : Option Nat := none
  /-- TTL, DSCP and DF of an IPv4 packet (R555), and whether a datagram carries its checksum (R556) -/
  ttl : Nat := 64
  dscp : Nat := 0
  df : Bool := true
  udpSum : Bool := true
deriving DecidableEq, Repr

/-- A CAN frame in a transmit buffer (R571, R573). -/
structure CanOut where
  ident : Nat
  classical : Bool
  xl : Bool
  bytes : List Byte
  /-- what it carries: 0 Ledger answer or notification, 1 manifest publication, 2 Waybill status, 3 reference message -/
  use : Nat
  /-- manifest or profile number -/
  num : Nat
deriving DecidableEq, Repr

/-- What a sent frame carried beside its identifier and data: BRS and ESI of CAN FD, and of CAN XL the acceptance field, SEC,
SDT, VCID and the transceiver mode switching (R569). -/
structure CanWire where
  brs : Bool
  esi : Bool
  af : Nat
  sec : Bool
  sdt : Nat
  vcid : Nat
  tms : Bool
deriving DecidableEq, Repr

/-- A CAN controller (R567 to R578). -/
structure Can where
  on : Bool := false
  listen : Bool := false
  integ : Bool := false
  busOff : Bool := false
  passive : Bool := false
  txErr : Nat := 0
  rxErr : Nat := 0
  /-- receive FIFO and high-priority buffers: stamp and frame, not yet taken up -/
  fifo : List (Nat × CanFrame) := []
  hpf : Tab (Option (Nat × CanFrame)) := []
  /-- Hpf.Frame: the latest accepted frame of each filter -/
  hpfFrame : Tab (List Byte) := []
  tx : List CanOut := []
  /-- the latest frame sent, and what it carried beside (R569) -/
  sent : Option (CanOut × CanWire) := none
  /-- rate detection: candidate being tried, error-free frames, start of its dwell and of the whole search -/
  cand : Nat := 0
  good : Nat := 0
  dwellAt : Nat := 0
  detectAt : Nat := 0
  detecting : Bool := false
  /-- a frame with BRS was received without error since the candidate is tried (R576) -/
  brsSeen : Bool := false
  /-- time master: cycle number, start-of-frame of the last message sent, whether it was sent, next cycle instant -/
  refCyc : Nat := 0
  refSof : Nat := 0
  refSent : Bool := false
  refDue : Nat := 0
  /-- time slave: cycle number and start-of-frame of the previous message, and device time of the last update used -/
  slvCyc : Option Nat := none
  slvSof : Nat := 0
  slvAt : Nat := 0
deriving DecidableEq, Repr

/-- The Ethernet MAC, ARP, ICMP, gPTP and device-time discipline (R549 to R566). -/
structure Net where
  link : Bool := false
  speed : Nat := 0
  /-- the Ledger serves UDP: the first link up after BOOT has come (R550) -/
  served : Bool := false
  /-- five transmit queues, and the queue whose first frame is on the wire (R554) -/
  q : Tab (List EthOut) := []
  wire : Option Nat := none
  /-- the ARP cache: address, hardware address, device time learnt (R557) -/
  arp : List (Word × BitVec 48 × Nat) := []
  /-- look-ups under way: next hop, requests sent, device time of the last, held frame with its queue -/
  arpWait : List (Word × Nat × Nat × Nat × EthOut) := []
  /-- device times of echo requests answered in the last second (R558) -/
  echoes : List Nat := []
  /-- accepted datagrams waiting to be taken up: stamp and frame -/
  rx : List (Nat × EthFrame) := []
  /-- gPTP: sequence of the last Pdelay_Req and its transmit time, an unfinished two-step Sync, and times of the last
  Sync and Announce plus one -/
  pdSeq : Nat := 0
  pdT1 : Nat := 0
  pdAt : Nat := 0
  pdPrev : Option (Nat × Nat) := none
  ratioOk : Bool := false
  sync : Option PtpMsg := none
  syncAt : Nat := 0
  syncInt : Int := -3
  annAt : Nat := 0
  annInt : Int := 0
  /-- discipline: updates seen since a start, corr and integ in 2^-40, consecutive good errors (R560, R561) -/
  seen : Bool := false
  integ : Int := 0
  corr : Int := 0
  good : Nat := 0
deriving DecidableEq, Repr

/-- A window slot of the host port (R607 to R609). -/
structure Slot where
  sel : Nat := 0
  valid : Bool := false
  ty : Nat := 0
  side : Nat := 0
  val : BitVec 64 := 0
  staged : Nat := 0
  pend : Bool := false
deriving DecidableEq, Repr

/-- The local host port (R597 to R612). -/
structure HostPort where
  /-- the reply that the next frame shifts out: OP, ADDR, RESULT and data -/
  repOp : Nat := 0
  repAddr : Nat := 0
  repRes : Nat := 0
  repData : Nat := 0
  /-- the same as the 64 bits that go out on SPI_MISO, most significant first, the CRC of R600 among them -/
  miso : BitVec 64 := 0x0000006A00000000
  irqPend : Nat := 0
  irqEn : Nat := 0
  framing : Nat := 0
  crcErrs : Nat := 0
  winAbort : Nat := 0
  winSlot : Nat := 0xFF
  req : Tab Nat := []
  rsp : Tab Nat := []
  rspLen : Nat := 0
  busy : Bool := false
  ready : Bool := false
  /-- the response that waits to be placed in MBOX_RSP -/
  answer : Option (List Byte) := none
  notes : List (List Byte) := []
  notesLost : Nat := 0
  slots : Tab Slot := []
  /-- the shadow of R612: address of its low word and the high word -/
  shadow : Option (Nat × Nat) := none
deriving DecidableEq, Repr

/-- What every position interface keeps (R203, R204): LOCK, confirmed fault bits, MOTION, and for each fault bit the
consecutive measurements that speak against its present state. -/
structure Iface where
  lock : Bool := false
  faults : Nat := 0
  motion : Nat := 3
  cnt : Tab Nat := []
deriving DecidableEq, Repr

/-- A resolver interface and its observer (R206 to R213). The angle is 32.32 counts of resolver angle. -/
structure Resolver where
  io : Iface := {}
  theta : Nat := 0
  rate : Int := 0
  accel : Int := 0
  /-- half periods since the observer started, up to 2, and the measured angle of the first -/
  half : Nat := 0
  first : Nat := 0
  /-- consecutive updates within 1 degree -/
  near : Nat := 0
  /-- point of the excitation table that the DAC puts out (R206), and the half period that ends next is the second (R208) -/
  point : Nat := 0
  second : Bool := false
deriving DecidableEq, Repr

/-- An encoder interface (R214, R215). Times are in units of device time of 2^-32 ns. -/
structure Encoder where
  io : Iface := {}
  ab : Option (Bool × Bool) := none
  count : Int := 0
  cz : Option Int := none
  /-- count at the latest index -/
  idxAt : Int := 0
  /-- counts that have passed since the latest index (R215) -/
  passed : Nat := 0
  /-- edges of the running interval, with count and time of the first, and of the latest edge ever -/
  edges : Nat := 0
  firstCount : Int := 0
  firstAt : Nat := 0
  lastAt : Nat := 0
  /-- sign of the latest count -/
  sign : Int := 1
  rate : Int := 0
  updAt : Nat := 0
deriving DecidableEq, Repr

/-- A Hall triplet interface (R216, R217). -/
structure Hall where
  io : Iface := {}
  sector : Option Nat := none
  /-- the code accepted last -/
  code : Nat := 0
  /-- direction of the latest accepted edge, 0 before the first -/
  dir : Int := 0
  edgeAt : Nat := 0
  /-- sector transit times in the present direction, latest first -/
  transits : List Nat := []
  rate : Int := 0
  sentAt : Nat := 0
deriving DecidableEq, Repr

/-- The grid PLL (R218): phase in 32.32 counts, and the device time since which the LOCK conditions hold, plus one. -/
structure GridPll where
  io : Iface := {}
  phase : Nat := 0
  rate : Int := 0
  accel : Int := 0
  goodSince : Nat := 0
  /-- output and quadrature output of the second-order generalised integrator, of a single phase or α, and of β -/
  sogi : Rat × Rat := (0, 0)
  sogiB : Rat × Rat := (0, 0)
  stepAt : Nat := 0
deriving DecidableEq, Repr

/-- An instance of a conversion sequence (R228 to R233). Times are in units of device time of 2^-32 ns. -/
structure SeqInst where
  /-- 0 none, 1 waiting, 2 running, 3 all steps converted and the converter still busy -/
  st : Nat := 0
  /-- the trigger instant plus t_AD, and the hold of step 0 -/
  due : Nat := 0
  hold : Nat := 0
  /-- the next step to convert -/
  step : Nat := 0
  /-- consecutive DUPLEX differences (R233) -/
  differ : Nat := 0
  /-- Chan.Min and Chan.Max of the steps as the trigger found them (R131) -/
  lims : List (Nat × Nat) := []
  /-- the earliest first hold after a trigger that aborted another conversion (R234) -/
  after : Nat := 0
deriving DecidableEq, Repr

/-- A channel's captures for calibration (R242, R243): its step, the captures held as sums of 256 codes, and the one
under way. -/
structure CalCap where
  step : Nat := 0xFF
  low : Option Int := none
  high : Option Int := none
  /-- 0 none, 1 low, 2 high -/
  taking : Nat := 0
  n : Nat := 0
  sum : Int := 0
  startAt : Nat := 0
deriving DecidableEq, Repr

/-- A checking pair (R245, R246). -/
structure PairChk where
  fails : Nat := 0
  passes : Nat := 0
  lastAt : Nat := 0
deriving DecidableEq, Repr

/-- A demodulator (R248 to R254). -/
structure Demod where
  startAt : Nat := 0
  /-- device time of the latest output command -/
  lastAt : Nat := 0
  /-- modulator clocks since the start, and since the latest output in FREE -/
  clocks : Nat := 0
  sinceOut : Nat := 0
  /-- the bits of both filters, newest first -/
  hist : List Bool := []
  /-- clocks for which SDDd has not changed, and clocks since that count last stood at Sd.StuckLimit or above (R254) -/
  same : Nat := 0
  okFor : Nat := 0
  stuck : Bool := false
  clk : Bool := false
  ovr : Bool := false
deriving DecidableEq, Repr

/-- The readback of a modulator clock's ball: missing and extra edges, and the time of the latest (R248). -/
structure SdcRead where
  bad : Nat := 0
  badAt : Nat := 0
deriving DecidableEq, Repr

/-- A conversion of the Outrider, a pair check or a thermal sample that a converter holds: its job and its end in units of device
time (R234, R585). Jobs: 0 thermal sample, 1 pair check, 2 converter tie, 3 window readback. -/
structure OutConv where
  job : Nat
  num : Nat
  until_ : Nat
deriving DecidableEq, Repr

/-- A statistic unit (R257 to R262). Sums are binary64 values. -/
structure Stat where
  /-- a period is running, and its start -/
  on : Bool := false
  start : Nat := 0
  count : Nat := 0
  stale : Nat := 0
  invalid : Nat := 0
  min : Rat := 0
  max : Rat := 0
  sum : Rat := 0
  sumSq : Rat := 0
  satSeen : Bool := false
  /-- passages since the latest boundary, the instance is armed, and the device time, in units of 2^-32 ns, of a boundary that waits to
  take effect -/
  turns : Nat := 0
  armed : Bool := true
  due : Option Nat := none
deriving DecidableEq, Repr

/-- An event of a window's blanking at a time (R269): 0 a mark opens it, 1 an edge of the blanking lane, 2 a mark closes
it. -/
structure BlankEv where
  t : Nat
  kind : Nat
deriving DecidableEq, Repr

/-- A window (R264 to R280). Times are in interpolator phases since LANE left reset. -/
structure Window where
  /-- the comparators of L and H, and changes that have not yet held for Win.Filter ticks: the time of the first sample, and
  whether blanking was open then (R268) -/
  cmpL : Bool := false
  cmpH : Bool := false
  waitL : Option (Nat × Bool) := none
  waitH : Option (Nat × Bool) := none
  /-- the filtered raw outputs, and the outputs -/
  rawL : Bool := false
  rawH : Bool := false
  outL : Bool := false
  outH : Bool := false
  /-- blanking events from the start of the output stage's latest tick on, oldest first -/
  evs : List BlankEv := []
  /-- a blanking opened by a mark, since when -/
  markOpen : Option Nat := none
  /-- the latest edge of the blanking lane, while Win.BlankTime runs -/
  laneOpen : Option Nat := none
  /-- when blanking last closed -/
  closedAt : Nat := 0
  /-- the tick in which L and H last asserted, plus one (R272) -/
  asL : Nat := 0
  asH : Nat := 0
  /-- the PERIOD clear is armed -/
  armed : Bool := true
  relief : Bool := false
  chkFail : Bool := false
  /-- the check under way: 0 none, 1 the readback is due, 2 the reconnection is due -/
  chk : Nat := 0
  chkBad : Bool := false
deriving DecidableEq, Repr

/-- A brace's state memory and what its latest evaluation left (R289 to R303). Mantissas at E_d. -/
structure Brace where
  e1 : Int := 0
  e2 : Int := 0
  e3 : Int := 0
  y1 : Int := 0
  y2 : Int := 0
  y3 : Int := 0
  /-- a preset that waits for the next evaluation: the word of Brace.Preset (R302) -/
  preset : Option Nat := none
  /-- the bank of the latest evaluation (R303) -/
  bank : Nat := 0
  /-- internal values of the latest evaluation: e, y, u and the injected value (R293) -/
  e : Int := 0
  y : Int := 0
  u : Int := 0
  g : Rat := 0
  /-- the output, or while the Converter's clamp stage holds the brace what it would be without the hold (R433) -/
  auto : Int := 0
  /-- the sideband its output carries (R292), and SATINT, SATOUT and ECC of R296 -/
  side : Nat := 5
  satInt : Bool := false
  satOut : Bool := false
  ecc : Bool := false
  /-- an uncorrectable error of its state memory that its next evaluation shows (R320) -/
  err : Bool := false
  /-- a working copy is clipped, and its fault has been raised (R286, R320) -/
  clip : Bool := false
deriving DecidableEq, Repr

/-- A loop's running state (R306 to R311). -/
structure Loop where
  /-- end of the running evaluation, in units of device time, and consecutive drops -/
  busyUntil : Nat := 0
  drops : Nat := 0
  /-- the counter of its parent's evaluations -/
  k : Nat := 0
  /-- trigger event of the latest evaluation, in units of device time -/
  trigAt : Nat := 0
deriving DecidableEq, Repr

/-- A part of a loop's evaluation (R307, R309): its time in ns, and whether it is a brace that first takes a MAC lane for 25 ns, with
the priority and the number of its loop (R308). -/
structure MacItem where
  mac : Bool
  ns : Nat
  prio : Nat
  loop : Nat
deriving DecidableEq, Repr

/-- The evaluation of a triggered loop with its due nested loops: its trigger event and its start in units of device time, and its
parts in order (R306 to R311). -/
structure MacJob where
  loop : Nat
  trig : Nat
  start : Nat
  items : List MacItem
deriving DecidableEq, Repr

/-- The test-signal generator (R321 to R323). -/
structure Inject where
  /-- 0 idle, 1 running, 2 done, 3 aborted -/
  st : Nat := 0
  brace : Nat := 0xFF
  /-- function of the claiming block, if any -/
  fn : Option Fn := none
  /-- evaluations injected -/
  n : Nat := 0
  t0 : Nat := 0
  prbs : Nat := 0
deriving DecidableEq, Repr

/-- A row of the response capture (R325). -/
structure RespRow where
  stamp : Nat
  side : Nat
  vals : List Nat
deriving DecidableEq, Repr

/-- The response capture (R324 to R327). -/
structure Resp where
  st : Nat := 0
  /-- evaluations since the arm -/
  n : Nat := 0
  /-- rows held, oldest first, and the number of the trigger row -/
  rows : List RespRow := []
  trig : Option Nat := none
  trigTime : Nat := 0
deriving DecidableEq, Repr

/-- A traction drive's sequencer and reference unit (R331 to R362). -/
structure Drive where
  /-- T_ref in motor sense, and the d current below its MTPA value -/
  tref : Rat := 0
  fw : Bool := false
  tlimit : Bool := false
  stopping : Bool := false
  /-- what the next latch of its lanes ends: 0 nothing, 1 a controlled stop, 2 the ramp of STOPPED (R354, R355) -/
  ending : Nat := 0
  /-- a start: 0 none, 1 presets written, 2 presets applied, 3 released, 4 settled -/
  rel : Nat := 0
  /-- latches since the presets were applied -/
  latches : Nat := 0
  relAt : Nat := 0
  /-- reference-unit counter and time of its latest evaluation -/
  k : Nat := 0
  refAt : Nat := 0
  /-- carrier band in force, counted from 0 -/
  band : Nat := 0
  /-- STOPPED: the ramp runs since, with the torque it began with -/
  ramp : Option (Nat × Rat) := none
  staleCmd : Bool := false
  /-- device time since which the rod words carry STL, plus one -/
  stlSince : Nat := 0
  derAt : Nat := 0
  /-- a controlled stop ends in IDLE, after DISARM -/
  toIdle : Bool := false
  /-- the Clutch sequencer's target torque for Drive B (R339, R480) -/
  clutchT : Option Rat := none
deriving DecidableEq, Repr

/-- The Charger's sequencer, pilot and proximity measurement and reference unit (R390 to R428). Times are in ns of device
time; a `since` field holds the time plus one, 0 for none. -/
structure Charger where
  /-- the step reached within Session.Phase: 0 none; 1 to 6 as in R415 with 5 for the wait for the bus; 7 paused; 8 ramp
  down, 9 DAB off, waiting for the zero crossings; 21 to 25 as in R425; 26 the ramp down of vehicle-to-load -/
  step : Nat := 0
  t0 : Nat := 0
  v2l : Bool := false
  /-- CP_S2 and the relay commands -/
  s2 : Bool := false
  main : Bool := false
  pre : Bool := false
  /-- relay commands placed as marks on rod 0: lane, command, and position in counts (R399) -/
  relays : List (Nat × Bool × Nat) := []
  /-- live PFC phases, bit 0 U, 1 V, 2 W, and whether they end at their zero crossings; the DAB legs are live -/
  pfc : Nat := 0
  pfcEnd : Bool := false
  dab : Bool := false
  /-- the DAB legs take their OFF level at the next latch (R416, R417) -/
  dabEnd : Bool := false
  /-- the reason a stop will write and the state it ends in -/
  reason : Nat := 0
  after : FnSt := .armed
  /-- device time at which the reason arose (R422) -/
  reasonAt : Nat := 0
  /-- the bus set point on its ramp, F32, none when it stands at Pfc.BusRef -/
  busNow : Option Nat := none
  bind : Nat := 0
  /-- icmd, ilim and the AC limit of the latest limit stage (R410) -/
  icmd : Rat := 0
  ilim : Rat := 0
  iac : Rat := 0
  zeroSince : Nat := 0
  posSince : Nat := 0
  endSince : Nat := 0
  gridSince : Nat := 0
  overSince : Nat := 0
  overPow : Nat := 0
  /-- V2l.Vd at a stop, from which it ramps down (R426). -/
  vdFrom : Rat := 0
  backfeed : Bool := false
  /-- BATTERY_LOST: since when the output has read good, and only a RUN may start the next session (R415, R420) -/
  lost : Bool := false
  okSince : Nat := 0
  noAuto : Bool := false
  /-- safety timer: it runs, its limit in s, the effective time in s, the latest tick, and the output current summed since -/
  timerOn : Bool := false
  timerLim : Nat := 0
  timer : Rat := 0
  timerAt : Nat := 0
  iSum : Rat := 0
  iNum : Nat := 0
  /-- limit stage: its latest time, rod 3's position then, and the history of the phase current for Ref.Quad -/
  limAt : Nat := 0
  pos3 : Nat := 0
  quad : List (Nat × Nat) := []
  /-- squares of each phase voltage over the running half cycle, their number, and the OR of their sidebands -/
  sq : Tab (Rat × Nat × Nat) := []
  /-- sideband of each latched RMS voltage: the OR over its samples -/
  vSide : Tab Nat := []
  energy : Rat := 0
  /-- leg duties of the duty stage with their sideband: value word and sideband, by input number from 0 -/
  duty : Tab (Nat × Nat) := []
  /-- pilot samples of the running 10 ms: time, value, and the window's output -/
  pilot : List (Nat × Rat × Bool) := []
  pilotAt : Nat := 0
  /-- the edges of the running 10 ms that the Charger has read: time in 1/32 ns, and rising -/
  edges : List (Nat × Bool) := []
  pilotCand : Nat := 0xFF
  pilotRun : Nat := 0
  pwm : Bool := false
  badSince : Nat := 0
  bSince : Nat := 0
  ppAt : Nat := 0
  ppCand : Nat := 0
  ppSince : Nat := 0
  derAt : Nat := 0
  /-- the stop path of R419 acts: Ref.PfcId is forced to 0 -/
  cut : Bool := false
deriving DecidableEq, Repr

/-- The Converter's sequencer and reference unit (R429 to R441). -/
structure Converter where
  /-- 0 off; 1 DCX soft start, 2 presets written, 3 live; 11 presets written, 12 live, 13 target held (precharge);
  20 a controlled stop; 21 its buck-boost off, the DCX awaiting rod 5 -/
  step : Nat := 0
  t0 : Nat := 0
  /-- time of RUN, and of the latest soft-start step -/
  runAt : Nat := 0
  softAt : Nat := 0
  fwd : Bool := false
  dcx : Bool := false
  buck : Bool := false
  /-- the buck-boost legs take their OFF level at the next latch (R438) -/
  buckEnd : Bool := false
  live : Bool := false
  precharged : Bool := false
  /-- frequency word in effect, F32 in Hz, none when it stands at Dcx.Fsw -/
  fsw : Option Nat := none
  /-- count of latch events when the presets were written -/
  latch : Nat := 0
  /-- Ref.Vset in forward mode and the bus target in precharge -/
  tgt : Rat := 0
  imax : Rat := 0
  imin : Rat := 0
  bind : Nat := 0
  limAt : Nat := 0
  /-- the voltage brace is held at this F32 value by the clamp stage -/
  hold : Option Nat := none
  after : FnSt := .armed
  staleSince : Nat := 0
deriving DecidableEq, Repr

/-- What AON retention keeps of a window 28 to 31 that may wake (R277). -/
structure KeptWin where
  wake : Bool := false
  src : Nat := 0xFF
  thrL : Nat := 0
  thrH : Nat := 0
  pol : Nat := 0
  hyst : Nat := 0
  filter : Nat := 0
deriving DecidableEq, Repr

/-- The Axle arbiter (R442, R443). -/
structure Axle where
  t0 : Nat := 0
  /-- last fresh BMS words and their times -/
  dis : Nat := 0
  disAt : Nat := 0
  chg : Nat := 0
  chgAt : Nat := 0
  /-- OV1: evaluations since its entry plus one, and PowerRegen of A and B at entry -/
  ramp : Nat := 0
  fromA : Rat := 0
  fromB : Rat := 0
deriving DecidableEq, Repr

/-- Camp mode: the entry sequencer and what AON retention keeps (R446 to R451). -/
structure Camp where
  /-- 0 idle, 1 waiting for the link, 2 link low, 3 sessions closed -/
  step : Nat := 0
  t0 : Nat := 0
  /-- a wake that came from step 3 on, taken at entry into CAMP -/
  woken : Option WakeEv := none
  result : Nat := 0
  cause : Nat := 0
  sources : Nat := 0
  entered : Nat := 0
  duration : Nat := 0
  holdover : Nat := 0
  rcPeriod : Nat := 0
  /-- the crystal was lost in CAMP: CLK at L1 is due after the wake -/
  lost : Bool := false
  /-- settings kept in AON retention: TimerWake in s, CanWake, CanWakeTime in µs, and the others of the block (R451) -/
  timer : Nat := 0
  canWake : Nat := 0
  canTime : Nat := 0
  linkLevel : Nat := 0
  linkTimeout : Nat := 0
  hvilClose : Nat := 0
  /-- AON periods of the stay up to the wake, on the crystal and on the RC, which the load of device time adds to (R449) -/
  periods : Nat × Nat := (0, 0)
  /-- the crystal qualified in this stay (R71) -/
  qual : Bool := false
  /-- windows 28 to 31, by number less 28 -/
  windows : Tab KeptWin := []
deriving DecidableEq, Repr

/-- A leg of an actuator drive's commutator (R459 to R464). Times are in interpolator phases since LANE left reset. -/
structure ActLeg where
  /-- the commands of its high and low side, when each last turned on and off -/
  hi : Bool := false
  lo : Bool := false
  hiAt : Nat := 0
  loAt : Nat := 0
  hiOff : Nat := 0
  loOff : Nat := 0
  /-- times in which the low side was on, latest first -/
  lows : List (Nat × Nat) := []
  /-- a refresh pulse runs, and it has completed with the high side not yet on since -/
  ref : Bool := false
  charged : Bool := false
deriving DecidableEq, Repr

/-- An actuator drive's commutator (R457 to R463, R485). -/
structure Act where
  mode : CommMode := .off
  /-- modes to enter at the coming period starts -/
  next : List CommMode := []
  /-- duty word of the current period, and the word that the Park lock's or Clutch's sequencer writes, F32 -/
  duty : Nat := 0
  word : Nat := 0
  /-- start of the current period, in units of device time -/
  startAt : Nat := 0
  /-- sector in use, none while the Hall code is illegal -/
  sector : Option Nat := none
  legs : Tab ActLeg := []
  ilim : Bool := false
  itrip : Bool := false
  refreshed : Bool := false
  /-- since when the drive has driven its motor, device time plus one, 0 while it does not (R217) -/
  drivenAt : Nat := 0
deriving DecidableEq, Repr

/-- The Pump sequencer (R469 to R472). -/
structure Pump where
  on : Bool := false
  boost : Bool := false
  windmill : Bool := false
  /-- a start waits for step 1 or 2 of R471; the brake of step 2 runs, since -/
  start : Bool := false
  brake : Bool := false
  brakeAt : Nat := 0
  evalAt : Nat := 0
deriving DecidableEq, Repr

/-- The Park lock sequencer (R474 to R477). -/
structure ParkLock where
  /-- 0 unknown, 1 released, 2 engaged, 3 moving -/
  report : Nat := 0
  /-- consecutive readings in the released and in the engaged band -/
  inRel : Nat := 0
  inEng : Nat := 0
  /-- sequence: 0 none, 1 engage, 2 release, and the time of its step 2 -/
  seq : Nat := 0
  t0 : Nat := 0
  tooth : Bool := false
  sf4 : Bool := false
  repAt : Nat := 0
deriving DecidableEq, Repr

/-- The Clutch sequencer (R479 to R483). -/
structure Clutch where
  /-- 0 unknown, 1 open, 2 closed, 3 moving -/
  report : Nat := 0
  inOpen : Nat := 0
  inClosed : Nat := 0
  /-- 0 none; 1 matching, 2 travelling to close, 3 returning for a retry, 4 returning after a close that ended, 5 unloading,
  6 opening -/
  st : Nat := 0
  t0 : Nat := 0
  sync : Bool := false
  match_ : Bool := false
  /-- device time since which the slip has stayed in band, plus one, and of the latest torque update -/
  bandSince : Nat := 0
  torqueAt : Nat := 0
  retries : Nat := 0
  repAt : Nat := 0
deriving DecidableEq, Repr

/-- A thermal sensor: die sensors 0 to 7, NTC slots 0 to 11 as 8 to 19 (R582 to R586). -/
structure Sensor where
  /-- it has been sampled since BOOT -/
  seen : Bool := false
  invalid : Bool := false
  /-- consecutive samples within Agree -/
  good : Nat := 0
  warn : Bool := false
  upper : Bool := false
  /-- interval to the next sample: 0 100 µs, 1 1 ms, 2 10 ms; and the device time at which it falls due -/
  iv : Nat := 2
  due : Nat := 0
deriving DecidableEq, Repr

/-- Thermal management (R580 to R590). -/
structure Thermal where
  sensors : Tab Sensor := []
  /-- consecutive samples of each die at or above 165 °C -/
  hot : Tab Nat := []
  /-- a sample after BOOT has read both dies at or below Thermal.ReleaseTemp (R588) -/
  released : Bool := false
deriving DecidableEq, Repr

/-- An Outrider test in the running cycle (R592 to R596): the elements tested, the element it began with, whether one
failed, and the readable bits. -/
structure TestRun where
  tested : List Nat := []
  first : Nat := 0
  failedNow : Bool := false
  failed : Bool := false
  starved : Bool := false
  /-- test 1 has met the deadline of R245 in this cycle -/
  early : Bool := false
  done : Bool := false
deriving DecidableEq, Repr

/-- The Outrider: the cycle in effect in ms, its start plus one, and its tests. -/
structure Outrider where
  cycle : Nat := 100
  startAt : Nat := 0
  tests : Tab TestRun := []
deriving DecidableEq, Repr


/-- The faults of the model: none of the spec's commands ends in one. -/
inductive Fault where
  /-- Raised by no command: kept so that the type is inhabited. Safe. -/
  | unreachable
deriving DecidableEq, Repr

/-- The refusals of the model. -/
inductive Refusal where
  /-- Answered by Dispatch for a command whose meaning is not written. Safe: nothing is claimed of it. -/
  | notModelled (mnemonic : String)
deriving DecidableEq, Repr

/-- The whole block. -/
structure State where
  /-- device time in units of 2^-32 ns (R15, R151), modulo 2^96 -/
  dt : Nat := 0
  /-- device time at the start of the latest tick, and lane ticks since LANE left reset -/
  dtPrev : Nat := 0
  tick : Nat := 0
  /-- device time at the start of the 8 ticks before the latest one, newest first (R160) -/
  dtLog : List Nat := []
  /-- the model's own counter of free values met (DESIGN CHOICE, log 4) -/
  free : Nat := 0
  dev : Dev := .off
  power : Power := {}
  fw : Firmware := {}
  fuse : Fuses := {}
  tally : Tally := {}
  /-- function states by FUNC, unlisted IDLE (R50) -/
  fns : Tab FnSt := []
  /-- Ledger objects: values in effect, pending values of shored blocks, persisted values -/
  objs : Tab Cell := []
  pend : Tab Cell := []
  mram : Tab Cell := []
  led : Ledger := {}
  man : Tab Manif := []
  rods : Tab Rod := []
  marks : List Mark := []
  /-- instances that are not armed, by 256 times mark number plus instance (R168) -/
  disarmed : Tab (Option Fired) := []
  claims : Tab Claim := []
  lanes : Tab Lane := []
  /-- trigger events and source updates on their way -/
  trigs : List TrigEv := []
  sent : List (Nat × RodUpd) := []
  caps : Tab (List CapRec) := []
  capWait : Tab (Option CapWait) := []
  sel : Tab Selector := []
  link : Link := {}
  saf : Safety := {}
  net : Net := {}
  can : Tab Can := []
  host : HostPort := {}
  res : Tab Resolver := []
  enc : Tab Encoder := []
  hall : Tab Hall := []
  grid : GridPll := {}
  /-- device time of the latest frequency word update of each rod (R202) -/
  freqAt : Tab Nat := []
  seq : Tab SeqInst := []
  cal : Tab CalCap := []
  pairs : Tab PairChk := []
  sd : Tab Demod := []
  stat : Tab Stat := []
  /-- converters whose latest tie test failed (R593) -/
  tieFail : Tab Bool := []
  /-- the readback of the modulator clocks (R248), and the converters' conversions outside sequences (R234) -/
  sdc : Tab SdcRead := []
  outc : Tab (Option OutConv) := []
  win : Tab Window := []
  brc : Tab Brace := []
  loops : Tab Loop := []
  /-- evaluations that run, and those that shared MAC lanes with them, oldest first (R308) -/
  mac : List MacJob := []
  /-- claimed loops with the block that names each, in force since the latest release (R283) -/
  owned : List (Nat × Nat) := []
  inj : Inject := {}
  resp : Resp := {}
  /-- brace evaluations of the running and of the latest whole millisecond of device time, and its number (R319) -/
  evals : Nat := 0
  evalsPrev : Nat := 0
  evalMs : Nat := 0
  drv : Tab Drive := []
  chg : Charger := {}
  cnv : Converter := {}
  axle : Axle := {}
  camp : Camp := {}
  /-- loop current flows through the HVIL switch (R445) -/
  hvilCurrent : Bool := true
  /-- actuator drives 0 to 2 and their sequencers -/
  act : Tab Act := []
  pump : Pump := {}
  plock : ParkLock := {}
  clutch : Clutch := {}
  therm : Thermal := {}
  outr : Outrider := {}
  /-- lanes that Plumb holds at OFF for the park lock (R477) -/
  plumbHeld : Tab Bool := []
  /-- the grid frequency that vehicle-to-load forms, F32 (R424) -/
  formHz : Nat := 0
  /-- firings of each trigger mark, by its number, since the latest release -/
  fired : Tab Nat := []
  /-- detectors whose raise holds until it is acknowledged (R361) -/
  once : Tab Bool := []
  /-- the commands that are waiting, first in, first out -/
  pending : List Instr := []
deriving DecidableEq, Repr

/-- The seal words of lanes 96 to 127 as programmed at manufacture (R190): groups 6 and 7. -/
def resetSealWords : Tab (BitVec 16) := [
  (384, 0x01D9), (385, 0x02D9), (386, 0x01D9), (387, 0x02D9), (388, 0x01D9), (389, 0x02D9), (390, 0x01E9), (391, 0x02E9), (392, 0x01E9), (393, 0x02E9), (394, 0x01E9), (395, 0x02E9), (396, 0x01F9), (397, 0x02F9), (398, 0x01F9), (399, 0x02F9),
  (448, 0x01F9), (449, 0x02F9), (450, 0x0008), (451, 0x0008), (452, 0x0008), (453, 0x0008), (454, 0x0008), (455, 0x0008), (456, 0x0008), (457, 0x0008), (458, 0x0008), (459, 0x0008), (460, 0x0008), (461, 0x0008), (462, 0x0008), (463, 0x0008)]

/-- The CRC words of groups LS6 and LS7 (R509). -/
def resetSealCrc : Tab Word := [(6, 0x42896B5A), (7, 0xACAB757D)]

/-- The block right after reset: OFF, the power-up controller idle, no command waiting; every table lists nothing but
the seal words of LS6 and LS7 and their CRC words, which are programmed at manufacture (R189, R190, R509), and key
slot 0, which is loaded (R118). -/
def State.reset : State :=
  { fuse := { words := resetSealWords, crc := resetSealCrc },
    led := { keySlots := [(0, { state := 1, keyId := Config.factoryKeyId })] } }

end Sys2Proof.Machine
end

