-- ==== Sys2Proof/Machine/Tab.lean ====
section
/-! DEFINITION. Tables from Nat keys in canonical form: keys strictly rising and no entry equal to what
an unlisted key reads as. -/

namespace Sys2Proof.Machine

/-- The value a key is listed with, if any. -/
def tabFind {α : Type} : Tab α → Nat → Option α
  | [], _ => none
  | (k, v) :: t, q => if q = k then some v else tabFind t q

/-- List a key with a value, in place, keeping the keys in rising order. -/
def tabPut {α : Type} : Tab α → Nat → α → Tab α
  | [], q, x => [(q, x)]
  | (k, v) :: t, q, x =>
    if q < k then (q, x) :: (k, v) :: t
    else if q = k then (q, x) :: t
    else (k, v) :: tabPut t q x

/-- Remove a key. -/
def tabDel {α : Type} : Tab α → Nat → Tab α
  | [], _ => []
  | (k, v) :: t, q => if q = k then t else (k, v) :: tabDel t q

/-- What a key reads as, where `d` says what an unlisted key reads as. -/
def tabGetD {α : Type} (d : Nat → α) (t : Tab α) (q : Nat) : α := (tabFind t q).getD (d q)

/-- Write a key: an entry equal to what the unlisted key reads as is removed. -/
def tabSetD {α : Type} [DecidableEq α] (d : Nat → α) (t : Tab α) (q : Nat) (x : α) : Tab α :=
  if x = d q then tabDel t q else tabPut t q x

/-- What a key reads as when every unlisted key reads as one value. -/
def tabGet {α : Type} (d : α) (t : Tab α) (q : Nat) : α := tabGetD (fun _ => d) t q

/-- Write a key of a table whose unlisted keys read as one value. -/
def tabSet {α : Type} [DecidableEq α] (d : α) (t : Tab α) (q : Nat) (x : α) : Tab α :=
  tabSetD (fun _ => d) t q x

/-- Apply a function to the value of a key. -/
def tabMod {α : Type} [DecidableEq α] (d : α) (t : Tab α) (q : Nat) (f : α → α) : Tab α :=
  tabSet d t q (f (tabGet d t q))

/-- The keys rise strictly, and all lie above a bound when one is given. -/
def tabSorted {α : Type} : Tab α → Bool
  | [] => true
  | [_] => true
  | (k, _) :: (k', v) :: t => decide (k < k') && tabSorted ((k', v) :: t)

/-- The canonical form: keys strictly rising and no entry equal to what the unlisted key reads as. -/
def tabWf {α : Type} [DecidableEq α] (d : Nat → α) (t : Tab α) : Bool :=
  tabSorted t && t.all (fun e => decide (e.2 ≠ d e.1))

end Sys2Proof.Machine
end

