-- ==== Sys2Proof/Machine/Ops.lean ====
section
/-! DEFINITION. The named operations over the state: device time, free values, function states, the object store
with its sidebands, and the answers to requests. -/

namespace Sys2Proof.Machine

/-- Device time in ns (R15). -/
def now (s : State) : Nat := s.dt / 2 ^ 32

/-- The next free value, and the state that has met it (DESIGN CHOICE, log 4). -/
def freshWord (s : State) : BitVec 64 × State := (Config.freeWord s.free, { s with free := s.free + 1 })

/-- The state of a function (R50). -/
def fnState (s : State) (f : Fn) : FnSt := tabGet .idle s.fns (fnCode f)

/-- Put a function into a state; the generator stops with state 3 when the claiming function, that was in ARMED or RUN, leaves them
(R322). -/
def setFn (s : State) (f : Fn) (x : FnSt) : State :=
  { s with
    fns := tabSet .idle s.fns (fnCode f) x,
    inj := if s.inj.st = 1 ∧ s.inj.fn = some f ∧ (fnState s f = .armed ∨ fnState s f = .run) ∧ x ≠ .armed ∧ x ≠ .run then { s.inj with st := 3 } else s.inj }

/-- Keys at L3 or above of a function that have not retired (R51, R531). -/
def fnFaulted (s : State) (f : Fn) : Bool :=
  s.tally.keys.any (fun e => decide (e.1 % 16 = fnCode f) && e.2.active && decide (3 ≤ e.2.eff))

/-- A function is in ARMED or RUN. -/
def fnLive (s : State) (f : Fn) : Bool := decide (fnState s f = .armed) || decide (fnState s f = .run)

/-- Code of a function state (R50). -/
def fnStCode : FnSt → Nat
  | .idle => 0 | .shored => 1 | .armed => 2 | .run => 3 | .stopped => 4 | .safe => 5 | .lockout => 6

/-- Code of a device state in System.State (R49); OFF and CAMP are never read. -/
def devCode : Dev → Nat
  | .off => 0 | .camp => 1 | .boot => 2 | .check => 3 | .preop => 4 | .operational => 5 | .lockout => 6

/-- The clock domains run: any state but OFF and CAMP, and no reset holds the device (R43, R67). -/
def running (s : State) : Bool := decide (s.dev ≠ .off) && decide (s.dev ≠ .camp) && !s.power.srstHeld

/-- The Ledger is served: PREOP, OPERATIONAL or LOCKOUT, and no reset holds the device (R67, R82, R83). -/
def serving (s : State) : Bool :=
  (decide (s.dev = .preop) || decide (s.dev = .operational) || decide (s.dev = .lockout)) && !s.power.srstHeld

/-- The stored cell of an object in effect. -/
def cellAt (s : State) (a : Nat) : Cell := tabGetD dfltAt s.objs a

/-- Store a cell. -/
def setCell (s : State) (a : Nat) (c : Cell) : State := { s with objs := tabSetD dfltAt s.objs a c }

/-- The value of an object of at most 32 bits, or the value part of a Ridge word (R29). -/
def ob (s : State) (idx sub : Nat) : Nat := (cellAt s (oaddr idx sub)).toNat % 2 ^ 32

/-- The value of a 64-bit object. -/
def ob64 (s : State) (idx sub : Nat) : Nat := (cellAt s (oaddr idx sub)).toNat

/-- The value of an F32 object. -/
def obF (s : State) (idx sub : Nat) : Rat := f32Val (ob s idx sub)

/-- The sideband of a Ridge-backed object: CAL 8, INV 4, SAT 2, STL 1 (R29). -/
def obSide (s : State) (idx sub : Nat) : Nat := bits (cellAt s (oaddr idx sub)).toNat 35 32

/-- Store a value that has no sideband. -/
def putOb (s : State) (idx sub v : Nat) : State := setCell s (oaddr idx sub) (BitVec.ofNat 64 v)

/-- Write a Ridge word: value and sideband (R29, R31). -/
def putRidge (s : State) (idx sub v side : Nat) : State :=
  setCell s (oaddr idx sub) (BitVec.ofNat 64 (v % 2 ^ 32 + side % 16 * 2 ^ 32))

/-- Set bits of a Ridge word's sideband, leaving its value. -/
def orSide (s : State) (idx sub m : Nat) : State :=
  putRidge s idx sub (ob s idx sub) (Nat.lor (obSide s idx sub) m)

/-- Clear bits of a Ridge word's sideband, leaving its value. -/
def clrSide (s : State) (idx sub m : Nat) : State :=
  putRidge s idx sub (ob s idx sub) (Nat.land (obSide s idx sub) (15 - m))

/-- Count an event in a wrapping U32 counter. -/
def incOb (s : State) (idx sub : Nat) : State := putOb s idx sub ((ob s idx sub + 1) % 2 ^ 32)

/-- The value of an object that takes effect at a BOOT, as the latest BOOT restored it (R96, R559, R579). -/
def bootOb (s : State) (idx sub : Nat) : Nat := (tabGetD dfltAt s.led.boot (oaddr idx sub)).toNat

/-- A signed 16-bit object. -/
def obI16 (s : State) (idx sub : Nat) : Int := toInt 16 (ob s idx sub)

/-- A signed 32-bit object. -/
def obI32 (s : State) (idx sub : Nat) : Int := toInt 32 (ob s idx sub)

/-- A set of values the objects have for a check: pending over effect for the blocks named, else in effect (R141). -/
def viewOf (s : State) (blocks : List Nat) (a : Nat) : Cell :=
  match blockAt a with
  | none => cellAt s a
  | some b => if blocks.contains b then (tabFind s.pend a).getD (cellAt s a) else cellAt s a

/-- A view's value of at most 32 bits. -/
def vw (v : Nat → Cell) (idx sub : Nat) : Nat := (v (oaddr idx sub)).toNat % 2 ^ 32

/-- A view's F32 value. -/
def vwF (v : Nat → Cell) (idx sub : Nat) : Rat := f32Val (vw v idx sub)

/-- The view of the values in effect. -/
def viewNow (s : State) : Nat → Cell := cellAt s

/-- The shore entry of a block, if it is shored (R135). -/
def shoreOf (s : State) (b : Nat) : Option Shored := s.led.shored.find? (fun x => x.blk == b)

/-- A block is shored. -/
def isShored (s : State) (b : Nat) : Bool := (shoreOf s b).isSome

/-- A block is shored and belongs to a session. -/
def shoredBy (s : State) (b n : Nat) : Bool :=
  match shoreOf s b with
  | none => false
  | some e => decide (e.owner = some n)

/-- A block is past its shore instant: its elements have stopped (R136). -/
def shoreDone (s : State) (b : Nat) : Bool := s.led.shored.any (fun e => decide (e.blk = b) && e.done)

/-- The block of an address is past its shore instant. -/
def addrDone (s : State) (a : Nat) : Bool :=
  match blockAt a with
  | none => false
  | some b => shoreDone s b

/-- An object's block is shored. -/
def addrShored (s : State) (a : Nat) : Bool :=
  match blockAt a with
  | none => false
  | some b => isShored s b

/-- A session slot. -/
def sess (s : State) (n : Nat) : Session := tabGet {} s.led.sessions n

/-- Write a session slot. -/
def setSess (s : State) (n : Nat) (x : Session) : State :=
  { s with led := { s.led with sessions := tabSet {} s.led.sessions n x } }

/-- A rod. Rod 0 runs at 5 counts a tick and is never stale (R151, R158); the others start stale. -/
def rodInit (r : Nat) : Rod := if r = 0 then { rate := 5 * 2 ^ 32, stl := false, inv := false } else {}

/-- The state of a rod. -/
def rodAt (s : State) (r : Nat) : Rod := tabGetD rodInit s.rods r

/-- Rod.Rate: a rod's rate in counts per tick as a Q28.4 word, rounded to nearest (R149). -/
def rodRate (x : Rod) : Int := toInt 32 (ofInt 32 (divRound (x.rate * 16) (2 ^ 32)))

/-- A Rod.Rate word as a frequency in Hz (R149). -/
def wordHz (w : Int) : Rat := mkRat (w * 200000000) (2 ^ 36)

/-- Write a rod. -/
def setRod (s : State) (r : Nat) (x : Rod) : State := { s with rods := tabSetD rodInit s.rods r x }

/-- A lane's generator. -/
def laneAt (s : State) (l : Nat) : Lane := tabGet {} s.lanes l

/-- Write a lane's generator. -/
def setLane (s : State) (l : Nat) (x : Lane) : State := { s with lanes := tabSet {} s.lanes l x }

/-- A lane's claim; block 0 when it is unclaimed (R177). -/
def claimOf (s : State) (l : Nat) : Claim := tabGet {} s.claims l

/-- The loaded seal word of a lane (R188, R189). -/
def laneSeal (s : State) (l : Nat) : Nat := (tabGet 0 s.fuse.loaded (l / 16 * 64 + l % 16)).toNat

/-- FUNC of a lane's seal word. -/
def sealFunc (s : State) (l : Nat) : Nat := bits (laneSeal s l) 6 4

/-- The loaded seal word of a window (R276), a protection word (R368) and a rod-source word (R510). -/
def winSeal (s : State) (w : Nat) : Nat := (tabGet 0 s.fuse.loaded (8 * 64 + w)).toNat

/-- Protection seal word n (R368). -/
def protSeal (s : State) (n : Nat) : Nat := (tabGet 0 s.fuse.loaded (9 * 64 + n)).toNat

/-- The source of a rod (R152, R510). -/
def rodSource (s : State) (r : Nat) : Nat :=
  bits (tabGet 0 s.fuse.loaded (10 * 64 + r / 4)).toNat (r % 4 * 4 + 3) (r % 4 * 4)

/-- The state of a seal group: 0 blank, 1 valid, 2 failed (R512). -/
def groupState (s : State) (g : Nat) : Nat := tabGet 0 s.fuse.state g

/-- The lane clock in interpolator phases since LANE left reset (R148). -/
def phases (s : State) : Nat := s.tick * 32

/-- Let lanes follow their commands, or hold them off (row 4 of R182). -/
def setLive (s : State) (ls : List Nat) (b : Bool) : State :=
  ls.foldl (fun t l => setLane t l { laneAt t l with live := b }) s

/-- The lanes that a block claims. -/
def blockLanes (s : State) (b : Nat) : List Nat := (s.claims.filter (fun e => decide (e.2.blk = b))).map (fun e => e.1)

/-- A function's drive state. -/
def drvIx : Drv → Nat
  | .a => 1
  | .b => 2

/-- A traction drive's running state. -/
def drvOf (s : State) (d : Drv) : Drive := tabGet {} s.drv (drvIx d)

/-- Write a drive's running state. -/
def setDrv (s : State) (d : Drv) (x : Drive) : State := { s with drv := tabSet {} s.drv (drvIx d) x }

/-- A drive's selector. -/
def selOf (s : State) (d : Drv) : Selector := tabGet {} s.sel (drvRod d)

/-- Write a drive's selector. -/
def setSel (s : State) (d : Drv) (x : Selector) : State := { s with sel := tabSet {} s.sel (drvRod d) x }

/-- A Waybill connection. -/
def wbOf (s : State) (p : Nat) : Wb := tabGet {} s.saf.wb p

/-- Write a Waybill connection. -/
def setWb (s : State) (p : Nat) (x : Wb) : State := { s with saf := { s.saf with wb := tabSet {} s.saf.wb p x } }

/-- Requests held on Waybill, OR over the connections: bits STOA, STOB, DIS, CHI (R492). -/
def wbHeld (s : State) : Nat := s.saf.wb.foldl (fun a e => Nat.lor a e.2.held) 0

/-- A CAN controller. -/
def canOf (s : State) (n : Nat) : Can := tabGet {} s.can n

/-- Write a CAN controller. -/
def setCan (s : State) (n : Nat) (x : Can) : State := { s with can := tabSet {} s.can n x }

/-- A manifest's running state. -/
def manOf (s : State) (m : Nat) : Manif := tabGet {} s.man m

/-- Write a manifest's running state. -/
def setMan (s : State) (m : Nat) (x : Manif) : State := { s with man := tabSet {} s.man m x }

/-- Set pending events of the host port's interrupt (R610). -/
def irq (s : State) (m : Nat) : State := { s with host := { s.host with irqPend := Nat.lor s.host.irqPend m } }

/-- Put the device into a state; the host port is told of a change (R44, R610). -/
def setDev (s : State) (d : Dev) : State :=
  if s.dev = d then s else irq { s with dev := d } (2 ^ 12)

end Sys2Proof.Machine
end

