-- ==== Sys2Proof/Machine/Seal.lean ====
section
/-! DEFINITION. The seal fuses (R188 to R190, R276, R368 to R371, R509 to R512): what makes a group valid, and the load
at step 7 of R72. -/

namespace Sys2Proof.Machine

/-- Words in each of the eleven groups LS0 to LS7, WS, PS, RS (R509). -/
def groupLen (g : Nat) : Nat := if g < 8 then 16 else if g = 8 then 32 else if g = 9 then 29 else 2

/-- A word of a group as the fuses hold it. -/
def fuseWord (t : Tab (BitVec 16)) (g n : Nat) : Nat := (tabGet 0 t (g * 64 + n)).toNat

/-- The words of a group. -/
def fuseGroup (t : Tab (BitVec 16)) (g : Nat) : List Nat := (List.range (groupLen g)).map (fuseWord t g)

/-- The bytes of a group, each word least significant byte first (R509). -/
def wordsBytes (l : List Nat) : List Byte := l.flatMap (leBytes 2)

/-- The CRC word of a group's content (R509). -/
def groupCrc (l : List Nat) : Nat := crc32c (wordsBytes l)

/-- A level code of a seal word (R188); code 3 is invalid. -/
def levelOf (c : Nat) : Level := if c = 0 then .low else if c = 1 then .high else .hiZ

/-- The level that turns a lane's switch on (R185, R188). -/
def onLevel (w : Nat) : Level := if bit w 3 then .high else .low

/-- A lane seal word holds no invalid code (R188). -/
def sealCodesOk (w : Nat) : Bool :=
  decide (bits w 15 14 ≠ 3) && decide (bits w 13 12 ≠ 3) && decide (bits w 11 10 ≠ 3) && decide (bits w 9 8 ≠ 3)

/-- Both lanes of a pair stand at their ON levels in the state at bit `lo` of the seal words. -/
def bothOn (a b lo : Nat) : Bool :=
  decide (levelOf (bits a (lo + 1) lo) = onLevel a) && decide (levelOf (bits b (lo + 1) lo) = onLevel b)

/-- The two seal words of lanes 2k and 2k + 1 agree with R189; a high side is lane 2k (R185). -/
def pairOk (a b : Nat) : Bool :=
  if !bit a 7 && !bit b 7 then true
  else if bit a 7 != bit b 7 then false
  else decide (bits a 9 8 ≠ bits b 9 8) && !bothOn a b 14 && !bothOn a b 12 && !bothOn a b 10

/-- The content of a lane group is valid (R189). -/
def laneGroupOk (l : List Nat) : Bool :=
  l.all sealCodesOk && (List.range 8).all (fun k => pairOk (l.getD (2 * k) 0) (l.getD (2 * k + 1) 0))

/-- The content of WS is valid: the reserved bits are 0 (R276). -/
def winGroupOk (l : List Nat) : Bool := l.all (fun w => decide (bits w 15 12 = 0) && decide (bits w 7 0 = 0))

/-- The content of PS is valid against the lane and window words (R371). -/
def protGroupOk (lane win : Nat → Nat) (l : List Nat) : Bool :=
  let f := l.take 24
  let en := f.filter (fun w => bit w 15)
  let lk := l.getD 24 0
  let trig (w0 fn : Nat) := (List.range 32).all (fun w =>
    let hit := bit (l.getD (w0 + w / 16) 0) (w % 16)
    !hit || (bit (win w) 11 && decide (bits (win w) 10 8 = fn)))
  f.all (fun w => decide (bits w 7 0 = 0))
    && en.all (fun w => let s := lane (bits w 14 8)
        bit s 7 && (decide (bits s 9 8 = 1) || decide (bits s 9 8 = 2)) && decide (1 ≤ bits s 6 4) && decide (bits s 6 4 ≤ 4))
    && decide ((en.map (fun w => bits w 14 8)).eraseDups.length = en.length)
    && (!bit lk 15 || (decide (bits lk 14 8 < 96) &&
        (let s := lane (bits lk 14 8); decide (bits s 6 4 = 0) && decide (bits s 9 8 = 0) && !bit s 7)))
    && (!bit lk 7 || (decide (bits lk 4 0 < 28) && bit (win (bits lk 4 0)) 11 && decide (bits (win (bits lk 4 0)) 10 8 = 0)))
    && decide (bits lk 6 5 = 0) && decide (bits lk 4 0 < 28)
    && trig 25 1 && trig 27 2

/-- The source codes R152 allows for a rod. -/
def rodSources (r : Nat) : List Nat :=
  if r = 0 then [0] else if r = 1 ∨ r = 2 then [1, 2, 3, 4] else if r = 3 then [5] else if r = 4 then [9]
  else if r = 5 then [10] else if r = 6 then [6] else [1, 2, 3, 4, 5, 6, 7, 8, 11]

/-- The content of RS is valid (R152, R510). -/
def rodGroupOk (l : List Nat) : Bool :=
  let src := (List.range 8).map (fun r => bits (l.getD (r / 4) 0) (r % 4 * 4 + 3) (r % 4 * 4))
  let sens := src.filter (fun c => decide (1 ≤ c) && decide (c ≤ 8))
  (List.range 8).all (fun r => (rodSources r).contains (src.getD r 0)) && decide (sens.eraseDups.length = sens.length)

/-- A group whose words and CRC word are all 0 is blank (R509). -/
def groupBlank (f : Fuses) (g : Nat) : Bool :=
  (fuseGroup f.words g).all (· == 0) && decide (tabGet 0 f.crc g = 0)

/-- A programmed group passes its check: its CRC word and its content (R189, R276, R371, R510). -/
def groupPasses (f : Fuses) (lane win : Nat → Nat) (g : Nat) : Bool :=
  let l := fuseGroup f.words g
  decide (groupCrc l = (tabGet 0 f.crc g).toNat) &&
    (if g < 8 then laneGroupOk l else if g = 8 then winGroupOk l else if g = 9 then protGroupOk lane win l else rodGroupOk l)

/-- Load one group at step 7 of R72: a group that passes takes its content, any other stays blank. -/
def loadGroup (f : Fuses) (g : Nat) : Fuses :=
  let lane (l : Nat) := (tabGet 0 f.loaded (l / 16 * 64 + l % 16)).toNat
  let win (w : Nat) := (tabGet 0 f.loaded (512 + w)).toNat
  if groupBlank f g then { f with state := tabSet 0 f.state g 0 }
  else if groupPasses f lane win g then
    { f with
      loaded := (List.range (groupLen g)).foldl (fun t n => tabSet 0 t (g * 64 + n) (tabGet 0 f.words (g * 64 + n))) f.loaded,
      state := tabSet 0 f.state g 1 }
  else { f with state := tabSet 0 f.state g 2 }

/-- Load and check the eleven groups in order (step 7 of R72, R509). -/
def loadSeals (f : Fuses) : Fuses := (List.range 11).foldl loadGroup { f with loaded := [], state := [] }

/-- A window whose seal has PRIV (R276). -/
def winPriv (s : State) (w : Nat) : Bool := bit (winSeal s w) 11

/-- FUNC of a window's seal. -/
def winFunc (s : State) (w : Nat) : Nat := bits (winSeal s w) 10 8

/-- Access code of the object at an address: an SH object of a PRIV window's block is TK (R276). -/
def accAt (s : State) (a : Nat) (r : Row) : Acc :=
  let i := a / 256
  if r.acc = .sh ∧ 0x3800 ≤ i ∧ i < 0x3C00 ∧ winPriv s ((i - 0x3800) / 0x20) then .tk else r.acc

end Sys2Proof.Machine
end

