-- ==== Sys2Proof/Machine/CheckVal.lean ====
section
/-! DEFINITION. The commissioning check value (R513). -/

namespace Sys2Proof.Machine

/-- Every dictionary row that may hold privileged parameters: TK rows, and the rows of the windows (R276). -/
def tkRows : List Row :=
  (dictCmp.filter (fun r => decide (r.acc = .sh) || decide (r.acc = .tk)))
    ++ ([dictDev, dictSys, dictRod, dictPos, dictAcq, dictTrs, dictDrv, dictChg, dictCnv, dictAct, dictSaf, dictTly,
         dictNet, dictThm, dictOut, dictSta].flatMap (fun d => d.filter (fun r => decide (r.acc = .tk))))

/-- The addresses of a row's objects. -/
def rowAddrs (r : Row) : List Nat :=
  (List.range r.count).flatMap (fun i => (List.range r.subs).map (fun j => oaddr (r.base + r.stride * i) (r.sub + j)))

/-- Every existing TK object but Safety.Seal.Stage with its type code, in ascending order of address (R513). -/
def tkObjects (s : State) : Tab Nat :=
  (tkRows.filter (fun r => decide (r.base ≠ 0x6202))).foldl
    (fun t r => (rowAddrs r).foldl (fun t a => if accAt s a r = .tk then tabPut t a r.ty else t) t) []

/-- The string of R513 for the values a view gives and the CRC words given. -/
def checkString (s : State) (v : Nat → Cell) (crc : Nat → Nat) : List Byte :=
  (tkObjects s).flatMap (fun e =>
      leBytes 2 (e.1 / 256) ++ leBytes 1 (e.1 % 256) ++ leBytes 1 e.2 ++ leBytes (tySize e.2) (v e.1).toNat)
    ++ (List.range 11).flatMap (fun g => leBytes 4 (crc g))

/-- The published check value: a computed 0 reads 0xFFFF_FFFF (R513). -/
def checkOf (s : State) (v : Nat → Cell) (crc : Nat → Nat) : Word :=
  let c := crc32c (checkString s v crc)
  BitVec.ofNat 32 (if c = 0 then 0xFFFFFFFF else c)

/-- The check value of the privileged values in use (R513, R514). -/
def checkValue (s : State) : Word := checkOf s (viewNow s) (fun g => (tabGet 0 s.fuse.crc g).toNat)

/-- CHKOK of Safety.Status: the computed value equals the confirmed one, and the confirmed one is not 0 (R81, R520). -/
def chkOk (s : State) : Bool := decide (s.saf.computed = s.saf.confirmed) && decide (s.saf.confirmed ≠ 0)

end Sys2Proof.Machine
end

