-- ==== Sys2Proof/Machine/Boot.lean ====
section
/-! DEFINITION. What a BOOT, OFF or CAMP leaves of the state, and the restore of the persisted values (R43, R92, R93,
R117, R139, R504, R533, R638). -/

namespace Sys2Proof.Machine

/-- Persist a cell as the value of an object, without a sideband. -/
def persistCell (s : State) (a : Nat) (c : Cell) : State :=
  { s with mram := tabSetD dfltAt s.mram a (BitVec.ofNat 64 (c.toNat % (if (rowAt a).any (fun r => r.ridge) then 2 ^ 32 else 2 ^ 64))) }

/-- Persist the value in effect of an object. -/
def persistAt (s : State) (a : Nat) : State := persistCell s a (cellAt s a)

/-- A twin-key commit past its commit instant is never undone by a reset (R519): its values are persisted and the approved value is
confirmed; a staged group that has not been blown stays blank (DESIGN CHOICE, log 124). -/
def commitKept (s : State) : State :=
  if s.saf.committing.isSome then
    let s1 := s.saf.tkList.foldl persistAt s
    { s1 with saf := { s1.saf with confirmed := BitVec.ofNat 32 s.saf.proposed } }
  else s

/-- What survives when the clock domains' logic is reset: the MRAM, the fuses, the LOCKOUT record and its log, key
slots, the confirmed check value, the power-up controller, device time, and what stands in AON retention; every other
field is as after power-up (R45, R93, R118, R542, R638). The times of the latest persistences are forgotten, so that R94's 10 s
begin anew (DESIGN CHOICE, log 99). A commit under way is kept (R519). -/
def bootState (s : State) : State :=
  let c := commitKept s
  { ({} : State) with
    dt := s.dt, tick := s.tick, free := s.free, dev := s.dev, power := s.power, fw := { s.fw with running := none, fallback := false },
    fuse := { words := s.fuse.words, crc := s.fuse.crc },
    tally := { lockRec := s.tally.lockRec, log := s.tally.log },
    led := { keySlots := s.led.keySlots }, mram := c.mram, saf := { confirmed := c.saf.confirmed },
    camp := { s.camp with step := 0, woken := none },
    pending := s.pending,
    objs := match tabFind s.objs (oaddr 0x2020 4) with
      | none => []
      | some c => [(oaddr 0x2020 4, c)] }

/-- The objects whose written values take effect at the next BOOT are kept as they are at a BOOT (R96, R559, R579). -/
def bootObject (a : Nat) : Bool := decide (a / 256 = 0x1030) || (decide (0x6C00 ≤ a / 256) && decide (a / 256 < 0x6E00))

/-- A CAN controller as its mode starts it at a BOOT: OFF, NORMAL, LISTEN, or DETECT with the first candidate that is not 0
(R567, R576). -/
def canStart (s : State) (cn : Nat) : State :=
  let b := 0x6D00 + 0x80 * cn
  let m := ob s b 1
  let c := canOf s cn
  let cand := ((List.range 8).find? (fun k => decide (ob s (b + 2) (k + 1) ≠ 0))).getD 0 + 1
  let s1 := setCan s cn { c with
    on := decide (m ≠ 0), listen := decide (m = 2) || decide (m = 3), detecting := decide (m = 3), cand := cand, good := 0, brsSeen := false,
    dwellAt := now s, detectAt := now s }
  if m = 3 then putOb s1 (b + 2) 0xD 1 else s1

/-- The persisted values take effect (check 9 of R78, R83, R93), and the transports and networks take the settings that
hold until the next BOOT (R96). -/
def restoreCfg (s : State) : State :=
  let s1 := s.mram.foldl (fun t e => setCell t e.1 e.2) s
  canStart (canStart { s1 with led := { s1.led with boot := s1.objs.filter (fun e => bootObject e.1) } } 0) 1

/-- Drop the persisted values of a block whose configuration area is unreadable; 0x1000 stands for the device-level
objects (R92, R95). The confirmed check value 0x6004.00 is an RO object and no part of a configuration area: it stays (DESIGN CHOICE,
log 114). -/
def forgetBlock (s : State) (b : Nat) : State :=
  { s with mram := s.mram.filter (fun e => !(decide (blockAt e.1 = some b) || (decide (b = 0x1000) && decide (e.1 / 256 < 0x2000)))) }

/-- The controller drops PMIC_EN and the device enters OFF: all logic is in reset, the lanes stand in their R64 state and
ERR_N is low (R43, R44, R62, R64, R65). `cause` is what the next start will record (R86). -/
def toOff (s : State) (cause : Nat) : State :=
  let b := bootState s
  setDev { b with
    dt := 0, tick := 0, camp := {},
    power := { s.power with
      ctl := .idle, pmicEn := false, pmicPg := false, attempts := 0, refSampled := false,
      refExternal := false, refUv := 2500000, xtalOk := false, pllLock := false, cause := cause, srstHeld := false, x32On := false,
      x32Given := false, x32Lost := false, laneR64 := true, errnHeld := true, override := false, preUs := 0 } } .off

/-- Enter BOOT (R44, R68, R72): the domains leave reset, or a reset ends; the start-up record begins anew (R86).
Device time counts from BOOT, but after a camp wake it goes on (R449; chapter 17). -/
def enterBoot (s : State) (cause us : Nat) : State :=
  let b := bootState s
  let t0 := if cause = 6 then s.dt else 0
  let b1 := { b with dt := t0, tick := 0, power := { s.power with
    ctl := .running, attempts := 0, srstHeld := false, laneR64 := true,
    errnHeld := true, override := false, bootAt := t0 / 2 ^ 32, preUs := us, cause := cause } }
  let b2 := putOb (putOb (putOb b1 0x2020 1 cause) 0x2020 7 (if s.power.x32On then 0 else 1)) 0x2020 8
              (if s.power.refExternal then 1 else 0)
  irq { b2 with dev := .boot } (2 ^ 12)

/-- The bits of System.Boot.Check that a start sets, before the checks run: FALLBACK (R76, R87). -/
def checkBits (s : State) : Nat := bitAt s.fw.fallback 4

/-- System.Boot.Duration: from the trigger of R72, or the entry into BOOT after a reset, to now (R86). -/
def bootDuration (s : State) : Nat := s.power.preUs + (now s - s.power.bootAt) / 1000

end Sys2Proof.Machine
end

