-- ==== Sys2Proof/Machine/LaneCfg.lean ====
section
/-! DEFINITION. The static side of rods, marks and lanes: what a set of object values places, claims and demands
(R152, R163, R165 to R170, R177 to R179, R193, R197). A view is a set of values of the objects. -/

namespace Sys2Proof.Machine

/-- First index of rod r's block (R164). -/
def rodBase (r : Nat) : Nat := 0x2800 + 0x10 * r

/-- Rod.MaxRate in Q28.4, and for rod 0 its fixed rate (R151, R163). -/
def maxRateOf (v : Nat → Cell) (r : Nat) : Nat := if r = 0 then 0x50 else vw v (rodBase r + 1) 2

/-- Carrier.MaxRate in Q28.4, and for rod 0 its fixed value (R163). -/
def carMaxOf (v : Nat → Cell) (r : Nat) : Nat := if r = 0 then 0x147AE148 else vw v (rodBase r + 2) 4

/-- The mark that a control word holds: none where EN is 0 (R165, R166). -/
def markOf (blk posAt pos ctl : Nat) : Option Mark :=
  if bit ctl 31 then
    some { blk := blk, src := bits ctl 28 25, pos := pos, posAt := posAt, dir := bits ctl 30 29,
           action := bits ctl 24 22, target := bits ctl 13 7, reps := bits ctl 21 14 + 1 }
  else none

/-- A control word's DIR and TARGET are in their ranges (R166). -/
def ctlOk (ctl : Nat) : Bool :=
  let a := bits ctl 24 22
  let t := bits ctl 13 7
  decide (bits ctl 30 29 ≠ 3)
    && (if a ≤ 3 then true else if a = 4 then decide (t < 64) else if a = 7 then decide (t < 16) else decide (t < 32))

/-- A lane configuration word's MODE is defined, and PAIR stands on an even lane (R178, R179). -/
def laneCfgOk (l cfg : Nat) : Bool :=
  decide (bits cfg 31 28 ≤ 4) && (decide (bits cfg 31 28 ≠ 2) || decide (l % 2 = 0))

/-- The lane claimed by entry e of the integrator block, none for 0xFF (R197). -/
def integClaim (v : Nat → Cell) (e : Nat) : Option (Nat × Claim) :=
  let l := vw v 0x2B00 (e + 1)
  if l < 128 then
    some (l, { blk := 0x2B00, cfg := vw v 0x2B01 (e + 1), timing := vw v 0x2B02 (e + 1) })
  else none

/-- The lanes of the integrator block (R197). -/
def integClaims (v : Nat → Cell) : List (Nat × Claim) := (List.range 16).filterMap (integClaim v)

/-- The marks of the integrator block in order of their index, each with a live position (R165, R173, R197). -/
def integMarks (v : Nat → Cell) : List Mark :=
  (List.range 64).filterMap (fun i => markOf 0x2B00 (oaddr 0x2B03 (i + 1)) (vw v 0x2B03 (i + 1)) (vw v 0x2B04 (i + 1)))

/-- What a strike checks of the integrator block (R166, R178, R197). -/
def integOk (v : Nat → Cell) : Bool :=
  (List.range 64).all (fun i => ctlOk (vw v 0x2B04 (i + 1)))
    && (integClaims v).all (fun c => laneCfgOk c.1 c.2.cfg) && (List.range 16).all (fun e => !bit (vw v 0x2B01 (e + 1)) 27)
    && decide ((toInt 32 (vw v 0x2B05 0)).natAbs ≤ maxRateOf v 7)

/-- What a strike checks of the capture units (R193). -/
def captureOk (v : Nat → Cell) : Bool := (List.range 16).all (fun u => decide (vw v (0x2A00 + u) 1 ≤ 0xC6))

/-- The carrier setting of a rod stays within Carrier.MaxRate (R163). -/
def carrierOk (v : Nat → Cell) (r mode ratio rate : Nat) : Bool :=
  (decide (mode ≠ 1) || decide (rate ≤ carMaxOf v r)) && (decide (mode ≠ 2) || decide (ratio * maxRateOf v r ≤ carMaxOf v r))

/-- A rod's own strike check (R163, R164). -/
def rodOk (v : Nat → Cell) (r : Nat) : Bool :=
  decide (maxRateOf v r < 2 ^ 31)
    && carrierOk v r (vw v (rodBase r + 2) 1) (vw v (rodBase r + 2) 2) (vw v (rodBase r + 2) 3)

/-- max(K × MaxRate, Rod.SlewFloor) of R170 in counts per tick. -/
def slewBound (v : Nat → Cell) (r : Nat) : Rat :=
  rmax (mkRat (vw v (rodBase r + 1) 3 * maxRateOf v r : Nat) (256 * 16)) (vw v (rodBase r + 1) 4 : Nat)

/-- The largest advance of a source in one tick, in counts (R170). -/
def advanceOf (v : Nat → Cell) (src : Nat) : Rat :=
  let r := src % 8
  if src = 0 then mkRat 0x50 16
  else if src < 8 then mkRat (maxRateOf v r : Nat) 16 + slewBound v r
  else if src = 8 then mkRat 0x147AE148 16
  else
    let q := if maxRateOf v r = 0 then 4096 else min 4096 (carMaxOf v r / maxRateOf v r)
    mkRat (carMaxOf v r : Nat) 16 + (q : Nat) * slewBound v r

/-- Position of instance j of a mark at position p with n instances (R167). -/
def instanceAt (p n j : Nat) : Nat := (p + j * 2 ^ 32 / n) % 2 ^ 32

/-- Positions of all instances of a mark. -/
def instances (m : Mark) : List Nat := (List.range m.reps).map (instanceAt m.pos m.reps)

/-- At most 8 instances fall within the largest advance of a source (R170). -/
def densityOk (v : Nat → Cell) (ms : List Mark) (src : Nat) : Bool :=
  let xs := (ms.filter (fun m => decide (m.src = src))).flatMap instances
  let a := advanceOf v src
  xs.all (fun x => decide ((xs.filter (fun y => decide ((((y + 2 ^ 32 - x) % 2 ^ 32 : Nat) : Rat) < a))).length ≤ 8))

/-- The limits of R165 and the density of R170 over all held marks. -/
def marksOk (v : Nat → Cell) (ms : List Mark) : Bool :=
  decide (ms.length ≤ 1024)
    && (List.range 16).all (fun src => decide ((ms.filter (fun m => decide (m.src = src))).length ≤ 256) && densityOk v ms src)

/-- The claims name no lane twice, name lanes that exist, agree with the lanes' seals and hold a defined mode (R177,
R178). -/
def claimsOk (s : State) (cs : List (Nat × Claim)) : Bool :=
  decide ((cs.map (fun c => c.1)).eraseDups.length = cs.length)
    && cs.all (fun c => decide (c.1 < 128) && laneCfgOk c.1 c.2.cfg
        && (decide (sealFunc s c.1 = 0) || decide (fnOfBlock c.2.blk = fnOf (sealFunc s c.1))))

end Sys2Proof.Machine
end

