-- ==== Sys2Proof/Machine/PosCfg.lean ====
section
/-! DEFINITION. The static side of the Position domain (R198 to R207): which block feeds which rod, what an enabled
resolver claims, and what a strike demands. -/

namespace Sys2Proof.Machine

/-- Base index of resolver i, encoder e and Hall triplet h (R198). -/
def resBase (i : Nat) : Nat := 0x3000 + 0x40 * i

/-- Base index of encoder e. -/
def encBase (e : Nat) : Nat := 0x3100 + 0x40 * e

/-- Base index of Hall triplet h. -/
def hallBase (h : Nat) : Nat := 0x3200 + 0x20 * h

/-- The source code of the Position block at an index (R152), 0 for any other block. -/
def posSource (b : Nat) : Nat :=
  if b = 0x3000 then 1 else if b = 0x3040 then 2 else if b = 0x3100 then 3 else if b = 0x3140 then 4
  else if b = 0x3300 then 5 else if b = 0x3200 then 6 else if b = 0x3220 then 7 else if b = 0x3240 then 8 else 0

/-- The Position block of a source code, if the source is one. -/
def sourceBlock (c : Nat) : Option Nat :=
  [0x3000, 0x3040, 0x3100, 0x3140, 0x3300, 0x3200, 0x3220, 0x3240].find? (fun b => decide (posSource b = c))

/-- The rod sealed to a source code (R152): each sensor feeds at most one rod. -/
def rodFed (s : State) (c : Nat) : Option Nat := (List.range 8).find? (fun r => decide (r ≠ 0) && decide (rodSource s r = c))

/-- Update interval of a source in ns (R202); 0 for device time. -/
def updateInterval (v : Nat → Cell) (c : Nat) : Rat :=
  if c = 1 ∨ c = 2 then mkRat 500000000 (max 1 (vw v (resBase (c - 1)) 2))
  else if c = 3 ∨ c = 4 then ((vw v (encBase (c - 3)) 8 * 1000 : Nat) : Rat)
  else if c = 5 then ((vw v 0x3300 7 * 1000 : Nat) : Rat)
  else if c = 0 then 0 else 100000

/-- Rod.Timeout of a rod with a sensor or a word as its source is at or above twice the update interval (R202). -/
def timeoutOk (s : State) (v : Nat → Cell) (r : Nat) : Bool :=
  let c := rodSource s r
  decide (c = 0) || decide (2 * updateInterval v c ≤ ((vw v (rodBase r + 1) 7 * 1000 : Nat) : Rat))

/-- The strobe lane of an enabled resolver: ONESHOT with a width of 128 phases (R206). -/
def resClaims (v : Nat → Cell) : List (Nat × Claim) :=
  (List.range 2).filterMap (fun i =>
    if vw v (resBase i) 1 = 1 then some (114 + i, { blk := resBase i, cfg := 3 * 2 ^ 28, timing := 128 }) else none)

/-- The strobe mark of an enabled resolver on the carrier of rod 0 (R206). -/
def resMarks (v : Nat → Cell) (i : Nat) : List Mark :=
  if vw v (resBase i) 1 = 1 then
    [{ blk := resBase i, src := 8, pos := 0, posAt := 0, dir := 0, action := 3, target := 114 + i, reps := 32 }]
  else []

/-- Both resolvers enabled have one excitation frequency (R207). -/
def posOk (v : Nat → Cell) : Bool :=
  decide (vw v 0x3000 1 ≠ 1) || decide (vw v 0x3040 1 ≠ 1) || decide (vw v 0x3000 2 = vw v 0x3040 2)

/-- The strike checks of rods and sources that a struck block set can break: only the rods struck, or fed by a struck
block, are checked against their source (R141, R202). -/
def rodsOk (s : State) (v : Nat → Cell) (bs : List Nat) : Bool :=
  (List.range 8).all (fun r =>
    let fed := match sourceBlock (rodSource s r) with | none => false | some b => bs.contains b
    (!bs.contains (rodBase r) || rodOk v r)
      && (!(bs.contains (rodBase r) || fed) || decide (r = 0) || timeoutOk s v r))

end Sys2Proof.Machine
end

