-- ==== Sys2Proof/Machine/AcqCfg.lean ====
section
/-! DEFINITION. The static side of the Acquisition and Statistics domains (R221 to R263): channels and their addresses,
trigger rates, what a strike demands, and the transfers that a configuration makes. -/

namespace Sys2Proof.Machine

/-- Base index of conversion sequence q (R237). -/
def seqBase (q : Nat) : Nat := 0x3420 + 0x10 * q

/-- Base index of demodulator d (R255). -/
def sdBase (d : Nat) : Nat := 0x3640 + 8 * d

/-- Base index of statistic unit u (R263). -/
def statBase (u : Nat) : Nat := 0x7800 + 0x10 * u

/-- Address of the channel word of a channel number (R222), none where no channel has the number. -/
def chanAddr (ch : Nat) : Option Nat :=
  if ch < 512 then some (oaddr (seqBase (ch / 16) + 13) (ch % 16 + 1))
  else if ch < 536 then some (oaddr (sdBase (ch - 512) + 2) 1) else none

/-- A channel that exists in a view: its step lies within its sequence, or its demodulator is enabled (R222). -/
def chanOk (v : Nat → Cell) (ch : Nat) : Bool :=
  if ch < 512 then decide (ch % 16 < vw v (seqBase (ch / 16)) 3)
  else decide (ch < 536) && decide (vw v (sdBase (ch - 512)) 1 = 1)

/-- The block of a channel. -/
def chanBlock (ch : Nat) : Nat := if ch < 512 then seqBase (ch / 16) else sdBase (ch - 512)

/-- Chan.Scaling of a channel (R237, R255). -/
def chanScaling (v : Nat → Cell) (ch : Nat) : Nat :=
  if ch < 512 then vw v (seqBase (ch / 16) + 3) (ch % 16 + 1) else vw v (sdBase (ch - 512) + 1) 1

/-- The blocks whose elements a consumer of a channel consumes: its own block, block 0x3400 in TABLE scaling, and 0x3700
for a demodulator (R223). -/
def chanBlocks (v : Nat → Cell) (ch : Nat) : List Nat :=
  if 536 ≤ ch then []
  else chanBlock ch :: ((if 1 ≤ chanScaling v ch then [0x3400] else []) ++ (if 512 ≤ ch then [0x3700] else []))

/-- Turns per second of a source at its highest permitted rate (R35). -/
def sourceTurns (v : Nat → Cell) (src : Nat) : Rat :=
  let w := if src < 8 then maxRateOf v src else carMaxOf v (src - 8)
  mkRat (w * 200000000 : Nat) (2 ^ 36)

/-- Firing rate of a mark (R35). -/
def markRate (v : Nat → Cell) (m : Mark) : Rat := (m.reps : Nat) * sourceTurns v m.src

/-- Largest rate of trigger lines 0 to 63: the marks that drive the line (R235). -/
def lineRate (v : Nat → Cell) (ms : List Mark) (line : Nat) : Rat :=
  (ms.filter (fun m => decide (m.action = 4) && decide (m.target = line))).foldl (fun a m => a + markRate v m) 0

/-- Largest trigger rate of a sequence (R235). -/
def seqRate (v : Nat → Cell) (ms : List Mark) (q : Nat) : Rat :=
  let t := vw v (seqBase q) 2
  if t < 64 then lineRate v ms t else if t < 76 then (vw v (seqBase q) 6 : Nat) else 0

/-- A sequence uses a converter: its own, and in DUPLEX its partner too (R233). -/
def seqUses (v : Nat → Cell) (q cv : Nat) : Bool :=
  let c := vw v (seqBase q) 1
  decide (c = cv) || (decide (vw v (seqBase q) 4 = 2) && decide (Nat.xor c 1 = cv))

/-- Conversions per second of a converter (R235). -/
def occupancy (v : Nat → Cell) (ms : List Mark) (cv : Nat) : Rat :=
  (List.range 32).foldl (fun a q => if seqUses v q cv then a + (vw v (seqBase q) 3 : Nat) * seqRate v ms q else a) 0

/-- What a strike checks of a sequence (R224, R232). -/
def seqOk (v : Nat → Cell) (q : Nat) : Bool :=
  let b := seqBase q
  (decide (vw v b 4 ≠ 1) || decide (vw v b 3 = 1))
    && (List.range 16).all (fun k => decide (vw v (b + 1) (k + 1) ≤ 28))
    && (decide (vw v b 2 < 76) || decide (vw v b 2 = 0xFF))

/-- Modulator clock period of a divider in units of 0.625 ns (1.6 GHz cycles) (R248). -/
def sdcDivider (v : Nat → Cell) (d : Nat) : Nat := vw v 0x3700 (vw v (sdBase d) 2 + 1)

/-- Output rate of a demodulator (R251); a line from 64 on has the largest Seq.LineRate declared for it (R235; DEDUCED, log
49). -/
def sdRate (v : Nat → Cell) (ms : List Mark) (d : Nat) : Rat :=
  let b := sdBase d
  if vw v b 1 ≠ 1 then 0
  else if vw v b 4 = 1 then
    (if vw v b 5 < 64 then lineRate v ms (vw v b 5)
     else (List.range 32).foldl (fun a q =>
       if vw v (seqBase q) 2 = vw v b 5 ∧ vw v b 5 < 76 then rmax a (vw v (seqBase q) 6 : Nat) else a) 0)
  else if sdcDivider v d = 0 then 0 else mkRat 1600000000 (sdcDivider v d * vw v b 3)

/-- What a strike checks of a demodulator (R251, R256). -/
def sdOk (v : Nat → Cell) (ms : List Mark) (d : Nat) : Bool :=
  decide (vw v (sdBase d) 1 ≠ 1)
    || (decide (sdcDivider v d ≠ 0) && decide (sdRate v ms d ≤ 1000000)
        && (decide (vw v (sdBase d) 5 < 76) || decide (vw v (sdBase d) 5 = 0xFF)))

/-- The codes of a scaling table rise strictly (R239): as U16 for the sequence channels that use it, as I16 for the demodulators
that do (R247); in one of the two orders where no channel uses it (DEDUCED, log 48). -/
def tableOk (v : Nat → Cell) (t : Nat) : Bool :=
  let c (i : Nat) := vw v (0x3410 + t) (i + 1)
  let rises (f : Nat → Int) := (List.range 15).all (fun i => decide (f (c i) < f (c (i + 1))))
  let up := rises (fun x => (x : Int))
  let sgn := rises (fun x => toInt 16 x)
  let seqs := (List.range 512).any (fun ch => chanOk v ch && decide (chanScaling v ch = t + 1))
  let sds := (List.range 24).any (fun d => chanOk v (512 + d) && decide (chanScaling v (512 + d) = t + 1))
  (!seqs || up) && (!sds || sgn) && (up || sgn)

/-- What a strike checks of block 0x3400 (R239, R247). -/
def acqOk (v : Nat → Cell) : Bool :=
  (List.range 4).all (tableOk v) && (List.range 8).all (fun p => decide (vw v 0x3403 (p + 1) ≤ 28))

/-- An object is Ridge-backed in a view; Sample.Value only with Step.RawOut at 1 (R236). -/
def ridgeBacked (v : Nat → Cell) (a : Nat) : Bool :=
  let i := a / 256
  match rowAt a with
  | none => false
  | some r => r.ridge ||
      (decide (0x3420 ≤ i ∧ i < 0x3620) && decide ((i - 0x3420) % 16 = 14)
        && decide (vw v (i - 12) (a % 256) = 1))

/-- An object reference of R263: INDEX in [31:16], SUB in [15:8], as an address. -/
def refAddr (w : Nat) : Nat := w / 65536 * 256 + bits w 15 8

/-- Ridge words per second that the converters and demodulators write (R34, R236, R251). -/
def acqLoad (v : Nat → Cell) (ms : List Mark) : Rat :=
  (List.range 32).foldl (fun a q =>
      let n := vw v (seqBase q) 3
      let raw := ((List.range n).filter (fun k => decide (vw v (seqBase q + 2) (k + 1) = 1))).length
      a + ((n + raw : Nat) : Rat) * seqRate v ms q) 0
    + (List.range 24).foldl (fun a d => a + sdRate v ms d) 0

/-- The strike checks of the Acquisition and Statistics domains that the struck blocks can break (R142, R235). -/
def acqStrikeOk (v : Nat → Cell) (ms : List Mark) (bs : List Nat) : Bool :=
  (List.range 32).all (fun q => !bs.contains (seqBase q) || seqOk v q)
    && (List.range 24).all (fun d => sdOk v ms d)
    && (!bs.contains 0x3400 || acqOk v)
    && (List.range 16).all (fun cv => decide (occupancy v ms cv ≤ 8000000))

end Sys2Proof.Machine
end

