-- ==== Sys2Proof/Machine/RodOps.lean ====
section
/-! DEFINITION. Carriers and the interfaces of the Position domain as operations that raise no fault: settings taken at a
wrap, starts, status words and the confirmation of fault bits (R161 to R163, R201 to R207, R210, R214). -/

namespace Sys2Proof.Machine

/-- Arm every instance of the marks on a source; one that fired in the latest tick is armed after it (R168). -/
def armSource (s : State) (src : Nat) : State :=
  { s with disarmed := s.disarmed.filterMap (fun e =>
      match s.marks[e.1 / 256]?, e.2 with
      | some m, some f =>
        if m.src ≠ src then some e else if f.tick = s.tick then some (e.1, some { f with again := true }) else none
      | _, _ => none) }

/-- A carrier setting that starts arms the statistic units on its source (R168, R258). -/
def armStats (s : State) (src : Nat) : State :=
  (List.range 32).foldl (fun t u =>
    if ob t (statBase u) 2 = src then { t with stat := tabMod {} t.stat u (fun x => { x with armed := true }) } else t) s

/-- The written setting of a carrier comes into force with the carrier phase at 0 and the anchor at a rod position
(R162). -/
def carrierTake (s : State) (r : Nat) (anchor : BitVec 64) : State :=
  let x := rodAt s r
  let b := rodBase r + 2
  armStats (armSource (setRod s r { x with
    cmode := ob s b 1, cratio := ob s b 2, crate := ob s b 3, cpos := 0, cmoved := 0, cprev := 0, anchor := anchor,
    cpend := false }) (8 + r)) (8 + r)

/-- A write to a carrier's mode, ratio or rate: taken at once in OFF, else at the next wrap (R162). -/
def carrierWrite (s : State) (r : Nat) : State :=
  let x := rodAt s r
  if x.cmode = 0 then carrierTake s r x.pos else setRod s r { x with cpend := true }

/-- The objects of a carrier differ from the setting in force: the write takes its way (R162). -/
def carrierSync (s : State) (r : Nat) : State :=
  let x := rodAt s r
  let b := rodBase r + 2
  if ob s b 1 = x.cmode ∧ ob s b 2 = x.cratio ∧ ob s b 3 = x.crate then s else carrierWrite s r

/-- The status word of an interface (R204). -/
def ifaceWord (io : Iface) : Nat := io.motion % 4 * 512 + bitAt io.lock 8 + io.faults % 256

/-- Publish an interface's status word. -/
def putIface (s : State) (base : Nat) (io : Iface) : State := putOb s (base + 1) 1 (ifaceWord io)

/-- One measurement of a fault bit: it sets after n in a row with the condition present and clears after n in a row
without (R204). -/
def confirmBit (n : Nat) (b : Nat) (present : Bool) (io : Iface) : Iface :=
  if bit io.faults b = present then { io with cnt := tabSet 0 io.cnt b 0 }
  else
    let c := tabGet 0 io.cnt b + 1
    if n ≤ c then { io with cnt := tabSet 0 io.cnt b 0, faults := Nat.xor io.faults (2 ^ b) }
    else { io with cnt := tabSet 0 io.cnt b c }

/-- Excitation of an enabled resolver: the carrier of rod 0 runs free at ExcFreq (R207). -/
def excite (s : State) (i : Nat) : State :=
  let f := ob s (resBase i) 2
  let w := (rroundUp (mkRat (f * 2 ^ 36 : Nat) 200000000)).toNat
  carrierSync (putOb (putOb s (rodBase 0 + 2) 1 1) (rodBase 0 + 2) 3 w) 0

/-- A Position block starts: at its strike or abandon and at entry into PREOP (R143, R201, R207, R210, R214). An encoder's raw count
restarts at 0 (DESIGN CHOICE, log 112). -/
def startPos (s : State) (b : Nat) : State :=
  match posSource b with
  | 0 => s
  | 5 =>
    let g : GridPll := { stepAt := now s, phase := s.grid.phase }
    putIface { s with grid := g } 0x3300 {}
  | c =>
    if c ≤ 2 then
      let s1 := putIface { s with res := tabSet {} s.res (c - 1) {} } b ({} : Iface)
      if ob s1 b 1 = 1 then excite s1 (c - 1) else s1
    else if c ≤ 4 then
      let on := decide (ob s b 1 = 1) && decide (ob s b 6 = 1)
      let io : Iface := { lock := on }
      let e : Encoder := { io := io, cz := if on then some 0 else none, updAt := now s }
      putOb (putIface { s with enc := tabSet {} s.enc (c - 3) e } b io) (b + 1) 2 0
    else
      let h : Hall := { sentAt := now s }
      putOb (putIface { s with hall := tabSet {} s.hall (c - 6) h } b {}) (b + 1) 2 0xFF

/-- The Position blocks, in the order of their indices. -/
def posBlocks : List Nat := [0x3000, 0x3040, 0x3100, 0x3140, 0x3200, 0x3220, 0x3240, 0x3300]

end Sys2Proof.Machine
end

