-- ==== Sys2Proof/Machine/Passage.lean ====
section
/-! DEFINITION. Passages of positions by sources, the times of the latest ticks, capture units, and the command of a lane
(R149, R160, R165 to R169, R179, R193 to R196, R273). -/

namespace Sys2Proof.Machine

/-- Units of device time of n ns. -/
def nsTime (n : Nat) : Nat := n * 2 ^ 32

/-- The Outrider's dump pulse lasts: Link.TestPulse from its start (R387). -/
def pulseOn (s : State) : Bool :=
  match s.link.pulse with
  | none => false
  | some (t, _) => decide (s.dt < t + nsTime (ob s 0x2100 9))

/-- Position before the latest tick and signed advance in it, of a source, in 32.32 counts (R165). -/
def srcMove (s : State) (src : Nat) : Nat × Int :=
  let x := rodAt s (src % 8)
  if src < 8 then (x.prev.toNat, x.moved) else (x.cprev.toNat, x.cmoved)

/-- Distance to a position that an advance passes: in (P, P'] forward, in [P', P) in reverse (R167). -/
def passDist (prev : Nat) (moved : Int) (x : Nat) : Option Nat :=
  let d := if moved < 0 then (prev + 2 ^ 64 - x) % 2 ^ 64 else (x + 2 ^ 64 - prev) % 2 ^ 64
  if 0 < d ∧ d ≤ moved.natAbs then some d else none

/-- Distance to a position that a source passed in the latest tick. -/
def srcPass (s : State) (src x : Nat) : Option Nat := passDist (srcMove s src).1 (srcMove s src).2 x

/-- Interpolator phase of a passage, halves rounded up (R169). -/
def passPhase (moved : Int) (d : Nat) : Nat := (64 * d + moved.natAbs) / (2 * max 1 moved.natAbs)

/-- The time of the output stage in phases: the arithmetic runs 8 ticks ahead of it (R160). -/
def outNow (s : State) : Nat := (s.tick - 8) * 32

/-- The movement of a source in the tick of a time: its position before the tick and its advance; the 8 ticks before the
latest are kept. -/
def moveAt (s : State) (src t : Nat) : Nat × Int :=
  let n := s.tick - 1 - t / 32
  if n = 0 then srcMove s src
  else
    match (rodAt s (src % 8)).log.getD (min n 8 - 1) (0, 0, 0, 0) with
    | (p, m, c, w) => if src < 8 then (p, m) else (c, w)

/-- Device time at the start of the tick of a time in phases, in units of 2^-32 ns: the ticks of the look-ahead and of the longest
window filter are kept (R160, R268). -/
def tickTime (s : State) (t : Nat) : Nat :=
  let n := s.tick - 1 - t / 32
  if s.tick ≤ t / 32 then s.dt else if n = 0 then s.dtPrev else s.dtLog.getD (min n 72 - 1) 0

/-- Device time in ns of a time in phases (R15). -/
def stampOf (s : State) (t : Nat) : Nat := (tickTime s t + t % 32 * 671088640) / 2 ^ 32

/-- Position of a source at a time in counts, interpolated to the phase (R195). -/
def posAtTime (s : State) (src t : Nat) : Nat :=
  let m := moveAt s src t
  let f : Int := if s.tick ≤ t / 32 then 32 else (t % 32 : Nat)
  (((m.1 : Int) + m.2 * f / 32) % (2 ^ 64 : Nat)).toNat / 2 ^ 32

/-- A capture unit records: enabled and not shored (R194, R196). -/
def capRuns (s : State) (u : Nat) : Bool := running s && decide (ob s (0x2A00 + u) 5 = 1) && !isShored s 0x2A00

/-- The record of a capture unit for an event at a time: edge 1 rising, 2 falling, 0 mark (R195). -/
def capRec (s : State) (u edge t : Nat) : CapRec :=
  { stamp := tickTime s t / 2 ^ 32, phase := t % 32, edge := edge, pos := posAtTime s (ob s (0x2A00 + u) 4) t }

/-- A capture unit takes a record; a full unit drops it (R194). The Charger reads the edges of its pilot unit itself (R393). -/
def capPut (s : State) (u : Nat) (r : CapRec) : State :=
  if !capRuns s u then s
  else
    let held := tabGet [] s.caps u
    if u = ob s 0x5100 3 ∧ r.edge ≠ 0 then
      { s with chg := { s.chg with edges := s.chg.edges ++ [(r.stamp * 32 + r.phase * 5, decide (r.edge = 1))] } }
    else if 16 ≤ held.length then incOb s (0x2A00 + u) 7
    else
      let old (x : CapRec) := decide ([x.stamp, x.phase] ≤ [r.stamp, r.phase])
      { s with caps := tabSet [] s.caps u (held.takeWhile old ++ r :: held.dropWhile old) }

/-- A capture unit records an event at a time (R194, R195). -/
def capture (s : State) (u edge t : Nat) : State := capPut s u (capRec s u edge t)

/-- The edge that a unit's filter holds is recorded, with its own time, once its level has held for Capture.Filter ticks
(R194). -/
def capDue (s : State) (u t : Nat) : State :=
  match tabGet none s.capWait u with
  | none => s
  | some w => if w.due ≤ t then capPut { s with capWait := tabSet none s.capWait u none } u w.rcd else s

/-- An edge on a unit's input: one of the selected polarity is recorded if its level then holds for Capture.Filter ticks; an
earlier one that has not held is not recorded (R194). -/
def capEdge (s : State) (u : Nat) (rising : Bool) (t : Nat) : State :=
  let s1 := capDue s u t
  let e := ob s (0x2A00 + u) 2
  let w : CapWait := { due := t + 32 * ob s (0x2A00 + u) 3, rcd := capRec s u (if rising then 1 else 2) t }
  let on := decide (e = 3) || decide (e = if rising then 1 else 2)
  capDue { s1 with capWait := tabSet none s1.capWait u (if on ∧ capRuns s u then some w else none) } u t

/-- An edge of an internal signal reaches the capture units that select its code (R193, R273). -/
def capCode (s : State) (code : Nat) (rising : Bool) (t : Nat) : State :=
  (List.range 16).foldl (fun u n => if ob u (0x2A00 + n) 1 = code then capEdge u n rising t else u) s

/-- The command of a lane changes at a time (R179). -/
def laneCmd (s : State) (l : Nat) (b : Bool) (t : Nat) : State :=
  let x := laneAt s l
  if x.cmd = b then s
  else setLane s l { x with cmd := b, since := t, todo := x.todo ++ [{ t := t, on := b, pair := !b }] }

/-- The commands of lanes 96 to 127 are capture inputs: an edge of one reaches its units (R193). -/
def cmdCapture (l : Nat) (s : State) (e : LaneEdge) : State :=
  if 96 ≤ l ∧ e.on ≠ (laneAt s l).cap then
    capCode (setLane s l { laneAt s l with cap := e.on }) (0xA7 + (l - 96)) e.on e.t
  else s

end Sys2Proof.Machine
end

