-- ==== Sys2Proof/Machine/WinCfg.lean ====
section
/-! DEFINITION. The static side of the window comparators (R264 to R267, R274, R276, R277). -/

namespace Sys2Proof.Machine

/-- Base index of window w (R264). -/
def winBase (w : Nat) : Nat := 0x3800 + 0x20 * w

/-- The source is a demodulator's protection filter (R266). -/
def winDemod (src : Nat) : Bool := decide (0x40 ≤ src) && decide (src ≤ 0x57)

/-- The source is admitted for the window (R266). -/
def winSourceOk (w src : Nat) : Bool :=
  if src ≤ 0x3F then decide (w < 28) || decide (56 ≤ src)
  else if src ≤ 0x57 then decide (w < 28)
  else decide (src = 0x58) || decide (src = 0x59) || decide (src = 0x5A) || decide (src = 0xFF)

/-- The lanes a window trips (R274). -/
def winLanes (v : Nat → Cell) (w : Nat) : List Nat :=
  let b := winBase w
  if vw v b 0xE = 0xFF ∨ vw v b 0x10 = 0 then [] else (List.range (vw v b 0xF)).map (fun i => vw v b 0xE + i)

/-- What a strike, or the PROPOSE of a PRIV window, checks of a window (R265, R266, R274, R276, R277). -/
def winOk (s : State) (v : Nat → Cell) (w : Nat) : Bool :=
  let b := winBase w
  let src := vw v b 2
  let pol := vw v b 5
  decide (pol < 8) && (!bit pol 2 || winDemod src) && winSourceOk w src
    && (winLanes v w).all (fun l => decide (l ≤ 113) && decide (sealFunc s l = winFunc s w))
    && (decide (vw v b 0x14 = 0) || decide (28 ≤ w))

/-- The strike checks of the struck windows. -/
def winStrikeOk (s : State) (v : Nat → Cell) (bs : List Nat) : Bool :=
  (List.range 32).all (fun w => !bs.contains (winBase w) || winOk s v w)

end Sys2Proof.Machine
end

