-- ==== Sys2Proof/Machine/TrussCfg.lean ====
section
/-! DEFINITION. The static side of the Truss domain (R282 to R318): loops, members and rates, the source words, the
latency of a loop, and what a strike demands. A loop claim is a pair of the loop and the block that names it. -/

namespace Sys2Proof.Machine

/-- Base index of transform unit t, loop l and brace i (R282). -/
def xfBase (t : Nat) : Nat := 0x3C40 + 2 * t

/-- Base index of loop l. -/
def loopBase (l : Nat) : Nat := 0x3C80 + 4 * l

/-- Base index of brace i. -/
def braceBase (i : Nat) : Nat := 0x3D00 + 4 * i

/-- Address of Brace.Out of brace i (R295). -/
def braceOut (i : Nat) : Nat := oaddr (braceBase i + 3) 9

/-- The members of a loop in evaluation order (R305, R313). -/
def loopMembers (v : Nat → Cell) (l : Nat) : List Nat :=
  (List.range (min 16 (vw v (loopBase l) 7))).map (fun k => vw v (loopBase l + 1) (k + 1))

/-- A member code names a brace (R313). -/
def isBrace (c : Nat) : Bool := decide (c < 192)

/-- A member code names a transform unit. -/
def isXf (c : Nat) : Bool := decide (0x100 ≤ c) && decide (c < 0x100 + 28)

/-- The configuration block of a member code's element (R282, R284). -/
def elemBlock (c : Nat) : Nat := if isBrace c then braceBase c else xfBase (c - 0x100)

/-- The block that claims a loop, 0 for none (R283). -/
def loopOwner (lc : List (Nat × Nat)) (l : Nat) : Nat :=
  match lc.find? (fun e => decide (e.1 = l)) with
  | none => 0
  | some e => e.2

/-- The claimed loop a member belongs to. -/
def memberLoop (v : Nat → Cell) (lc : List (Nat × Nat)) (c : Nat) : Option Nat :=
  (lc.map (fun e => e.1)).find? (fun l => (loopMembers v l).contains c)

/-- Rate of a loop: its line's largest rate, or its parent's divided (R317); a chain holds at most four loops. -/
def loopRate (v : Nat → Cell) (ms : List Mark) : Nat → Nat → Rat
  | 0, _ => 0
  | n + 1, l =>
    let b := loopBase l
    let p := vw v b 3
    if p < 32 then loopRate v ms n p / (max 1 (vw v b 4) : Nat)
    else
      let t := vw v b 1
      if t < 64 then lineRate v ms t else if t < 76 then (vw v b 6 : Nat) else 0

/-- The length of the chain from a loop up to its triggered loop, 5 where it is longer than four or circular (R312). -/
def chainLen (v : Nat → Cell) : Nat → Nat → Nat
  | 0, _ => 1
  | n + 1, l => let p := vw v (loopBase l) 3; if p < 32 then 1 + chainLen v n p else 1

/-- KIND, INDEX and SUB of a source word (R293). -/
def srcKind (w : Nat) : Nat := bits w 31 28

/-- The object a KIND 1 source word names. -/
def srcAddr (w : Nat) : Nat := oaddr (bits w 23 8) (bits w 7 0)

/-- The brace whose output an address is, if it is one (R295). -/
def outBrace (a : Nat) : Option Nat :=
  let i := a / 256
  if 0x3D00 ≤ i ∧ i < 0x4000 ∧ (i - 0x3D00) % 4 = 3 ∧ a % 256 = 9 then some ((i - 0x3D00) / 4) else none

/-- An object that a Ridge consumer may name: Ridge-backed, and Brace.Out only with Publish at 1 (R236, R294). -/
def consumable (v : Nat → Cell) (a : Nat) : Bool :=
  match outBrace a with
  | some i => decide (vw v (braceBase i) 8 = 1)
  | none => ridgeBacked v a

/-- What a strike checks of a statistic unit (R263): a disabled unit may name none (DEDUCED, log 102). -/
def statOk (v : Nat → Cell) (u : Nat) : Bool :=
  let w := vw v (statBase u) 1
  (decide (w = 0) && decide (vw v (statBase u) 7 ≠ 1)) || (consumable v (refAddr w) && decide (bits w 7 0 = 0))

/-- The value that an enabled statistic unit watches stays Ridge-backed at a strike of its producer (R263, R294). -/
def statHolds (v : Nat → Cell) (u : Nat) : Bool :=
  decide (vw v (statBase u) 7 ≠ 1) || consumable v (refAddr (vw v (statBase u) 1))

/-- The reserved and unused bits of a source word are 0 and its KIND is defined (R293). -/
def srcForm (w : Nat) : Bool :=
  decide (srcKind w ≤ 4) && decide (bits w 27 24 = 0)
    && (decide (srcKind w ≠ 2) || (decide (bits w 23 8 = 0) && decide (bits w 7 0 < 192)))
    && (decide (srcKind w ≠ 4) || (decide (bits w 23 10 = 0) && decide (bits w 7 0 < 192)))

/-- A source word of a brace whose earlier members are `pre` (R293). -/
def braceSrcOk (v : Nat → Cell) (pre : List Nat) (w : Nat) : Bool :=
  srcForm w && decide (srcKind w ≠ 4)
    && (decide (srcKind w ≠ 1) || (consumable v (srcAddr w)
        && (match outBrace (srcAddr w) with | none => true | some i => !pre.contains i)))
    && (decide (srcKind w ≠ 2) || pre.contains (bits w 7 0))

/-- A source word of a transform unit: KIND 0 or 1 (R316). -/
def xfSrcOk (v : Nat → Cell) (w : Nat) : Bool :=
  srcForm w && decide (srcKind w ≤ 1) && (decide (srcKind w ≠ 1) || consumable v (srcAddr w))

/-- The rod whose position an address is. -/
def posRod (a : Nat) : Option Nat := (List.range 8).find? (fun r => decide (a = oaddr (rodBase r) 1))

/-- Inputs of a transform unit by kind and mode, and outputs written: Clarke 0 to 7, rotation 8 to 21, modulator 22 to
27 (R314, R345). -/
def xfIns (t mode : Nat) : Nat :=
  if t < 8 then (if mode = 0 then 3 else if mode = 1 then 2 else 6)
  else if t < 22 then 3 else if mode ≤ 1 then 2 else 6

/-- Outputs written by a Clarke or rotation unit (R316). -/
def xfOuts (t mode : Nat) : Nat := if t < 8 ∧ mode = 2 then 4 else 2

/-- A transform unit's mode and sources; the angle of a rotation unit is a Rod.Position (R314, R315). -/
def xfOk (v : Nat → Cell) (t : Nat) : Bool :=
  let b := xfBase t
  let m := vw v b 7
  decide (m ≤ (if t < 8 then 2 else if t < 22 then 1 else 3))
    && (List.range 6).all (fun k => xfSrcOk v (vw v b (k + 1)))
    && (!(decide (8 ≤ t ∧ t < 22)) || (decide (srcKind (vw v b 3) = 1) && (posRod (srcAddr (vw v b 3))).isSome))
    && decide (toInt 16 (vw v b 8) ≠ 0)

/-- Latency contribution of member k of a loop (R309). -/
def memberLatency (v : Nat → Cell) (cs : List Nat) (k : Nat) : Nat :=
  let c := cs.getD k 0xFFFF
  let later := cs.drop (k + 1)
  if isBrace c then
    let pub := decide (vw v (braceBase c) 8 = 1)
    let reads (d : Nat) : Bool :=
      let ws := if isBrace d then [4, 5, 6].map (fun j => vw v (braceBase d) j)
                else (List.range 6).map (fun j => vw v (xfBase (d - 0x100)) (j + 1))
      ws.any (fun w => decide (srcKind w = 1) && decide (srcAddr w = braceOut c))
    if pub && (later.isEmpty || later.any reads) then 50 else 25
  else
    let t := c - 0x100
    let m := vw v (xfBase t) 7
    if t < 8 then (if m = 2 then 35 else 30) else if t < 22 then 40 else if m = 2 then 80 else 60

/-- The members' contributions of a loop. -/
def membersLatency (v : Nat → Cell) (l : Nat) : Nat :=
  let cs := loopMembers v l
  (List.range cs.length).foldl (fun a k => a + memberLatency v cs k) 0

/-- The loops nested under a loop, at any depth, each with 10 ns and its members (R309, R311). -/
def nestedLatency (v : Nat → Cell) (lc : List (Nat × Nat)) : Nat → Nat → Nat
  | 0, _ => 0
  | n + 1, l =>
    (lc.filter (fun e => decide (vw v (loopBase e.1) 3 = l))).foldl
      (fun a e => a + 10 + membersLatency v e.1 + nestedLatency v lc n e.1) 0

/-- Loop.Latency of a triggered loop (R309); `stage` is the fixed stage that the loop waits for. -/
def loopLatency (v : Nat → Cell) (lc : List (Nat × Nat)) (stage l : Nat) : Nat :=
  vw v (loopBase l) 2 + 35 + nestedLatency v lc 3 l + stage + membersLatency v l

/-- Shortest spacing in counts between two consecutive instances among positions on one source. -/
def minSpacing (xs : List Nat) : Nat :=
  xs.foldl (fun a x =>
    let next := xs.foldl (fun b y => let d := (y + 2 ^ 32 - x) % 2 ^ 32; if d = 0 then b else min b d) (2 ^ 32)
    min a next) (2 ^ 32)

/-- Shortest interval in ns between two events of a triggered loop's line, none where the line has no events (R309). -/
def lineInterval (v : Nat → Cell) (ms : List Mark) (l : Nat) : Option Rat :=
  let b := loopBase l
  let t := vw v b 1
  if t < 64 then
    let on := ms.filter (fun m => decide (m.action = 4) && decide (m.target = t))
    let per := (List.range 16).filterMap (fun src =>
      let xs := (on.filter (fun m => decide (m.src = src))).flatMap instances
      let f := sourceTurns v src
      if xs.isEmpty || decide (f = 0) then none else some (mkRat (minSpacing xs) (2 ^ 32) * 1000000000 / f))
    per.foldl (fun a x => match a with | none => some x | some y => some (rmin x y)) none
  else if t < 76 ∧ 0 < vw v b 6 then some (mkRat 1000000000 (vw v b 6))
  else none

/-- What a strike checks of one claimed loop (R305, R309, R317). -/
def loopOk (v : Nat → Cell) (ms : List Mark) (lc : List (Nat × Nat)) (stage : Nat → Nat) (l : Nat) : Bool :=
  let b := loopBase l
  let cs := loopMembers v l
  let p := vw v b 3
  !cs.isEmpty && cs.all (fun c => isBrace c || isXf c)
    && decide (cs.eraseDups.length = cs.length)
    && cs.all (fun c => decide ((lc.filter (fun e => (loopMembers v e.1).contains c)).length = 1))
    && cs.all (fun c => isBrace c || decide (loopRate v ms 4 l ≤ 2000000))
    && (decide (vw v b 1 < 76) || decide (vw v b 1 = 0xFF))
    && (decide (p < 32) || (match lineInterval v ms l with
        | none => true
        | some t => decide ((loopLatency v lc (stage l) l : Rat) ≤ t)))

/-- The source words of an element by its member code. -/
def elemSrcs (v : Nat → Cell) (c : Nat) : List Nat :=
  if isBrace c then [4, 5, 6].map (fun j => vw v (braceBase c) j)
  else if isXf c then (List.range 6).map (fun k => vw v (xfBase (c - 0x100)) (k + 1)) else []

/-- The members placed before a brace in the loop that lists it, claimed or not; none where no loop lists it (R293). -/
def membersBefore (v : Nat → Cell) (i : Nat) : List Nat :=
  match (List.range 32).find? (fun l => (loopMembers v l).contains i) with
  | none => []
  | some l => (loopMembers v l).takeWhile (fun c => decide (c ≠ i))

/-- No brace or transform unit is a member of two loops, claimed or not (R283). -/
def membersOnce (v : Nat → Cell) : Bool :=
  let cs := (List.range 32).flatMap (loopMembers v)
  decide (cs.eraseDups.length = cs.length)

/-- The nesting of every loop, claimed or not: a chain of at most four that does not close on itself, and a claimed parent (R312). -/
def nestingOk (v : Nat → Cell) (lc : List (Nat × Nat)) : Bool :=
  (List.range 32).all (fun l =>
    decide (chainLen v 4 l ≤ 4) && (decide (32 ≤ vw v (loopBase l) 3) || decide (loopOwner lc (vw v (loopBase l) 3) ≠ 0)))

/-- A source word of the response capture at a strike of its block (R293). -/
def respWordOk (v : Nat → Cell) (w : Nat) : Bool :=
  srcForm w && (decide (srcKind w = 0) || decide (srcKind w = 4) || (decide (srcKind w = 1) && consumable v (srcAddr w)))

/-- The Truss checks of a strike, over the configuration that would run: every brace, claimed unit and loop, since a strike of another
block (a rod, a mark, a producer, a claiming block) can break a rule of an element that is not struck (R283, R293, R294, R305,
R309, R312, R317). -/
def trussStrikeOk (v : Nat → Cell) (ms : List Mark) (lc : List (Nat × Nat)) (stage : Nat → Nat) (bs : List Nat) : Bool :=
  decide ((lc.map (fun e => e.1)).eraseDups.length = lc.length)
    && membersOnce v && nestingOk v lc
    && (List.range 192).all (fun i => [4, 5, 6].all (fun j => braceSrcOk v (membersBefore v i) (vw v (braceBase i) j)))
    && (List.range 28).all (fun t => !(bs.contains (xfBase t) || (memberLoop v lc (0x100 + t)).isSome) || xfOk v t)
    && lc.all (fun e => decide (e.1 < 32) && loopOk v ms lc stage e.1)
    && (!bs.contains 0x3C20 || (List.range 8).all (fun k => respWordOk v (vw v 0x3C28 (k + 1))))

/-- Evaluations per second of all braces of claimed loops (R34, R317). -/
def trussEvals (v : Nat → Cell) (ms : List Mark) (lc : List (Nat × Nat)) : Rat :=
  lc.foldl (fun a e => a + (((loopMembers v e.1).filter isBrace).length : Nat) * loopRate v ms 4 e.1) 0

/-- A brace is evaluated at more than 2 MHz (R36). -/
def braceTooFast (v : Nat → Cell) (ms : List Mark) (lc : List (Nat × Nat)) : Bool :=
  lc.any (fun e => (loopMembers v e.1).any isBrace && decide (2000000 < loopRate v ms 4 e.1))

/-- Ridge words per evaluation of a member (R318); `mod t` gives the words of a modulator unit (R350). -/
def memberWords (v : Nat → Cell) (mod : Nat → Nat) (c : Nat) : Nat :=
  if isBrace c then
    ([4, 5, 6].filter (fun j => decide (srcKind (vw v (braceBase c) j) = 1))).length + vw v (braceBase c) 8
  else
    let t := c - 0x100
    if t < 22 then
      ((List.range 6).filter (fun k => decide (srcKind (vw v (xfBase t) (k + 1)) = 1))).length + xfOuts t (vw v (xfBase t) 7)
    else mod t

/-- Ridge words per second of all claimed loops (R34, R318). -/
def trussWords (v : Nat → Cell) (ms : List Mark) (lc : List (Nat × Nat)) (mod : Nat → Nat) : Rat :=
  lc.foldl (fun a e => a + ((loopMembers v e.1).foldl (fun n c => n + memberWords v mod c) 0 : Nat) * loopRate v ms 4 e.1) 0

end Sys2Proof.Machine
end

