-- ==== Sys2Proof/Machine/DriveCfg.lean ====
section
/-! DEFINITION. The static side of the traction drives and of the link block (R328 to R352, R363 to R379): what a drive
claims and places, its tables, and what a strike demands. `d` is the first index of the drive's domain. -/

namespace Sys2Proof.Machine

/-- Conversion of a time in ns to interpolator phases of 156.25 ps, rounded up (R344). -/
def nsPhases (ns : Nat) : Nat := (ns * 64 + 9) / 10

/-- Source number of a drive's carrier (R329). -/
def drvCarrier (x : Drv) : Nat := 8 + drvRod x

/-- Legs of a drive: three or six (R330, R344). -/
def drvLegs (v : Nat → Cell) (x : Drv) : Nat := if vw v (drvBase x + 3) 6 = 6 then 6 else 3

/-- The marks of a drive: the sampling mark, then the latch mark. They fire either way, since a carrier in SYNC turns with its rotor
(R161, R342, R349; DEDUCED, log 111). -/
def drvMarks (v : Nat → Cell) (x : Drv) : List Mark :=
  let b := drvBase x + 0x100
  let line := vw v b 2
  let lat := vw v (b + 0x17) 0
  (if line < 64 then
    [{ blk := b, src := drvCarrier x, pos := vw v b 3, posAt := 0, dir := 2, action := 4, target := line, reps := vw v b 1 }]
   else [])
  ++ (if lat < 64 then
    [{ blk := b, src := drvCarrier x, pos := 0, posAt := 0, dir := 2, action := 4, target := lat, reps := vw v (b + 0x18) 0 }]
   else [])

/-- The mark number of a block's latch mark: its last mark on a trigger line (R165, R349). -/
def latchIndex (ms : List Mark) (blk line : Nat) : Nat :=
  ((List.range ms.length).filter (fun k => match ms[k]? with
    | none => false
    | some m => decide (m.blk = blk) && decide (m.action = 4) && decide (m.target = line))).getLast?.getD 0

/-- Address of edge word ON (0) or OFF (1) of leg k of modulator unit t (R348). -/
def edgeAddr (t k w : Nat) : Nat := oaddr (xfBase t + 1) (0x10 + 2 * k + w)

/-- The claim of a leg's lane: PAIR on the even lane, ESRC 1, DEAD, MINPW, the latch mark and the edge words (R349). -/
def legClaim (blk dead minpw latch onA offA : Nat) : Claim :=
  { blk := blk, cfg := 2 * 2 ^ 28 + 2 ^ 27 + min 65535 (nsPhases dead) * 256 + min 255 ((minpw * 4 + 4) / 5),
    timing := latch * 2 ^ 22, onAt := onA, offAt := offA }

/-- The two lane claims of a leg; the MODE of the odd lane is ignored, and it is written as SINGLE (R178, R179). -/
def legClaims (l : Nat) (c : Claim) : List (Nat × Claim) := [(l, c), (l + 1, { c with cfg := c.cfg - 2 ^ 28 })]

/-- The lanes of a drive (R349). -/
def drvClaims (v : Nat → Cell) (ms : List Mark) (x : Drv) : List (Nat × Claim) :=
  let b := drvBase x + 0x100
  let l0 := vw v (b + 0x19) 0
  let t := vw v (b + 0x15) 0
  if l0 ≤ 94 then
    (List.range (drvLegs v x)).flatMap (fun k =>
      legClaims (l0 + 2 * k) (legClaim b (vw v (b + 0x1A) 0) (vw v (b + 0x1B) 0) (latchIndex ms b (vw v (b + 0x17) 0))
        (edgeAddr t k 0) (edgeAddr t k 1)))
  else []

/-- The loops a drive claims (R340, R344). -/
def drvLoops (v : Nat → Cell) (x : Drv) : List (Nat × Nat) :=
  let b := drvBase x + 0x100
  ([vw v b 4, vw v b 5, vw v (b + 0x16) 0].filter (fun l => decide (l < 32))).map (fun l => (l, b))

/-- The current channels a drive names. -/
def drvChans (v : Nat → Cell) (x : Drv) : List Nat :=
  ((List.range 6).map (fun k => vw v (drvBase x + 0x101) (k + 1))).filter (fun c => decide (c ≠ 0xFFFF))

/-- A named channel exists, 0xFFFF naming none (R222). -/
def namedOk (v : Nat → Cell) (c : Nat) : Bool := decide (c = 0xFFFF) || chanOk v c

/-- The trigger line of a channel's sequence or demodulator. -/
def chanLine (v : Nat → Cell) (ch : Nat) : Nat :=
  if ch < 512 then vw v (seqBase (ch / 16)) 2
  else if vw v (sdBase (ch - 512)) 4 = 1 then vw v (sdBase (ch - 512)) 5 else 0xFF

/-- Rod.MaxRate in Hz. -/
def rodMaxHz (v : Nat → Cell) (r : Nat) : Rat := mkRat (maxRateOf v r * 200000000 : Nat) (2 ^ 36)

/-- Carrier.MaxRate in Hz. -/
def carMaxHz (v : Nat → Cell) (r : Nat) : Rat := mkRat (carMaxOf v r * 200000000 : Nat) (2 ^ 36)

/-- The conditions of R341. -/
def drvLoopsOk (v : Nat → Cell) (x : Drv) : Bool :=
  let d := drvBase x
  let b := d + 0x100
  let l := vw v b 4
  let f := vw v b 5
  let six := decide (vw v (d + 3) 6 = 6)
  let cs := loopMembers v l
  let br (k : Nat) := vw v (b + 2) (k + 1)
  let nch := (drvChans v x).length
  decide (l < 32) && decide (32 ≤ vw v (loopBase l) 3) && decide (vw v (loopBase l) 1 = vw v b 2) && decide (vw v b 2 < 64)
    && (decide (32 ≤ f) || decide (vw v (loopBase f) 3 = l))
    && (List.range 4).all (fun k => decide (192 ≤ br k) || cs.contains (br k))
    && (decide (192 ≤ br 4) || (decide (f < 32) && (loopMembers v f).contains (br 4)))
    && cs.all (fun c => isBrace c || !isXf c ||
        (let t := c - 0x100
         if t < 8 then (if six then decide (vw v (xfBase t) 7 = 2) else decide (vw v (xfBase t) 7 ≤ 1))
         else if t < 22 then decide (posRod (srcAddr (vw v (xfBase t) 3)) = some (drvRod x)) else true))
    && (if six then (List.range 4).all (fun k => decide (br k < 192)) && decide (nch = 6)
        else decide (br 0 < 192) && decide (br 1 < 192) && decide (nch = 3))
    && (drvChans v x).all (fun c => chanOk v c && decide (chanLine v c = vw v b 2))
    && decide (vwF v (d + 3) 7 ≤ rodMaxHz v (drvRod x))
    && decide (150 ≤ vw v (loopBase l) 2)

/-- A rotation unit's inputs 1 and 2 name outputs of a unit or a brace that `src` holds. -/
def rotFrom (v : Nat → Cell) (c : Nat) (src : Nat → Bool) : Bool :=
  [1, 2].any (fun k => decide (srcKind (vw v (xfBase (c - 0x100)) k) = 1) && src (srcAddr (vw v (xfBase (c - 0x100)) k)))

/-- The two rotation units of a harmonic path hold one Xf.Order. A path's first unit is in Park mode on x and y, outputs 3 and 4 of
the six-phase Clarke unit; its braces take that unit's outputs; and its second unit, in inverse Park mode, takes those braces' outputs
(R343). -/
def harmonicOk (v : Nat → Cell) (x : Drv) : Bool :=
  let cs := loopMembers v (vw v (drvBase x + 0x100) 4)
  let rots := cs.filter (fun c => isXf c && decide (8 ≤ c - 0x100) && decide (c - 0x100 < 22))
  let mode (c : Nat) := vw v (xfBase (c - 0x100)) 7
  let ord (c : Nat) := toInt 16 (vw v (xfBase (c - 0x100)) 8)
  let outs (c : Nat) := [oaddr (xfBase (c - 0x100) + 1) 1, oaddr (xfBase (c - 0x100) + 1) 2]
  let xy := (cs.filter (fun c => isXf c && decide (c - 0x100 < 8))).flatMap (fun c => [oaddr (xfBase (c - 0x100) + 1) 3, oaddr (xfBase (c - 0x100) + 1) 4])
  let braces (c : Nat) := cs.filter (fun i => isBrace i && [4, 5, 6].any (fun k =>
    decide (srcKind (vw v (braceBase i) k) = 1) && (outs c).contains (srcAddr (vw v (braceBase i) k))))
  (rots.filter (fun c => decide (mode c = 0) && rotFrom v c xy.contains)).all (fun c =>
    (rots.filter (fun d => decide (mode d = 1) && rotFrom v d ((braces c).map braceOut).contains)).all (fun d => decide (ord d = ord c)))

/-- The conditions of R349, with the even first lane and Mod.Unit of R344. -/
def drvModOk (s : State) (v : Nat → Cell) (x : Drv) : Bool :=
  let b := drvBase x + 0x100
  let t := vw v (b + 0x15) 0
  let l := vw v (b + 0x16) 0
  let l0 := vw v (b + 0x19) 0
  let m := vw v (xfBase t) 7
  decide (22 ≤ t ∧ t ≤ 27) && decide (l < 32) && decide (loopMembers v l = [0x100 + t])
    && decide (vw v (loopBase l) 1 = vw v (b + 0x17) 0) && decide (32 ≤ vw v (loopBase l) 3) && decide (vw v (b + 0x17) 0 < 64)
    && (if drvLegs v x = 6 then decide (m = 2) else decide (m ≤ 1))
    && decide (l0 % 2 = 0) && decide (l0 + 2 * drvLegs v x ≤ 96)
    && (List.range (2 * drvLegs v x)).all (fun k =>
        bit (laneSeal s (l0 + k)) 7 && decide (fnOf (sealFunc s (l0 + k)) = some (drvFn x)))

/-- The conditions of R352 on the bands. -/
def drvBandsOk (v : Nat → Cell) (x : Drv) : Bool :=
  let b := drvBase x + 0x100
  let n := vw v (b + 0x12) 0
  let f (k : Nat) := vwF v (b + 0x10) (k + 1)
  let r (k : Nat) := vw v (b + 0x11) (k + 1)
  let hy : Rat := 1 - mkRat (vw v (b + 0x14) 0) 100
  let top (k : Nat) := if k + 1 < n then f (k + 1) else vwF v (drvBase x + 3) 7
  decide (f 0 = 0) && decide (r 0 = 0)
    && (List.range (n - 1)).all (fun k => decide (f k < f (k + 1)))
    && (List.range n).all (fun k => decide (r k = 0) ||
        (decide (2000 ≤ (r k : Rat) * f k * hy) && decide ((r k : Rat) * top k ≤ 40000)
          && decide (r k * maxRateOf v (drvRod x) ≤ carMaxOf v (drvRod x))))
    && decide (vwF v (b + 0x13) 0 ≤ carMaxHz v (drvRod x))

/-- The tables of R336 and R337, and the limits of R360 and R366. -/
def drvTablesOk (v : Nat → Cell) (x : Drv) : Bool :=
  let b := drvBase x + 0x200
  let n := vw v (b + 2) 0
  let m := vw v (b + 5) 0
  decide (vwF v (b + 2) 1 = 0)
    && (List.range (n - 1)).all (fun k => decide (vwF v (b + 2) (k + 1) < vwF v (b + 2) (k + 2)))
    && (List.range n).all (fun k => decide (vwF v (b + 3) (k + 1) ≤ 0) && decide (0 ≤ vwF v (b + 4) (k + 1)))
    && (List.range (m - 1)).all (fun k => decide (vwF v (b + 5) (k + 1) < vwF v (b + 5) (k + 2)))
    && (List.range m).all (fun k => decide (vwF v (b + 6) (k + 1) ≤ 0) && decide (0 ≤ vwF v (b + 7) (k + 1)))

/-- Derating inputs (R222, R360). -/
def derateOk (v : Nat → Cell) (x : Drv) : Bool :=
  let b := drvBase x + 0x400
  (List.range 4).all (fun k =>
    decide (vw v b (k + 1) = 0xFFFF) || (chanOk v (vw v b (k + 1)) && decide (vwF v (b + 1) (k + 1) ≠ vwF v (b + 2) (k + 1))))

/-- Largest sealed MINDT of a drive's legs, in ns (R366). -/
def drvMindt (s : State) (x : Drv) : Nat :=
  (List.range 96).foldl (fun a l =>
    if fnOf (sealFunc s l) = some (drvFn x) ∧ bit (laneSeal s l) 7 then max a (laneSeal s l % 8 * 100) else a) 0

/-- The strike checks of a drive's struck blocks. -/
def drvStrikeOk (s : State) (v : Nat → Cell) (bs : List Nat) (x : Drv) : Bool :=
  let d := drvBase x
  (!bs.contains d || namedOk v (vw v (d + 4) 1))
    && (!bs.contains (d + 0x100) || (drvLoopsOk v x && harmonicOk v x && drvModOk s v x && drvBandsOk v x))
    && (!bs.contains (d + 0x200) || drvTablesOk v x)
    && (!bs.contains (d + 0x400) || derateOk v x)
    && (!bs.contains (d + 0x700) || decide (drvMindt s x ≤ vw v (d + 0x700) 4))

/-- Words per evaluation of the modulator of a drive, and per latch of its lanes (R350). -/
def drvModWords (v : Nat → Cell) (x : Drv) : Nat :=
  let t := vw v (drvBase x + 0x115) 0
  let ins := ((List.range 6).filter (fun k => decide (srcKind (vw v (xfBase t) (k + 1)) = 1))).length
  ins + 1 + (drvChans v x).length + 1 + 2 * drvLegs v x

/-- Ridge words per second of a drive beside its loops: the reference unit's thirteen and the lanes' edge words (R333,
R350). -/
def drvWords (v : Nat → Cell) (ms : List Mark) (x : Drv) : Rat :=
  let b := drvBase x + 0x100
  let l := vw v b 4
  let ref := if l < 32 then 13 * loopRate v ms 4 l / (max 1 (vw v (drvBase x + 0x200) 9) : Nat) else 0
  let lat := vw v (b + 0x17) 0
  ref + (if lat < 64 ∧ vw v (b + 0x19) 0 ≤ 94 then (2 * drvLegs v x : Nat) * lineRate v ms lat else 0)

/-- The dump lane, claimed by the link block in SINGLE mode when a dump path is fitted (R368, R382). -/
def linkClaims (s : State) : List (Nat × Claim) :=
  if bit (protSeal s 24) 15 then [(bits (protSeal s 24) 14 8, { blk := 0x2100, cfg := 2 ^ 28 })] else []

/-- The link block's channels exist (R222, R389). -/
def linkOk (v : Nat → Cell) (bs : List Nat) : Bool :=
  !bs.contains 0x2100 || (namedOk v (vw v 0x2100 1) && namedOk v (vw v 0x2100 6))

/-- A window is a trigger window of a drive (R368). -/
def trigWindow (s : State) (x : Drv) (w : Nat) : Bool :=
  bit (protSeal s ((if x = .a then 25 else 27) + w / 16)) (w % 16)

/-- A window is the OV3 window (R370). -/
def ov3Window (s : State) (w : Nat) : Bool := bit (protSeal s 24) 7 && decide (bits (protSeal s 24) 4 0 = w)

/-- A protection window's filter does not exceed 20 ticks (R379). -/
def protWinOk (s : State) (v : Nat → Cell) (w : Nat) : Bool :=
  !(trigWindow s .a w || trigWindow s .b w || ov3Window s w) || decide (vw v (winBase w) 7 ≤ 20)

end Sys2Proof.Machine
end

