-- ==== Sys2Proof/Machine/RestCfg.lean ====
section
/-! DEFINITION. The static side of the Charger, the Converter, the actuator drives and the NTC slots (R391, R399 to R412,
R419, R424, R430 to R432, R457, R461, R469, R470, R474, R479, R583): marks, claims, loops, and what a strike demands. An
element that is not named breaks no arrangement; an ARM asks for it (DEDUCED, log 34). -/

namespace Sys2Proof.Machine

/-- A KIND 1 source word for an address (R293). -/
def srcOf (a : Nat) : Nat := 2 ^ 28 + a

/-- A source word names the channel word of a channel. -/
def srcChan (w ch : Nat) : Bool :=
  match chanAddr ch with
  | none => false
  | some a => decide (w = srcOf a)

/-- A mark of a block on a trigger line, present when the line is named. -/
def lineMark (b src pos line reps : Nat) : List Mark :=
  if line < 64 then [{ blk := b, src := src, pos := pos, posAt := 0, dir := 0, action := 4, target := line, reps := reps }] else []

/-- The two marks of a DCX leg (R430). -/
def dcxMarks (l : Nat) : List Mark :=
  [{ blk := 0x5900, src := 5, pos := 0, posAt := 0, dir := 0, action := 0, target := l, reps := 1 },
   { blk := 0x5900, src := 5, pos := 2 ^ 31, posAt := 0, dir := 0, action := 1, target := l, reps := 1 }]

/-- The marks of blocks 0x5200, 0x5300 and 0x5900; the PFC's one mark both samples and latches (R403, R407, R430, R431;
DEDUCED, log 34). -/
def restMarks (v : Nat → Cell) (b : Nat) : List Mark :=
  if b = 0x5200 then lineMark b 11 0 (vw v b 7) 1
  else if b = 0x5300 then lineMark b 4 (vw v b 6) (vw v b 4) (vw v b 5) ++ lineMark b 4 0 (vw v b 7) 2
  else if b = 0x5900 then
    (if vw v b 1 ≤ 92 then dcxMarks (vw v b 1) ++ dcxMarks (vw v b 1 + 2) else [])
      ++ lineMark b 13 0 (vw v 0x5901 6) (vw v 0x5901 7) ++ lineMark b 13 0 (vw v 0x5901 8) 2
  else []

/-- Legs of the PFC topology (R402). -/
def pfcLegs (v : Nat → Cell) : Nat := if vw v 0x5200 1 = 1 then 6 else if vw v 0x5200 1 = 2 then 2 else 3

/-- The legs of a modulator unit that serves the Charger or the Converter (R403, R431). -/
def modLegs (b l0 t n dead latch : Nat) : List (Nat × Claim) :=
  (List.range n).flatMap (fun k => legClaims (l0 + 2 * k) (legClaim b dead 20 latch (edgeAddr t k 0) (edgeAddr t k 1)))

/-- Relay lanes in SINGLE mode (R399). -/
def relayClaims (v : Nat → Cell) : List (Nat × Claim) :=
  ([8, 9].filterMap (fun k => if vw v 0x5100 k ≤ 95 then some (vw v 0x5100 k, { blk := 0x5100, cfg := 2 ^ 28 + 16 }) else none))

/-- The lanes of the Charger (R399, R402, R407). -/
def chargerClaims (v : Nat → Cell) (ms : List Mark) : List (Nat × Claim) :=
  let d := vw v 0x5300 2
  relayClaims v
    ++ (if vw v 0x5200 2 ≤ 94 then
          modLegs 0x5200 (vw v 0x5200 2) (vw v 0x5200 3) (pfcLegs v) (vw v 0x5200 10) (latchIndex ms 0x5200 (vw v 0x5200 7)) else [])
    ++ (if d ≤ 88 then
          (List.range 4).flatMap (fun k => legClaims (d + 2 * k)
            (legClaim 0x5300 (vw v 0x5300 8) 20 (latchIndex ms 0x5300 (vw v 0x5300 7))
              (oaddr 0x53F0 (0x10 + 2 * k)) (oaddr 0x53F0 (0x11 + 2 * k)))) else [])

/-- The lanes of the Converter (R430, R431). -/
def converterClaims (v : Nat → Cell) (ms : List Mark) : List (Nat × Claim) :=
  let d := vw v 0x5900 1
  let l := vw v 0x5901 1
  let c : Claim := { blk := 0x5900, cfg := 2 * 2 ^ 28 + min 65535 (nsPhases (vw v 0x5900 6)) * 256 + 16 }
  (if d ≤ 92 then legClaims d c ++ legClaims (d + 2) c else [])
    ++ (if l ≤ 88 then
          modLegs 0x5900 l (vw v 0x5901 9) (2 * vw v 0x5901 2) (vw v 0x5901 5) (latchIndex ms 0x5900 (vw v 0x5901 8)) else [])

/-- First index of actuator drive n's block (R452). -/
def actBlk (n : Nat) : Nat := 0x5D00 + 0x40 * n

/-- An actuator drive's period lane, named once its block was struck (R457). -/
def periodLane (v : Nat → Cell) (n : Nat) : Nat := vw v (actBlk n) 12

/-- The lanes of actuator drive n: six in SINGLE mode and the period lane in ONESHOT mode (R457). -/
def actClaims (v : Nat → Cell) (n : Nat) : List (Nat × Claim) :=
  let p := periodLane v n
  if 116 ≤ p ∧ p ≤ 127 then
    (p, { blk := actBlk n, cfg := 3 * 2 ^ 28 + 16, timing := 128 })
      :: (List.range 6).map (fun k => (96 + 6 * n + k, { blk := actBlk n, cfg := 2 ^ 28 + 16 }))
  else []

/-- The lanes of this file's blocks. -/
def restClaims (v : Nat → Cell) (ms : List Mark) : List (Nat × Claim) :=
  chargerClaims v ms ++ converterClaims v ms ++ (List.range 3).flatMap (actClaims v)

/-- The loop of which a member is part, whichever block claims it. -/
def loopOfMember (v : Nat → Cell) (c : Nat) : List Nat := (List.range 32).filter (fun l => (loopMembers v l).contains c)

/-- The transform units that a brace's feedback reads. -/
def fbUnits (v : Nat → Cell) (i : Nat) : List Nat :=
  (List.range 28).filter (fun t => decide (srcAddr (vw v (braceBase i) 5) / 256 = xfBase t + 1)
    && decide (srcKind (vw v (braceBase i) 5) = 1))

/-- The loops that hold named braces, and the units that feed them, claimed by a block. -/
def braceLoops (v : Nat → Cell) (b : Nat) (is : List Nat) : List (Nat × Nat) :=
  let ns := is.filter (fun i => decide (i < 192))
  ((ns.flatMap (fun i => loopOfMember v i)).eraseDups).map (fun l => (l, b))

/-- Named loops claimed by a block. -/
def namedLoops (b : Nat) (ls : List Nat) : List (Nat × Nat) := (ls.filter (fun l => decide (l < 32))).map (fun l => (l, b))

/-- The loops that the Charger, the Converter and the Pump claim (R403, R407, R412, R426, R432, R470). -/
def restLoops (v : Nat → Cell) : List (Nat × Nat) :=
  let vb := [9, 10].map (fun k => vw v 0x5400 k)
  let vp := ((vb.filter (fun i => decide (i < 192))).flatMap (fbUnits v)).flatMap (fun t => loopOfMember v (0x100 + t))
  braceLoops v 0x5000 [vw v 0x5004 5]
    ++ (namedLoops 0x5200 [vw v 0x5200 4, vw v 0x5200 5, vw v 0x5200 6] ++ braceLoops v 0x5200 [vw v 0x5204 1]).eraseDups
    ++ namedLoops 0x5300 [vw v 0x5300 3]
    ++ (braceLoops v 0x5400 vb ++ vp.map (fun l => (l, 0x5400))).eraseDups
    ++ namedLoops 0x5900 [vw v 0x5902 1, vw v 0x5902 2, vw v 0x5902 3]
    ++ namedLoops 0x5C00 [vw v 0x5C03 11]

/-- The fixed stage that a triggered loop waits for: the Converter's clamp stage (R309, R433). -/
def restStage (v : Nat → Cell) (l : Nat) : Nat := if vw v 0x5902 1 = l then 10 else 0

/-- Ridge words per evaluation of a modulator unit in mode 3: its duty inputs, Xf.Out1 and two edge words per leg (R350;
DEDUCED, log 34). -/
def restModWords (v : Nat → Cell) (t : Nat) : Nat :=
  let n := if vw v 0x5200 3 = t then pfcLegs v else if vw v 0x5901 9 = t then 2 * vw v 0x5901 2 else 0
  if n = 0 then 0 else 3 * n + 1

/-- Largest rate of a named loop. -/
def namedRate (v : Nat → Cell) (ms : List Mark) (l : Nat) : Rat := if l < 32 then loopRate v ms 4 l else 0

/-- Ridge words that one limit stage of the Charger reads and writes: its named channels and braces, the three limits, the derating
factor, the RMS voltages and rod 3, and its five outputs (R405, R410, R411). -/
def chgStageWords (v : Nat → Cell) : Nat :=
  let ch := [vw v 0x3300 3, vw v 0x3300 4, vw v 0x3300 5, vw v 0x5201 1, vw v 0x5301 1, vw v 0x5301 2]
  let br := [vw v 0x5004 5, vw v 0x5204 1, vw v 0x5202 3, vw v 0x5400 9, vw v 0x5400 10]
  (ch.filter (fun c => decide (c ≠ 0xFFFF))).length + (br.filter (fun i => decide (i < 192))).length + 8 + 5

/-- Ridge words that one limit stage of the Converter reads and writes: its named channels, Limit.Grant, and Ref.Vset, Ref.Vfb and
Converter.Power (R433, R434, R440). -/
def cnvStageWords (v : Nat → Cell) : Nat :=
  ([vw v 0x5903 1, vw v 0x5903 2, vw v 0x5903 3].filter (fun c => decide (c ≠ 0xFFFF))).length + 4

/-- Ridge words per second beside the loops: the reference units' stages, the lanes' edge words, and the duty words of the
actuators (R180, R405, R433, R458; DEDUCED, log 34). -/
def restWords (v : Nat → Cell) (ms : List Mark) : Rat :=
  let lat (line n : Nat) : Rat := if line < 64 then (n : Rat) * lineRate v ms line else 0
  20000 * ((chgStageWords v + cnvStageWords v : Nat) : Rat) + 12 * rodMaxHz v 3
    + ((3 + pfcLegs v : Nat) : Rat) * namedRate v ms (vw v 0x5200 4)
    + (if vw v 0x5200 2 ≤ 94 then lat (vw v 0x5200 7) (2 * pfcLegs v) else 0)
    + (if vw v 0x5300 2 ≤ 88 then lat (vw v 0x5300 7) 17 else 0)
    + 2 * namedRate v ms (vw v 0x5902 2) + 6 * namedRate v ms (vw v 0x5902 1)
    + (if vw v 0x5901 1 ≤ 88 then lat (vw v 0x5901 8) (4 * vw v 0x5901 2) else 0)
    + (List.range 3).foldl (fun a n =>
        if 116 ≤ periodLane v n ∧ periodLane v n ≤ 127 then a + mkRat 1000000000 (max 1 (vw v (actBlk n) 1)) else a) 0

/-- The channels that a function's blocks name. -/
def restChans (v : Nat → Cell) (f : Fn) : List Nat :=
  match f with
  | .charger => [vw v 0x5100 1, vw v 0x5100 4, vw v 0x5201 1, vw v 0x5201 2, vw v 0x5201 3, vw v 0x5201 4, vw v 0x5301 1,
      vw v 0x5301 2] ++ (List.range 4).map (fun k => vw v 0x5010 (k + 1))
  | .converter => (List.range 3).map (fun k => vw v 0x5903 (k + 1))
  | .pump => [vw v 0x5C03 2]
  | .parkLock => [vw v 0x5C13 2]
  | .clutch => [vw v 0x5C23 2]
  | _ => []

/-- The rods that a function's elements use. -/
def restRods (v : Nat → Cell) (f : Fn) : List Nat :=
  match f with
  | .charger => [3, 4]
  | .converter => [5]
  | .pump => [6]
  | .parkLock => [1, 2]
  | .clutch => [2, vw v 0x5C24 1]
  | _ => []

/-- The other blocks whose elements a function names (R200, R391, R429, R453, R580). -/
def restBlocks (v : Nat → Cell) (f : Fn) : List Nat :=
  let win (w : Nat) := if w < 32 then [winBase w] else []
  let ntc := if (List.range 12).any (fun k => bit (vw v (0x7040 + 8 * k) 4) (fnCode f - 1)) then [0x7040] else []
  ntc ++ (match f with
    | .charger => 0x3300 :: (win (vw v 0x5100 2) ++ win (vw v 0x5301 3) ++ (if vw v 0x5100 3 < 16 then [0x2A00] else []))
    | .converter => win (vw v 0x5903 4)
    | .pump => [0x3200]
    | .parkLock => [0x3220]
    | .clutch => [0x3240]
    | _ => [])

/-- A lane of a leg sealed to a function. -/
def legSealed (s : State) (f : Fn) (l : Nat) : Bool := bit (laneSeal s l) 7 && decide (fnOf (sealFunc s l) = some f)

/-- A named relay lane: its OFF level opens the relay, so it is not its ON level (R399). -/
def relayOk (s : State) (l : Nat) : Bool :=
  let w := laneSeal s l
  decide (l = 0xFF) || (decide (l ≤ 95) && decide (sealFunc s l = 3) && decide (bits w 9 8 = 0) && !bit w 7
    && decide (levelOf (bits w 15 14) ≠ onLevel w))

/-- A named window is sealed with a function (R419, R432). -/
def sealedWindow (s : State) (w k : Nat) : Bool := decide (w = 0xFF) || decide (winFunc s w = k)

/-- A triggered loop on a line. -/
def triggeredOn (v : Nat → Cell) (l line : Nat) : Bool :=
  decide (32 ≤ vw v (loopBase l) 3) && decide (vw v (loopBase l) 1 = line) && decide (line < 64)

/-- A modulator loop holds a unit in mode 3 alone and is triggered on the latch line (R349, R403, R432). -/
def modLoopOk (v : Nat → Cell) (t l line : Nat) : Bool :=
  (decide (t = 0xFF) && decide (l = 0xFF)) ||
    (decide (22 ≤ t ∧ t ≤ 27) && decide (vw v (xfBase t) 7 = 3) && decide (l < 32) && decide (loopMembers v l = [0x100 + t])
      && triggeredOn v l line)

/-- The members of the PFC current loop (R403). -/
def pfcMembersOk (v : Nat → Cell) : Bool :=
  let cs := loopMembers v (vw v 0x5200 4)
  let three := decide (vw v 0x5200 1 ≠ 2)
  let rs := if three then cs.drop 1 else cs
  let rot (c m : Nat) := decide (0x108 ≤ c ∧ c < 0x116) && decide (vw v (xfBase (c - 0x100)) 7 = m)
    && decide (posRod (srcAddr (vw v (xfBase (c - 0x100)) 3)) = some 3)
  let park := rs.getD 0 0
  (!three || (let c := cs.getD 0 0; decide (0x100 ≤ c ∧ c < 0x108) && decide (vw v (xfBase (c - 0x100)) 7 = 0)))
    && decide (rs.length = 4) && rot park 0 && decide (rs.getD 1 0 = vw v 0x5202 1) && decide (rs.getD 2 0 = vw v 0x5202 2)
    && rot (rs.getD 3 0) 1
    && (three || (srcChan (vw v (xfBase (park - 0x100)) 1) (vw v 0x5201 1)
        && decide (vw v (xfBase (park - 0x100)) 2 = srcOf (oaddr 0x5205 3))))

/-- The arrangements of R402 and R403. -/
def pfcOk (s : State) (v : Nat → Cell) : Bool :=
  let l := vw v 0x5200 4
  let bl := vw v 0x5200 6
  let br := vw v 0x5202 3
  let l0 := vw v 0x5200 2
  let ref (i a : Nat) := decide (vw v (braceBase i) 4 = srcOf a)
  (decide (32 ≤ l) || (triggeredOn v l (vw v 0x5200 7) && pfcMembersOk v
      && ref (vw v 0x5202 1) (oaddr 0x5205 1) && ref (vw v 0x5202 2) (oaddr 0x5205 2)))
    && (decide (192 ≤ br) || (ref br (oaddr 0x5200 11) && srcChan (vw v (braceBase br) 5) (vw v 0x5201 4)
        && decide (bl < 32) && (loopMembers v bl).contains br))
    && (decide (32 ≤ bl) || decide (vw v (loopBase bl) 3 = l))
    && modLoopOk v (vw v 0x5200 3) (vw v 0x5200 5) (vw v 0x5200 7)
    && (decide (94 < l0) || (decide (l0 % 2 = 0) && (List.range (2 * pfcLegs v)).all (fun k => legSealed s .charger (l0 + k))))

/-- The carrier settings of the PFC (R163, R404). -/
def pfcCarrierOk (v : Nat → Cell) : Bool :=
  let r := vw v 0x5200 8
  if r = 0 then decide (vwF v 0x5200 9 ≤ carMaxHz v 3)
  else decide (20000 ≤ r * 45) && decide (r * 65 ≤ 280000) && decide (r * maxRateOf v 3 ≤ carMaxOf v 3)

/-- The input-voltage brace's inputs (R412). -/
def ivrOk (v : Nat → Cell) : Bool :=
  let i := vw v 0x5204 1
  decide (192 ≤ i) || (decide (vw v (braceBase i) 4 = srcOf (oaddr 0x5203 7)) && decide (vw v (braceBase i) 5 = srcOf (oaddr 0x5204 2)))

/-- The DAB frequency against the limits of rod 4 (R409). -/
def dabFswOk (v : Nat → Cell) (f : Rat) : Bool := decide (f ≤ rodMaxHz v 4) && decide (f * (vw v 0x5300 5 : Nat) ≤ 2000000)

/-- The vehicle-to-load settings (R424). -/
def v2lOk (v : Nat → Cell) : Bool :=
  let p := vw v 0x5400 3
  let t := vw v 0x5200 1
  !(decide (p = 1) && decide (t ≤ 1)) && !(decide (p = 3) && decide (t = 2)) && !(decide (p = 1) && decide (3600 < vwF v 0x5400 5))

/-- The conditions of R432. -/
def converterOk (s : State) (v : Nat → Cell) : Bool :=
  let d := vw v 0x5900 1
  let l := vw v 0x5901 1
  let cl := vw v 0x5902 1
  let vl := vw v 0x5902 2
  let cb := vw v 0x5902 4
  let vb := vw v 0x5902 5
  let ref (i j a : Nat) := decide (vw v (braceBase i) j = srcOf a)
  (decide (92 < d) || (decide (d % 2 = 0) && (List.range 4).all (fun k => legSealed s .converter (d + k))))
    && (decide (88 < l) || (decide (l % 2 = 0) && decide (l + 4 * vw v 0x5901 2 ≤ 96)
        && (List.range (4 * vw v 0x5901 2)).all (fun k => legSealed s .converter (l + k))))
    && decide (vwF v 0x5900 2 ≤ rodMaxHz v 5) && decide (vwF v 0x5900 3 ≤ rodMaxHz v 5)
    && decide (vwF v 0x5901 3 ≤ carMaxHz v 5)
    && modLoopOk v (vw v 0x5901 9) (vw v 0x5902 3) (vw v 0x5901 8)
    && (decide (32 ≤ cl) || triggeredOn v cl (vw v 0x5901 6))
    && (decide (32 ≤ vl) || decide (vw v (loopBase vl) 3 = cl))
    && (decide (192 ≤ cb) || (ref cb 4 (oaddr 0x5805 1) && srcChan (vw v (braceBase cb) 5) (vw v 0x5903 2)))
    && (decide (192 ≤ vb) || (ref vb 4 (oaddr 0x5805 2) && ref vb 5 (oaddr 0x5805 3)))
    && sealedWindow s (vw v 0x5903 4) 4

/-- The conditions of R457 and R461 on actuator drive n; the amplifier's range is V_REF over twice the gain and the shunt. -/
def actOk (s : State) (v : Nat → Cell) (n : Nat) : Bool :=
  let b := actBlk n
  let top : Rat := mkRat s.power.refUv 1000000 / (2 * (vw v b 5 : Nat) * vwF v b 6)
  decide (116 ≤ vw v b 12 ∧ vw v b 12 ≤ 127) && decide (vw v (0x3200 + 0x20 * n) 1 = 1)
    && decide (vwF v b 7 < vwF v b 8) && decide (vwF v b 7 ≤ top) && decide (vwF v b 8 ≤ top)

/-- Pump.Loop is triggered on the line of actuator drive 0's period lane (R470). -/
def pumpLoopOk (v : Nat → Cell) : Bool :=
  let l := vw v 0x5C03 11
  decide (32 ≤ l) || (decide (32 ≤ vw v (loopBase l) 3) && decide (116 ≤ periodLane v 0 ∧ periodLane v 0 ≤ 127)
    && decide (vw v (loopBase l) 1 + 116 = 64 + periodLane v 0))

/-- The conditions of R469 and R470. -/
def pumpOk (v : Nat → Cell) : Bool :=
  let n := vw v 0x5C03 12
  let i := vw v 0x5C03 10
  let l := vw v 0x5C03 11
  (List.range (n - 1)).all (fun k => decide (vwF v 0x5C04 (k + 1) < vwF v 0x5C04 (k + 2)))
    && decide (vwF v 0x5C03 8 * (vw v 0x5C03 1 : Nat) / 60 ≤ rodMaxHz v 6)
    && (decide (192 ≤ i) || (decide (vw v (braceBase i) 4 = srcOf (oaddr 0x5C06 0))
        && decide (vw v (braceBase i) 5 = srcOf (oaddr (rodBase 6) 2)) && decide (vw v (braceBase i) 8 = 1)
        && decide (vw v (braceBase i) 7 = 0) && decide (l < 32) && (loopMembers v l).contains i))

/-- The Park lock's bands (R474). -/
def parkOk (v : Nat → Cell) : Bool := decide (vwF v 0x5C13 4 < vwF v 0x5C13 7) && decide (vwF v 0x5C13 7 < vwF v 0x5C13 5)

/-- The Clutch's bands and rod (R479). -/
def clutchOk (v : Nat → Cell) : Bool :=
  decide (vwF v 0x5C23 4 < vwF v 0x5C23 5) && decide (vw v 0x5C24 1 = 1 ∨ vw v 0x5C24 1 = 7)

/-- The NTC slots (R583). -/
def ntcOk (v : Nat → Cell) : Bool :=
  let cs := ((List.range 12).map (fun k => vw v (0x7040 + 8 * k) 1)).filter (fun c => decide (c ≠ 0xFFFF))
  cs.all (fun c => decide (c < 512) && decide (vw v (seqBase (c / 16)) 2 = 0xFF) && decide (vw v (seqBase (c / 16)) 3 = 1)
      && decide (1 ≤ chanScaling v c) && chanOk v c)
    && decide (cs.eraseDups.length = cs.length)

/-- The named channels of the Charger, the Converter and the actuators exist (R222). -/
def restChansOk (v : Nat → Cell) (bs : List Nat) : Bool :=
  (!bs.contains 0x5000 || (List.range 4).all (fun k => namedOk v (vw v 0x5010 (k + 1))))
    && (!bs.contains 0x5100 || (namedOk v (vw v 0x5100 1) && namedOk v (vw v 0x5100 4)))
    && (!bs.contains 0x5200 || (List.range 4).all (fun k => namedOk v (vw v 0x5201 (k + 1))))
    && (!bs.contains 0x5300 || (namedOk v (vw v 0x5301 1) && namedOk v (vw v 0x5301 2)))
    && (!bs.contains 0x5900 || (List.range 3).all (fun k => namedOk v (vw v 0x5903 (k + 1))))
    && (!bs.contains 0x5C00 || namedOk v (vw v 0x5C03 2)) && (!bs.contains 0x5C10 || namedOk v (vw v 0x5C13 2))
    && (!bs.contains 0x5C20 || namedOk v (vw v 0x5C23 2))

/-- A strike of a rod's block that would lower Rod.MaxRate below the frequency words in effect (R409, R432). -/
def freqRodsOk (s : State) (v : Nat → Cell) (bs : List Nat) : Bool :=
  let lowers (r : Nat) := bs.contains (rodBase r) && decide (maxRateOf v r < maxRateOf (viewNow s) r)
  (!lowers 4 || decide (obF s 0x5300 1 ≤ rodMaxHz v 4))
    && (!lowers 5 || (decide (obF s 0x5900 2 ≤ rodMaxHz v 5) && decide (obF s 0x5900 3 ≤ rodMaxHz v 5)))

/-- The strike checks of this file's blocks. -/
def restOk (s : State) (v : Nat → Cell) (_ms : List Mark) (bs : List Nat) : Bool :=
  let has (b : Nat) := bs.contains b
  restChansOk v bs && freqRodsOk s v bs
    && (!has 0x5100 || (relayOk s (vw v 0x5100 8) && relayOk s (vw v 0x5100 9)))
    && (!has 0x5200 || (pfcOk s v && pfcCarrierOk v))
    && (!(has 0x5200 || (decide (vw v 0x5204 1 < 192) && has (braceBase (vw v 0x5204 1)))) || ivrOk v)
    && (!has 0x5300 || (dabFswOk v (vwF v 0x5300 1) && sealedWindow s (vw v 0x5301 3) 3))
    && (!has 0x5400 || v2lOk v)
    && (!has 0x5900 || converterOk s v)
    && (List.range 3).all (fun n => !has (actBlk n) || actOk s v n)
    && (!has 0x5C00 || pumpOk v) && (!(has 0x5C00 || has 0x5D00) || pumpLoopOk v) && (!has 0x5C10 || parkOk v) && (!has 0x5C20 || clutchOk v)
    && (!has 0x7040 || ntcOk v)

/-- The braces and transform units that blocks name in their own objects, as member codes with the block that claims each by
naming it (R283, R344, R403, R407, R412, R426, R432, R470). -/
def elemNames (v : Nat → Cell) : List (Nat × Nat) :=
  let brs (b : Nat) (is : List Nat) := (is.filter isBrace).map (fun i => (i, b))
  let units (b : Nat) (ts : List Nat) := (ts.filter (fun t => decide (t < 28))).map (fun t => (0x100 + t, b))
  let drv (b : Nat) := brs b ((List.range 5).map (fun k => vw v (b + 2) (k + 1))) ++ units b [vw v (b + 0x15) 0]
  let v2l := [9, 10].map (fun k => vw v 0x5400 k)
  drv 0x4100 ++ drv 0x4900 ++ brs 0x5000 [vw v 0x5004 5]
    ++ brs 0x5200 [vw v 0x5202 1, vw v 0x5202 2, vw v 0x5202 3, vw v 0x5204 1] ++ units 0x5200 [vw v 0x5200 3]
    ++ brs 0x5300 [vw v 0x5300 10, vw v 0x5300 11] ++ brs 0x5400 v2l ++ units 0x5400 ((v2l.filter isBrace).flatMap (fbUnits v))
    ++ brs 0x5900 [vw v 0x5902 4, vw v 0x5902 5] ++ units 0x5900 [vw v 0x5901 9] ++ brs 0x5C00 [vw v 0x5C03 10]

/-- The claims of braces and transform units: those named, and the members of the claimed loops (R283). -/
def elemClaims (v : Nat → Cell) (lc : List (Nat × Nat)) : List (Nat × Nat) :=
  elemNames v ++ lc.flatMap (fun e => (loopMembers v e.1).map (fun c => (c, e.2)))

/-- The block that claims an element, 0 for none (R283). -/
def elemOwner (v : Nat → Cell) (lc : List (Nat × Nat)) (c : Nat) : Nat :=
  match (elemClaims v lc).find? (fun e => decide (e.1 = c)) with
  | none => 0
  | some e => e.2

/-- No element is claimed from two blocks (R283). -/
def claimsAgree (v : Nat → Cell) (lc : List (Nat × Nat)) : Bool :=
  let cs := (elemClaims v lc).eraseDups
  decide ((cs.map (fun e => e.1)).eraseDups.length = cs.length)

end Sys2Proof.Machine
end

