-- ==== Sys2Proof/Machine/Claims.lean ====
section
/-! DEFINITION. A configuration as a whole (R22, R25, R34 to R37, R141, R142, R165, R177, R283 to R285): its marks, claims
and loops, what each function consumes, its loads, the checks of step 2 of a strike, and the restart of the elements. -/

namespace Sys2Proof.Machine

/-- The marks that a block places from its settings, other than the integrator's. -/
def blockMarks (v : Nat → Cell) (b : Nat) : List Mark :=
  if b = 0x3000 then resMarks v 0 else if b = 0x3040 then resMarks v 1
  else if b = 0x4100 then drvMarks v .a else if b = 0x4900 then drvMarks v .b
  else restMarks v b

/-- The blocks that place marks from their settings, in ascending order. -/
def markBlocks : List Nat := [0x3000, 0x3040, 0x4100, 0x4900, 0x5100, 0x5200, 0x5300, 0x5400, 0x5800, 0x5900, 0x5A00,
  0x5C00, 0x5C10, 0x5C20, 0x5D00, 0x5D40, 0x5D80]

/-- All held marks in the order of their numbers (R165). -/
def allMarks (v : Nat → Cell) : List Mark := integMarks v ++ markBlocks.flatMap (blockMarks v)

/-- All lane claims. -/
def allClaims (s : State) (v : Nat → Cell) : List (Nat × Claim) :=
  let ms := allMarks v
  integClaims v ++ linkClaims s ++ resClaims v ++ drvClaims v ms .a ++ drvClaims v ms .b ++ restClaims v ms

/-- All claimed loops with the blocks that name them (R283). -/
def allLoops (v : Nat → Cell) : List (Nat × Nat) := drvLoops v .a ++ drvLoops v .b ++ restLoops v

/-- Words per evaluation of a modulator unit by its claiming block (R350). -/
def modWords (v : Nat → Cell) (t : Nat) : Nat :=
  if vw v 0x4115 0 = t then drvModWords v .a else if vw v 0x4915 0 = t then drvModWords v .b else restModWords v t

/-- The Truss load (R34). -/
def trussLoad (v : Nat → Cell) : Rat := trussEvals v (allMarks v) (allLoops v)

/-- A brace is evaluated at more than 2 MHz (R36). -/
def braceFast (v : Nat → Cell) : Bool := braceTooFast v (allMarks v) (allLoops v)

/-- Words of enabled manifests per second: each Ridge-backed entry once per cycle (R34). -/
def manifestWords (v : Nat → Cell) : Rat :=
  (List.range 32).foldl (fun a m =>
    let n := ((List.range (vw v (0x1600 + m) 0)).filter (fun k => consumable v (vw v (0x1600 + m) (k + 1) / 256))).length
    if vw v (0x1400 + m) 1 = 1 then a + mkRat (n * 1000000 : Nat) (max 1 (vw v (0x1400 + m) 5)) else a) 0

/-- The Ridge load in bits per second (R34). -/
def ridgeLoad (_s : State) (v : Nat → Cell) : Rat :=
  let ms := allMarks v
  32 * (acqLoad v ms + trussWords v ms (allLoops v) (modWords v) + drvWords v ms .a + drvWords v ms .b + restWords v ms
    + manifestWords v)

/-- The object addresses that a function's loops read (R293). -/
def loopReads (v : Nat → Cell) (l : Nat) : List Nat :=
  (loopMembers v l).flatMap (fun c => ((elemSrcs v c).filter (fun w => decide (srcKind w = 1))).map srcAddr)

/-- The loops that a function's blocks claim. -/
def fnLoops (v : Nat → Cell) (f : Fn) : List Nat :=
  ((allLoops v).filter (fun e => decide (fnOfBlock e.2 = some f))).map (fun e => e.1)

/-- The channels that a function's blocks name. -/
def namedChans (v : Nat → Cell) (f : Fn) : List Nat :=
  match f with
  | .driveA => vw v 0x4004 1 :: (drvChans v .a ++ (List.range 4).map (fun k => vw v 0x4400 (k + 1)))
  | .driveB => vw v 0x4804 1 :: (drvChans v .b ++ (List.range 4).map (fun k => vw v 0x4C00 (k + 1)))
  | _ => restChans v f

/-- The channel whose word stands at an address. -/
def addrChan (a : Nat) : Option Nat :=
  let i := a / 256
  let k := a % 256
  if 0x3420 ≤ i ∧ i < 0x3620 ∧ ((i - 0x3420) % 16 = 13 ∨ (i - 0x3420) % 16 = 14) ∧ 1 ≤ k ∧ k ≤ 16 then
    some ((i - 0x3420) / 16 * 16 + (k - 1))
  else if 0x3640 ≤ i ∧ i < 0x3700 ∧ (i - 0x3640) % 8 = 2 ∧ k = 1 then some (512 + (i - 0x3640) / 8)
  else none

/-- The channels a function consumes (R25). -/
def fnChans (v : Nat → Cell) (f : Fn) : List Nat :=
  (namedChans v f ++ ((fnLoops v f).flatMap (loopReads v)).filterMap addrChan).filter (fun c => decide (c < 536))

/-- The rods a function consumes. -/
def fnRods (v : Nat → Cell) (f : Fn) : List Nat :=
  (match f with | .driveA => [1] | .driveB => [2] | _ => restRods v f)
    ++ (List.range 8).filter (fun r => decide (r ≠ 0) &&
        ((fnLoops v f).flatMap (loopReads v)).any (fun a => decide (blockAt a = some (rodBase r))))

/-- The blocks whose elements a function consumes (R25, R200, R223, R285, R363, R487). -/
def fnBlocks (s : State) (v : Nat → Cell) (f : Fn) : List Nat :=
  let ls := fnLoops v f
  0x6000 :: ((match f with
      | .driveA => [0x2100] | .driveB => [0x2100] | .charger => [0x2100] | .converter => [0x2100] | _ => [])
    ++ restBlocks v f
    ++ (fnChans v f).flatMap (chanBlocks v)
    ++ (fnRods v f).flatMap (fun r => rodBase r :: (match sourceBlock (rodSource s r) with | none => [] | some b => [b]))
    ++ ((elemNames v).filter (fun e => decide (fnOfBlock e.2 = some f))).map (fun e => elemBlock e.1)
    ++ ls.flatMap (fun l => loopBase l :: ((loopMembers v l).map elemBlock
        ++ (loopReads v l).filterMap blockAt
        ++ (if vw v (loopBase l) 3 < 32 then [loopOwner (allLoops v) (vw v (loopBase l) 3)] else []))))

/-- A function consumes an element of a block, in the configuration in effect (R25). -/
def fnConsumes (s : State) (f : Fn) (b : Nat) : Bool := (fnBlocks s (viewNow s) f).contains b && decide (fnOfBlock b ≠ some f)

/-- The functions that consume a channel. -/
def chanUsers (s : State) (ch : Nat) : List Fn := fnAll.filter (fun f => (fnChans (viewNow s) f).contains ch)

/-- The functions that consume a rod. -/
def rodUsers (s : State) (r : Nat) : List Fn := fnAll.filter (fun f => (fnRods (viewNow s) f).contains r)

/-- The block whose claim a configuration block's element is under, in force now (R284). -/
def claimedConfig (s : State) (b : Nat) : Option Nat :=
  let some' (o : Nat) : Option Nat := if o = 0 then none else some o
  if 0x3C80 ≤ b ∧ b < 0x3D00 then some' (loopOwner s.owned ((b - 0x3C80) / 4))
  else if 0x3D00 ≤ b ∧ b < 0x4000 then some' (elemOwner (viewNow s) s.owned ((b - 0x3D00) / 4))
  else if 0x3C40 ≤ b ∧ b < 0x3C78 then some' (elemOwner (viewNow s) s.owned (0x100 + (b - 0x3C40) / 2))
  else none

/-- The strike checks across objects of step 2 of R142. -/
def strikeCheck (s : State) (v : Nat → Cell) (bs : List Nat) : Bool :=
  let ms := allMarks v
  integOk v && captureOk v && posOk v && rodsOk s v bs && marksOk v ms && claimsOk s (allClaims s v)
    && acqStrikeOk v ms bs && (List.range 32).all (fun u => statHolds v u && (!bs.contains (statBase u) || statOk v u))
    && (List.range 32).all (fun w => !bs.contains (winBase w) || (winOk s v w && protWinOk s v w))
    && linkOk v bs
    && trussStrikeOk v ms (allLoops v) (restStage v) bs && claimsAgree v (allLoops v)
    && drvStrikeOk s v bs .a && drvStrikeOk s v bs .b && restOk s v ms bs
    && (!bs.contains 0x3300 || (List.range 3).all (fun k => namedOk v (vw v 0x3300 (3 + k))))

/-- Step 4 of R517: the checks across the privileged values pending (R276, R379, R381). -/
def tkCheck (s : State) (v : Nat → Cell) (as : List Nat) : Nat :=
  if (List.range 32).any (fun w => as.any (fun a => decide (blockAt a = some (winBase w))) && !(winOk s v w && protWinOk s v w)) then
    0x02000006
  else if vwF v 0x2100 3 ≤ vwF v 0x2100 2 then 0x02000006 else 0

/-- The window restarts with its latch cleared: the capture units on its output see it fall (R143, R273, R276, R278, R389). -/
def restartWin (s : State) (w : Nat) : State :=
  let x := tabGet {} s.win w
  let s1 := { s with
    win := tabSet {} s.win w { ({} : Window) with relief := x.relief, chkFail := x.chkFail }
    link := { s.link with ov3 := s.link.ov3 && !ov3Window s w } }
  if x.outL || x.outH then capCode s1 (0x87 + w) false (outNow s) else s1

/-- A brace starts with histories of zero; a preset that waits stays (R302, R304). -/
def restartBrace (s : State) (i : Nat) : State :=
  let x := tabGet {} s.brc i
  { s with brc := tabSet {} s.brc i { ({} : Brace) with clip := x.clip, preset := x.preset } }

/-- The braces of a loop start with histories of zero, and the counters of the loop and of the loops nested in it anew (R143,
R304, R311). -/
def restartLoop (s : State) (l : Nat) : State :=
  let s1 := ((loopMembers (viewNow s) l).filter isBrace).foldl restartBrace s
  let s2 := { s1 with loops := tabSet {} s1.loops l {}, mac := s1.mac.filter (fun j => decide (j.loop ≠ l)) }
  let s3 := ((List.range 32).filter (fun o => decide (ob s (loopBase o) 3 = l))).foldl
    (fun t o => { t with loops := tabMod {} t.loops o (fun x => { x with k := 0 }) }) s2
  putOb s3 (loopBase l + 2) 3 0

/-- The loops whose claiming block, own block or members' blocks a block is (R304). -/
def blockLoops (s : State) (b : Nat) : List Nat :=
  let v := viewNow s
  ((allLoops v).filter (fun e => decide (e.2 = b) || decide (loopBase e.1 = b)
    || (loopMembers v e.1).any (fun c => decide (elemBlock c = b)))).map (fun e => e.1)

/-- A drive's Prot.AscRate from AscSpeed and the pole pairs (R377), and Prot.AscSpeedEmf (R378). -/
def publishAsc (s : State) (x : Drv) : State :=
  let d := drvBase x
  let p := ob s (d + 3) 1
  let rate := (rroundUp (mkRat (ob s (d + 0x700) 1 * p * 2 ^ 36 : Nat) (60 * 200000000))).toNat
  let den := sqrt3 * 2 * piR * obF s (d + 3) 5 * (p : Rat)
  let emf := if den = 0 then 0 else 60 * obF s 0x2100 3 / den
  putOb (putOb s (d + 0x700) 7 (rate % 2 ^ 32)) (d + 0x700) 8 (f32Of emf)

/-- Trigger events on their way to an element of a block are dropped: its elements start on their first trigger after the
release, and a stopped one starts on none (R136, R143, R228). -/
def dropTrigs (s : State) (b : Nat) : State :=
  let ls := blockLoops s b
  { s with trigs := s.trigs.filter (fun t => !(
      if t.kind = 0 then decide (seqBase t.num = b) else if t.kind = 1 then ls.contains t.num else decide (sdBase t.num = b))) }

/-- What the elements of a released block do at the release instant (R143, R207, R247, R262, R304, R377). -/
def restartElems (s : State) (b : Nat) : State :=
  let s0 := (blockLoops s b).foldl restartLoop (dropTrigs s b)
  if 0x3000 ≤ b ∧ b < 0x3340 then startPos s0 b
  else if b = 0x3400 then
    { ((List.range 8).foldl (fun t p => putOb t 0x3407 (p + 1) 2) s0) with
        pairs := (List.range 8).foldl (fun t p => tabSet {} t p { lastAt := now s }) [] }
  else if 0x3420 ≤ b ∧ b < 0x3620 then
    { s0 with seq := tabSet {} s0.seq ((b - 0x3420) / 16) {} }
  else if 0x3640 ≤ b ∧ b < 0x3700 then
    putOb { s0 with sd := tabSet {} s0.sd ((b - 0x3640) / 8) { ({} : Demod) with startAt := now s } } (b + 2) 4 0
  else if 0x3700 ≤ b ∧ b < 0x3710 then
    (List.range 6).foldl (fun t k => putOb t 0x3701 (k + 1) (if ob t 0x3700 (k + 1) = 0 then 0 else 1)) { s0 with sdc := [] }
  else if 0x3800 ≤ b ∧ b < 0x3C00 then restartWin s0 ((b - 0x3800) / 0x20)
  else if 0x7800 ≤ b ∧ b < 0x7A00 then
    putOb { s0 with stat := tabSet {} s0.stat ((b - 0x7800) / 16) {} } (b + 1) 1 0
  else if b = 0x2100 then { s0 with link := { s0.link with wordAt := now s, stale := false } }
  else if b = 0x4000 ∨ b = 0x4800 then publishAsc s0 (if b = 0x4000 then .a else .b)
  else if b = 0x4200 ∨ b = 0x4A00 then
    { s0 with drv := tabMod {} s0.drv (if b = 0x4200 then 1 else 2) (fun x => { x with k := 0 }) }
  else s0

/-- An accepted shore of a sequence's block ends an instance that has not held its first step (R228). -/
def stopUnheld (s : State) (b : Nat) : State :=
  let x := tabGet ({} : SeqInst) s.seq ((b - 0x3420) / 16)
  if 0x3420 ≤ b ∧ b < 0x3620 ∧ (x.st = 1 ∨ (x.st = 2 ∧ s.dt < x.hold)) then
    { s with seq := tabSet {} s.seq ((b - 0x3420) / 16) {} } else s

/-- What the elements of a shored block do when they stop: their trigger events end, windows read 0, the generator and the capture
stop, and the NTC slots' channel words carry STL (R23, R278, R322, R326, R583). -/
def stopElems (s' : State) (b : Nat) : State :=
  let s := dropTrigs s' b
  let s0 := if s.inj.st = 1 ∧ (b = 0x3C20 ∨ b = braceBase s.inj.brace ∨ claimedConfig s (braceBase s.inj.brace) = some b) then
      { s with inj := { s.inj with st := 3 } } else s
  if 0x3800 ≤ b ∧ b < 0x3C00 then restartWin s0 ((b - 0x3800) / 0x20)
  else if b = 0x3C20 then { s0 with resp := { s0.resp with st := if s0.resp.st = 0 then 0 else 3 } }
  else if b = 0x7040 then
    (List.range 12).foldl (fun t n =>
      match chanAddr (ob t (0x7040 + 8 * n) 1) with
      | none => t
      | some a => orSide t (a / 256) (a % 256) 1) s0
  else s0

/-- Publish a value; an RO object of a block that stays shored keeps the one it held (R138). -/
def putPub (s : State) (idx sub v : Nat) : State := if addrDone s (oaddr idx sub) then s else putOb s idx sub v

/-- Publish the claims: owners, loops, rates and latencies, mark usage and occupancy (R164, R192, R235, R295, R309, R313,
R316, R317, R319). -/
def publishOwners (s : State) : State :=
  let v := viewNow s
  let ms := allMarks v
  let lc := allLoops v
  let hz (x : Rat) := x.floor.toNat % 2 ^ 32
  let s1 := (List.range 128).foldl (fun t l => putPub t 0x2901 (l + 1) (claimOf t l).blk) { s with owned := lc }
  let s2 := (List.range 16).foldl (fun t c =>
    putPub t 0x2907 (c + 1) (ms.filter (fun m => decide (m.src = c))).length) (putPub s1 0x2907 0x11 (1024 - ms.length))
  let s3 := (List.range 16).foldl (fun t c => putPub t 0x3402 (c + 1) ((occupancy v ms c / 8000).floor.toNat)) s2
  let s4 := (List.range 32).foldl (fun t l =>
    let o := loopOwner lc l
    let b := loopBase l + 2
    putPub (putPub (putPub t b 6 o) b 1 (if o = 0 then 0 else hz (loopRate v ms 4 l))) b 2
      (if o = 0 ∨ vw v (loopBase l) 3 < 32 then 0 else loopLatency v lc (restStage v l) l)) s3
  let s5 := (List.range 192).foldl (fun t i =>
    let b := braceBase i + 3
    match memberLoop v lc i with
    | none => putPub (putPub (putPub t b 0xB 0) b 0xD (elemOwner v lc i)) b 0xE 0xFF
    | some l => putPub (putPub (putPub t b 0xB (hz (loopRate v ms 4 l))) b 0xD (loopOwner lc l)) b 0xE l) s4
  let s6 := (List.range 28).foldl (fun t u =>
    let b := xfBase u + 1
    match memberLoop v lc (0x100 + u) with
    | none => putPub (putPub t b 5 (elemOwner v lc (0x100 + u))) b 6 0xFF
    | some l => putPub (putPub t b 5 (loopOwner lc l)) b 6 l) s5
  putPub (putPub s6 0x3C00 2 ((List.range 192).filter (fun i => decide (elemOwner v lc i ≠ 0))).length) 0x3C00 3 lc.length

end Sys2Proof.Machine
end

