-- ==== Sys2Proof/Machine/Release.lean ====
section
/-! DEFINITION. What a release does (steps 5 and 6 of R142, R143, R146): the switch to the values struck, the marks
and claims in force, the restart of the elements, and the functions that leave SHORED. -/

namespace Sys2Proof.Machine

/-- Addresses of the Ridge-backed objects that a row gives a block, with the row's access. -/
def rowRidge (b : Nat) (r : Row) : List (Nat × Acc) :=
  if r.ridge then
    (List.range r.count).flatMap (fun i =>
      let idx := r.base + r.stride * i
      if blockOf idx = some b then (List.range r.subs).map (fun j => (oaddr idx (r.sub + j), r.acc)) else [])
  else []

/-- The Ridge-backed objects of a block. -/
def ridgeOf (b : Nat) : List (Nat × Acc) := (dictOf b).flatMap (rowRidge b)

/-- The Ridge words that the elements of a block produce (R24, R29): those of its own index range, the outputs of the braces
and transform units it claims (R283), and Sample.Value where its step publishes it (R236). -/
def blockWords (s : State) (b : Nat) : List (Nat × Acc) :=
  let claimed := (((elemClaims (viewNow s) s.owned).filter (fun e => decide (e.2 = b))).map (fun e => e.1)).eraseDups
  let raw := if 0x3420 ≤ b ∧ b < 0x3620 then
      ((List.range 16).filter (fun k => decide (ob s (b + 2) (k + 1) = 1))).map (fun k => (oaddr (b + 14) (k + 1), Acc.ro)) else []
  let dab := if b = 0x5300 then (List.range 8).map (fun k => (oaddr 0x53F0 (0x10 + k), Acc.ro)) else []
  ridgeOf b ++ raw ++ dab ++ claimed.flatMap (fun c => (ridgeOf (elemBlock c)).filter (fun w => decide (w.2 = .ro)))

/-- The words of a released block: after a strike every word its producers write takes the reset state (R29); a word
whose value the host sets is written with all four sideband bits clear: with the value struck, or after an abandon with its
persisted value or its default (R636; DEDUCED, log 97). -/
def ridgeRestart (struck : Bool) (s : State) (e : Nat × Acc) : State :=
  match e.2 with
  | .ro => if struck then (if (rowAt e.1).any (fun r => r.ridge) then { s with objs := tabDel s.objs e.1 }
                           else setCell s e.1 (BitVec.ofNat 64 (5 * 2 ^ 32))) else s
  | _ => setCell s e.1 (BitVec.ofNat 64 ((if struck then cellAt s e.1 else tabGetD dfltAt s.mram e.1).toNat % 2 ^ 32))

/-- The words of a shored block take STL when their elements stop (R24, R136). -/
def ridgeStale (s : State) (e : Nat × Acc) : State :=
  setCell s e.1 (BitVec.ofNat 64 (Nat.lor (cellAt s e.1).toNat (2 ^ 32)))

/-- A rod of a released block restarts from its source's latest position update, brought forward to the release; its
rate, acceleration and residual are zero and its words stale until the next update (R143). -/
def rodRestart (s : State) (r : Nat) : State :=
  let x := rodAt s r
  let p := match x.last with
    | none => x.pos
    | some u =>
      match u.pos with
      | none => x.pos
      | some ps =>
        let n : Rat := mkRat ((s.dt : Int) - (nsTime u.ts : Nat)) (5 * 2 ^ 32)
        let a : Int := if ob s (rodBase r + 1) 6 = 1 then iclamp (-2147483648) 2147483647 u.accel else 0
        BitVec.ofInt 64 (ps.toNat + (u.rate * n + a * n * n / 2).floor)
  setRod s r { x with pos := p, prev := p, moved := 0, rate := 0, accel := 0, resid := 0, stl := true, held := false }

/-- What a released block's own elements do at the release instant. -/
def restartBlock (struck : Bool) (s : State) (b : Nat) : State :=
  let s1 := (blockWords s b).foldl (ridgeRestart struck) s
  if 0x2810 ≤ b ∧ b ≤ 0x2870 then rodRestart s1 ((b - 0x2800) / 0x10)
  else restartElems s1 b

/-- The pending values of a block join the values in effect (step 5 of R142). -/
def commitPending (b : Nat) (s : State) : State :=
  { (s.pend.foldl (fun t e => if blockAt e.1 = some b then setCell t e.1 e.2 else t) s) with
      pend := s.pend.filter (fun e => !decide (blockAt e.1 = some b)) }

/-- The pending values of a block are discarded (R146). -/
def dropPending (b : Nat) (s : State) : State :=
  { s with pend := s.pend.filter (fun e => !decide (blockAt e.1 = some b)) }

/-- The RO objects of a released block that the object store holds go on from what they held at its shore instant (R138). -/
def thaw (s : State) (b : Nat) : State :=
  match shoreOf s b with
  | none => s
  | some e => e.frozen.foldl (fun t x => if x.2.2 then setCell t x.1 x.2.1 else t) s

/-- A function owns, or consumes an element of, a block that is shored (R137). -/
def fnHeld (s : State) (f : Fn) : Bool :=
  s.led.shored.any (fun x => decide (fnOfBlock x.blk = some f) || fnConsumes s f x.blk)

/-- A function whose last shored block of its own has been released leaves SHORED for IDLE (R51). -/
def leaveShored (s : State) (f : Fn) : State :=
  if fnState s f = .shored ∧ !(s.led.shored.any (fun x => decide (fnOfBlock x.blk = some f))) then setFn s f .idle else s

/-- The marks and claims of the values in effect come into force: every instance armed (R165, R168, R177). -/
def rebuild (s : State) : State :=
  publishOwners { s with
    marks := allMarks (viewNow s), disarmed := [],
    claims := (allClaims s (viewNow s)).foldl (fun t e => tabSet {} t e.1 e.2) [] }

/-- A function in SHORED that enters SAFE or LOCKOUT abandons its shored blocks, as though an abandon had been written: one operation
takes its place in the queue (R139, R140). -/
def abandonOwned (s : State) (f : Fn) : State :=
  let bs := (s.led.shored.filter (fun x => decide (fnOfBlock x.blk = some f))).map (fun x => x.blk)
  let q : QReq := { ses := 8, reqid := 0, stamp := now s, svc := 2, idx := 0x1012, sub := 0, ty := 3, data := [], xl := false }
  if bs.isEmpty then s
  else { s with led := { s.led with strikes := s.led.strikes ++
    [{ req := q, live := false, from_ := now s, blocks := bs, abandon := true, built := s.led.strikes.isEmpty }] } }

end Sys2Proof.Machine
end

