-- ==== Sys2Proof/Machine/Selector.lean ====
section
/-! DEFINITION. The safe-state selectors of the drives, and the OFF level of a drive's lanes (R353 to R355, R364 to R376);
nothing here raises a fault. -/

namespace Sys2Proof.Machine

/-- A drive's lanes leave their commands; the instant is kept for Prot.AscDelay (R366). -/
def drvOff (s : State) (x : Drv) : State :=
  let ls := blockLanes s (drvBase x + 0x100)
  if ls.any (fun l => (laneAt s l).live) then setSel (setLive s ls false) x { selOf s x with offAt := s.dt } else s

/-- Prot.AscRate (R376, R377). -/
def ascRate (s : State) (x : Drv) : Nat := ob s (drvBase x + 0x700) 7

/-- The speed rule chooses ASC: at or above AscSpeed, or, in ASC under the rule, not below its hysteresis (R376). -/
def ruleAsc (s : State) (x : Drv) (inAsc : Bool) : Bool :=
  let r := (rodRate (rodAt s (drvRod x))).natAbs
  if inAsc then decide (ascRate s x * (100 - ob s (drvBase x + 0x700) 2) ≤ r * 100) else decide (ascRate s x ≤ r)

/-- The bank that Prot.AscBank names. -/
def ascBank (s : State) (x : Drv) : Choice := if ob s (drvBase x + 0x700) 3 = 1 then .ascHigh else .ascLow

/-- The choice leaves none: counted and stamped (R388). -/
def trip (s : State) (x : Drv) : State :=
  if (selOf s x).choice = .none then
    incOb (putOb s (drvBase x + 0x702) 0 (now s % 2 ^ 64)) (drvBase x + 0x703) 0
  else s

/-- Freewheel, every leg lane at its OFF level; an ASC that is to follow waits for AscDelay (R364, R366). -/
def freewheel (s : State) (x : Drv) (asc : Option Choice) (f : Selector → Selector) : State :=
  let s1 := trip (drvOff s x) x
  let y := selOf s1 x
  let off := if y.choice = .ascLow ∨ y.choice = .ascHigh then s1.dt else y.offAt
  setSel s1 x (f { y with choice := .freewheel, ascDue := asc, offAt := off })

/-- Priority 3 of R367: the speed rule, unless a short is latched or being collected. `f` marks the condition. -/
def speedRule (s : State) (x : Drv) (f : Selector → Selector) : State :=
  let y := selOf s x
  if s.dev = .lockout then s
  else if y.oneBank ∨ y.twoBank ∨ y.collecting then setSel s x (f y)
  else if y.byRule ∧ y.choice ≠ .none then setSel s x (f y)
  else
    let up := ruleAsc s x false
    freewheel s x (if up then some (ascBank s x) else none) (fun z => f { z with byRule := true, above := up })

/-- The words a drive depends on are free of STL and INV: its current channels, rod words and link channel (R355). -/
def drvInputsOk (s : State) (x : Drv) : Bool :=
  let v := viewNow s
  let r := rodAt s (drvRod x)
  let chs := (vw v (drvBase x + 4) 1 :: drvChans v x).filter (fun c => decide (c ≠ 0xFFFF))
  !r.stl && !r.inv && !r.jumped
    && chs.all (fun c => match chanAddr c with
        | none => true
        | some a => decide (Nat.land (obSide s (a / 256) (a % 256)) 5 = 0))

/-- A drive enters STOPPED: the torque ramps to 0 where its lanes are live and its inputs are good, else the lanes take
their OFF level (R355). -/
def drvStopped (s : State) (x : Drv) : State :=
  let y := drvOf s x
  if y.rel ≥ 3 ∧ drvInputsOk s x then setDrv s x { y with ramp := some (now s, y.tref), stopping := false, ending := 0 }
  else setDrv (drvOff s x) x { y with ramp := none, rel := 0, stopping := false, ending := 0, tref := 0, fw := false, tlimit := false }

/-- A drive is out of RUN without a ramp: its sequencer and its reference start anew. -/
def drvReset (s : State) (x : Drv) : State :=
  setDrv s x { drvOf s x with ramp := none, rel := 0, stopping := false, ending := 0, tref := 0, fw := false, tlimit := false }

/-- A latch of a drive's lanes ends a controlled stop or the ramp of STOPPED: the lanes take their OFF level, and after a stop the
drive enters ARMED, or IDLE after DISARM (R52, R354, R355). -/
def drvLatchEnd (s : State) (x : Drv) : State :=
  let y := drvOf s x
  let s1 := drvReset (drvOff s x) x
  if y.ending = 0 then s
  else if y.ending = 1 ∧ fnState s (drvFn x) = .run then setFn s1 (drvFn x) (if y.toIdle then .idle else .armed)
  else s1

/-- A drive's reaction to a fault at an effective level of 3 or more (R353, R355, R367). -/
def drvReact (s : State) (x : Drv) (eff : Nat) : State :=
  if eff = 3 then drvStopped s x
  else if eff = 4 then
    let s1 := drvReset (drvOff s x) x
    if (selOf s1 x).choice = .none then speedRule s1 x (fun y => { y with fault := true }) else s1
  else drvReset (setLive s (blockLanes s (drvBase x + 0x100)) false) x

/-- A drive leaves SAFE: the selector's choice returns to none (R365). -/
def drvLeaveSafe (s : State) (x : Drv) : State :=
  setSel s x { ({} : Selector) with offAt := (selOf s x).offAt }

/-- Injection ends and the capture triggers on a fault at L2 or above against the function concerned (R322, R324). -/
def benchFault (s : State) (scope eff : Nat) : State :=
  if eff < 2 ∨ scope = 0 then s
  else
    let s1 := if s.inj.st = 1 ∧ s.inj.fn = fnOf scope then { s with inj := { s.inj with st := 3 } } else s
    if s1.resp.st = 1 ∧ ob s1 0x3C29 5 = 2 ∧ fnOfBlock (loopOwner s1.owned (ob s1 0x3C29 2)) = fnOf scope then
      { s1 with resp := { s1.resp with st := 2 } }
    else s1

end Sys2Proof.Machine
end

