-- ==== Sys2Proof/Machine/ChgBase.lean ====
section
/-! DEFINITION. The outputs of the Charger and its reaction to faults (R398, R399, R402, R417 to R423); nothing here raises
a fault. -/

namespace Sys2Proof.Machine

/-- Write the Charger's running state. -/
def setChg (s : State) (f : Charger → Charger) : State := { s with chg := f s.chg }

/-- The phases that the PFC topology uses (R402). -/
def pfcPhases (s : State) : List Nat := if ob s 0x5200 1 = 2 then [0] else [0, 1, 2]

/-- The lanes of a phase's PFC legs; the single-phase bridge on U and N is one phase (R402). -/
def pfcLanes (s : State) (ph : Nat) : List Nat :=
  let l := ob s 0x5200 2
  let t := ob s 0x5200 1
  if 94 < l then []
  else if t = 0 then [l + 2 * ph, l + 2 * ph + 1]
  else if t = 1 then (List.range 4).map (fun k => l + 4 * ph + k)
  else if ph = 0 then (List.range 4).map (fun k => l + k) else []

/-- The lanes of the DAB's four legs (R407). -/
def dabLanes (s : State) : List Nat :=
  let l := ob s 0x5300 2
  if 88 < l then [] else (List.range 8).map (fun k => l + k)

/-- The PFC legs of a phase go live or take their OFF level. -/
def pfcPut (s : State) (ph : Nat) (b : Bool) : State :=
  setChg (setLive s (pfcLanes s ph) b) (fun x =>
    { x with pfc := if b then Nat.lor x.pfc (2 ^ ph) else Nat.land x.pfc (7 - 2 ^ ph) })

/-- All PFC legs go live or take their OFF level. -/
def pfcAll (s : State) (b : Bool) : State :=
  setChg ((pfcPhases s).foldl (fun t ph => pfcPut t ph b) s) (fun x => { x with pfcEnd := false })

/-- The DAB legs go live or take their OFF level at once. -/
def dabPut (s : State) (b : Bool) : State := setChg (setLive s (dabLanes s) b) (fun x => { x with dab := b, dabEnd := false })

/-- The DAB legs take their OFF level at the next latch (R416, R417). -/
def dabStop (s : State) : State := setChg s (fun x => { x with dabEnd := x.dab })

/-- A relay lane goes active or inactive. -/
def relayPut (s : State) (l : Nat) (b : Bool) (t : Nat) : State :=
  laneCmd (setLane s l { laneAt s l with live := b }) l b t

/-- The sequencer commands a relay lane through a mark on rod 0, placed one tick ahead (R57, R399; DESIGN CHOICE, log 28). -/
def relayMark (s : State) (l : Nat) (b : Bool) : State :=
  if l ≤ 95 then
    setChg s (fun x => { x with relays := x.relays.filter (fun e => decide (e.1 ≠ l)) ++ [(l, b, (now s + 5) % 2 ^ 32)] })
  else s

/-- The main relay lane (R399). -/
def relayMain (s : State) (b : Bool) : State := setChg (relayMark s (ob s 0x5100 8) b) (fun x => { x with main := b })

/-- The precharge relay lane (R399). -/
def relayPre (s : State) (b : Bool) : State := setChg (relayMark s (ob s 0x5100 9) b) (fun x => { x with pre := b })

/-- The stop path takes both relay lanes inactive through its own hardware (R399, R419). -/
def relaysOff (s : State) : State :=
  let one (t : State) (l : Nat) : State := if l ≤ 95 then relayPut t l false (phases t) else t
  setChg (one (one s (ob s 0x5100 8)) (ob s 0x5100 9)) (fun x => { x with main := false, pre := false, relays := [] })

/-- The relay marks that rod 0 passed in the latest tick fire, while their block is not shored (R169, R174, R399). -/
def relayTick (s : State) : State :=
  let due (p : Nat) := srcPass s 0 (p * 2 ^ 32)
  s.chg.relays.foldl (fun t e =>
    match due e.2.2 with
    | none => t
    | some d =>
      setChg (if isShored t 0x5100 then t else relayPut t e.1 e.2.1 ((t.tick - 1) * 32 + passPhase (srcMove t 0).2 d))
        (fun x => { x with relays := x.relays.erase e })) s

/-- CP_S2 (R398). -/
def putS2 (s : State) (b : Bool) : State := setChg s (fun x => { x with s2 := b })

/-- The session phase as it reads (R427). -/
def putPhase (s : State) (p : Nat) : State := putOb s 0x5003 4 p

/-- A reason of R418 belongs to a fault. -/
def faultReason (c : Nat) : Bool := decide (3 ≤ c) && decide (c ≤ 15)

/-- A session end arises: the first reason is kept; at the same device time faults come first, and among them the lowest code
(R422). -/
def noteReason (s : State) (c : Nat) : State :=
  let x := s.chg
  if x.step = 0 then s
  else if x.reason = 0 then setChg s (fun y => { y with reason := c, reasonAt := now s })
  else if x.reasonAt = now s ∧ faultReason c ∧ (!faultReason x.reason ∨ c < x.reason) then
    setChg s (fun y => { y with reason := c })
  else s

/-- The session is over: its reason and phase are written, the timer stops, and Grid.Mode returns to 0 after
vehicle-to-load (R414, R417, R424). -/
def sessionOver (s : State) : State :=
  if s.chg.step = 0 then s
  else
    let s1 := putPhase (putOb s 0x5003 5 s.chg.reason) 0
    let s2 := if s.chg.v2l then putOb s1 0x3300 9 0 else s1
    setChg s2 (fun x => { x with
      step := 0, v2l := false, reason := 0, timerOn := false, busNow := none, bind := 0, zeroSince := 0, posSince := 0,
      endSince := 0, gridSince := 0, overSince := 0, overPow := 0, bSince := 0 })

/-- Every output of the Charger is off: its lanes at their OFF level and CP_S2 low (R423). -/
def chgOff (s : State) : State :=
  putS2 (relaysOff (dabPut (pfcAll s false) false)) false

/-- The legs turn off as in steps 2 and 3 of R417: the DAB at once, each PFC phase at its next zero crossing. -/
def legsEnd (s : State) : State :=
  setChg (putPhase (dabStop s) 8) (fun x => { x with step := 9, pfcEnd := true })

/-- The Charger's reaction to a fault at an effective level of 3 or more (R418, R423). -/
def chgReact (s : State) (eff : Nat) : State :=
  let s1 := noteReason s 15
  if eff = 3 then (if s1.chg.step = 0 then s1 else legsEnd s1)
  else sessionOver (chgOff s1)

end Sys2Proof.Machine
end

