-- ==== Sys2Proof/Machine/CnvBase.lean ====
section
/-! DEFINITION. The outputs of the Converter and its reaction to faults (R430, R431, R437, R438); nothing here raises a
fault. -/

namespace Sys2Proof.Machine

/-- Write the Converter's running state. -/
def setCnv (s : State) (f : Converter → Converter) : State := { s with cnv := f s.cnv }

/-- The lanes of the DCX legs (R430). -/
def dcxLanes (s : State) : List Nat :=
  let l := ob s 0x5900 1
  if 92 < l then [] else (List.range 4).map (fun k => l + k)

/-- The lanes of the buck-boost legs (R431). -/
def buckLanes (s : State) : List Nat :=
  let l := ob s 0x5901 1
  if 88 < l then [] else (List.range (4 * ob s 0x5901 2)).map (fun k => l + k)

/-- The DCX legs go live or take their OFF level. -/
def dcxPut (s : State) (b : Bool) : State := setCnv (setLive s (dcxLanes s) b) (fun x => { x with dcx := b })

/-- The buck-boost legs go live or take their OFF level. -/
def buckPut (s : State) (b : Bool) : State :=
  setCnv (setLive s (buckLanes s) b) (fun x => { x with buck := b, buckEnd := false })

/-- Every lane of the Converter at its OFF level, the sequencer idle. -/
def cnvOff (s : State) : State :=
  setCnv (dcxPut (buckPut s false) false) (fun x => { x with step := 0, live := false, hold := none, bind := 0, fsw := none })

/-- The legs of a stop turn off: the buck-boost at the next latch, the DCX at rod 5's next passage through 0 after it, and
I_max and I_min are 0 at once (R438). -/
def cnvEnd (s : State) : State :=
  setCnv s (fun x => { x with step := 21, buckEnd := x.buck, live := false, hold := none, imax := 0, imin := 0 })

/-- The Converter's reaction to a fault at an effective level of 3 or more (R438). -/
def cnvReact (s : State) (eff : Nat) : State :=
  if eff = 3 then (if s.cnv.step = 0 then s else cnvEnd s) else cnvOff s

/-- A controlled stop under R438 that ends in a state. -/
def cnvStop (s : State) (after : FnSt) : State :=
  if s.cnv.step = 0 ∨ 20 ≤ s.cnv.step then s
  else setCnv s (fun x => { x with step := 20, t0 := now s, after := after, imax := 0, imin := 0 })

end Sys2Proof.Machine
end

