-- ==== Sys2Proof/Machine/ActBase.lean ====
section
/-! DEFINITION. The commutators of the actuator drives and the reaction of the Pump, the Park lock and the Clutch to faults
(R457 to R464, R468, R477); nothing here raises a fault. -/

namespace Sys2Proof.Machine

/-- First index of actuator drive n (R452). -/
def actBase (n : Nat) : Nat := 0x5D00 + 0x40 * n

/-- The function of actuator drive n (R452). -/
def actFn (n : Nat) : Fn := if n = 0 then .pump else if n = 1 then .parkLock else .clutch

/-- An actuator drive. -/
def actOf (s : State) (n : Nat) : Act := tabGet {} s.act n

/-- An actuator drive with the instant since which it drives its motor, 0 where it does not (R217). -/
def actDriven (s : State) (x : Act) : Act :=
  { x with drivenAt := if x.mode = .drive ∧ f32Val x.duty ≠ 0 then (if x.drivenAt = 0 then s.dt + 1 else x.drivenAt) else 0 }

/-- Write an actuator drive; since when it drives its motor is kept (R217). -/
def setAct (s : State) (n : Nat) (x : Act) : State := { s with act := tabSet {} s.act n (actDriven s x) }

/-- The lane of leg p of actuator drive n: its high side, and its low side one above (R454). -/
def actLane (n p : Nat) : Nat := 96 + 6 * n + 2 * p

/-- The six lanes of an actuator drive. -/
def actLanes (n : Nat) : List Nat := (List.range 6).map (fun k => actLane n 0 + k)

/-- The commutator lets a lane command stand (R457). -/
def actCmd (s : State) (l : Nat) (b : Bool) : State :=
  laneCmd s l b (phases s)

/-- A leg with both switches off. -/
def legOff (t : Nat) (x : ActLeg) : ActLeg :=
  { x with
    hi := false, lo := false, hiOff := if x.hi then t else x.hiOff, loOff := if x.lo then t else x.loOff,
    lows := if x.lo then (x.loAt, t) :: x.lows else x.lows, ref := false, charged := false }

/-- The Park lock's interlock holds: the speed of a rod in use exceeds its limit, a rod in use carries STL or INV, or no
rod is in use (R477). -/
def parkInterlock (s : State) : Bool :=
  let bad (r k : Nat) : Bool :=
    let x := rodAt s r
    x.stl || x.inv || x.jumped || decide (obI32 s 0x5C14 (k + 2) < ((rodRate x).natAbs : Int))
  let a := decide (obF s 0x5C14 2 ≠ 0)
  let b := decide (obF s 0x5C14 3 ≠ 0)
  (a && bad 1 2) || (b && bad 2 3) || (!a && !b)

/-- The Park lock's commutator drives in the engage direction (R459, R477). -/
def parkEngages (s : State) : Bool :=
  let x := actOf s 1
  let d := f32Val x.duty
  decide (x.mode = .drive) && decide (d ≠ 0) && (decide (0 < d) == decide (ob s 0x5C13 9 = 0))

/-- Plumb holds the Park lock's lanes while the interlock holds against an engaging commutator (R477). -/
def parkPlumb (s : State) : State :=
  let h := parkEngages s && parkInterlock s
  { s with plumbHeld := (actLanes 1).foldl (fun t l => tabSet false t l h) s.plumbHeld }

/-- The commutator enters OFF at once: every switch off (R460, R461). -/
def actOff (s : State) (n : Nat) : State :=
  let x := actOf s n
  let s1 := setAct s n { x with
    mode := .off, next := [],
    legs := (List.range 3).foldl (fun t p => tabMod {} t p (legOff (phases s))) x.legs }
  let s2 := (actLanes n).foldl (fun t l => actCmd t l false) s1
  parkPlumb (setLive s2 (actLanes n) false)

/-- The commutator enters OFF at the next period start. -/
def actOffNext (s : State) (n : Nat) : State :=
  let x := actOf s n
  if x.mode = .off then setAct s n { x with next := [] } else setAct s n { x with next := [.off] }

/-- The commutator enters DRIVE or BRAKE. -/
def actEnter (s : State) (n : Nat) (m : CommMode) : State :=
  if m = .off then actOff s n
  else parkPlumb (setLive (setAct s n { actOf s n with mode := m, next := [] }) (actLanes n) true)

/-- Sector used for commutation (R459). -/
def actSector (s : State) (n : Nat) : Option Nat :=
  let k := ob s (0x3200 + 0x20 * n + 1) 2
  if k < 6 then some ((k + ob s (actBase n) 4) % 6) else none

/-- The PWM leg and the low leg of a sector, forward (R459): 0 U, 1 V, 2 W. -/
def sectorLegs (k : Nat) : Nat × Nat :=
  if k = 0 then (0, 1) else if k = 1 then (0, 2) else if k = 2 then (1, 2) else if k = 3 then (1, 0)
  else if k = 4 then (2, 0) else (2, 1)

/-- The PWM leg of a drive in its sector and direction. -/
def pwmLeg (x : Act) : Option Nat :=
  x.sector.map (fun k => if f32Val x.duty < 0 then (sectorLegs k).2 else (sectorLegs k).1)

/-- Time since the period start lies in the centred part of the period in which the high side is on (R459). -/
def pwmHigh (s : State) (n : Nat) (x : Act) : Bool :=
  let d := rabs (f32Val x.duty)
  let p : Rat := (nsTime' (ob s (actBase n) 1) : Nat)
  let e : Rat := ((s.dt : Int) - x.startAt : Int)
  decide ((1 - d) / 2 * p ≤ e) && decide (e < (1 + d) / 2 * p)
where
  /-- A time in ns in units of device time. -/
  nsTime' (n : Nat) : Nat := n * 2 ^ 32

/-- What a leg is asked for: its high side, its low side, or neither (R459 to R461). -/
def legWant (s : State) (n : Nat) (x : Act) (p : Nat) : Option Bool :=
  match x.mode with
  | .off => none
  | .brake => some false
  | .drive =>
    match x.sector with
    | none => none
    | some k =>
      let l := sectorLegs k
      let rev := decide (f32Val x.duty < 0)
      if p = (if rev then l.2 else l.1) then some (pwmHigh s n x && !x.ilim)
      else if p = (if rev then l.1 else l.2) then some false
      else none

/-- A time in ns in interpolator phases of 5/32 ns. -/
def phasesOf (ns : Nat) : Nat := ns * 32 / 5

/-- Dead time of a leg in phases: the greater of Act.DeadTime and the sealed MINDT (R460). -/
def actDead (s : State) (n p : Nat) : Nat :=
  let e := actLane n p
  max (phasesOf (ob s (actBase n) 3)) (max (laneSeal s e % 8) (laneSeal s (e + 1) % 8) * 640)

/-- Time for which a low side has been on in total since a time (R464). -/
def lowTotal (x : ActLeg) (t from_ : Nat) : Nat :=
  ((if x.lo then [(x.loAt, t)] else []) ++ x.lows).foldl (fun a e => a + (e.2 - max e.1 from_)) 0

/-- A leg at a time in phases: refresh pulses take precedence over the request, a high side turns on only when it is charged,
and every turn-on waits for the dead time (R460, R463, R464). -/
def legNext (dead pulse win t : Nat) (want : Option Bool) (x0 : ActLeg) : ActLeg :=
  let x1 := { x0 with lows := x0.lows.filter (fun e => decide (t < e.2 + win)) }
  let done := x1.ref && x1.lo && decide (x1.loAt + pulse ≤ t)
  let x2 := if done then { x1 with ref := false, charged := true } else x1
  let short := decide (want = some true) && !x2.hi && !x2.charged && decide (lowTotal x2 t (t - win) < pulse)
  let x3 := if short then { x2 with ref := true } else x2
  match (if x3.ref then some false else want) with
  | none => { legOff t x3 with charged := x3.charged }
  | some true =>
    if x3.hi then x3
    else if x3.lo then { x3 with lo := false, loOff := t, lows := (x3.loAt, t) :: x3.lows }
    else if x3.loOff + dead ≤ t then { x3 with hi := true, hiAt := t, charged := false } else x3
  | some false =>
    if x3.lo then x3
    else if x3.hi then { x3 with hi := false, hiOff := t }
    else if x3.hiOff + dead ≤ t then { x3 with lo := true, loAt := t } else x3

/-- One leg of a drive in its state now. -/
def actLeg (n : Nat) (s : State) (p : Nat) : State :=
  let x := actOf s n
  let old := tabGet ({} : ActLeg) x.legs p
  let y := legNext (actDead s n p) (phasesOf (ob s (actBase n) 11)) (phasesOf (ob s (actBase n) 10 * 1000)) (phases s)
    (legWant s n x p) old
  let s1 := setAct s n { x with legs := tabSet {} x.legs p y, refreshed := x.refreshed || (y.ref && !old.ref) }
  actCmd (actCmd s1 (actLane n p) y.hi) (actLane n p + 1) y.lo

/-- The commutator of drive n in one lane tick: it takes the sector and brings each leg on its way (R459 to R464). -/
def actTick (s : State) (n : Nat) : State :=
  let x := actOf s n
  if x.mode = .off then s
  else (List.range 3).foldl (actLeg n) (setAct s n { x with sector := actSector s n })

/-- The Pump's motor is no longer on its way to turn. -/
def pumpQuiet (s : State) : State := { s with pump := { s.pump with start := false, brake := false } }

/-- A sequence of the Park lock ends: its duty becomes 0 (R476). -/
def parkEnd (s : State) : State :=
  setAct { s with plock := { s.plock with seq := 0 } } 1 { actOf s 1 with word := 0 }

/-- Drive B's target torque returns to the host's request (R481, R482). -/
def clutchRelease (s : State) : State :=
  setDrv { s with clutch := { s.clutch with sync := false, match_ := false, bandSince := 0 } } .b
    { drvOf s .b with clutchT := none }

/-- A sequence of the Clutch ends. -/
def clutchEnd (s : State) : State :=
  let s1 := clutchRelease s
  setAct { s1 with clutch := { s1.clutch with st := 0 } } 2 { actOf s1 2 with word := 0 }

/-- The sequence of an actuator function ends. -/
def actSeqEnd (s : State) (n : Nat) : State := if n = 0 then pumpQuiet s else if n = 1 then parkEnd s else clutchEnd s

/-- An actuator function's reaction to a fault at an effective level of 3 or more, or a controlled stop at level 3 (R468,
R472). -/
def actReact (s : State) (n eff : Nat) : State :=
  let s1 := actSeqEnd s n
  if eff = 3 then actOffNext s1 n else actOff s1 n

end Sys2Proof.Machine
end

