-- ==== Sys2Proof/Machine/React.lean ====
section
/-! DEFINITION. The reaction of each function to a fault (R51, R53, R55, R525), and the abort of a twin-key transaction. -/

namespace Sys2Proof.Machine

/-- What a function's outputs do on a fault at an effective level of 3 or more. -/
def fnReact (s : State) (f : Fn) (eff : Nat) : State :=
  match f with
  | .driveA => drvReact s .a eff
  | .driveB => drvReact s .b eff
  | .charger => chgReact s eff
  | .converter => cnvReact s eff
  | .pump => actReact s 0 eff
  | .parkLock => actReact s 1 eff
  | .clutch => actReact s 2 eff

/-- What a function does as it leaves SAFE for IDLE (R365). -/
def fnLeaveSafe (s : State) (f : Fn) : State :=
  match f with
  | .driveA => drvLeaveSafe s .a
  | .driveB => drvLeaveSafe s .b
  | _ => s

/-- A function leaves STOPPED: its outputs are off as in IDLE, and a stop that has not ended ends here (R353, R423, R438, R468). -/
def fnUnstop (s : State) (f : Fn) : State :=
  match f with
  | .driveA => drvReset (drvOff s .a) .a
  | .driveB => drvReset (drvOff s .b) .b
  | .charger => sessionOver (chgOff s)
  | .converter => cnvOff s
  | .pump => actOff (actSeqEnd s 0) 0
  | .parkLock => actOff (actSeqEnd s 1) 1
  | .clutch => actOff (actSeqEnd s 2) 2

/-- A function in STOPPED whose fault has retired takes its transition when the last shored block that it owns or consumes from
has been released (R51, R137). -/
def settleStopped (s : State) (f : Fn) : State :=
  if fnState s f = .stopped ∧ fnFaulted s f = false ∧ fnHeld s f = false then
    (if s.dev = .operational then setFn (fnUnstop s f) f .armed else if s.dev = .preop then setFn (fnUnstop s f) f .idle else s)
  else s

/-- Release blocks, struck with their pending values or abandoned with the values they had (R142, R146). -/
def releaseBlocks (struck : Bool) (s : State) (bs : List Nat) : State :=
  let s1 := bs.foldl (fun t b => if struck then commitPending b t else dropPending b t) (bs.foldl thaw s)
  let s2 := { s1 with led := { s1.led with shored := s1.led.shored.filter (fun x => !bs.contains x.blk) } }
  let s3 := bs.foldl (restartBlock struck) (rebuild s2)
  fnAll.foldl settleStopped (fnAll.foldl leaveShored s3)

/-- A twin-key transaction is aborted: its pending set is discarded and block 0x6000 is abandoned; a commit past its
commit instant is never undone (R519). Tk.Result takes the code, or where the spec names none for the cause (code 0) a
free value (DESIGN CHOICE, log 4). -/
def abortTk (s : State) (code : Nat) : State :=
  if s.saf.tk = 0 ∨ s.saf.committing.isSome then s
  else
    let fr := freshWord s
    let s1 := if code = 0 then fr.2 else s
    let res := if code = 0 then fr.1.toNat % 2 ^ 32 else code
    let s2 := { s1 with saf := { s1.saf with
      tk := 0, keeper := none, witness := none, tkPend := [], tkList := [], staged := [], tkResult := res } }
    if isShored s2 0x6000 then releaseBlocks false s2 [0x6000] else s2

end Sys2Proof.Machine
end

