-- ==== Sys2Proof/Machine/Fault.lean ====
section
/-! DEFINITION. The Tally as shared operations: raising a fault and its reaction, L5 lockout and its record,
commit, clearing, acknowledgement and retirement (R523 to R544). -/

namespace Sys2Proof.Machine

/-- The number of the key of a class and scope, 0 for no function. -/
def keyNo (c : Cls) (scope : Nat) : Nat := clsCode c * 16 + scope

/-- A key of the Tally. -/
def keyAt (s : State) (k : Nat) : Key := tabGet {} s.tally.keys k

/-- Write a key. -/
def setKey (s : State) (k : Nat) (x : Key) : State :=
  { s with tally := { s.tally with keys := tabSet {} s.tally.keys k x } }

/-- The effective level of a raise at a level into a key (R528). -/
def effLevel (k : Key) (l : Nat) : Nat :=
  if l = 0 then 0
  else if k.active && k.unack then min 5 (max l (k.eff + 1))
  else if k.active then max l k.eff
  else l

/-- The key after a raise at a level with its effective level (R528); `det` names the detector whose condition is
now present, 0 for a fault raised on an event (R530). The key keeps the stamp of its latest raise, L0 included (R532). -/
def keyRaise (k : Key) (l eff stamp det : Nat) : Key :=
  let srcs := if det = 0 then k.srcs else if k.srcs.contains det then k.srcs else k.srcs ++ [det]
  let old := if k.active then k.from_ else []
  let fr := if old.contains det then old else old ++ [det]
  let at_ := if k.active then max k.stamp stamp else stamp
  if l = 0 then
    if k.active then { k with count := k.count + 1, srcs := srcs, from_ := fr, stamp := at_ }
    else { active := decide (det ≠ 0), unack := false, eff := 0, raised := 0, count := 1, srcs := srcs, from_ := fr, stamp := stamp }
  else
    { from_ := fr, active := true, unack := true, eff := eff, raised := if k.active then max k.raised l else l,
      count := if k.active then k.count + 1 else 1, srcs := srcs, stamp := at_ }

/-- The LOCKOUT record of a fault (R541); an OT fault raised at L5, and only that, is a thermal shutdown (R78, R587). -/
def recordOf (s : State) (r : Raise) : LockRec :=
  { stamp := r.stamp, kind := if r.cls = .ot ∧ r.lvl = 5 then 2 else 1, cls := clsCode r.cls, scope := r.scope, rank := r.rank,
    detail := r.detail, fwver := BitVec.ofNat 32 (ob s 0x2020 3), restores := 0, left := 0, leftAt := 0 }

/-- Keep the 16 latest records (R542). -/
def logRecord (l : List LockRec) (r : LockRec) : List LockRec :=
  (l ++ [r]).drop (l.length + 1 - 16)

/-- The start-up record of a start that ends in LOCKOUT: FALLBACK, and the time to LOCKOUT (R76, R86, R87). -/
def startRecord (s : State) : State :=
  putOb (putOb s 0x2020 5 (Nat.lor (ob s 0x2020 5) (checkBits s))) 0x2020 6 (bootDuration s % 2 ^ 32)

/-- A raise comes before the one of a record in the order of R534. -/
def beforeRec (r : Raise) (c : LockRec) : Bool :=
  let sc (n : Nat) := if n = 0 then 8 else n
  decide ([r.stamp, r.rank, clsCode r.cls, sc r.scope] < [c.stamp, c.rank, c.cls, sc c.scope])

/-- A further fault at L5 in LOCKOUT: of two raised before the record is written, within 20 µs of its stamp, the first in the
order of R534 is recorded; any later one writes no record (R541). -/
def lockoutAgain (s : State) (r : Raise) : State :=
  match s.tally.lockRec with
  | none => s
  | some c =>
    if c.restores = 0 ∧ now s < c.stamp + 20000 ∧ beforeRec r c then
      { s with tally := { s.tally with
        lockRec := some (recordOf s r), log := s.tally.log.dropLast ++ [recordOf s r] } }
    else s

/-- A fault at L5: the override, LOCKOUT of the device and of every function, the record, only that when the device is in
LOCKOUT already, the end of a twin-key transaction before its commit instant, and the abandon of the functions'
own shored blocks and of a camp entry under way (R44, R51, R139, R495, R519, R541). From BOOT or CHECK the persisted values are restored (R83). -/
def lockout (s : State) (r : Raise) : State :=
  if s.dev = .lockout then lockoutAgain s r
  else
    let s0 := if s.dev = .boot ∨ s.dev = .check then startRecord (restoreCfg s) else s
    let s1 := { s0 with power := { s0.power with override := true } }
    let s2 := { s1 with tally := { s1.tally with lockRec := some (recordOf s r), log := logRecord s1.tally.log (recordOf s r) } }
    let s3 := fnAll.foldl (fun t f => setFn (fnReact t f 5) f .lockout) s2
    let s4 := (fnAll.filter (fun f => decide (fnState s f = .shored))).foldl abandonOwned s3
    let s5 := abortTk s4 0
    setDev { s5 with tally := { s5.tally with errn := true }, camp := { s5.camp with step := 0 } } .lockout

/-- The state a function takes on a fault at an effective level (R51, R525). -/
def fnAfter (x : FnSt) (eff : Nat) : FnSt :=
  if eff = 3 then (if x = .armed ∨ x = .run then .stopped else x)
  else if eff = 4 then (if x = .lockout then x else .safe)
  else x

/-- The reaction of one function to a fault at an effective level (R51, R55, R139). -/
def reactFn (s : State) (f : Fn) (eff : Nat) : State :=
  let x := fnState s f
  if fnAfter x eff = x then (if eff = 4 then fnReact s f 4 else s)
  else
    let s1 := setFn (fnReact s f eff) f (fnAfter x eff)
    if x = .shored then abandonOwned s1 f else s1

/-- The reaction to a raise by its effective level (R525, R529). -/
def reaction (s : State) (r : Raise) : State :=
  let s1 := benchFault s r.scope r.eff
  if r.eff = 5 then lockout s1 r
  else match fnOf r.scope with
    | none => s1
    | some f => if 3 ≤ r.eff then reactFn s1 f r.eff else s1

/-- Raise a fault: class, level, scope (0 no function), stamp, rank of the detector (R534), detail word (R538) and
detector (0: the fault is raised on an event). A raise with the class, scope and stamp of one not yet committed is
merged into it (R527); any other enters its key (R528), reacts and waits for its commit (R535). -/
def raiseAt (s : State) (c : Cls) (l scope stamp rank detail det : Nat) : State :=
  let kn := keyNo c scope
  let k := keyAt s kn
  match s.tally.raised.find? (fun r => decide (r.cls = c) && decide (r.scope = scope) && decide (r.stamp = stamp)) with
  | some r0 =>
    let eff := if l ≤ r0.lvl then r0.eff else if r0.lvl = 0 then effLevel k l else max r0.eff l
    let k' := if l = 0 then { k with srcs := (keyRaise k 0 0 stamp det).srcs, from_ := (keyRaise k 0 0 stamp det).from_ }
              else { keyRaise k l (max k.eff eff) stamp det with count := if k.active then k.count else 1 }
    let r' := { r0 with lvl := max r0.lvl l, eff := eff, merged := true }
    let s1 := setKey s kn k'
    let s2 := { s1 with tally := { s1.tally with raised := s1.tally.raised.map (fun r => if r = r0 then r' else r) } }
    if r0.eff < eff then reaction s2 r' else s2
  | none =>
    let eff := effLevel k l
    let k' := keyRaise k l eff stamp det
    let r := { cls := c, lvl := l, eff := eff, scope := scope, stamp := stamp, rank := rank, detail := detail,
               merged := false, count := if k'.active then k'.count else 1, seq := 0, due := max (stamp + 1000) (now s) }
    let s1 := setKey s kn k'
    reaction { s1 with tally := { s1.tally with raised := s1.tally.raised ++ [r] } } r

/-- Raise now a fault on a condition of a detector. -/
def raise (s : State) (c : Cls) (l scope rank detail det : Nat) : State := raiseAt s c l scope (now s) rank detail det

/-- Raise now a fault on an event, whose cause is cleared at the raise itself (R530). -/
def raiseEv (s : State) (c : Cls) (l scope rank detail : Nat) : State := raiseAt s c l scope (now s) rank detail 0

/-- Raise a fault once against each of several functions, with one stamp (R526). -/
def raiseAll (s : State) (fs : List Fn) (c : Cls) (l rank detail det : Nat) : State :=
  fs.foldl (fun t f => raise t c l (fnCode f) rank detail det) s

/-- Raise against functions, or without a function when there is none. -/
def raiseAllOr (s : State) (fs : List Fn) (c : Cls) (l rank detail det : Nat) : State :=
  if fs.isEmpty then raise s c l 0 rank detail det else raiseAll s fs c l rank detail det

/-- A detector whose condition appeared at a device time raises once; while the condition lasts it raises nothing more (R526, R530). -/
def condRaiseAt (s : State) (c : Cls) (l scope stamp rank detail det : Nat) : State :=
  if (keyAt s (keyNo c scope)).srcs.contains det then s else raiseAt s c l scope stamp rank detail det

/-- A condition that appears now. -/
def condRaise (s : State) (c : Cls) (l scope rank detail det : Nat) : State :=
  condRaiseAt s c l scope (now s) rank detail det

/-- A condition that appears, raised against each of several functions. -/
def condAll (s : State) (fs : List Fn) (c : Cls) (l rank detail det : Nat) : State :=
  fs.foldl (fun t f => condRaise t c l (fnCode f) rank detail det) s

/-- A condition that appears, raised against functions, or without one when there is none. -/
def condAllOr (s : State) (fs : List Fn) (c : Cls) (l rank detail det : Nat) : State :=
  if fs.isEmpty then condRaise s c l 0 rank detail det else condAll s fs c l rank detail det

/-- ERR_N is low while an active key stands at or above Tally.ErrLevel, and in LOCKOUT (R540). -/
def errnOf (s : State) : Bool :=
  decide (s.dev = .lockout) || s.tally.pub.any (fun e => e.2.active && decide (ob s 0x6811 0 ≤ e.2.eff))

/-- Form ERR_N again at a commit, a retirement or a write of Tally.ErrLevel. -/
def refreshErr (s : State) : State := { s with tally := { s.tally with errn := errnOf s } }

/-- ERR_N is driven low at its ball: by R65 until CHECK ends, in OFF and LOCKOUT, by the Tally after that. -/
def errnLow (s : State) : Bool := s.power.errnHeld || s.tally.errn || decide (s.dev = .lockout)

/-- The reports read a key as it stands, unless a raise into it still waits for its commit (R535). -/
def publishKey (s : State) (k : Nat) : State :=
  if s.tally.raised.any (fun r => decide (keyNo r.cls r.scope = k)) then s
  else { s with tally := { s.tally with pub := tabSet {} s.tally.pub k (keyAt s k) } }

/-- Order of raises whose commits fall together (R534): stamp, rank, class, scope with no function last. -/
def raiseBefore (a b : Raise) : Bool :=
  let key (r : Raise) := [r.due, r.stamp, r.rank, clsCode r.cls, if r.scope = 0 then 8 else r.scope]
  decide (key a < key b)

/-- A selector has no ASC to come and no collection open. -/
def selSettled (y : Selector) : Bool := y.ascDue.isNone && !y.collecting

/-- The reaction to a raise has ended at the output stage: a drive whose fault took it to SAFE stands in freewheel, or in the ASC that
its selector chose (R55, R366, R373, R379, R535). -/
def reacted (s : State) (r : Raise) : Bool :=
  decide (r.eff ≠ 4) || decide (s.dev = .lockout) || (match fnOf r.scope with
    | some .driveA => selSettled (selOf s .a)
    | some .driveB => selSettled (selOf s .b)
    | _ => true)

/-- The raise that is committed next: the least of those whose commit instant has come. -/
def nextCommit (s : State) : Option Raise :=
  (s.tally.raised.filter (fun r => decide (r.due ≤ now s) && reacted s r)).foldl
    (fun a r => match a with
      | none => some r
      | some x => if raiseBefore r x then some r else some x) none

/-- Commit one raise to the history, the readable keys, the summary, ERR_N and the interrupt (R535, R537, R540, R610). -/
def commitRaise (s : State) (r : Raise) : State :=
  let seq := if s.tally.seq = 0xFFFFFFFF then 1 else s.tally.seq + 1
  let full := decide (32 ≤ s.tally.hist.length)
  let t := s.tally
  let s1 := { s with tally := { t with
    raised := t.raised.erase r, seq := seq, hist := (if full then t.hist.drop 1 else t.hist) ++ [{ r with seq := seq }],
    lost := if full then (t.lost + 1) % 2 ^ 32 else t.lost, lostNew := t.lostNew || full, last := clsCode r.cls,
    pub := tabSet {} t.pub (keyNo r.cls r.scope) (tabGet {} t.keys (keyNo r.cls r.scope)) } }
  irq (refreshErr s1) 1

/-- A function in STOPPED or SAFE whose last key at L3 or above has retired takes its transition (R51, R137, R365,
R532). -/
def settleFn (s : State) (f : Fn) : State :=
  if fnFaulted s f then s
  else match fnState s f with
    | .stopped => settleStopped s f
    | .safe => setFn (fnLeaveSafe s f) f .idle
    | _ => s

/-- A key that is acknowledged and whose cause has cleared retires (R531). -/
def retire (s : State) (k : Nat) : State :=
  let x := keyAt s k
  if x.active && !x.unack && x.srcs.isEmpty then
    let s1 := refreshErr (publishKey (setKey s k {}) k)
    match fnOf (k % 16) with
    | none => s1
    | some f => settleFn s1 f
  else publishKey s k

/-- A detector reports its condition absent: its cause of the key clears (R530). -/
def clearCause (s : State) (c : Cls) (scope det : Nat) : State :=
  let kn := keyNo c scope
  let k := keyAt s kn
  if k.srcs.contains det then retire (setKey s kn { k with srcs := k.srcs.filter (· != det) }) kn else s

/-- A detector's condition has gone in every key that holds it (R530). -/
def clearDet (s : State) (det : Nat) : State :=
  s.tally.keys.foldl (fun t e =>
    let k := keyAt t e.1
    if k.srcs.contains det then retire (setKey t e.1 { k with srcs := k.srcs.filter (· != det) }) e.1 else t) s

/-- The conditions of a block's element have gone: its detectors are numbered from 16 times its index; the Converter's output window
is one of its own (R437). -/
def clearBlock (s : State) (b : Nat) : State :=
  let s1 := (List.range 16).foldl (fun t i => clearDet t (b * 16 + i)) s
  if winBase (ob s 0x5903 4) = b then clearDet s1 (0x5900 * 16 + 4) else s1

/-- A detector reports its condition absent in every scope of a class. -/
def clearAll (s : State) (c : Cls) (det : Nat) : State :=
  (List.range 8).foldl (fun t sc => clearCause t c sc det) s

/-- A write of Tally.Ack matches a key (R532). -/
def ackMatches (v k : Nat) : Bool :=
  let sc := bits v 15 8
  let cl := bits v 7 0
  (decide (sc = 0xFF) || decide (sc % 8 = k % 16 ∧ sc ≤ 8)) && (decide (cl = 0xFF) || decide (cl = k / 16))

/-- Acknowledge the matching keys whose latest raise is earlier than the write's stamp (R532). -/
def ackKeys (s : State) (v stamp : Nat) : State :=
  s.tally.keys.foldl (fun t e =>
    let k := keyAt t e.1
    if ackMatches v e.1 && k.active && k.unack && decide (k.stamp < stamp) then
      retire (setKey t e.1 { k with unack := false }) e.1 else t) s

/-- The word a key publishes (R539). -/
def keyWord (k : Key) : Nat :=
  if k.active then
    min k.count 255 * 2 ^ 24 + 2 ^ 11 + bitAt k.unack 10 + bitAt (!k.srcs.isEmpty) 9 + bitAt (decide (k.raised < k.eff)) 8
      + k.raised * 16 + k.eff
  else 0xF

/-- Tally.Summary (R544). -/
def summary (s : State) : Nat :=
  let act := s.tally.pub.filter (fun e => e.2.active)
  let top := act.foldl (fun a e => max a e.2.eff) 0
  bitAt (errnLow s) 31 + bitAt s.tally.lostNew 30 + (if act.isEmpty then 7 else top) * 2 ^ 24
    + min 255 (act.filter (fun e => e.2.unack)).length * 2 ^ 16 + min 255 act.length * 256 + s.tally.last

/-- The 24 bytes of a history entry (R538). -/
def entryBytes (r : Raise) : List Byte :=
  leBytes 8 r.stamp ++ leBytes 4 r.seq
    ++ leBytes 1 (clsCode r.cls) ++ leBytes 1 (r.lvl * 16 + r.eff) ++ leBytes 1 r.scope
    ++ leBytes 1 (bitAt (decide (r.lvl < r.eff)) 7 + bitAt r.merged 6 + r.rank) ++ leBytes 4 r.detail
    ++ leBytes 2 (min r.count 65535) ++ leBytes 2 0

/-- The 40 bytes of a LOCKOUT record (R541). -/
def recordBytes (r : LockRec) : List Byte :=
  let b := leBytes 8 r.stamp ++ leBytes 1 r.kind ++ leBytes 1 r.cls ++ leBytes 1 r.scope ++ leBytes 1 r.rank
    ++ leBytes 4 r.detail ++ leBytes 4 r.fwver.toNat ++ leBytes 2 r.restores ++ leBytes 1 r.left ++ leBytes 1 0
    ++ leBytes 8 r.leftAt ++ leBytes 4 0
  b ++ leBytes 4 (crc32c b)

/-- Safety.Lockout.Token (R495). -/
def lockToken (s : State) : Nat :=
  match s.tally.lockRec with
  | none => 0
  | some r => if r.stamp % 2 ^ 32 = 0 then 1 else r.stamp % 2 ^ 32

end Sys2Proof.Machine
end

