-- ==== Sys2Proof/Machine/Typed.lean ====
section
/-! DEFINITION. The objects of the Network domain that the state holds in its own records, and two bits of Safety.Status. -/

namespace Sys2Proof.Machine

/-- Can.Status, Can.Tec and Can.Rec (R575, R579). -/
def canCell (c : Can) (sub : Nat) : Option Cell :=
  if sub = 1 then
    some (BitVec.ofNat 64 (bitAt c.listen 4 + bitAt c.integ 3 + bitAt c.busOff 2 + bitAt c.passive 1 + bitAt c.on 0))
  else if sub = 2 then some (BitVec.ofNat 64 (min 255 c.txErr))
  else if sub = 3 then some (BitVec.ofNat 64 (min 255 c.rxErr))
  else none

/-- The typed objects of the Network domain (R559, R579). -/
def netCell (s : State) (idx sub : Nat) : Option Cell :=
  if idx = 0x6C01 ∧ sub = 1 then some (if s.net.link then 1 else 0)
  else if idx = 0x6C01 ∧ sub = 2 then some (BitVec.ofNat 64 s.net.speed)
  else if idx = 0x6D07 then canCell (canOf s 0) sub
  else if idx = 0x6D87 then canCell (canOf s 1) sub
  else none

/-- The bytes of Can.Hpf.Frame (R579). -/
def netBlob (s : State) (a : Nat) : List Byte :=
  if a / 256 = 0x6D06 then tabGet [] (canOf s 0).hpfFrame (a % 256 - 1)
  else if a / 256 = 0x6D86 then tabGet [] (canOf s 1).hpfFrame (a % 256 - 1)
  else []

/-- The stop path of R419 has acted in the current session (R520). -/
def chargeIsolated (s : State) : Bool := s.chg.cut && decide (s.chg.step ≠ 0)

/-- Plumb holds the Park lock's lanes (R477, R520). -/
def parkHeld (s : State) : Bool := !s.plumbHeld.isEmpty

end Sys2Proof.Machine
end

