-- ==== Sys2Proof/Machine/Read.lean ====
section
/-! DEFINITION. What a read of an object gives: the cells of the objects that the state holds in its own records
(sessions, key slots, device time, rods, the Tally, the Safety block and so on), and of every other object the stored
cell. -/

namespace Sys2Proof.Machine

/-- Bits [63:0] as a cell. -/
def cellOf (x : Nat) : Cell := BitVec.ofNat 64 x

/-- A Ridge word with its sideband as a cell (R29). -/
def ridgeCell (v side : Nat) : Cell := BitVec.ofNat 64 (v % 2 ^ 32 + side % 16 * 2 ^ 32)

/-- Code of a transport in Session.Transport (R121). -/
def trCode : Transport → Nat
  | .udp => 0 | .can0 => 1 | .can1 => 2 | .host => 3

/-- The objects of session n (R121); those of a free slot read 0 (DESIGN CHOICE, log 99). -/
def sessionCell (x : Session) (sub : Nat) : Nat :=
  if x.st = 0 then 0
  else if sub = 1 then x.st else if sub = 2 then trCode x.tr else if sub = 3 then x.keySlot else if sub = 4 then x.peer.toNat
  else if sub = 5 then x.rxFresh else if sub = 6 then x.txFresh else if sub = 7 then x.rejected else x.opened

/-- Sideband of a rod's words: CAL, with STL and INV together, and SAT on the rate and the carrier (R158). -/
def rodSide (x : Rod) (sat : Bool) : Nat :=
  8 + bitAt (x.inv || x.jumped) 2 + bitAt (sat && x.held) 1 + bitAt x.stl 0

/-- The typed objects of rod r (R164). -/
def rodCell (s : State) (r idx sub : Nat) : Option Cell :=
  let x := rodAt s r
  if idx = 0 then
    if sub = 1 then some (ridgeCell (x.pos.toNat / 2 ^ 32) (rodSide x false))
    else if sub = 2 then some (ridgeCell (ofInt 32 (rodRate x)) (rodSide x true))
    else if sub = 3 then some (cellOf (ofInt 32 x.accel))
    else if sub = 4 then some (cellOf (ofInt 32 (iclamp (-2147483648) 2147483647 (divRound x.resid (2 ^ 32)))))
    else none
  else if idx = 1 ∧ sub = 1 then some (cellOf (rodSource s r))
  else if idx = 2 ∧ sub = 5 then some (ridgeCell (x.cpos.toNat / 2 ^ 32) (rodSide x true))
  else none

/-- Bits [5:0] of Safety.Status, and the others (R520). -/
def safetyStatus (s : State) : Nat :=
  let held := wbHeld s
  let sa := selOf s .a
  let sb := selOf s .b
  bitAt s.saf.discharged 11 + bitAt s.saf.sf3Fail 10 + bitAt (decide (s.saf.tk ≠ 0)) 9 + bitAt (chkOk s) 8
    + bitAt (s.link.dumpOn || s.link.ov2 || s.link.ov3) 5
    + bitAt (decide (fnState s .charger = .safe) || bit held 3 || chargeIsolated s) 4
    + bitAt (parkHeld s) 3 + bitAt (bit held 2) 2
    + bitAt (decide (sb.choice ≠ .none) || bit held 1) 1 + bitAt (decide (sa.choice ≠ .none) || bit held 0) 0

/-- Slots of Waybill in use (R507). -/
def wbUsed (s : State) : Nat := (s.saf.wb.filter (fun e => e.2.slot.isSome)).length

/-- The typed objects of the Safety domain (R507, R508, R512, R520). -/
def safetyCell (s : State) (idx sub : Nat) : Option Cell :=
  if idx = 0x6000 then some (cellOf (safetyStatus s))
  else if idx = 0x6001 then
    if sub = 2 then some (cellOf s.saf.tk)
    else if sub = 3 then some (cellOf (s.saf.keeper.getD 0xFF)) else if sub = 4 then some (cellOf (s.saf.witness.getD 0xFF))
    else if sub = 7 then some (cellOf s.saf.tkOpened) else if sub = 9 then some (cellOf s.saf.tkResult) else none
  else if idx = 0x6002 then some (cellOf s.saf.proposed)
  else if idx = 0x6003 then some (s.saf.computed.setWidth 64)
  else if idx = 0x6004 then some (s.saf.confirmed.setWidth 64)
  else if idx = 0x6008 then some (cellOf (lockToken s))
  else if idx = 0x6040 ∧ sub = 1 then some (cellOf (wbUsed s))
  else if idx = 0x6041 then
    some (cellOf (match s.saf.wb.find? (fun e => e.2.slot == some (sub - 1)) with | none => 0xFF | some e => e.1))
  else if 0x6080 ≤ idx ∧ idx < 0x6180 ∧ (idx - 0x6080) % 8 = 1 then
    let w := wbOf s ((idx - 0x6080) / 8)
    some (cellOf (if sub = 1 then w.st else if sub = 2 then w.rxSeq else if sub = 3 then w.txSeq
      else if sub = 4 then w.lastRx else w.slot.getD 0xFF))
  else if idx = 0x6200 then some ((tabGet 0 s.fuse.crc (sub - 1)).setWidth 64)
  else if idx = 0x6201 then some (cellOf (groupState s (sub - 1)))
  else none

/-- The typed objects of the Tally (R539, R543, R544). -/
def tallyCell (s : State) (idx sub : Nat) : Option Cell :=
  if idx = 0x6800 then some (cellOf (summary s))
  else if idx = 0x6802 then some (cellOf s.tally.lost)
  else if idx = 0x6803 then some (cellOf s.tally.seq)
  else if 0x6881 ≤ idx ∧ idx ≤ 0x6898 then
    some (cellOf (keyWord (tabGet {} s.tally.pub ((idx - 0x6880) * 16 + (if sub = 8 then 0 else sub)))))
  else none

/-- The state object of a function (R49). -/
def fnStateIdx (idx : Nat) : Option Fn :=
  if idx = 0x4000 then some .driveA else if idx = 0x4800 then some .driveB else if idx = 0x5000 then some .charger
  else if idx = 0x5800 then some .converter else if idx = 0x5C00 then some .pump else if idx = 0x5C10 then some .parkLock
  else if idx = 0x5C20 then some .clutch else none

/-- The command object of a function (R49). -/
def fnCmdIdx (idx : Nat) : Option Fn := if idx = 0 then none else fnStateIdx (idx - 1)

/-- The cell of an object that the state keeps in a record of its own; none for every other object. -/
def typedCell (s : State) (idx sub : Nat) : Option Cell :=
  if idx < 0x1000 then none
  else if idx = 0x1020 then some (cellOf (now s % 2 ^ 64))
  else if 0x1100 ≤ idx ∧ idx < 0x1108 then some (cellOf (sessionCell (sess s (idx - 0x1100)) sub))
  else if idx = 0x1108 then some (cellOf (if sub = 1 then s.led.noSlot else s.led.authFails))
  else if 0x1200 ≤ idx ∧ idx < 0x1210 then
    let k := tabGet ({} : KeySlot) s.led.keySlots (idx - 0x1200)
    some (if sub = 1 then cellOf k.roles else if sub = 2 then k.keyId.setWidth 64 else cellOf k.state)
  else if idx = 0x2000 then some (cellOf (devCode s.dev))
  else if 0x2800 ≤ idx ∧ idx < 0x2880 then rodCell s ((idx - 0x2800) / 0x10) ((idx - 0x2800) % 0x10) sub
  else if sub = 0 ∧ (fnStateIdx idx).isSome then
    match fnStateIdx idx with
    | none => none
    | some f => some (cellOf (fnStCode (fnState s f)))
  else if 0x6000 ≤ idx ∧ idx < 0x6800 then safetyCell s idx sub
  else if 0x6800 ≤ idx ∧ idx < 0x6900 then tallyCell s idx sub
  else netCell s idx sub

/-- The cell of an object as consumers, statistics, manifests and subscriptions see it: the value in effect. -/
def cellNow (s : State) (a : Nat) : Cell := (typedCell s (a / 256) (a % 256)).getD (cellAt s a)

/-- The value part of a Ridge word, or of an object of at most 32 bits, as it stands now. -/
def rdNow (s : State) (idx sub : Nat) : Nat := (cellNow s (oaddr idx sub)).toNat % 2 ^ 32

/-- An F32 word as it stands now. -/
def rdF (s : State) (idx sub : Nat) : Rat := f32Val (rdNow s idx sub)

/-- The sideband of a Ridge word as it stands now. -/
def rdSide (s : State) (a : Nat) : Nat := bits (cellNow s a).toNat 35 32

end Sys2Proof.Machine
end

