-- ==== Sys2Proof/Machine/Levels.lean ====
section
/-! DEFINITION. The level at each lane's ball or gate output (R64, R182, R188, R190, R364, R477). -/

namespace Sys2Proof.Machine

/-- The R64 state: high impedance for LN0 to LN95, low for the gate outputs and the other lanes. -/
def r64Level (l : Nat) : Level := if l < 96 then .hiZ else .low

/-- The sealed OFF level of a lane. -/
def offLevel (s : State) (l : Nat) : Level := levelOf (bits (laneSeal s l) 15 14)

/-- The level of a lane's inactive command: the other level than its ON level. -/
def idleLevel (s : State) (l : Nat) : Level := if bit (laneSeal s l) 3 then .low else .high

/-- The level of row 3 for a lane of a drive's legs under a choice (R364). -/
def choiceLevel (s : State) (l : Nat) (c : Choice) : Level :=
  match c with
  | .ascLow => levelOf (bits (laneSeal s l) 11 10)
  | .ascHigh => levelOf (bits (laneSeal s l) 13 12)
  | _ => offLevel s l

/-- The drive of a function, if it is one. -/
def fnDrv : Fn → Option Drv
  | .driveA => some .a
  | .driveB => some .b
  | _ => none

/-- Row 3 of R182: the lane's sealed function is in SAFE or LOCKOUT or its selector has a choice, or Plumb holds the lane
(R364, R477). -/
def row3 (s : State) (l : Nat) : Option Level :=
  if tabGet false s.plumbHeld l then some (offLevel s l)
  else match fnOf (sealFunc s l) with
  | none => none
  | some f =>
    match fnDrv f with
    | some d =>
      if (selOf s d).choice ≠ .none then some (if bit (laneSeal s l) 7 then choiceLevel s l (selOf s d).choice else offLevel s l)
      else if fnState s f = .safe ∨ fnState s f = .lockout then some (offLevel s l) else none
    | none => if fnState s f = .safe ∨ fnState s f = .lockout then some (offLevel s l) else none

/-- Row 4 of R182: the lane is unclaimed, its claiming block is shored, or its claiming function holds it off. Plumb's command of
the dump lane acts whatever the state of the guard's block (R382). -/
def row4 (s : State) (l : Nat) : Bool :=
  let c := claimOf s l
  decide (c.blk = 0) || (isShored s c.blk && !(decide (c.blk = 0x2100) && s.link.plumbDump))
    || (match fnOfBlock c.blk with
        | none => false
        | some f => !(laneAt s l).live || decide (fnState s f = .idle) || decide (fnState s f = .shored)
            || decide (fnState s f = .lockout) || decide (fnState s f = .safe))

/-- The lane's command at the output stage at a time, as rows 5 to 7 of R182 leave it: a cycle trip and the interlock hold it
inactive (R160, R187). -/
def laneOn (s : State) (l t : Nat) : Bool :=
  let x := laneAt s l
  x.on && !x.tripped && !x.overlap && decide (x.lockUntil ≤ t)

/-- The driven level of a lane at a time in the output stage's latest tick (R182); the gate outputs are low while the common
lock-out holds (R466). -/
def levelAt (s : State) (l t : Nat) : Level :=
  if s.power.laneR64 ∨ s.dev = .off ∨ s.dev = .camp ∨ groupState s (l / 16) ≠ 1 then r64Level l
  else if 96 ≤ l ∧ l < 114 ∧ ob s 0x5E00 1 = 1 then .low
  else if s.power.override then offLevel s l
  else match row3 s l with
  | some x => x
  | none => if row4 s l then offLevel s l else if laneOn s l t then onLevel (laneSeal s l) else idleLevel s l

/-- The driven level of a lane. -/
def laneLevel (s : State) (l : Nat) : Level := levelAt s l (outNow s)

/-- CP_S2 is high: it follows rows 1 to 4 of R182 as a lane sealed to the Charger whose OFF level is low (R398). -/
def cpS2High (s : State) : Bool :=
  let f := fnState s .charger
  s.chg.s2 && !s.power.laneR64 && decide (s.dev ≠ .off) && decide (s.dev ≠ .camp) && !s.power.override && !isShored s 0x5100
    && (decide (f = .run) || decide (f = .armed) || decide (f = .stopped))

/-- Lane.Level: bit n is lane 32 × (sub − 1) + n (R192). -/
def levelWord (s : State) (sub : Nat) : Nat :=
  (List.range 32).foldl (fun a n => a + bitAt (decide (laneLevel s (32 * (sub - 1) + n) = .high)) n) 0

end Sys2Proof.Machine
end

