-- ==== Sys2Proof/Machine/WinOps.lean ====
section
/-! DEFINITION. Window comparators as operations: outputs, trips, faults and the selectors' reaction to them, blanking and
clears (R268 to R280, R379). -/

namespace Sys2Proof.Machine

/-- A window. -/
def winOf (s : State) (w : Nat) : Window := tabGet {} s.win w

/-- Write a window. -/
def setWin (s : State) (w : Nat) (x : Window) : State := { s with win := tabSet {} s.win w x }

/-- A window runs: enabled and not shored, outside OFF, CAMP and reset. -/
def winRuns (s : State) (w : Nat) : Bool :=
  running s && decide (ob s (winBase w) 1 = 1) && !isShored s (winBase w)

/-- One blanking event (R269): a second opening by a mark opens nothing anew. -/
def blankEv (bt : Nat) (x : Window) (e : BlankEv) : Window :=
  if e.kind = 0 then { x with markOpen := x.markOpen.or (some e.t) }
  else if e.kind = 1 then { x with laneOpen := if bt = 0 then x.laneOpen else some e.t }
  else { x with markOpen := none, closedAt := if x.markOpen.isSome then max x.closedAt e.t else x.closedAt }

/-- Blanking of a window is open at a time (R269): the events up to it have taken effect, an opening at an equal phase
included, and neither Win.BlankMax nor Win.BlankTime has passed (R271). -/
def winBlank (s : State) (w t : Nat) : Bool :=
  let bt := ob s (winBase w) 9
  let x := ((winOf s w).evs.filter (fun e => decide (e.t ≤ t))).foldl (blankEv bt) (winOf s w)
  (match x.markOpen with | none => false | some a => decide (t < a + nsPhases (ob s (winBase w) 0xA))) || (match x.laneOpen with | none => false | some a => decide (t < a + bt))

/-- The function a window's seal names, as a scope (R275). -/
def winScope (s : State) (w : Nat) : Nat := winFunc s w

/-- A routed output trips its lanes (R274). -/
def winTrip (s : State) (w : Nat) (isH : Bool) : State :=
  if bit (ob s (winBase w) 0x10) (if isH then 1 else 0) then
    (winLanes (viewNow s) w).foldl (fun t l => setLane t l { laneAt t l with tripped := true }) s
  else s

/-- H of a trigger window or of the OV3 window acts on the selectors (R379): the speed rule, and OC or OV at L4. -/
def winSelect (s : State) (w stamp : Nat) : State :=
  let det := winBase w * 16 + 2
  let detail := winBase w * 65536 + 256
  let one (t : State) (x : Drv) : State :=
    if trigWindow t x w then
      raiseAt (speedRule t x (fun y => { y with win := true })) .oc 4 (fnCode (drvFn x)) stamp 1 detail det
    else t
  let s1 := one (one s .a) .b
  if ov3Window s1 w then
    let s2 := speedRule (speedRule s1 .a (fun y => { y with ov3 := true })) .b (fun y => { y with ov3 := true })
    [Fn.driveA, .driveB].foldl (fun t f => raiseAt t .ov 4 (fnCode f) stamp 1 detail det)
      { s2 with link := { s2.link with ov3 := true } }
  else s1

/-- An armed response capture triggers on its window (R324). -/
def benchWindow (s : State) (w : Nat) : State :=
  if s.resp.st = 1 ∧ ob s 0x3C29 5 = 3 ∧ ob s 0x3C29 6 = w then { s with resp := { s.resp with st := 2 } } else s

/-- The words of a rod carry STL or INV. -/
def rodStale (s : State) (r : Nat) : Bool := (rodAt s r).stl || (rodAt s r).inv || (rodAt s r).jumped

/-- The stop path of the Charger on its battery-loss window (R419, R423): the DAB turns off and Ref.PfcId is forced to 0,
CHG at L3 is raised, and the PFC turns off at once where rod 3 is stale. -/
def batteryLost (s : State) (stamp : Nat) : State :=
  let s1 := noteReason s 4
  let s2 := if s1.chg.step = 0 then putOb s1 0x5003 5 4
    else if s1.chg.reason = 4 then setChg (putOb s1 0x5003 5 4) (fun x => { x with noAuto := true }) else s1
  let s2a := if isShored s2 0x5200 then s2 else putOb s2 0x5205 1 0
  let s3 := setChg (dabPut s2a false) (fun x => { x with cut := true, lost := true, okSince := 0 })
  let s4 := condRaiseAt s3 .chg 3 3 stamp 1 (0x5300 * 65536 + 256 + 4) (0x5300 * 16)
  let s5 := if s4.chg.step ≠ 0 then legsEnd s4 else s4
  if rodStale s5 3 then pfcAll s5 false else s5

/-- The Converter's output window asserts H (R437): every lane sealed to the Converter takes its OFF level, and CNV at L3 is
raised with the assertion's stamp. -/
def converterTrip (s : State) (stamp : Nat) : State :=
  let ls := (s.claims.map (fun e => e.1)).filter (fun l => decide (sealFunc s l = 4))
  condRaiseAt (setLive (cnvOff s) ls false) .cnv 3 4 stamp 1 (0x5900 * 65536 + 256 + 4) (0x5900 * 16 + 4)

/-- The capture units on a window's output see an edge of the OR of L and H (R273). -/
def winCapture (s : State) (w t : Nat) (was : Bool) : State :=
  let x := winOf s w
  if (x.outL || x.outH) = was then s else capCode s (0x87 + w) (x.outL || x.outH) t

/-- A window routed to a lane holds its trip: the routed output is still asserted (R274). -/
def tripHeld (s : State) (l : Nat) : Bool :=
  s.win.any (fun e => (winLanes (viewNow s) e.1).contains l
    && ((e.2.outL && bit (ob s (winBase e.1) 0x10) 0) || (e.2.outH && bit (ob s (winBase e.1) 0x10) 1)))

/-- A trip of a window's lanes ends where a lane's edge to active came after the routed outputs deasserted at a time (R274). -/
def winUntrip (s : State) (w t : Nat) : State :=
  (winLanes (viewNow s) w).foldl (fun u l =>
    let x := laneAt u l
    if x.tripped ∧ x.on ∧ t ≤ x.onAt ∧ !tripHeld u l then setLane u l { x with tripped := false } else u) s

/-- L or H asserts at a time: counted and stamped, its lanes tripped, its fault raised with the stamp (R272 to R275). -/
def winAssert (s : State) (w : Nat) (isH : Bool) (t : Nat) : State :=
  let b := winBase w
  let x := winOf s w
  let st := stampOf s t
  let s1 := winCapture (setWin s w (if isH then { x with outH := true, asH := s.tick + 1 } else { x with outL := true, asL := s.tick + 1 })) w t (x.outL || x.outH)
  let s2 := putOb (incOb s1 b (if isH then 0x18 else 0x17)) b 0x1A (st % 2 ^ 64)
  let s3 := benchWindow (winTrip s2 w isH) w
  let lvl := ob s3 b (if isH then 0x13 else 0x12)
  let s4 := if isH then
      let u := winSelect s3 w st
      let v := if ob u 0x5301 3 = w then batteryLost u st else u
      if ob v 0x5903 4 = w then converterTrip v st else v
    else s3
  if lvl ≤ 5 then raiseAt s4 (clsOf (ob s4 b 0x11)) lvl (winScope s4 w) st 1 (b * 65536 + 256) (b * 16 + (if isH then 1 else 0))
  else s4

/-- L or H deasserts at a time: its trips end at the lanes' next edges, and the causes of its faults clear (R273, R274, R530). -/
def winRelease (s : State) (w : Nat) (isH : Bool) (t : Nat) : State :=
  let b := winBase w
  let x := winOf s w
  let s1 := winUntrip (winCapture (setWin s w (if isH then { x with outH := false } else { x with outL := false })) w t
    (x.outL || x.outH)) w t
  if isH then
    let s2 := clearDet (clearDet s1 (b * 16 + 1)) (b * 16 + 2)
    let s3 := if ob s2 0x5903 4 = w then clearDet s2 (0x5900 * 16 + 4) else s2
    if ov3Window s3 w then { s3 with link := { s3.link with ov3 := false } } else s3
  else clearDet s1 (b * 16)

/-- A filtered raw output changes, with its first sample at a time, and for L the blanking then (R268, R270 to R272). A change
that blanking held back asserts L when blanking has closed since, and else waits for its close. -/
def winRaw (s : State) (w : Nat) (isH raw blank : Bool) (t : Nat) : State :=
  let x := winOf s w
  let was := if isH then x.rawH else x.rawL
  let out := if isH then x.outH else x.outL
  let s1 := setWin s w (if isH then { x with rawH := raw } else { x with rawL := raw })
  if raw = was then s
  else if raw then
    if out then s1
    else if isH ∨ !blank then winAssert s1 w isH t
    else if x.markOpen.isSome ∨ x.laneOpen.isSome then s1
    else winAssert s1 w isH (max t x.closedAt)
  else if out ∧ ob s (winBase w) 0xB = 0 then winRelease s1 w isH t else s1

/-- A clear of one output at a time: an assertion in the same tick wins, and it asserts again at once where its raw output is
asserted (R272). The capture units then see a rising edge with no falling edge before it (DESIGN CHOICE, log 121). -/
def winClearOut (s : State) (w : Nat) (isH : Bool) (t : Nat) : State :=
  let x := winOf s w
  if !(if isH then x.outH else x.outL) ∨ (if isH then x.asH else x.asL) = s.tick + 1 then s
  else if (if isH then x.rawH else x.rawL) then
    winAssert (setWin s w (if isH then { x with outH := false } else { x with outL := false })) w isH t
  else winRelease s w isH t

/-- A blanking has closed at a time: L asserts there where its raw output is still asserted and nothing else blanks it
(R271). -/
def winUnblank (s : State) (w t : Nat) : State :=
  let x := winOf s w
  if x.rawL ∧ !x.outL ∧ !winBlank s w t then winAssert s w false t else s

/-- Insert a blanking event in order of time, an opening before the others at equal times. -/
def insBlank (e : BlankEv) (l : List BlankEv) : List BlankEv :=
  let le (a : BlankEv) : Bool := decide ([a.t, a.kind] ≤ [e.t, e.kind])
  l.takeWhile le ++ e :: l.dropWhile le

/-- A blanking event of a window comes (R269). -/
def putBlank (s : State) (w : Nat) (e : BlankEv) : State := setWin s w { winOf s w with evs := insBlank e (winOf s w).evs }

/-- A mark opens or closes the blanking of a window at a time (R269). -/
def winMark (s : State) (w : Nat) (openIt : Bool) (t : Nat) : State := putBlank s w { t := t, kind := if openIt then 0 else 2 }

/-- The edges of a window's blanking lane in the output stage's latest tick open its blanking (R269). -/
def winLaneEdge (s : State) (w : Nat) : State :=
  let l := ob s (winBase w) 8
  if l ≤ 113 then
    ((laneAt s l).eds.filter (fun t => decide (outNow s ≤ t + 32) && decide (t < outNow s))).foldl
      (fun u t => putBlank u w { t := t, kind := 1 }) s
  else s

/-- A lane blanking that has lasted Win.BlankTime by a time closes there (R269, R271). -/
def winLaneEnd (s : State) (w t : Nat) : State :=
  match (winOf s w).laneOpen with
  | none => s
  | some a =>
    let u := a + ob s (winBase w) 9
    if u ≤ t then winUnblank (setWin s w { winOf s w with laneOpen := none, closedAt := max (winOf s w).closedAt u }) w u else s

/-- A blanking opened by a mark that has lasted Win.BlankMax by a time closes there and is counted (R269). -/
def winMaxEnd (s : State) (w t : Nat) : State :=
  match (winOf s w).markOpen with
  | none => s
  | some a =>
    let u := a + nsPhases (ob s (winBase w) 0xA)
    if u ≤ t then
      winUnblank (incOb (setWin s w { winOf s w with markOpen := none, closedAt := max (winOf s w).closedAt u }) (winBase w) 0x19) w u
    else s

/-- A blanking event takes effect, after a blanking that ended before it; a closing lets L assert (R269, R271). -/
def winEvent (w : Nat) (s' : State) (e : BlankEv) : State :=
  let s := winMaxEnd (winLaneEnd s' w e.t) w e.t
  let s1 := setWin s w (blankEv (ob s (winBase w) 9) { winOf s w with evs := (winOf s w).evs.erase e } e)
  if e.kind = 2 then winUnblank s1 w e.t else s1

/-- A change of a comparator that has held for Win.Filter ticks reaches the window's logic (R268). -/
def winFilter (s : State) (w : Nat) (isH : Bool) (t : Nat) : State :=
  let x := winOf s w
  match (if isH then x.waitH else x.waitL) with
  | none => s
  | some (t0, bl) =>
    if t0 + 32 * ob s (winBase w) 7 ≤ t then
      winRaw (setWin s w (if isH then { x with waitH := none } else { x with waitL := none })) w isH
        (if isH then x.cmpH else x.cmpL) bl t0
    else s

/-- A window's logic up to a time: the blanking events take effect in order, and filtered changes arrive (R268 to R271). -/
def winAdvance (s : State) (w t : Nat) : State :=
  let s1 := ((winOf s w).evs.filter (fun e => decide (e.t ≤ t))).foldl (winEvent w) s
  winFilter (winFilter (winMaxEnd (winLaneEnd s1 w t) w t) w false t) w true t

/-- An input on the scale of the thresholds by source and polarity (R265 to R267, R392): an analogue source in µV at the
ball, through its divider; a demodulator's protection filter value, or its magnitude. -/
def inputOf (src pol : Nat) (v : Int) : Rat :=
  if winDemod src then (if bit pol 2 then ((v.natAbs : Nat) : Rat) else (v : Rat))
  else if src = 0x58 then (v : Rat) * mkRat 4 10
  else if src = 0x59 then 1250000 + (v : Rat) / 20
  else if src = 0x5A then (v : Rat) / 8
  else (v : Rat)

/-- The input of a window on the scale of its thresholds. -/
def winInput (s : State) (w : Nat) (v : Int) : Rat := inputOf (ob s (winBase w) 2) (ob s (winBase w) 5) v

/-- What k threshold codes stand for on that scale (R267). -/
def winCodes (s : State) (w k : Nat) : Rat :=
  if winDemod (ob s (winBase w) 2) then (k * (if bit (ob s (winBase w) 5) 2 then 2 ^ 13 else 2 ^ 14) : Nat)
  else mkRat (k * (if w < 28 then s.power.refUv else 2500000) : Nat) 1024

/-- A threshold (R267). -/
def winThreshold (s : State) (w t : Nat) : Rat :=
  winCodes s w t - (if winDemod (ob s (winBase w) 2) ∧ !bit (ob s (winBase w) 5) 2 then winCodes s w 512 else 0)

/-- One comparison with its hysteresis: below or above a threshold, and clear once the input has returned past it (R265,
R268). -/
def winCompare (below was : Bool) (x th hy : Rat) : Bool :=
  if below then (if was then decide (x < th + hy) else decide (x < th))
  else (if was then decide (th - hy < x) else decide (th < x))

/-- A comparator changes at a time, the window's logic having come to it: the change waits for Win.Filter ticks, or ends a wait
(R268, R271). -/
def winSide (s' : State) (w : Nat) (isH cmp : Bool) (t : Nat) : State :=
  if cmp = (if isH then (winOf s' w).cmpH else (winOf s' w).cmpL) then s'
  else
    let s := winAdvance s' w t
    let x := winOf s w
    let wait := if cmp = (if isH then x.rawH else x.rawL) then none else some (t, winBlank s w t)
    winFilter (setWin s w (if isH then { x with cmpH := cmp, waitH := wait } else { x with cmpL := cmp, waitL := wait })) w isH t

/-- A sample of a window's input at a time is compared with both thresholds (R265 to R268). -/
def winSample (s : State) (w : Nat) (v : Int) (t : Nat) : State :=
  let b := winBase w
  let pol := ob s b 5
  let hy := winCodes s w (ob s b 6)
  let x := winInput s w v
  let y := winOf s w
  let s1 := winSide s w false (winCompare (bit pol 0) y.cmpL x (winThreshold s w (ob s b 3)) hy) t
  winSide s1 w true (winCompare (bit pol 1) y.cmpH x (winThreshold s w (ob s b 4)) hy) t

/-- Win.Status (R281). -/
def winStatus (s : State) (w : Nat) : Nat :=
  let x := winOf s w
  bitAt x.chkFail 5 + bitAt x.relief 4 + bitAt (winBlank s w (outNow s)) 3 + bitAt x.rawH 2 + bitAt x.outH 1 + bitAt x.outL 0

/-- Another window of the same kind, analogue or demodulator, holds the relief comparator. -/
def reliefTaken (s : State) (w : Nat) : Bool :=
  s.win.any (fun e => decide (e.1 ≠ w) && (e.2.relief || decide (e.2.chk ≠ 0))
    && (winDemod (ob s (winBase e.1) 2) == winDemod (ob s (winBase w) 2)))

/-- A check of a window fails: it stays on its relief comparator where no other window of its kind holds that, and CMP at L3 is
raised (R280). -/
def winCheckFail (s : State) (w : Nat) : State :=
  let x := winOf s w
  let s1 := incOb (setWin s w { x with chkFail := true, relief := !reliefTaken s w, chk := 0, chkBad := false }) (winBase w) 0x1C
  condRaise s1 .cmp 3 (winScope s w) 1 (winBase w * 65536 + 256) (winBase w * 16 + 3)

/-- A relief comparator is free again: the lowest failed window of its kind that waits takes it (R280). -/
def reliefFreed (s : State) (w : Nat) : State :=
  match (List.range 32).find? (fun v => decide (v ≠ w) && (winOf s v).chkFail && !(winOf s v).relief && !reliefTaken s v
      && (winDemod (ob s (winBase v) 2) == winDemod (ob s (winBase w) 2))) with
  | none => s
  | some v => setWin s v { winOf s v with relief := true }

end Sys2Proof.Machine
end

