-- ==== Sys2Proof/Machine/AcqOps.lean ====
section
/-! DEFINITION. Words on Ridge with the statistic units that watch them, channels with their scaling, and the faults of
converters and demodulators (R224 to R262). -/

namespace Sys2Proof.Machine

/-- Type code of the value at an address: Brace.Out has the type that Brace.OutType names (R295). -/
def tyAt (s : State) (a ty : Nat) : Nat :=
  match outBrace a with
  | none => ty
  | some i => let o := ob s (braceBase i) 7; if o = 0 then 9 else if o = 1 then 10 else 7

/-- Type code of an object by its address. -/
def typeOf (s : State) (a : Nat) : Nat := tyAt s a (match rowAt a with | none => 4 | some r => r.ty)

/-- The number a 32-bit value stands for under a type code (R88 to R91). -/
def valueOf (ty x : Nat) : Rat :=
  if ty = 9 then f32Val x else if ty = 10 then bf32Val x else if ty = 7 then (toInt 32 x : Rat)
  else if ty = 6 then (toInt 16 x : Rat) else (x : Nat)

/-- A statistic unit. -/
def statOf (s : State) (u : Nat) : Stat := tabGet {} s.stat u

/-- Write a statistic unit. -/
def setStat (s : State) (u : Nat) (x : Stat) : State := { s with stat := tabSet {} s.stat u x }

/-- A unit takes one word: stale and invalid words are counted and do not enter the figures (R257). -/
def statTake (x : Stat) (v : Rat) (side : Nat) : Stat :=
  let x1 := { x with stale := x.stale + side % 2, invalid := x.invalid + side / 4 % 2 }
  if side % 2 = 1 ∨ side / 4 % 2 = 1 then x1
  else
    { x1 with
      count := x.count + 1, min := if x.count = 0 then v else rmin x.min v, max := if x.count = 0 then v else rmax x.max v,
      sum := r64 (x.sum + r64 v), sumSq := r64 (x.sumSq + r64 (v * v)), satSeen := x.satSeen || decide (side / 2 % 2 = 1) }

/-- Latch a period's figures and restart the accumulators (R258 to R261). -/
def statLatch (s : State) (u at_ : Nat) (timeout : Bool) : State :=
  let x := statOf s u
  let b := statBase u + 1
  let n : Rat := (x.count : Nat)
  let f (y : Rat) : Nat := if x.count = 0 then 0 else f32Of y
  let s1 := incOb s b 1
  let s2 := putOb (putOb (putOb s1 b 2 (x.start % 2 ^ 64)) b 3 (at_ % 2 ^ 64)) b 4 (x.count % 2 ^ 32)
  let s3 := putOb (putOb s2 b 5 (x.stale % 2 ^ 32)) b 6 (x.invalid % 2 ^ 32)
  let s4 := putOb (putOb s3 b 7 (f x.min)) b 8 (f x.max)
  let s5 := putOb (putOb s4 b 9 (f (r64 (x.sum / n)))) b 10 (f (r64 (rsqrt (r64 (x.sumSq / n)))))
  let s6 := putOb s5 b 11 (bitAt timeout 2 + bitAt (decide (x.count = 0)) 1 + bitAt x.satSeen 0)
  setStat s6 u { ({} : Stat) with on := true, start := at_, turns := x.turns, armed := x.armed, due := if timeout then x.due else none }

/-- A boundary takes effect in the first RIDGE cycle that begins at least 5 ns after it; the first after the release starts the
first period (R259, R262). -/
def statDue (s : State) (u : Nat) : State :=
  let x := statOf s u
  match x.due with
  | none => s
  | some t =>
    if s.dt < t + nsTime 5 then s
    else if x.on then statLatch s u (t / 2 ^ 32) false
    else setStat s u { ({} : Stat) with on := true, start := t / 2 ^ 32, armed := x.armed }

/-- A unit takes a word written now: a boundary that has taken effect comes first (R257, R259). -/
def statWord (s : State) (u : Nat) (v : Rat) (side : Nat) : State :=
  let s1 := statDue s u
  if (statOf s1 u).on then setStat s1 u (statTake (statOf s1 u) v side) else s1

/-- The statistic units that watch a word take it as it is written (R257). -/
def snoop (s : State) (a v side : Nat) : State :=
  (List.range 32).foldl (fun t u =>
    if ob t (statBase u) 7 = 1 ∧ refAddr (ob t (statBase u) 1) = a ∧ !isShored t (statBase u) then
      statWord t u (valueOf (typeOf t a) v) side
    else t) s

/-- A producer writes a Ridge word (R29, R257). -/
def ridgeOut (s : State) (idx sub v side : Nat) : State := snoop (putRidge s idx sub v side) (oaddr idx sub) (v % 2 ^ 32) side

/-- A producer misses a scheduled update: its last value stays with STL set (R27), and that write too is snooped. -/
def ridgeMiss (s : State) (idx sub : Nat) : State := ridgeOut s idx sub (ob s idx sub) (Nat.lor (obSide s idx sub) 1)

/-- A channel's word as it stands: value part and sideband. -/
def chanWord (s : State) (ch : Nat) : Nat × Nat :=
  match chanAddr ch with
  | none => (0, 5)
  | some a => (ob s (a / 256) (a % 256), obSide s (a / 256) (a % 256))

/-- A channel's value in its unit. -/
def chanVal (s : State) (ch : Nat) : Rat := f32Val (chanWord s ch).1

/-- A channel's word carries neither STL nor INV. -/
def chanGood (s : State) (ch : Nat) : Bool := decide (Nat.land (chanWord s ch).2 5 = 0)

/-- The settings of a channel: base index of each setting object and its subindex, for sequences and demodulators
(R237, R255). -/
def chanSet (_s : State) (ch k : Nat) : Nat × Nat :=
  if ch < 512 then (seqBase (ch / 16) + (match k with | 0 => 3 | 1 => 4 | 2 => 5 | 3 => 6 | 4 => 7 | 5 => 8 | 6 => 9 | 7 => 11 | _ => 12),
    ch % 16 + 1)
  else (sdBase (ch - 512) + 1, k + 1)

/-- An F32 setting of a channel: 1 NomGain, 2 NomOffset, 3 Min, 4 Max, 5 CalGain, 6 CalOffset, 7 CalLow, 8 CalHigh. -/
def chanF (s : State) (ch k : Nat) : Rat := obF s (chanSet s ch k).1 (chanSet s ch k).2

/-- Chan.Scaling of a channel. -/
def chanMode (s : State) (ch : Nat) : Nat := ob s (chanSet s ch 0).1 (chanSet s ch 0).2

/-- The channel whose calibration command an object is (R221, R237, R255). -/
def calChan (idx sub : Nat) : Option Nat :=
  if 0x3420 ≤ idx ∧ idx < 0x3620 ∧ (idx - 0x3420) % 0x10 = 0xA then some ((idx - 0x3420) / 0x10 * 16 + (sub - 1))
  else if 0x3640 ≤ idx ∧ idx < 0x3700 ∧ (idx - 0x3640) % 8 = 1 ∧ sub = 0xA then some (512 + (idx - 0x3640) / 8)
  else none

/-- The refusals of R241 that ask nothing of the command. -/
def calBar (s : State) (ch : Nat) : Nat :=
  if isShored s (chanBlock ch) then 0x03000005
  else if (chanUsers s ch).any (fnLive s) then 0x03000001
  else if chanMode s ch ≠ 0 then 0x02000006
  else 0

/-- Interpolation in a scaling table, and whether an end point was taken (R239). -/
def tableVal (s : State) (t : Nat) (sd : Bool) (code : Int) : Rat × Bool :=
  let c (i : Nat) : Int := if sd then toInt 16 (ob s (0x3410 + t) (i + 1)) else (ob s (0x3410 + t) (i + 1) : Nat)
  let y (i : Nat) : Rat := obF s (0x3414 + t) (i + 1)
  if code < c 0 then (y 0, true)
  else if c 15 < code then (y 15, true)
  else
    let i := ((List.range 15).filter (fun i => decide (c i ≤ code))).length - 1
    let d := c (i + 1) - c i
    if d ≤ 0 then (y i, false) else (y i + (y (i + 1) - y i) * ((code - c i : Int) : Rat) / ((d : Int) : Rat), false)

/-- The word of a channel for a code: value, and SAT and CAL of its scaling; the product and the sum are each rounded to
binary32 (R238, R239; DEDUCED, log 6). -/
def scaleCode (s : State) (ch : Nat) (code : Int) : Nat × Bool × Bool :=
  let m := chanMode s ch
  if m = 0 then
    let cal := decide (chanF s ch 5 ≠ 0)
    let p := (if cal then chanF s ch 5 else chanF s ch 1) * code
    let x := f32Val (f32Of p) + (if cal then chanF s ch 6 else chanF s ch 2)
    let big := decide (f32Val 0x7F7FFFFF < rabs p)
    (if big then f32Of p else f32Of x, big || decide (f32Val 0x7F7FFFFF < rabs x), cal)
  else
    let r := tableVal s (m - 1) (decide (512 ≤ ch)) (if 512 ≤ ch then code / 256 else code)
    (f32Of r.1, r.2, true)

/-- A word of Link.DumpChannel at or above DumpMin while the dump is commanded shows the dump current (R383). -/
def dumpWord (s : State) (ch : Nat) : State :=
  if ob s 0x2100 6 = ch ∧ (s.link.dumpOn ∨ s.link.plumbDump) ∧ chanGood s ch ∧ obF s 0x2100 7 ≤ chanVal s ch then
    { s with link := { s.link with dumpSeen := true } }
  else s

/-- Device time in ns of the hold that a channel's word comes from (R227, R228). -/
def holdTime (s : State) (ch : Nat) : Nat :=
  if ch < 512 then ((tabGet ({} : SeqInst) s.seq (ch / 16)).hold / 2 ^ 32) + 125 * (ch % 16) else now s

/-- A word of Charger.Pilot.Channel is kept for the next evaluation with the pilot window's output (R393). -/
def pilotWord (s : State) (ch : Nat) : State :=
  if ob s 0x5100 1 = ch then
    { s with chg := { s.chg with pilot := s.chg.pilot ++ [(holdTime s ch, chanVal s ch, (tabGet {} s.win (ob s 0x5100 2)).outH)] } }
  else s

/-- Chan.Min and Chan.Max of a channel as they stand. -/
def chanLims (s : State) (ch : Nat) : Nat × Nat :=
  (ob s (chanSet s ch 3).1 (chanSet s ch 3).2, ob s (chanSet s ch 4).1 (chanSet s ch 4).2)

/-- Write a channel word from a code with SAT and INV of its sample, within the limits that its trigger found (R131, R238 to
R240). -/
def writeChan (s : State) (ch : Nat) (code : Int) (sat inv : Bool) (lim : Nat × Nat) : State :=
  match chanAddr ch with
  | none => s
  | some a =>
    let r := scaleCode s ch code
    let x := f32Val r.1
    let inv' := inv || decide (x < f32Val lim.1) || decide (f32Val lim.2 < x)
    pilotWord (dumpWord (ridgeOut s (a / 256) (a % 256) r.1 (bitAt r.2.2 3 + bitAt inv' 2 + bitAt (sat || r.2.1) 1)) ch) ch

/-- A channel misses its update, and with it the sample word of a step with Step.RawOut at 1 (R27, R236). -/
def missChan (s : State) (ch : Nat) : State :=
  match chanAddr ch with
  | none => s
  | some a =>
    let s1 := ridgeMiss s (a / 256) (a % 256)
    if ch < 512 ∧ ob s (seqBase (ch / 16) + 2) (ch % 16 + 1) = 1 then ridgeMiss s1 (seqBase (ch / 16) + 14) (ch % 16 + 1) else s1

/-- The sample code of a voltage at the converter (R225). -/
def sampleCode (s : State) (uv : Rat) : Nat :=
  if uv ≤ 0 then 0 else min (65536 * uv / (max 1 s.power.refUv : Nat)).floor.toNat 65535

/-- An instance of a conversion sequence. -/
def seqOf (s : State) (q : Nat) : SeqInst := tabGet {} s.seq q

/-- Write an instance. -/
def setSeq (s : State) (q : Nat) (x : SeqInst) : State := { s with seq := tabSet {} s.seq q x }

/-- End of a running instance: 125 ns for each step from its first hold (R227, R228). -/
def seqEnd (s : State) (q : Nat) : Nat := (seqOf s q).hold + nsTime (125 * ob s (seqBase q) 3)

/-- A sequence's instance holds its converters: it waits, runs, or tracks after its last step (R229). -/
def seqBusy (s : State) (q : Nat) : Bool :=
  let x := seqOf s q
  decide (x.st = 1) || decide (x.st = 2) || (decide (x.st = 3) && decide (s.dt < seqEnd s q))

/-- A sequence is running or tracking, not merely waiting. -/
def seqHolds (s : State) (q : Nat) : Bool := decide ((seqOf s q).st ≠ 1) && seqBusy s q

/-- Two sequences share a converter. -/
def seqShare (s : State) (p q : Nat) : Bool :=
  let v := viewNow s
  (List.range 16).any (fun c => seqUses v p c && seqUses v q c)

/-- A sequence's converters are busy with another sequence (R229). -/
def convBusy (s : State) (q : Nat) : Bool := (List.range 32).any (fun p => decide (p ≠ q) && seqBusy s p && seqShare s p q)

/-- A sequence's converters are free of running instances. -/
def convFree (s : State) (q : Nat) : Bool := !(List.range 32).any (fun p => decide (p ≠ q) && seqHolds s p && seqShare s p q)

/-- The instant at which a sequence's converters became free: the end of the latest instance on them (R229). -/
def freeAt (s : State) (q : Nat) : Nat :=
  (List.range 32).foldl (fun a p => if p ≠ q ∧ 2 ≤ (seqOf s p).st ∧ seqShare s p q then max a (seqEnd s p) else a) (seqOf s q).due

/-- The input that a mux code of a converter selects (R224). -/
def muxInput (c code : Nat) : Option AdcIn :=
  let p := c / 2
  if code ≤ 7 then some (.ain (8 * p + code))
  else if code ≤ 15 then some (.ain (8 * ((p + 1) % 8) + (code - 8)))
  else match code with
    | 16 => some .agnd | 17 => some .vddRef | 18 => some .vdda | 19 => some .vddCore | 20 => some .vgd | 21 => some .vbatAon
    | 22 => some .dacBus | 23 => some (.die p) | 24 => some (.act 0) | 25 => some (.act 1) | 26 => some (.act 2)
    | 27 => some .cpSns | 28 => some .ppSns | _ => none

/-- The voltage at the converter in µV for a voltage at its input (R224, R392, R456). -/
def muxVolt (s : State) (x : AdcIn) (uv : Int) : Rat :=
  match x with
  | .agnd => 0
  | .vddRef => (uv : Rat) / 2
  | .vdda => (uv : Rat) / 2
  | .vgd => (uv : Rat) / 8
  | .vbatAon => (uv : Rat) / 8
  | .act n => mkRat s.power.refUv 2 + (ob s (actBase n) 5 : Nat) * (uv : Rat)
  | .cpSns => 1250000 + (uv : Rat) / 20
  | .ppSns => (uv : Rat) * mkRat 4 10
  | _ => (uv : Rat)

/-- Start an instance with its first hold at a time; the delay since h is kept (R229). -/
def startSeq (s : State) (q due hold : Nat) : State :=
  let d := (hold - due) / 2 ^ 32
  let s1 := setSeq s q { seqOf s q with st := 2, due := due, hold := hold, step := 0 }
  if ob s1 (seqBase q + 15) 3 < d then putOb s1 (seqBase q + 15) 3 (d % 2 ^ 32) else s1

/-- The channels of a sequence's steps. -/
def seqChans (s : State) (q : Nat) : List Nat := (List.range (ob s (seqBase q) 3)).map (fun k => 16 * q + k)

/-- Functions that consume one of some channels. -/
def usersOf (s : State) (chs : List Nat) : List Fn := fnAll.filter (fun f => chs.any (fun c => (fnChans (viewNow s) f).contains c))

/-- The pair of a converter has a confirmed fault, or the converter's latest tie test failed (R246, R593). -/
def convBad (s : State) (c : Nat) : Bool := decide (ob s 0x3407 (c / 2 + 1) = 1) || tabGet false s.tieFail c

/-- A channel's captures. -/
def calOf (s : State) (ch : Nat) : CalCap := tabGet {} s.cal (ch / 16 + if 512 ≤ ch then 1000 + ch else 0)

/-- Write a channel's captures. -/
def setCal (s : State) (ch : Nat) (x : CalCap) : State :=
  { s with cal := tabSet {} s.cal (ch / 16 + if 512 ≤ ch then 1000 + ch else 0) x }

/-- Write Cal.State, and Cal.Step for a sequence (R237, R243, R255). -/
def putCalState (s : State) (ch st : Nat) : State :=
  if ch < 512 then putOb (putOb s (seqBase (ch / 16) + 15) 5 st) (seqBase (ch / 16) + 15) 6 (if st = 0 then 0xFF else ch % 16)
  else putOb s (sdBase (ch - 512) + 1) 0xB st

/-- A fresh conversion of a channel reaches its capture; one with a bad sample fails it (R243). -/
def calSample (s : State) (ch : Nat) (code : Int) (bad : Bool) : State :=
  let x := calOf s ch
  if x.taking = 0 ∨ x.step ≠ ch % 16 then s
  else if bad then putCalState (setCal s ch { x with taking := 0 }) ch 5
  else if x.n < 256 then setCal s ch { x with n := x.n + 1, sum := x.sum + code } else s

/-- The rate of a source in 2^-32 counts per tick, as it runs now. -/
def srcRate (s : State) (src : Nat) : Int :=
  let x := rodAt s (src % 8)
  if src < 8 then x.rate else if x.cmode = 1 then (x.crate * 2 ^ 28 : Nat) else if x.cmode = 2 then x.cratio * x.rate else 0

/-- Position of a source now, in 32.32 counts. -/
def srcPos (s : State) (src : Nat) : Nat := if src < 8 then (rodAt s src).pos.toNat else (rodAt s (src % 8)).cpos.toNat

/-- A mark has an instance within some ticks at the current rate of its source (R234). -/
def markWithin (s : State) (m : Mark) (ticks : Nat) : Bool :=
  let r := srcRate s m.src
  let p := srcPos s m.src
  (decide (m.dir = 2) || (decide (m.dir = 1) == decide (r < 0))) && decide (r ≠ 0)
    && (List.range m.reps).any (fun j =>
      let x := instanceAt m.pos m.reps j * 2 ^ 32
      decide ((if r < 0 then (p + 2 ^ 64 - x) % 2 ^ 64 else (x + 2 ^ 64 - p) % 2 ^ 64) ≤ ticks * r.natAbs))

/-- A mark drives a trigger line: directly, or through the internal lane of lines 64 to 75 (R175). -/
def drivesLine (m : Mark) (line : Nat) : Bool :=
  if line < 64 then decide (m.action = 4) && decide (m.target = line) else decide (m.action ≤ 3) && decide (m.target = line + 52)

/-- A converter is in a gap: no sequence holds or waits for it, no trigger is on its way to one that uses it, and none is
predicted within 250 ns (R234). -/
def gapFree (s : State) (c : Nat) : Bool :=
  (List.range 32).all (fun q => !seqUses (viewNow s) q c
    || (!seqBusy s q && s.trigs.all (fun e => decide (e.kind ≠ 0) || decide (e.num ≠ q))
        && s.marks.all (fun m => !drivesLine m (ob s (seqBase q) 2) || !markWithin s m 50)))

/-- The converters of a sequence. -/
def seqConvs (s : State) (q : Nat) : List Nat := (List.range 16).filter (fun c => seqUses (viewNow s) q c)

/-- No conversion outside the sequences is under way on a converter at a time (R234). -/
def outFree (s : State) (c time : Nat) : Bool :=
  match tabGet none s.outc c with
  | none => true
  | some x => decide (x.until_ ≤ time)

/-- The conversions of a job on some converters have ended. -/
def outDone (s : State) (job num : Nat) (cs : List Nat) : Bool :=
  cs.all (fun c => match tabGet none s.outc c with
    | none => false
    | some x => decide (x.job = job) && decide (x.num = num) && decide (x.until_ ≤ s.dt))

/-- n conversions outside the sequences (R234): where none is under way on the converters they begin in a gap and take 125 ns each
(R227); once they have ended their result stands. -/
def outConv (s : State) (job num : Nat) (cs : List Nat) (n : Nat) : State × Bool :=
  let put (x : Option OutConv) : State := { s with outc := cs.foldl (fun t c => tabSet none t c x) s.outc }
  if outDone s job num cs then (put none, true)
  else if cs.all (fun c => outFree s c s.dt && gapFree s c) then
    (put (some { job := job, num := num, until_ := s.dt + nsTime (125 * n) }), false)
  else (s, false)

/-- A trigger aborts the conversions outside the sequences on its converters: their results are discarded, and each of its converters
that they held counts one (R234). -/
def abortOut (s : State) (cs : List Nat) (time : Nat) : State :=
  let hit := cs.filter (fun c => !outFree s c time)
  let jobs := hit.filterMap (tabGet none s.outc)
  hit.foldl (fun t c => incOb t 0x3401 (c + 1)) { s with outc := s.outc.filter (fun e => match e.2 with
    | none => true
    | some y => !jobs.any (fun x => decide (y.job = x.job) && decide (y.num = x.num))) }

end Sys2Proof.Machine
end

