-- ==== Sys2Proof/Machine/ProtOps.lean ====
section
/-! DEFINITION. Power-stage protection as operations: the speed rule in every tick, shorts of a drive's banks, the dump
path and the reactions of the link guard (R364 to R387). -/

namespace Sys2Proof.Machine

/-- The selector holds an ASC choice. -/
def inAsc (y : Selector) : Bool := decide (y.choice = .ascLow) || decide (y.choice = .ascHigh)

/-- The speed rule in a lane tick: a drive under it moves between freewheel and ASC (R376). -/
def speedTrack (s : State) (x : Drv) : State :=
  let y := selOf s x
  if s.dev = .lockout ∨ y.choice = .none ∨ !y.byRule ∨ y.oneBank ∨ y.twoBank ∨ y.collecting then s
  else
    let up := ruleAsc s x (inAsc y)
    if up then
      if inAsc y ∨ y.ascDue.isSome then s else setSel s x { y with ascDue := some (ascBank s x), above := true }
    else if inAsc y then setSel s x { y with choice := .freewheel, ascDue := none, above := false, offAt := s.dt }
    else setSel s x { y with ascDue := none, above := false }

/-- The lane's fault input word is enabled for a lane of a function: EN and LANE of R369. -/
def fltLane (s : State) (k : Nat) : Option Nat := if bit (protSeal s k) 15 then some (bits (protSeal s k) 14 8) else none

/-- The enabled fault inputs of a function that read low (R375). -/
def fltLowOf (s : State) (f : Fn) : Bool :=
  (List.range 24).any (fun k => tabGet false s.link.fltLow k
    && (match fltLane s k with | none => false | some l => decide (fnOf (sealFunc s l) = some f)))

/-- Prot.Status (R388). -/
def protStatus (s : State) (x : Drv) : Nat :=
  let y := selOf s x
  let c := match y.choice with | .none => 0 | .freewheel => 1 | .ascLow => 2 | .ascHigh => 3
  c * 256 + bitAt y.twoBank 7 + bitAt y.oneBank 6 + bitAt y.ov3 5 + bitAt y.ov2 4 + bitAt y.win 3 + bitAt y.fault 2
    + bitAt (fltLowOf s (drvFn x)) 1 + bitAt (ruleAsc s x (inAsc y && y.byRule)) 0

/-- A dump path is fitted (R370). -/
def dumpFitted (s : State) : Bool := bit (protSeal s 24) 15

/-- The dump path is known faulty (R384). -/
def dumpFaulty (s : State) : Bool := !dumpFitted s || s.link.testFail || (keyAt s (keyNo .dmp 0)).active

/-- The link guard runs (R380). -/
def guardRuns (s : State) : Bool := running s && decide (ob s 0x2100 1 ≠ 0xFFFF) && !isShored s 0x2100

/-- The guard or Plumb commands the dump lane (R382). -/
def dumpCmd (s : State) : Bool := s.link.dumpOn || s.link.plumbDump

/-- System.Link.Status (R389): DUMPFAULT reads as R384 says. -/
def linkStatus (s : State) : Nat :=
  let y := s.link
  bitAt (dumpFaulty s) 8 + bitAt y.testFail 7 + bitAt y.dumpSeen 6 + bitAt (dumpCmd s || pulseOn s) 5 + bitAt y.stale 4
    + bitAt y.ov3 3 + bitAt y.ov2 2 + bitAt y.ov1 1 + bitAt (guardRuns s) 0

/-- Write the link guard's state. -/
def setLink (s : State) (f : Link → Link) : State := { s with link := f s.link }

/-- The dump lane's command becomes active: the observation of R383 starts anew. -/
def dumpEdge (s : State) : State := if dumpCmd s then s else setLink s (fun y => { y with dumpSeen := false, dumpAt := s.dt })

/-- The guard commands the dump lane (R382); not while the command's longest time bars it (R383). -/
def dumpStart (s : State) : State :=
  if !dumpFitted s ∨ s.link.dumpOn ∨ s.link.dumpBarred then s
  else incOb (setLink (dumpEdge s) (fun y => { y with dumpOn := true, guardAt := s.dt })) 0x2103 1

/-- Plumb commands the dump lane for SF3 (R383, R493). -/
def plumbStart (s : State) : State := setLink (dumpEdge s) (fun y => { y with plumbDump := true })

/-- The detail word of the link block's faults (R538). -/
def linkDetail : Nat := 0x2100 * 65536 + 256

/-- The OV2 reaction (R385): OV at L4 against both drives, and the Charger and Converter when live; the speed rule; DMP
again without a function, on a condition that lasts as long as the dump path's does. -/
def ov2React (s : State) : State :=
  if s.link.ov2Done then s
  else
    let s1 := incOb (setLink s (fun y => { y with ov2Done := true, ov2Wait := false })) 0x2103 2
    let s2 := speedRule (speedRule s1 .a (fun y => { y with ov2 := true })) .b (fun y => { y with ov2 := true })
    let fs := [Fn.driveA, .driveB] ++ [Fn.charger, .converter].filter (fnLive s)
    raiseEv (raiseAll s2 fs .ov 4 7 linkDetail (0x2100 * 16 + 2)) .dmp 3 0 7 linkDetail

end Sys2Proof.Machine
end

