-- ==== Sys2Proof/Machine/TrussOps.lean ====
section
/-! DEFINITION. The Truss engine as operations (R286 to R303, R314, R315, R321, R345 to R348): source words, the brace
equation, the transform units and the modulator. Mantissas are at the brace's data exponent. -/

namespace Sys2Proof.Machine

/-- A brace's state memory. -/
def brcOf (s : State) (i : Nat) : Brace := tabGet {} s.brc i

/-- Write a brace's state memory. -/
def setBrc (s : State) (i : Nat) (x : Brace) : State := { s with brc := tabSet {} s.brc i x }

/-- Held to the 24-bit range. -/
def clip24 (x : Int) : Int := iclamp (-8388608) 8388607 x

/-- A value as a mantissa at an exponent, and whether it was clipped (R287, R288). -/
def toMant (ed : Int) (v : Rat) : Int × Bool :=
  let r := rround (v * pow2 (23 - ed))
  (clip24 r, decide (clip24 r ≠ r))

/-- The value of a mantissa (R287). -/
def ofMant (ed m : Int) : Rat := (m : Rat) * pow2 (ed - 23)

/-- E_d and E_c of a brace. -/
def braceEd (s : State) (i : Nat) : Int := obI16 s (braceBase i) 3

/-- E_c of a brace. -/
def braceEc (s : State) (i : Nat) : Int := obI16 s (braceBase i) 2

/-- The working copy of a coefficient word, and whether it was clipped (R286). -/
def coefCopy (ec : Int) (w : Nat) : Int × Bool :=
  let r := rround ((toInt 24 (w / 256) : Rat) * pow2 (toInt 8 w - ec))
  (clip24 r, decide (clip24 r ≠ r))

/-- A working copy of a bank that acts is clipped (R286, R296, R299). -/
def coefClipped (s : State) (i : Nat) : Bool :=
  (List.range 2).any (fun b => (decide (b = 0) || decide (ob s (braceBase i) 9 = 1))
    && (List.range 7).any (fun k => (coefCopy (braceEc s i) (ob s (braceBase i + 1 + b) (k + 1))).2))

/-- The function whose block claims an element, as a scope (R320). -/
def memberScope (s : State) (c : Nat) : Nat :=
  match fnOfBlock (elemOwner (viewNow s) s.owned c) with | none => 0 | some f => fnCode f

/-- COEFCLIP after a write or a strike: its fault appears or clears (R286, R320). -/
def coefCheck (s : State) (i : Nat) : State :=
  let c := coefClipped s i
  let s1 := setBrc s i { brcOf s i with clip := c }
  if c then condRaise s1 .trs 1 (memberScope s1 (i)) 7 (braceBase i * 65536 + 256) (braceBase i * 16)
  else clearDet s1 (braceBase i * 16)

/-- A word on Ridge as a consumer of the control path reads it: the PFC bus set point stands at its ramp (R415). -/
def ctlWord (s : State) (a : Nat) : Nat × Nat :=
  if a = oaddr 0x5200 0xB ∧ s.chg.busNow.isSome then (s.chg.busNow.getD 0, 0)
  else ((cellNow s a).toNat % 2 ^ 32, bits (cellNow s a).toNat 35 32)

/-- Brace.Const, Manual and the limits as values. -/
def braceF (s : State) (i k : Nat) : Rat := obF s (braceBase i + 3) k

/-- An input's value and sideband by its source word; none for KIND 0. A NaN or infinity is taken as 0 with INV (R287,
R292, R293). -/
def srcVal (s : State) (own w : Nat) : Option (Rat × Nat) :=
  if srcKind w = 1 then
    let a := srcAddr w
    let c := ctlWord s a
    if typeOf s a = 9 ∧ f32IsSpecial c.1 then some (0, Nat.lor c.2 4) else some (valueOf (typeOf s a) c.1, c.2)
  else if srcKind w = 2 then
    let j := bits w 7 0
    some (ofMant (braceEd s j) (brcOf s j).u, (brcOf s j).side)
  else if srcKind w = 3 then some (braceF s own 8, 8)
  else none

/-- STL and INV of an evaluation are the OR of its inputs', CAL their AND (R30). -/
def sideOf (ins : List (Option (Rat × Nat))) : Nat :=
  let xs := ins.filterMap (fun i => i)
  let o := xs.foldl (fun a x => Nat.lor a x.2) 0
  bitAt (xs.all (fun x => bit x.2 3)) 3 + Nat.land o 5

/-- The feedback shift register's second tap for each order (R321). -/
def prbsTap (n : Nat) : Nat := if n = 7 then 6 else if n = 9 then 5 else if n = 11 then 9 else 14

/-- The generator's register after a shift, with the bit shifted out in bit 16 (R321; DEDUCED, log 25). -/
def prbsShift (n r : Nat) : Nat :=
  let x := r % 2 ^ n
  let out := bit x (n - 1)
  let fb := out != bit x (prbsTap n - 1)
  (x * 2 + bitAt fb 0) % 2 ^ n + bitAt out 16

/-- Injection acts on a brace in this evaluation (R322). -/
def injOn (s : State) (i : Nat) : Bool := decide (s.inj.st = 1) && decide (s.inj.brace = i) && decide (s.inj.n < ob s 0x3C20 8)

/-- The generator before an injected evaluation: the first one stamps and seeds it, and the register shifts (R321, R322). -/
def injStep (s : State) (trig : Nat) : State :=
  let n := ob s 0x3C20 6
  let t0 := if s.inj.n = 0 then trig else s.inj.t0
  let r := if s.inj.n = 0 then 2 ^ n - 1 else s.inj.prbs
  let r' := if s.inj.n % max 1 (ob s 0x3C20 7) = 0 then prbsShift n r else r
  let s1 := if s.inj.n = 0 then putOb s 0x3C20 11 (trig / 2 ^ 32 % 2 ^ 64) else s
  { s1 with inj := { s1.inj with n := s.inj.n + 1, t0 := t0, prbs := r' } }

/-- The injected value (R321). -/
def injValue (s : State) (trig : Nat) : Rat :=
  let a := obF s 0x3C20 4
  let sh := ob s 0x3C20 3
  if sh = 1 then a
  else if sh = 2 then (if bit s.inj.prbs 16 then a else -a)
  else a * sinT (obF s 0x3C20 5 * mkRat ((trig : Int) - s.inj.t0) (2 ^ 32 * 1000000000))

/-- The value at which a function holds a brace as in MANUAL, whatever Brace.Mode holds: ARMED functions hold their named
braces at 0, the DAB holds the brace that its direction does not use, and the Converter's clamp stage its voltage brace
(R353, R407, R423, R433, R438). -/
def braceHeld (s : State) (i : Nat) : Option Rat :=
  let inDrv (x : Drv) := (List.range 5).any (fun k => decide (ob s (drvBase x + 0x102) (k + 1) = i))
  let chg := [(0x5202, 1), (0x5202, 2), (0x5202, 3), (0x5004, 5), (0x5204, 1), (0x5300, 10), (0x5300, 11), (0x5400, 9), (0x5400, 10)]
  if inDrv .a && decide (fnState s .driveA = .armed) then some 0
  else if inDrv .b && decide (fnState s .driveB = .armed) then some 0
  else if fnState s .charger = .armed ∧ chg.any (fun e => decide (ob s e.1 e.2 = i)) then some 0
  else if fnState s .charger = .run ∧ ob s 0x5300 (if s.chg.v2l then 10 else 11) = i then some 0
  else if fnState s .converter = .armed ∧ (ob s 0x5902 4 = i ∨ ob s 0x5902 5 = i) then some 0
  else if fnState s .pump = .armed ∧ ob s 0x5C03 10 = i then some 0
  else if ob s 0x5902 5 = i then s.cnv.hold.map f32Val
  else none

/-- The word of a brace's output in the type of Brace.OutType, and whether it was clipped (R294). -/
def braceWord (s : State) (i : Nat) (u : Int) : Nat × Bool :=
  let ed := braceEd s i
  let t := ob s (braceBase i) 7
  if t = 0 then (f32Of (ofMant ed u), false)
  else if t = 1 then (ofInt 24 u * 256 + ofInt 8 ed, false)
  else
    let r := rround (ofMant ed u)
    (ofInt 32 (iclamp (-2147483648) 2147483647 r), decide (iclamp (-2147483648) 2147483647 r ≠ r))

/-- A brace's output after an evaluation: on Ridge while Brace.Publish is 1 (R294, R295). -/
def braceOutput (s : State) (i : Nat) (u : Int) (side : Nat) : State :=
  let w := braceWord s i u
  let sd := if w.2 then Nat.lor side 2 else side
  if ob s (braceBase i) 8 = 1 then ridgeOut s (braceBase i + 3) 9 w.1 sd else putRidge s (braceBase i + 3) 9 w.1 sd

/-- The seven working copies of a bank as the equation uses them: b0 to b3, a1 to a3; order 0 takes b3 and a3 as 0 (R290). -/
def bankCopies (s : State) (i bank : Nat) : List Int :=
  (List.range 7).map (fun k =>
    if ob s (braceBase i) 1 = 0 ∧ (k = 3 ∨ k = 6) then 0
    else (coefCopy (braceEc s i) (ob s (braceBase i + 1 + bank) (k + 1))).1)

/-- The law of a brace over its histories for an error and a feedforward: the exact sum scaled and rounded, y, and the output within its
limits (R289 to R291). -/
def braceLaw (s : State) (i bank : Nat) (p : Brace) (e ff lo hi : Int) : Int × Int × Int :=
  let c := bankCopies s i bank
  let k (n : Nat) : Int := c.getD n 0
  let acc := k 0 * e + k 1 * p.e1 + k 2 * p.e2 + k 3 * p.e3 + k 4 * p.y1 + k 5 * p.y2 + k 6 * p.y3
  let yr := rround ((acc : Rat) * pow2 (braceEc s i - 23))
  (yr, clip24 yr, iclamp lo hi (clip24 yr + ff))

/-- The Converter's clamp stage holds a brace (R433). -/
def clampHolds (s : State) (i : Nat) : Bool :=
  decide (ob s 0x5902 5 = i) && s.cnv.hold.isSome && decide (fnState s .converter ≠ .armed)

/-- One evaluation of a brace on the state `s`, whose loop's trigger event came at `trig` (R289 to R292, R300 to R303, R320). -/
def braceEval (s0 : State) (trig i : Nat) : State :=
  let s := if injOn s0 i then injStep s0 trig else s0
  let b := braceBase i
  let x := brcOf s i
  let ed := braceEd s i
  let ins := [4, 5, 6].map (fun k => srcVal s i (ob s b k))
  let m (k : Nat) : Int × Bool := match ins.getD k none with
    | none => (0, false)
    | some v => ((toMant ed v.1).1, (toMant ed v.1).2 && decide (srcKind (ob s b (4 + k)) ≠ 3))
  let gv := if injOn s0 i then injValue s trig else 0
  let g := if injOn s0 i then (toMant ed gv).1 else 0
  let pt := ob s 0x3C20 2
  let add (k : Nat) (v : Int) : Int × Bool := if pt = k ∧ injOn s0 i then (clip24 (v + g), decide (clip24 (v + g) ≠ v + g)) else (v, false)
  let ref := add 0 (m 0).1
  let fb := add 1 (m 1).1
  let ff := add 2 (m 2).1
  let e0 := clip24 (ref.1 - fb.1)
  let e := add 3 e0
  let satIn := (m 0).2 || (m 1).2 || (m 2).2 || ref.2 || fb.2 || ff.2 || e.2 || decide (e0 ≠ ref.1 - fb.1)
  let lo := (toMant ed (braceF s i 3)).1
  let hi := (toMant ed (braceF s i 4)).1
  let bank := if ob s b 9 = 1 then ob s (b + 3) 1 else 0
  let side := sideOf ins
  let held := braceHeld s i
  if held.isSome ∨ ob s (b + 3) 5 = 1 then
    let want := (toMant ed (held.getD (braceF s i 6))).1
    let u := if held.isSome then want else iclamp lo hi want
    let yh := clip24 (u - ff.1)
    let manual := ob s (b + 3) 5 = 1
    let auto := if clampHolds s i then (if manual then iclamp lo hi (toMant ed (braceF s i 6)).1
      else (braceLaw s i bank x e.1 ff.1 lo hi).2.2) else u
    let sat := satIn || decide (u ≠ want)
    let sd := Nat.lor side (bitAt sat 1 + bitAt x.err 2)
    braceOutput (setBrc s i { x with
      e1 := e.1, e2 := e.1, e3 := e.1, y1 := yh, y2 := yh, y3 := yh, preset := none, bank := bank, e := e.1, y := yh, u := u,
      auto := auto, g := gv, side := sd, satInt := satIn, satOut := false, ecc := x.err, err := false }) i u sd
  else
    let p : Brace := match x.preset with
      | none => x
      | some w =>
        let h := clip24 ((toMant ed (f32Val w)).1 - ff.1)
        { x with e1 := e.1, e2 := e.1, e3 := e.1, y1 := h, y2 := h, y3 := h, preset := none }
    let r := braceLaw s i bank p e.1 ff.1 lo hi
    let y := r.2.1
    let u := r.2.2
    let lim := decide (u ≠ y + ff.1)
    let satI := satIn || decide (y ≠ r.1)
    let yh := if ob s b 0xA = 0 then clip24 (u - ff.1) else y
    let sd := Nat.lor side (bitAt (satI || lim) 1 + bitAt x.err 2)
    let s1 := if lim then incOb s (b + 3) 0xC else s
    braceOutput (setBrc s1 i { p with
      e1 := e.1, e2 := p.e1, e3 := p.e2, y1 := yh, y2 := p.y1, y3 := p.y2, bank := bank, e := e.1, y := y, u := u,
      auto := u, g := gv,
      side := sd, satInt := satI, satOut := lim, ecc := x.err, err := false }) i u sd

/-- Brace.Status (R296). -/
def braceStatus (s : State) (i : Nat) : Nat :=
  let x := brcOf s i
  bitAt x.clip 5 + bitAt x.ecc 4 + bitAt (decide (ob s (braceBase i + 3) 5 = 1)) 3 + bitAt x.satOut 2 + bitAt x.satInt 1 + x.bank % 2

/-- Inputs of a transform unit. -/
def xfIn (s : State) (t k : Nat) : Option (Rat × Nat) := srcVal s 0 (ob s (xfBase t) (k + 1))

/-- The Clarke forms of R314. -/
def clarke (mode : Nat) (a b c a2 b2 c2 : Rat) : List Rat :=
  let h : Rat := mkRat 1 2
  let r := sqrt3 / 2
  if mode = 0 then [(2 * a - b - c) / 3, (b - c) / sqrt3]
  else if mode = 1 then [a, (a + 2 * b) / sqrt3]
  else [(a - (b + c) * h + r * (a2 - b2)) / 3, (r * (b - c) + (a2 + b2) * h - c2) / 3,
        (a - (b + c) * h - r * (a2 - b2)) / 3, (-(r * (b - c)) + (a2 + b2) * h - c2) / 3]

/-- The angle of a rotation unit in turns (R315). -/
def xfAngle (s : State) (t : Nat) : Rat :=
  let r := (posRod (srcAddr (ob s (xfBase t) 3))).getD 0
  let x := rodAt s r
  let p : Int := ((x.pos.toNat / 2 ^ 32 : Nat) : Int) + (mkRat (x.rate * obI32 s (xfBase t) 9) (5 * 2 ^ 32)).floor
  mkRat ((obI16 s (xfBase t) 8 * p) % (2 ^ 32 : Nat)) (2 ^ 32)

/-- Write the outputs of a transform unit (R316). -/
def xfPut (s : State) (t : Nat) (vs : List Rat) (side : Nat) : State :=
  (List.range vs.length).foldl (fun u k => ridgeOut u (xfBase t + 1) (k + 1) (f32Of (vs.getD k 0)) side) s

/-- A Clarke or rotation unit (R314, R315). -/
def xfEval (s : State) (t : Nat) : State :=
  let m := ob s (xfBase t) 7
  let ins := (List.range (xfIns t m)).map (xfIn s t)
  let v (k : Nat) : Rat := match ins.getD k none with | none => 0 | some x => x.1
  if t < 8 then xfPut s t (clarke m (v 0) (v 1) (v 2) (v 3) (v 4) (v 5)) (sideOf ins)
  else
    let a := xfAngle s t
    let c := nearTrig (cosT a) (Config.cosTurns a)
    let sn := nearTrig (sinT a) (Config.sinTurns a)
    xfPut s t (if m = 0 then [v 0 * c + v 1 * sn, -(v 0 * sn) + v 1 * c] else [v 0 * c - v 1 * sn, v 0 * sn + v 1 * c]) (sideOf ins)

/-- The block that claims a transform unit. -/
def xfOwner (s : State) (t : Nat) : Nat := elemOwner (viewNow s) s.owned (0x100 + t)

/-- The drive whose block claims a modulator unit. -/
def modDrv (s : State) (t : Nat) : Option Drv :=
  if xfOwner s t = 0x4100 then some .a else if xfOwner s t = 0x4900 then some .b else none

/-- Phase voltages of a drive's modulator by its mode (R345). -/
def modVolts (mode : Nat) (al be x y x2 y2 : Rat) : List Rat :=
  let h : Rat := mkRat 1 2
  let r := sqrt3 / 2
  if mode ≤ 1 then [al, -(al * h) + r * be, -(al * h) - r * be]
  else
    let vx := x + x2
    let vy := y + y2
    [al + vx, -(al * h) + r * be - vx * h - r * vy, -(al * h) - r * be - vx * h + r * vy,
     r * al + be * h - r * vx + vy * h, -(r * al) + be * h + r * vx + vy * h, -be - vy]

/-- Duties of one three-phase set for the reciprocal of V_dc, its index, and whether it was scaled (R346). -/
def setDuties (inject : Bool) (inv : Rat) (v : List Rat) : List Rat × Rat × Bool :=
  let mx := v.foldl rmax (v.headD 0)
  let mn := v.foldl rmin (v.headD 0)
  let ix := (mx - mn) * inv
  if inject then
    let v0 := (mx + mn) / 2
    let k : Rat := if 1 < ix then 1 / ix else 1
    (v.map (fun x => mkRat 1 2 + (x - v0) * k * inv), ix, decide (1 < ix))
  else (v.map (fun x => mkRat 1 2 + x * inv), ix, false)

/-- The reciprocal of a value; that of 0 is a free value (DESIGN CHOICE, log 30). -/
def recip (s : State) (x : Rat) : Rat × State :=
  if x = 0 then let w := freshWord s; (f32Val (f32Finite w.1.toNat), w.2) else (1 / x, s)

/-- Frequency of a rod's carrier as it runs now, in Hz. -/
def carrierHz (s : State) (r : Nat) : Rat := rateHz (rodAt s r).cmoved.natAbs
where
  /-- 2^-32 counts per tick to Hz. -/
  rateHz (x : Nat) : Rat := mkRat (x * 200000000 : Nat) (2 ^ 64)

/-- Dead-time compensation of a phase: the duty it adds, and the sideband of its current channel (R347). -/
def dtcTerm (s : State) (x : Drv) (k : Nat) : Rat × Nat :=
  let b := drvBase x + 0x100
  let t := ob s (b + 0x1C) 0
  if t = 0 then (0, 8)
  else
    let ch := ob s (b + 1) (k + 1)
    (mkRat t 1000000000 * carrierHz s (drvRod x) * rclamp (-1) 1 (chanVal s ch / obF s (b + 0x1D) 0), (chanWord s ch).2)

/-- ON and OFF of a leg for a duty: one latch per carrier turn, or the half period that the next latch begins (R348). -/
def edgePair (updates : Nat) (nextHigh : Bool) (d : Rat) : Nat × Nat :=
  let n (x : Rat) : Nat := (rround (x * (2 ^ 31 : Nat))).toNat
  if updates = 2 then (if nextHigh then (0, n d) else (n (1 - d), 0x80000000))
  else (n (1 - d), min 0xFFFFFFFF (n (1 + d)))

/-- Write the edge words of leg k of a modulator unit (R348). -/
def putEdges (s : State) (t k : Nat) (p : Nat × Nat) (side : Nat) : State :=
  ridgeOut (ridgeOut s (xfBase t + 1) (0x10 + 2 * k) p.1 side) (xfBase t + 1) (0x11 + 2 * k) p.2 side

/-- Write the edge words of all legs for their duties with sidebands; a duty outside 0 to 1 is clipped and sets SAT. -/
def putLegs (s : State) (t updates : Nat) (nextHigh : Bool) (ds : List (Rat × Nat)) : State :=
  (List.range ds.length).foldl (fun u k =>
    let d := ds.getD k (0, 0)
    let c := rclamp 0 1 d.1
    putEdges u t k (edgePair updates nextHigh c) (Nat.lor d.2 (bitAt (decide (c ≠ d.1)) 1))) s

/-- The next latch falls at carrier position 2^31: the running half began at 0. -/
def nextHigh (s : State) (r : Nat) : Bool := decide ((rodAt s r).cpos.toNat < 2 ^ 63)

/-- A drive's modulator (R345 to R348). -/
def modDrive (s0 : State) (t : Nat) (x : Drv) : State :=
  let iv := recip s0 (chanVal s0 (ob s0 (drvBase x + 4) 1))
  let s := iv.2
  let m := ob s (xfBase t) 7
  let ins := (List.range (xfIns t m)).map (xfIn s t)
  let v (k : Nat) : Rat := match ins.getD k none with | none => 0 | some y => y.1
  let lk := ob s (drvBase x + 4) 1
  let base := sideOf (ins ++ [some (0, (chanWord s lk).2)])
  let vs := modVolts m (v 0) (v 1) (v 2) (v 3) (v 4) (v 5)
  let sets := if m = 2 then [vs.take 3, vs.drop 3] else [vs]
  let out := sets.map (setDuties (decide (m ≠ 1)) iv.1)
  let scaled := out.any (fun o => o.2.2)
  let ix := out.foldl (fun a o => rmax a o.2.1) 0
  let dt := (List.range 6).map (dtcTerm s x)
  let ds := out.flatMap (fun o => o.1.map (fun d => (d, o.2.2)))
  let legs := (List.range ds.length).map (fun k =>
    let d := ds.getD k (0, false)
    let c := dt.getD k (0, 8)
    (d.1 + c.1, Nat.lor (bitAt (bit base 3 && bit c.2 3) 3 + Nat.lor (Nat.land base 5) (Nat.land c.2 5)) (bitAt d.2 1)))
  let clipped := legs.any (fun l => decide (rclamp 0 1 l.1 ≠ l.1))
  putLegs (ridgeOut s (xfBase t + 1) 1 (f32Of ix) (Nat.lor base (bitAt (scaled || clipped) 1))) t (ob s (drvBase x + 0x118) 0)
    (nextHigh s (drvRod x)) legs

/-- The modulator in mode 3: the leg duties of the Charger's duty stage, or of its inputs (R345, R403, R431). Without
phase voltages it has no index: Xf.Out1 is 0 (DEDUCED, log 24). -/
def modDirect (s : State) (t : Nat) : State :=
  let ow := xfOwner s t
  if ow = 0x5200 then
    let n := if ob s 0x5200 1 = 0 then 3 else if ob s 0x5200 1 = 1 then 6 else 2
    putLegs (ridgeOut s (xfBase t + 1) 1 0 8) t 1 false
      ((List.range n).map (fun k => let d := tabGet (0, 5) s.chg.duty k; (f32Val d.1, d.2)))
  else
    let n := if ow = 0x5900 then 2 * ob s 0x5901 2 else 6
    let ins := (List.range n).map (xfIn s t)
    putLegs (ridgeOut s (xfBase t + 1) 1 0 (sideOf ins)) t (if ow = 0x5900 then 2 else 1) (nextHigh s 5)
      (ins.map (fun i => match i with | none => (0, 8) | some v => (v.1, v.2)))

/-- A modulator unit evaluates (R345 to R348). -/
def modEval (s : State) (t : Nat) : State :=
  match modDrv s t with
  | some x => if ob s (xfBase t) 7 = 3 then modDirect s t else modDrive s t x
  | none => modDirect s t

/-- A member of a loop evaluates (R307). -/
def memberEval (trig : Nat) (s : State) (c : Nat) : State :=
  if isBrace c then braceEval s trig c
  else if isXf c then (if c - 0x100 < 22 then xfEval s (c - 0x100) else modEval s (c - 0x100)) else s

/-- The outputs of a member miss their update (R27, R310). -/
def memberMiss (s : State) (c : Nat) : State :=
  if isBrace c then
    let s1 := setBrc s c { brcOf s c with side := Nat.lor (brcOf s c).side 1 }
    if ob s1 (braceBase c) 8 = 1 then ridgeMiss s1 (braceBase c + 3) 9 else s1
  else if isXf c then
    let t := c - 0x100
    if t < 22 then (List.range (xfOuts t (ob s (xfBase t) 7))).foldl (fun u k => ridgeMiss u (xfBase t + 1) (k + 1)) s
    else (List.range 12).foldl (fun u k => ridgeMiss u (xfBase t + 1) (0x10 + k)) (ridgeMiss s (xfBase t + 1) 1)
  else s

end Sys2Proof.Machine
end

