-- ==== Sys2Proof/Machine/DabOps.lean ====
section
/-! DEFINITION. The duty and edge stages of the charger reference unit (R405 to R408), and the clamp and duty stages of the
Converter's (R433, R435). -/

namespace Sys2Proof.Machine

/-- Index of the DAB's edge words: the unit's own, read by no session (DESIGN CHOICE, log 29). -/
def dabEdgeIdx : Nat := 0x53F0

/-- Write the ON and OFF words of DAB leg k. -/
def dabEdge (s : State) (side k : Nat) (p : Nat × Nat) : State :=
  putRidge (putRidge s dabEdgeIdx (0x10 + 2 * k) p.1 side) dabEdgeIdx (0x11 + 2 * k) p.2 side

/-- The edge words of a fixed leg and of a shifted leg for the half period that the next latch begins (R408). -/
def dabFixed (one fromHigh : Bool) : Nat × Nat := if one = fromHigh then (0, 0) else (0, 0x80000000)

/-- The edge words of a shifted leg. -/
def dabShifted (one fromHigh : Bool) (sh : Nat) : Nat × Nat := if one = fromHigh then (0, sh) else (sh, 0x80000000)

/-- The braces of the DAB: the current brace drives while charging, the bus brace in vehicle-to-load (R407). -/
def dabBrace (s : State) : Nat := ob s 0x5300 (if s.chg.v2l then 11 else 10)

/-- The edge stage at an event of Dab.LatchLine at which rod 4 stands at 0 or at 2^31 (R405, R408). -/
def dabEdgeStage (s : State) (atHigh : Bool) : State :=
  let i := dabBrace s
  let mx := obF s 0x5300 9
  let raw := if i < 192 then ofMant (braceEd s i) (brcOf s i).u else 0
  let phi := rclamp (-mx) mx raw
  let side := if i < 192 then Nat.lor (Nat.land (brcOf s i).side 13) (bitAt (decide (phi ≠ raw)) 1) else 5
  let sh := (rround (rabs phi * (2 ^ 32 : Nat))).toNat
  let hi := !atHigh
  let leg (one flat : Bool) := if flat then dabFixed one hi else dabShifted one hi sh
  let pf := decide (0 ≤ phi)
  let s1 := dabEdge (dabEdge s side 0 (leg true pf)) side 1 (leg false pf)
  let s2 := dabEdge (dabEdge s1 side 2 (leg true (!pf))) side 3 (leg false (!pf))
  putOb s2 0x5302 0 (f32Of phi)

/-- A trigger line carries the DAB's latches. -/
def dabLatchLine (s : State) (line : Nat) : Bool := decide (ob s 0x5300 7 = line) && decide (ob s 0x5300 2 ≤ 88)

/-- The inverse Park unit of the PFC current loop: its last rotation unit in mode 1 (R403). -/
def pfcInverse (s : State) : Option Nat :=
  ((loopMembers (viewNow s) (ob s 0x5200 4)).filterMap (fun c =>
    if 0x108 ≤ c ∧ c < 0x116 ∧ ob s (xfBase (c - 0x100)) 7 = 1 then some (c - 0x100) else none)).getLast?

/-- Leg duties of R406 from the voltage references and the bus voltage, which is not 0. -/
def pfcDuties (topo : Nat) (al be vbus : Rat) : List Rat :=
  let h : Rat := mkRat 1 2
  let vs := [al, -(al * h) + sqrt3 / 2 * be, -(al * h) - sqrt3 / 2 * be]
  if topo = 0 then
    let mx := vs.foldl rmax al
    let mn := vs.foldl rmin al
    vs.map (fun v => h + (v - (mx + mn) / 2) / vbus)
  else if topo = 1 then vs.flatMap (fun v => if 0 ≤ v then [2 * v / vbus, 1] else [0, 1 + 2 * v / vbus])
  else [h + al / (2 * vbus), h - al / (2 * vbus)]

/-- The duty stage, when the outputs of the PFC current loop are readable (R405, R406). With a bus voltage of 0 the spec
states no duty: free values (DESIGN CHOICE, log 30). -/
def dutyStage (s : State) : State :=
  match pfcInverse s with
  | none => s
  | some t =>
    let b := xfBase t + 1
    let ch := ob s 0x5201 4
    let vbus := chanVal s ch
    let side := sideOf [some (0, obSide s b 1), some (0, obSide s b 2), some (0, (chanWord s ch).2)]
    let put (u : State) (ds : List Nat) : State := setChg u (fun x => { x with
      duty := (List.range ds.length).foldl (fun d k => tabSet (0, 5) d k (ds.getD k 0, side)) [] })
    let ds := pfcDuties (ob s 0x5200 1) (obF s b 1) (obF s b 2) vbus
    if vbus = 0 then
      let fr := freshWord s
      put fr.2 (ds.map (fun _ => f32Finite fr.1.toNat))
    else put s (ds.map f32Of)


/-- The clamp stage of the Converter, when the voltage brace's output is readable: Ref.Current within I_min to I_max; while
it clamps, the voltage brace is held at the clamped value. Held, the brace's law over its tracked history is what is compared: the hold
ends when that lies within the limits (R300, R433, R434; DEDUCED, log 122). -/
def clampStage (s : State) : State :=
  let i := ob s 0x5902 5
  let x := s.cnv
  let v := ofMant (braceEd s i) (brcOf s i).auto
  let c := if x.imax < v then x.imax else if v < x.imin then x.imin else v
  let clip := decide (c ≠ v)
  let s1 := setCnv s (fun y => { y with
    hold := if clip then some (f32Of c) else none,
    bind := if !y.fwd && decide (y.step ≠ 0) then (if clip && decide (v < x.imin) then 4 else 0) else y.bind })
  ridgeOut s1 0x5805 1 (f32Of c) (Nat.lor (Nat.land (brcOf s i).side 13) (bitAt clip 1))

/-- Duties of legs A and B for a voltage v, and whether they are clipped (R435). -/
def buckDuties (d v vbus : Rat) : Rat × Rat × Bool :=
  if v ≤ 0 then (0, 1, true) else if v ≤ d * vbus then (v / vbus, 1, false) else (d, d * vbus / v, false)

/-- The duty stage of the Converter, when the current brace's output is readable (R433, R435). -/
def cnvDutyStage (s : State) : State :=
  let i := ob s 0x5902 4
  let r := buckDuties (obF s 0x5901 4) (ofMant (braceEd s i) (brcOf s i).u) (chanVal s (ob s 0x5903 3))
  let ch (k : Nat) : Option (Rat × Nat) := some (0, (chanWord s (ob s 0x5903 k)).2)
  let side := Nat.lor (sideOf [ch 1, ch 2, ch 3, some (0, (brcOf s i).side)]) (bitAt r.2.2 1)
  ridgeOut (ridgeOut s 0x5805 4 (f32Of r.1) side) 0x5805 5 (f32Of r.2.1) side

end Sys2Proof.Machine
end

