-- ==== Sys2Proof/Machine/LaneOps.lean ====
section
/-! DEFINITION. Rods, marks and lane generators as operations (R149 to R195): passages, the advance of rods and carriers,
what a fired mark does, and the lane command through dead time, removals, trips and the interlock. -/

namespace Sys2Proof.Machine

/-- The Rod.Rate word of a frequency in Hz (R149). -/
def hzWord (f : Rat) : Nat := (rroundUp (f * (2 ^ 36 : Nat) / 200000000)).toNat

/-- Position of an instance in 32.32 counts, in the latest tick computed (R167, R173). -/
def instPos (m : Mark) (j : Nat) : Nat := instanceAt m.pos m.reps j * 2 ^ 32

/-- Half a spacing away from an instance: the point that arms it again (R168). -/
def instHalf (m : Mark) (j : Nat) : Nat := (instPos m j + 2 ^ 63 / m.reps) % 2 ^ 64

/-- A live position takes effect in the first tick computed after it was written (R173). -/
def livePos (s : State) : State :=
  { s with marks := s.marks.map (fun m => if m.posAt = 0 then m else { m with pos := ob s (m.posAt / 256) (m.posAt % 256) }) }

/-- A source runs: its rod's block is not shored, and a carrier is not OFF (R136, R174). -/
def srcRuns (s : State) (src : Nat) : Bool :=
  (decide (src % 8 = 0) || !isShored s (rodBase (src % 8))) && (decide (src < 8) || decide ((rodAt s (src % 8)).cmode ≠ 0))

/-- The rate of a rod is held, or no longer held, at Rod.MaxRate (R156). -/
def rodHold (s : State) (r : Nat) (above : Bool) : State :=
  let x := rodAt s r
  if above = x.held then s
  else if above then
    condAll (incOb (setRod s r { x with held := true }) (rodBase r) 6) (rodUsers s r) .pos 3 7 (rodBase r * 65536 + 256)
      (rodBase r * 16)
  else clearDet (setRod s r { x with held := false }) (rodBase r * 16)

/-- The carrier of a rod follows it in one tick, the rod having reached its new position (R161). -/
def carrierTick (x : Rod) : Rod :=
  if x.cmode = 0 then { x with cprev := 0, cpos := 0, cmoved := 0 }
  else if x.cmode = 1 then
    { x with cprev := x.cpos, cpos := x.cpos + BitVec.ofNat 64 (x.crate * 2 ^ 28), cmoved := (x.crate * 2 ^ 28 : Nat) }
  else
    { x with cprev := x.cpos, cpos := BitVec.ofNat 64 (x.cratio * (x.pos - x.anchor).toNat), cmoved := x.cratio * x.moved }

/-- The correction limit of a rod in one tick (R150). -/
def slewLimit (s : State) (r : Nat) (x : Rod) : Int :=
  max (ob s (rodBase r + 1) 3 * x.rate.natAbs / 256 : Nat) (ob s (rodBase r + 1) 4 * 2 ^ 32 : Nat)

/-- Rod.MaxRate in 2^-32 counts per tick. -/
def maxRate32 (s : State) (r : Nat) : Nat := maxRateOf (viewNow s) r * 2 ^ 28

/-- One tick of a rod's arithmetic (R150, R155): the correction, the position, the residual and the clamped rate. -/
def rodAdvance (lim : Int) (mx jl : Nat) (x : Rod) : Rod :=
  let c := iclamp (-lim) lim x.resid
  let res := x.resid - c
  carrierTick { x with
    prev := x.pos, moved := x.rate + c, pos := x.pos + BitVec.ofInt 64 (x.rate + c), resid := res,
    rate := iclamp (-(mx : Int)) mx (x.rate + x.accel), jumped := x.jumped && decide (jl * 2 ^ 32 ≤ res.natAbs * 16) }

/-- A rod of codes 1 to 7 in one tick: it advances unless it is stopped (R136, R150). -/
def rodTick (s : State) (r : Nat) : State :=
  let x := rodAt s r
  if isShored s (rodBase r) then setRod s r { x with prev := x.pos, moved := 0, cprev := x.cpos, cmoved := 0 }
  else
    rodHold (setRod s r (rodAdvance (slewLimit s r x) (maxRate32 s r) (ob s (rodBase r + 1) 5) x)) r
      (decide (maxRate32 s r < (x.rate + x.accel).natAbs))

/-- Rod 0 in one tick: its position is device time (R151). -/
def rodZero (s : State) : State :=
  let x := rodAt s 0
  let p := BitVec.ofNat 64 s.dt
  setRod s 0 (carrierTick { x with prev := x.pos, moved := (s.dt : Int) - s.dtPrev, pos := p, rate := (s.dt : Int) - s.dtPrev })

/-- Instance j of mark k is disarmed, and its source has passed no re-arming point before it in the latest tick (R168). -/
def staysOff (s : State) (k : Nat) (m : Mark) (j d : Nat) : Bool :=
  match tabGet none s.disarmed (256 * k + j) with
  | none => false
  | some f => decide (f.tick = s.tick) || (match srcPass s m.src (instHalf m j) with | none => true | some h => decide (d ≤ h))

/-- A disarmed instance is armed again in a tick in which its source passed half a spacing away, after the instance where it
fired in that tick, and after a tick in which its carrier's new setting began (R162, R168). -/
def rearm (s : State) : State :=
  { s with disarmed := s.disarmed.filter (fun e =>
      match s.marks[e.1 / 256]?, e.2 with
      | some m, some f =>
        !f.again && (match srcPass s m.src (instHalf m (e.1 % 256)) with
          | none => true
          | some h => decide (f.tick = s.tick) && (match srcPass s m.src (instPos m (e.1 % 256)) with | none => true | some d => decide (h ≤ d)))
      | _, _ => false) }

/-- Instance j of mark k fires in the latest tick, at a distance from its start: it is passed in an admitted direction, its block
is not shored, its source is not OFF and it is armed (R166 to R168, R174). -/
def fireDist (s : State) (k : Nat) (m : Mark) (j : Nat) : Option Nat :=
  match srcPass s m.src (instPos m j) with
  | none => none
  | some d =>
    if j < m.reps ∧ !isShored s m.blk ∧ srcRuns s m.src ∧ (m.dir = 2 ∨ (m.dir = 1 ↔ (srcMove s m.src).2 < 0)) ∧ !staysOff s k m j d then
      some d
    else none

/-- The order in which the instances of one tick act: phase, source, mark number (R171). -/
def fireKey (s : State) (k : Nat) (m : Mark) (d : Nat) : List Nat := [passPhase (srcMove s m.src).2 d, m.src, k]

/-- An instance that fires in the latest tick and has not fired yet comes before a place in the order (R171, R172). -/
def firesBefore (s : State) (key : List Nat) : Bool :=
  (List.range s.marks.length).any (fun k =>
    match s.marks[k]? with
    | none => false
    | some m => (List.range m.reps).any (fun j =>
        match fireDist s k m j with
        | none => false
        | some d => decide (fireKey s k m d < key)))

/-- The subindex of a function's lane counters: FUNC, or 8 for none (R192). -/
def funcSub (f : Nat) : Nat := if f = 0 then 8 else f

/-- The lane's own claim in the configuration word: MODE of R178, 0 for an unclaimed lane. -/
def laneMode (s : State) (l : Nat) : Nat := if (claimOf s l).blk = 0 then 0 else bits (claimOf s l).cfg 31 28

/-- The lane is the odd lane of a PAIR (R179). -/
def pairOdd (s : State) (l : Nat) : Bool := decide (l % 2 = 1) && decide (laneMode s (l - 1) = 2)

/-- A SINGLE or PAIR lane takes its edges from Ridge words (R180). -/
def laneEsrc (s : State) (l : Nat) : Bool :=
  (decide (laneMode s l = 1) || decide (laneMode s l = 2)) && bit (claimOf s l).cfg 27 && !pairOdd s l

/-- Effective dead time of a leg in phases (R186). -/
def effDead (s : State) (l : Nat) : Nat :=
  let e := l / 2 * 2
  max (bits (claimOf s e).cfg 23 8) (max (laneSeal s e % 8) (laneSeal s (e + 1) % 8) * 640)

/-- A command after dead time that has lasted MINPW is final: its edge goes to the output stage at its own time (R181,
R184). -/
def keepEdge (p t : Nat) (x : Lane) : Lane :=
  if x.raw ≠ x.clean ∧ x.rawAt + p ≤ t then { x with clean := x.raw, out := x.out ++ [(x.rawAt, x.raw)] } else x

/-- An edge of the command after dead time: a pulse or gap that it ends before MINPW is removed and counted (R181). -/
def rawEdge (p : Nat) (b : Bool) (t : Nat) (x : Lane) : Lane :=
  if x.raw = b then x
  else
    let y := keepEdge p t x
    { y with raw := b, rawAt := t, runts := if y.raw = y.clean then y.runts else y.runts + 1 }

/-- The dead time of a turn-on is over (R186). -/
def riseDue (p t : Nat) (x : Lane) : Lane :=
  match x.up with
  | none => x
  | some u => if u < t then rawEdge p true u { x with up := none } else x

/-- An edge of a lane's command reaches its dead time d and its removals (R181, R186). -/
def cmdEdge (d p : Nat) (b : Bool) (t : Nat) (x : Lane) : Lane :=
  let y := riseDue p t x
  if b then { y with up := some (t + d) } else rawEdge p false t { y with up := none }

/-- A lane's generator up to the end of the ticks whose marks have fired (R179 to R181, R186). -/
def genStep (s : State) (d p : Nat) (es : List (Nat × Bool)) (x : Lane) : Lane :=
  let y := es.foldl (fun y e => cmdEdge d p e.2 e.1 y) x
  keepEdge p (phases s) (riseDue p (phases s + 1) y)

/-- MINPW of a lane in phases (R178). -/
def minPulse (s : State) (l : Nat) : Nat := bits (claimOf s l).cfg 7 0 * 8

/-- Removals are counted for the lane's sealed function (R181, R192). -/
def countRunts (s : State) (l : Nat) : State :=
  let x := laneAt s l
  (List.range x.runts).foldl (fun t _ => incOb t 0x2905 (funcSub (sealFunc s l))) (setLane s l { x with runts := 0 })

/-- The dump lane follows the link guard and Plumb (R382), and a lane in MODE 0 is inactive (R179). -/
def wantCmd (s : State) (l : Nat) : State :=
  if (claimOf s l).blk = 0x2100 then laneCmd s l (dumpCmd s || pulseOn s) (phases s)
  else if laneMode s l = 0 && !pairOdd s l then laneCmd s l false (phases s)
  else s

/-- The odd lane of a PAIR takes the inverse of the even lane's command, or none in a lost period (R179, R180). -/
def pairStep (s : State) (e : Nat) (es : List LaneEdge) : State :=
  let s1 := es.foldl (fun t x => laneCmd t (e + 1) x.pair x.t) s
  let x := laneAt s1 e
  laneCmd s1 (e + 1) (!x.cmd && !x.lost) (phases s)

/-- One tick of a claimed lane's generator: the command edges placed in the ticks before pass the dead time and the removals,
the removals are counted, and the capture units see the commands of lanes 96 to 127 (R179 to R181, R186, R193). -/
def laneStep (s : State) (l : Nat) : State :=
  let s0 := wantCmd s l
  let s1 := if laneMode s l = 2 then pairStep s0 l (laneAt s0 l).todo else s0
  let d := if laneMode s l = 2 ∨ pairOdd s l then effDead s l else 0
  let s2 := (laneAt s1 l).todo.foldl (cmdCapture l) s1
  let x := laneAt s2 l
  countRunts (setLane s2 l (genStep s d (minPulse s l) (x.todo.map (fun e => (e.t, e.on))) { x with todo := [] })) l

/-- Edge words place their edges in the latest tick, after a distance of its advance: active at ON, inactive at OFF, and the
other way round in reverse (R180). -/
def edgeRun (s : State) (l after : Nat) (p : EdgePeriod) : State :=
  let m := srcMove s p.src
  let place (off : Nat) (b : Bool) : List (Nat × Bool) :=
    match srcPass s p.src ((p.latch + off * 2 ^ 32) % 2 ^ 64) with
    | none => []
    | some d => if after < d then [(d, b)] else []
  let fwd := decide (0 ≤ m.2)
  let es := place p.on fwd ++ place p.off (!fwd)
  let ord := match es with
    | [a, b] => if b.1 < a.1 then [b, a] else [a, b]
    | _ => es
  if p.on < p.off then ord.foldl (fun t e => laneCmd t l e.2 ((s.tick - 1) * 32 + passPhase m.2 e.1)) s else s

/-- The running periods of the lanes with edge words place their edges of the latest tick (R180). -/
def edgeTick (s : State) (l : Nat) : State :=
  match (laneAt s l).edges with
  | some p => if laneEsrc s l then edgeRun s l 0 p else s
  | none => s

/-- An overlap is counted and reported, and escalates at the sixteenth within 1 s (R187). -/
def overlapEvent (s : State) (l : Nat) : State :=
  let f := sealFunc s l
  let detail := 0x29000000 + (l + 1) * 256
  let s1 := raiseEv (incOb s 0x2904 (funcSub f)) .st 0 f 1 detail
  if f = 0 then s1
  else
    let ts := (tabGet [] s1.tally.overlaps f).filter (fun t => decide (now s < t + 1000000000)) ++ [now s]
    let keep := if 16 ≤ ts.length then [] else ts
    let s2 := { s1 with tally := { s1.tally with overlaps := tabSet [] s1.tally.overlaps f keep } }
    if 16 ≤ ts.length then raiseEv s2 .st 3 f 1 detail else s2

/-- An edge of a lane's command at the output stage; one to active ends a cycle trip that no window holds (rows 5 and 7 of
R182, R274). -/
def outEdge (s : State) (l t : Nat) (b : Bool) : State :=
  let x := laneAt s l
  setLane s l { x with on := b, onAt := t, tripped := x.tripped && !(b && !tripHeld s l) }

/-- The interlock of a leg after an edge of one of its lanes at the output stage (R185, R187). -/
def legEdge (s : State) (e t : Nat) : State :=
  if bit (laneSeal s e) 7 && bit (laneSeal s (e + 1)) 7 then
    let a := laneAt s e
    let b := laneAt s (e + 1)
    let ov := a.on && b.on
    if ov = a.overlap then s
    else if ov then
      overlapEvent (setLane (setLane s e { a with overlap := true }) (e + 1) { b with overlap := true }) e
    else
      let u := t + effDead s e
      setLane (setLane s e { a with overlap := false, lockUntil := u }) (e + 1) { b with overlap := false, lockUntil := u }
  else s

/-- Insert an edge into a list in order of time, turn-offs first at equal times. -/
def insEdge (x : Nat × Nat × Bool) (l : List (Nat × Nat × Bool)) : List (Nat × Nat × Bool) :=
  let le (a : Nat × Nat × Bool) : Bool := decide ([a.1, if a.2.2 then 1 else 0] ≤ [x.1, if x.2.2 then 1 else 0])
  l.takeWhile le ++ x :: l.dropWhile le

/-- The edges of both lanes of a pair that have come to the output stage, in order of their times, turn-offs first at equal
times. -/
def legEdges (s : State) (e : Nat) : List (Nat × Nat × Bool) :=
  let due (l : Nat) := ((laneAt s l).out.filter (fun x => decide (x.1 ≤ outNow s))).map (fun x => (x.1, l, x.2))
  (due e ++ due (e + 1)).foldl (fun l x => insEdge x l) []

/-- A consumer waits for a trigger line: sequences, claimed loops, triggered demodulators, and the sense of an actuator
(R175, R228, R250, R306). -/
def lineEvent (s : State) (line stamp ph : Nat) : State :=
  let ev (k n : Nat) : TrigEv := { kind := k, num := n, stamp := stamp, phase := ph }
  let qs := ((List.range 32).filter (fun q => decide (ob s (seqBase q) 2 = line) && !isShored s (seqBase q))).map (ev 0)
  let ls := ((s.owned.map (fun e => e.1)).filter (fun l =>
    decide (ob s (loopBase l) 1 = line) && decide (32 ≤ ob s (loopBase l) 3))).map (ev 1)
  let ds := ((List.range 24).filter (fun d =>
    decide (ob s (sdBase d) 1 = 1) && decide (ob s (sdBase d) 4 = 1) && decide (ob s (sdBase d) 5 = line)
      && !isShored s (sdBase d))).map (ev 2)
  { s with trigs := s.trigs ++ (qs ++ ls ++ ds) }

/-- Each rising edge of lane 114 or 115 advances the excitation of its resolver by one point (R206). -/
def excAdvance (s : State) (l : Nat) (b : Bool) : State :=
  if b ∧ (l = 114 ∨ l = 115) then
    let x := tabGet ({} : Resolver) s.res (l - 114)
    { s with res := tabSet {} s.res (l - 114) { x with point := (x.point + 1) % 32 } }
  else s

/-- The level driven at a lane at a time of the output stage's latest tick: a change is an edge at that time, and a rising one of an
internal lane drives its trigger line or its resolver's excitation (R175, R182, R184, R206). -/
def levelTo (t : Nat) (s : State) (l : Nat) : State :=
  let x := laneAt s l
  let lv := levelAt s l t
  if lv = x.lvl.getD (r64Level l) then s
  else
    let s1 := excAdvance (setLane s l { x with lvl := some lv, edgeAt := t, eds := x.eds ++ [t] }) l (decide (lv = .high))
    if 116 ≤ l ∧ lv = .high then lineEvent s1 (l - 52) (tickTime s1 t / 2 ^ 32) (t % 32) else s1

/-- The levels of an even lane and the odd lane above it at a time. -/
def legLevels (s : State) (e t : Nat) : State := levelTo t (levelTo t s e) (e + 1)

/-- The interlock's hold of a leg ends in the output stage's latest tick before a time: the remaining lane follows its command
(R187). -/
def lockEnd (s : State) (e t : Nat) : State :=
  let u := (laneAt s e).lockUntil
  if outNow s ≤ u + 32 ∧ u < t then legLevels s e u else s

/-- Edges older than a comparison or a blanking can fall due for are forgotten (R191, R269). -/
def dropEds (s : State) (l : Nat) : State :=
  let x := laneAt s l
  if x.eds = [] then s
  else setLane s l { x with eds := x.eds.filter (fun t => decide (outNow s ≤ t + 64 + nsPhases (ob s 0x2903 1))) }

/-- The output stage of an even lane and the odd lane above it in one tick: first the levels that the overrides and trips since the
tick before leave, then the edges of both lanes in order, each with its interlock and the levels at its time (R160, R182,
R187). -/
def legStep (s : State) (e : Nat) : State :=
  let es := legEdges s e
  let drop (t : State) (l : Nat) : State :=
    let x := laneAt t l
    if x.out = [] then t else setLane t l { x with out := x.out.filter (fun y => decide (outNow s < y.1)) }
  let s1 := legLevels (dropEds (dropEds (drop (drop s e) (e + 1)) e) (e + 1)) e (outNow s - 32)
  let s2 := (es.map (fun x => x.1)).eraseDups.foldl (fun u t =>
    legLevels ((es.filter (fun x => decide (x.1 = t))).foldl (fun v x => legEdge (outEdge v x.2.1 t x.2.2) e t) (lockEnd u e t)) e
      (max t (outNow s - 32))) s1
  lockEnd s2 e (outNow s + 1)

/-- A lane action of a mark at a time in phases (R179). -/
def laneAction (s : State) (a l t : Nat) : State :=
  let x := laneAt s l
  let m := laneMode s l
  let tm := (claimOf s l).timing
  if pairOdd s l ∨ laneEsrc s l then s
  else if m = 1 ∨ m = 2 then
    (if a = 0 then laneCmd s l true t else if a = 1 then laneCmd s l false t else if a = 2 then laneCmd s l (!x.cmd) t else s)
  else if m = 3 then (if a = 3 ∧ tm ≠ 0 then laneCmd (setLane s l { x with endAt := t + tm }) l true t else s)
  else if m = 4 then
    if a = 0 then (if x.cmd then s else laneCmd (setLane s l { x with endAt := if tm = 0 then 0 else t + tm }) l true t)
    else if a = 1 then laneCmd s l false t else s
  else s

/-- A latch mark fires at a distance of its source's advance: the lanes that name it read their edge words, the old period ends,
and the new one begins (R180). -/
def latchLane (k : Nat) (m : Mark) (x d t : Nat) (s : State) (l : Nat) : State :=
  let c := claimOf s l
  if laneEsrc s l && decide (bits c.timing 31 22 = k) then
    let on := cellNow s c.onAt
    let off := cellNow s c.offAt
    let y0 := laneAt s l
    let gone := y0.todo.filter (fun e => decide (t ≤ e.t))
    let y := { y0 with todo := y0.todo.filter (fun e => decide (e.t < t)), cmd := match gone with | [] => y0.cmd | e :: _ => !e.on }
    if Nat.land (Nat.lor (bits on.toNat 35 32) (bits off.toNat 35 32)) 5 ≠ 0 then
      incOb (setLane s l { y with
        edges := none, lost := true, cmd := false, since := if y.cmd then t else y.since,
        todo := y.todo ++ [{ t := t, on := false, pair := false }] }) 0x2906 (funcSub (sealFunc s l))
    else
      let p : EdgePeriod := { src := m.src, latch := x, on := on.toNat % 2 ^ 32, off := off.toNat % 2 ^ 32 }
      let s1 := laneCmd (setLane s l { y with edges := some p, lost := false }) l
        (decide (p.on = 0) && decide (p.on < p.off) && decide (0 ≤ (srcMove s m.src).2)) t
      edgeRun s1 l d p
  else s

/-- A lane that an actuator drive claims: no mark acts on it (R457). -/
def actLaneOf (s : State) (l : Nat) : Bool := (List.range 3).any (fun n => decide ((claimOf s l).blk = actBlk n))

/-- What an instance of mark k at position x does that fires at a distance of its source's advance in the latest tick (R166,
R169, R171, R174, R175, R180). -/
def fireMark (s : State) (k : Nat) (m : Mark) (x d : Nat) : State :=
  let ph := passPhase (srcMove s m.src).2 d
  let t := (s.tick - 1) * 32 + ph
  if m.action ≤ 3 then (if actLaneOf s m.target then s else laneAction s m.action m.target t)
  else if m.action = 4 then
    let s1 := lineEvent { s with fired := tabMod 0 s.fired k (· + 1) } m.target (tickTime s t / 2 ^ 32) (ph % 32)
    let s2 := (s1.claims.map (fun e => e.1)).foldl (latchLane k m x d t) s1
    let s3 := if dabLatchLine s2 m.target then dabEdgeStage (if s2.chg.dabEnd then dabPut s2 false else s2) (decide (x = 2 ^ 63)) else s2
    let s4 := if s3.cnv.buckEnd ∧ ob s3 0x5901 8 = m.target then buckPut s3 false else s3
    [Drv.a, Drv.b].foldl (fun u x => if m.blk = drvBase x + 0x100 ∧ ob u (drvBase x + 0x117) 0 = m.target then drvLatchEnd u x else u) s4
  else if m.action = 7 then capture s m.target 0 t
  else if winRuns s m.target then winMark s m.target (decide (m.action = 5)) t
  else s

end Sys2Proof.Machine
end

