-- ==== Sys2Proof/Machine/DriveOps.lean ====
section
/-! DEFINITION. The traction drives as operations (R331 to R362): the reference unit, the carrier schedule, the watch over
the inputs, derating and the presets of a start. -/

namespace Sys2Proof.Machine

/-- Raise once while a condition lasts, and not again until the earlier fault has been acknowledged (R361). -/
def onceRaise (s : State) (present : Bool) (c : Cls) (l scope detail det : Nat) : State :=
  let held := tabGet false s.once det && (keyAt s (keyNo c scope)).unack
  if present then
    if (keyAt s (keyNo c scope)).srcs.contains det then s
    else if held then s
    else raise { s with once := tabSet false s.once det true } c l scope 7 detail det
  else clearDet (if held then s else { s with once := tabSet false s.once det false }) det

/-- Electrical frequency of a drive in Hz, signed: its rod's Rod.Rate converted (R149, R331). -/
def drvHz (s : State) (x : Drv) : Rat := wordHz (rodRate (rodAt s (drvRod x)))

/-- Sideband of a drive's rod words: STL and INV (R158). -/
def rodBad (s : State) (r : Nat) : Nat := Nat.land (rodSide (rodAt s r) false) 5

/-- Linear interpolation between the points of a table of n points; `below` is what lies below point 1. -/
def interp (n : Nat) (xs ys : Nat → Rat) (below : Rat) (x : Rat) : Rat :=
  if x < xs 0 then below
  else if xs (n - 1) ≤ x then ys (n - 1)
  else
    let i := ((List.range (n - 1)).filter (fun i => decide (xs i ≤ x))).length - 1
    ys i + (ys (i + 1) - ys i) * (x - xs i) / (xs (i + 1) - xs i)

/-- The sign of the selected direction in motor sense, 0 in neutral (step 1 of R335). -/
def drvSign (s : State) (x : Drv) : Rat :=
  let sel := ob s (drvBase x + 5) 1
  let k : Rat := if sel = 1 then 1 else if sel = 2 then -1 else 0
  if ob s (drvBase x + 5) 2 = 1 then -k else k

/-- EMF ratio of a drive (R331). -/
def emfRatio (s : State) (x : Drv) : Rat :=
  let v := chanVal s (ob s (drvBase x + 4) 1)
  if v ≤ 0 then 0 else sqrt3 * 2 * piR * rabs (drvHz s x) * obF s (drvBase x + 3) 5 / v

/-- An input of the reference unit that counts as 0 while it carries STL or INV (R334). -/
def refIn (s : State) (idx sub : Nat) (dflt : Rat) : Rat := if Nat.land (obSide s idx sub) 5 = 0 then obF s idx sub else dflt

/-- The correction of the field-weakening brace (R334, R337). -/
def fwCorr (s : State) (x : Drv) : Rat :=
  let i := ob s (drvBase x + 0x102) 5
  if i < 192 ∧ Nat.land (brcOf s i).side 5 = 0 then ofMant (braceEd s i) (brcOf s i).u else 0

/-- A slew toward a target. -/
def slewTo (a b d : Rat) : Rat := if rabs (b - a) ≤ d then b else if a < b then a + d else a - d

/-- The reference unit at device time `t` (R333 to R339, R353): T_ref, the currents and the feed-forwards. -/
def refUnit (s : State) (x : Drv) (t : Nat) : State :=
  let d := drvBase x
  let q := d + 0x200
  let y := drvOf s x
  let st := fnState s (drvFn x)
  let fe := drvHz s x
  let p : Rat := (max 1 (ob s (d + 3) 1) : Nat)
  let lk := ob s (d + 4) 1
  let vdc := chanVal s lk
  let staleC := decide (Nat.land (obSide s q 1) 5 ≠ 0)
  let tc := match y.clutchT with | some v => v | none => drvSign s x * obF s q 1
  let n := ob s (d + 0x205) 0
  let fx (k : Nat) : Rat := obF s (d + 0x205) (k + 1)
  let fi (k : Nat) : Rat := obF s (d + 0x206) (k + 1)
  let fm (k : Nat) : Rat := obF s (d + 0x207) (k + 1)
  let nf := if vdc ≤ 0 then fx (n - 1) else rabs fe * obF s q 10 / vdc
  let tfw := interp n fx fm (fm 0) nf
  let idfw := interp n fx fi 0 nf
  let wm := rmax (2 * piR * rabs fe / p) (obF s q 6)
  let lim (pw : Nat) : Rat := rmin tfw (rmin (refIn s (d + 0x407) 0 (obF s (d + 0x405) 0) * obF s q 2) (refIn s q pw 0 / wm))
  let tmot := if obF s (d + 3) 7 < rabs fe then 0 else lim 7
  let treg := lim 8
  let tq := if 0 ≤ fe then rclamp (-treg) tmot tc else rclamp (-tmot) treg tc
  let zero := y.stopping || staleC || decide (y.rel < 4)
  let tgt := if zero then 0 else tq
  let dtMs : Rat := mkRat ((t : Int) - y.refAt) (2 ^ 32 * 1000000)
  let rate := if y.stopping then obF s q 5 else if staleC then obF s q 4 else obF s q 3
  let fell := !zero && decide (tq ≠ tc) && decide (rabs tq < rabs y.tref) && decide (0 ≤ tc * y.tref)
  let tr : Rat := match st with
    | .run => if y.rel < 4 then 0 else if fell then tgt else slewTo y.tref tgt (rate * dtMs)
    | .stopped => (match y.ramp with
        | none => 0
        | some (a, t0) =>
          let f := mkRat ((t / 2 ^ 32 : Nat) - (a : Nat) : Int) (max 1 (ob s (d + 6) 3) * 1000000)
          t0 * rmax 0 (1 - f))
    | _ => 0
  let tref := f32Val (f32Of tr)
  let m := ob s (d + 0x202) 0
  let mt (k : Nat) : Rat := obF s (d + 0x202) (k + 1)
  let mi (k : Nat) : Rat := obF s (d + 0x203) (k + 1)
  let mq (k : Nat) : Rat := obF s (d + 0x204) (k + 1)
  let above := decide (mt (m - 1) < rabs tref)
  let id0 := interp m mt mi 0 (rabs tref)
  let iq0 := (if tref < 0 then -1 else 1) * interp m mt mq 0 (rabs tref)
  let imax := obF s (d + 0x100) 6
  let id1 := rmin id0 (idfw + fwCorr s x)
  let off := decide (st = .armed)
  let idv := if off then 0 else rmax id1 (-imax)
  let iqm := rsqrt (imax * imax - idv * idv)
  let iqv := if off then 0 else rclamp (-iqm) iqm iq0
  let we := 2 * piR * fe
  let vd := obF s (d + 3) 2 * idv - we * obF s (d + 3) 4 * iqv
  let vq := obF s (d + 3) 2 * iqv + we * (obF s (d + 3) 3 * idv + obF s (d + 3) 5)
  let lw := (chanWord s lk).2
  let side := Nat.lor (Nat.lor (rodBad s (drvRod x)) (Nat.land lw 5)) (Nat.land lw 8)
  let satD := bitAt (!off && (above || decide (idv ≠ id1))) 1
  let satQ := bitAt (!off && (above || decide (iqv ≠ iq0))) 1
  let out (u : State) (k : Nat) (v : Rat) (sat : Nat) : State := ridgeOut u (d + 0x201) k (f32Of v) (Nat.lor side sat)
  let s1 := out (out (out s 1 idv satD) 2 iqv satQ) 3 vd 0
  let s2 := out (out (out s1 4 vq 0) 5 (if off then 0 else tref) 0) 6 (emfRatio s x) 0
  setDrv s2 x { drvOf s2 x with
    tref := tref, fw := !off && decide (id1 < id0), tlimit := decide (rabs tq < rabs tc), staleCmd := staleC, refAt := t }

/-- Write the carrier objects of a rod; the change takes its way by R162. -/
def setCarrier (s : State) (r mode ratio rate : Nat) : State :=
  let b := rodBase r + 2
  carrierSync (putOb (putOb (putOb s b 1 mode) b 2 ratio) b 3 rate) r

/-- The band for a frequency from the band in force (R351). -/
def bandOf (s : State) (x : Drv) (f : Rat) : Nat → Nat → Nat
  | 0, k => k
  | n + 1, k =>
    let b := drvBase x + 0x100
    if k + 1 < ob s (b + 0x12) 0 ∧ obF s (b + 0x10) (k + 2) ≤ f then bandOf s x f n (k + 1)
    else if 0 < k ∧ f < obF s (b + 0x10) (k + 1) * (1 - mkRat (ob s (b + 0x14) 0) 100) then bandOf s x f n (k - 1)
    else k

/-- Put a band's carrier setting in place. -/
def bandPut (s : State) (x : Drv) (k : Nat) : State :=
  let b := drvBase x + 0x100
  let r := ob s (b + 0x11) (k + 1)
  let s1 := setDrv s x { drvOf s x with band := k }
  if r = 0 then setCarrier s1 (drvRod x) 1 (ob s1 (rodBase (drvRod x) + 2) 2) (hzWord (obF s (b + 0x13) 0))
  else setCarrier s1 (drvRod x) 2 r (ob s1 (rodBase (drvRod x) + 2) 3)

/-- The drive schedules its bands in ARMED and RUN (R351). -/
def bandTrack (s : State) (x : Drv) : State :=
  let k := bandOf s x (rabs (drvHz s x)) 8 (drvOf s x).band
  if fnLive s (drvFn x) ∧ k ≠ (drvOf s x).band then bandPut s x k else s

/-- The inputs a drive watches in ARMED and RUN, and in every state the overspeed of R361 (R28, R361, R362). -/
def drvWatch (s : State) (x : Drv) : State :=
  let d := drvBase x
  let f := fnCode (drvFn x)
  let det := (d + 0x100) * 16
  let dd := (d + 0x100) * 65536 + 256
  let r := rodAt s (drvRod x)
  let y := drvOf s x
  let since := if !r.stl then 0 else if y.stlSince = 0 then now s + 1 else y.stlSince
  let s0 := setDrv s x { y with stlSince := since }
  let fast (t : State) : State := onceRaise t (decide (obF t (d + 3) 7 < rabs (drvHz t x))) .pos 2 f dd (det + 3)
  if !fnLive s0 (drvFn x) then fast s0
  else
    let stale := (drvChans (viewNow s0) x).any (fun c => bit (chanWord s0 c).2 0)
    let s1 := if stale then condRaise s0 .acq 3 f 7 dd det else clearDet s0 det
    let lk := decide (Nat.land (chanWord s1 (ob s1 (d + 4) 1)).2 5 ≠ 0)
    let s2 := if lk then condRaise s1 .acq 3 f 7 dd (det + 1) else clearDet s1 (det + 1)
    let long := decide (since ≠ 0) && decide (since - 1 + ob s2 (rodBase (drvRod x) + 1) 7 * 1000 < now s2)
    let s3 := if long then condRaise s2 .pos 3 f 7 dd (det + 2) else clearDet s2 (det + 2)
    fast s3

/-- Before the loops of an event of a drive's current loop: the reference unit on every Ref.Divide-th event, the bands and
the watch over the inputs (R332, R351, R362). -/
def drvBefore (s : State) (x : Drv) (t : Nat) : State :=
  let y := drvOf s x
  let s1 := setDrv s x { y with k := y.k + 1 }
  let s2 := if y.k % max 1 (ob s (drvBase x + 0x200) 9) = 0 then refUnit s1 x t else s1
  bandTrack (drvWatch s2 x) x

/-- The mark number of a drive's latch mark (R349). -/
def drvLatch (s : State) (x : Drv) : Nat := latchIndex s.marks (drvBase x + 0x100) (ob s (drvBase x + 0x117) 0)

/-- After the members of a drive's current loop: the presets of a start have been applied (step 3 of R357). -/
def drvAfter (s : State) (x : Drv) : State :=
  let y := drvOf s x
  if y.rel = 1 ∧ fnState s (drvFn x) = .run then
    setDrv s x { y with rel := 2, latches := tabGet 0 s.fired (drvLatch s x) } else s

/-- Write Brace.Preset of a brace: it waits for the next evaluation (R302). -/
def presetBrace (s : State) (i w : Nat) : State := if i < 192 then setBrc s i { brcOf s i with preset := some w } else s

/-- Step 2 of a drive's start: the reference unit with a target of 0, and the presets (R357, R358). -/
def drvStart (s : State) (x : Drv) : State :=
  let d := drvBase x
  let s1 := setDrv s x { ({} : Drive) with band := (drvOf s x).band, k := (drvOf s x).k, rel := 1, refAt := s.dt }
  let s2 := refUnit s1 x s.dt
  let br (k : Nat) := ob s2 (d + 0x102) k
  let s3 := presetBrace (presetBrace s2 (br 1) (ob s2 (d + 0x201) 3)) (br 2) (ob s2 (d + 0x201) 4)
  let s4 := presetBrace (presetBrace (presetBrace s3 (br 3) 0) (br 4) 0) (br 5) 0
  if drvSign s x * drvHz s x < 0 then raiseEv s4 .pos 0 (fnCode (drvFn x)) 7 (d * 65536) else s4

/-- DriveA.Status (R330). -/
def drvStatus (s : State) (x : Drv) : Nat :=
  let d := drvBase x
  let y := drvOf s x
  bitAt y.stopping 7 + bitAt y.fw 6 + bitAt (decide (obF s (d + 0x407) 0 < 1)) 5 + bitAt y.tlimit 4
    + bitAt (decide (drvSign s x * drvHz s x < 0)) 3 + bitAt (decide ((rodAt s (drvRod x)).cmode = 2)) 2
    + bitAt (decide (3 ≤ y.rel)) 1 + bitAt y.staleCmd 0

/-- The factor of derating input k of the block at an index (R360, R361). -/
def derateIn (s : State) (b k : Nat) : Rat × Bool :=
  let ch := ob s b (k + 1)
  if ch = 0xFFFF then (1, true)
  else if !chanGood s ch then (obF s (b + 5) 0, false)
  else
    let st := obF s (b + 1) (k + 1)
    let en := obF s (b + 2) (k + 1)
    (rclamp 0 1 ((chanVal s ch - en) / (st - en)), true)

/-- A fault at L2 against a function, from other sources than its derating inputs, is uncleared: `from_` names the detectors of its
key's raises, 0 for an event (R360). -/
def derateFault (s : State) (f : Fn) (b : Nat) : Bool :=
  s.tally.keys.any (fun e => decide (e.1 % 16 = fnCode f) && e.2.active && decide (e.2.eff = 2)
    && e.2.from_.any (fun d => decide (d / 16 ≠ b)))

/-- One evaluation of a derating block (R360, R361). -/
def derateEval (s : State) (f : Fn) (b : Nat) : State :=
  let fac := (List.range 4).map (fun k => (derateIn s b k).1)
  let base := rmin (fac.foldl rmin 1) (obF s (b + 6) 0)
  let all := if derateFault s f b then rmin base (obF s (b + 4) 0) else base
  let s1 := (List.range 4).foldl (fun t k => putOb t (b + 8) (k + 1) (f32Of (fac.getD k 1))) s
  let s2 := ridgeOut s1 (b + 7) 0 (f32Of all) 8
  (List.range 4).foldl (fun t k =>
    let x := derateIn s b k
    let t1 := onceRaise t (!x.2) .acq 1 (fnCode f) (b * 65536 + (k + 1) * 256) (b * 16 + 4 + k)
    onceRaise t1 (x.2 && decide (x.1 < 1)) (clsOf (ob s (b + 3) (k + 1))) 1 (fnCode f) (b * 65536 + (k + 1) * 256) (b * 16 + k)) s2

end Sys2Proof.Machine
end

