-- ==== Sys2Proof/Machine/ChgOps.lean ====
section
/-! DEFINITION. The Charger as operations: pilot and proximity, session starts and stops, the limit stage (R392 to R426). -/

namespace Sys2Proof.Machine

/-- Detail word of the session sequencer's faults with the reason code (R538). -/
def chgDetail (code : Nat) : Nat := 0x50000000 + code

/-- A session end on a fault at L3 (R418): the reason is kept, and the reaction stops the outputs. -/
def chgL3 (s : State) (code : Nat) : State := raiseEv (noteReason s code) .chg 3 3 7 (chgDetail code)

/-- A session stops (R417, R426). In vehicle-to-load the voltage ramps down first and the DAB turns off last; PILOT_LOST, PLUG_REMOVED and
GRID_FAULT begin at step 2. -/
def chgStop (s : State) (code : Nat) (after : FnSt) : State :=
  let k := s.chg.step
  if k = 0 then s
  else if k = 8 ∨ k = 9 ∨ k = 26 then noteReason s code
  else
    let s1 := putPhase (setChg (noteReason s code) (fun x => { x with after := after, t0 := now s })) 8
    if s.chg.v2l then
      (if s.chg.pfc = 0 then legsEnd s1
        else if code = 7 then setChg s1 (fun x => { x with step := 9, pfcEnd := true })
        else setChg s1 (fun x => { x with step := 26, vdFrom := obF s 0x5400 11 }))
    else if code = 5 ∨ code = 7 ∨ code = 9 then legsEnd s1
    else setChg s1 (fun x => { x with step := 8 })

/-- A session end on a reason at L1 (R418). -/
def chgL1 (s : State) (code : Nat) : State := raiseEv (chgStop s code .armed) .chg 1 3 7 (chgDetail code)

/-- A session starts: step 1 of R415 or of R425 (R424). -/
def startSession (s : State) (v2l : Bool) : State :=
  let x := s.chg
  let y : Charger := { x with
    step := if v2l then 21 else 1, t0 := now s, v2l := v2l, reason := 0, after := .armed, busNow := none, zeroSince := 0,
    posSince := 0, endSince := 0, gridSince := 0, overSince := 0, overPow := 0, backfeed := false, noAuto := false, timerOn := false,
    energy := 0, badSince := 0, bSince := 0, cut := false, pfcEnd := false, bind := 0 }
  let s1 := putOb (putOb (putOb (putPhase s (if v2l then 9 else 1)) 0x5003 5 0) 0x5003 6 (now s % 2 ^ 64)) 0x5003 7 0
  let s2 := { s1 with chg := y }
  let s3 := if v2l then { putOb s2 0x3300 9 1 with formHz := f32Of (ob s2 0x5400 2 : Nat) } else s2
  setFn s3 .charger .run

/-- A charge plug is detected (R397). -/
def plugDetected (s : State) : Bool :=
  decide (ob s 0x5101 6 ≠ 0) || decide (ob s 0x5101 1 = 2) || decide (ob s 0x5101 1 = 3) || decide (ob s 0x5101 1 = 4)

/-- A plug detected while a drive is in ARMED or RUN raises CHG at L3 against it (R356). -/
def plugWatch (s : State) : State :=
  if plugDetected s then
    condAll s ([Fn.driveA, .driveB].filter (fnLive s)) .chg 3 7 0x51010600 (0x5100 * 16 + 1)
  else clearDet s (0x5100 * 16 + 1)

/-- A sample lies within 5 µs of an edge (R393). -/
def nearEdge (es : List (Nat × Bool)) (t : Nat) : Bool :=
  es.any (fun e => decide (t * 32 ≤ e.1 + 160000) && decide (e.1 ≤ t * 32 + 160000))

/-- The mean of some values. -/
def meanOf (xs : List Rat) : Option Rat :=
  if xs.isEmpty then none else some (xs.foldl (· + ·) 0 / (xs.length : Nat))

/-- Frequency in Hz and duty in 0.1 % between the first and the last rising edge, where there are two (R393; DEDUCED, log 31). -/
def pilotWave (es : List (Nat × Bool)) : Option (Rat × Nat) :=
  let rs := (es.filter (fun e => e.2)).map (fun e => e.1)
  let a := rs.headD 0
  let b := rs.getLastD 0
  if b ≤ a then none
  else
    let mid := es.filter (fun e => decide (a ≤ e.1) && decide (e.1 < b))
    let high : Int := mid.foldl (fun t e => if e.2 then t - e.1 else t + e.1) 0
    some (mkRat ((rs.length - 1) * 32000000000 : Nat) (b - a),
      (iclamp 0 1000 (rround (mkRat (1000 * high) (b - a)))).toNat)

/-- Class of a pilot window (R394). -/
def pilotClass (hi lo : Rat) (pwm : Bool) : Nat :=
  let r (a b : Rat) := decide (a ≤ hi) && decide (hi ≤ b)
  if pwm && !(decide (-(mkRat 27 2) ≤ lo) && decide (lo ≤ -11)) then 0xFF
  else if r 11 (mkRat 27 2) then 1 else if r 8 10 then 2 else if r 5 7 then 3 else if r 2 4 then 4
  else if !pwm && r (-1) 1 then 5 else if !pwm && decide (hi < -11) then 6 else 0xFF

/-- A Ridge-backed F32 that counts as 0 with STL or INV (R395, R411). -/
def zeroIn (s : State) (idx sub : Nat) : Rat := refIn s idx sub 0

/-- The current that a pilot allows (R395), by the duty in 0.1 %. -/
def pilotCurrent (s : State) (st duty : Nat) (pwm : Bool) : Rat :=
  let d : Rat := mkRat duty 10
  if !pwm ∨ st < 2 ∨ 4 < st then 0
  else if duty < 30 then 0 else if duty ≤ 70 then zeroIn s 0x5102 1
  else if duty < 80 then 0 else if duty < 100 then 6 else if duty ≤ 850 then d * mkRat 6 10
  else if duty ≤ 960 then (d - 64) * mkRat 5 2 else if duty ≤ 970 then 80 else 0

/-- Pilot.Current is formed from the accepted state. -/
def putPilotCurrent (s : State) : State :=
  putOb s 0x5101 5 (f32Of (pilotCurrent s (ob s 0x5101 1) (ob s 0x5101 2) s.chg.pwm))

/-- The levels, the duty and the class of the last 10 ms: a level or a duty that no sample or no period gives is a free
value, but without an edge every sample counts for the level (R393, R394; DEDUCED, log 31). -/
def pilotForm (s : State) : State × Nat :=
  let x := s.chg
  let es := x.edges
  let pwm := !es.isEmpty
  let keep := x.pilot.filter (fun p => !nearEdge es p.1)
  let w1 := freshWord s
  let w2 := freshWord w1.2
  let w3 := freshWord w2.2
  let fr (w : BitVec 64) : Rat := f32Val (f32Finite w.toNat)
  let hi := (meanOf ((keep.filter (fun p => !pwm || p.2.2)).map (fun p => p.2.1))).getD (fr w1.1)
  let lo := (meanOf ((keep.filter (fun p => !p.2.2)).map (fun p => p.2.1))).getD (fr w2.1)
  let wave := pilotWave es
  let duty := match wave with
    | some d => d.2
    | none => if pwm then w3.1.toNat % 1001 else if 0 < hi then 1000 else 0
  let ok := match wave with
    | some d => decide (980 ≤ d.1) && decide (d.1 ≤ 1020) && decide (-(mkRat 27 2) ≤ lo) && decide (lo ≤ -11)
    | none => false
  let s1 := putOb (putOb (putOb w3.2 0x5101 2 duty) 0x5101 3 (f32Of hi)) 0x5101 4 (f32Of lo)
  (setChg s1 (fun y => { y with pilot := [], edges := [], pilotAt := now s, pwm := ok }), pilotClass hi lo pwm)

/-- Three windows of one class accept it (R394); answers whether state A was accepted now. -/
def pilotAccept (s : State) (c : Nat) : State × Bool :=
  let x := s.chg
  let n := if c = x.pilotCand then min 3 (x.pilotRun + 1) else 1
  let s1 := setChg s (fun y => { y with pilotCand := c, pilotRun := n })
  if 3 ≤ n then (putOb s1 0x5101 1 c, decide (c = 1) && decide (ob s 0x5101 1 ≠ 1)) else (s1, false)

/-- What the accepted pilot state does to a charging session (R418). -/
def pilotSession (s : State) (nowA : Bool) : State :=
  let x := s.chg
  let c := ob s 0x5101 1
  if x.step = 0 ∨ x.v2l then s
  else
    let s1 := if nowA then chgL1 s 5 else s
    let bad := decide (3 ≤ x.pilotRun) && (decide (c = 5) || decide (c = 6) || decide (c = 0xFF))
    let s2 := if bad then
        (if x.badSince = 0 then chgL3 (setChg s1 (fun y => { y with badSince := now s + 1 })) 6 else s1)
      else setChg s1 (fun y => { y with badSince := 0 })
    let bs := if c = 2 ∧ s2.chg.s2 then (if s2.chg.bSince = 0 then now s + 1 else s2.chg.bSince) else 0
    let s3 := setChg s2 (fun y => { y with bSince := bs })
    if bs ≠ 0 ∧ bs - 1 + 100000000 ≤ now s ∧ s3.chg.step < 8 then chgL3 s3 6 else s3

/-- The proximity resistance and its code (R396): no plug at or above 0.95 of the supply, and at the supply itself the
resistance is a free value (DESIGN CHOICE, log 30). -/
def ppCode (s : State) : Rat × Nat :=
  let v := chanVal s (ob s 0x5100 4)
  let sup := obF s 0x5100 6
  let r := if v = sup then f32Val (f32Finite (freshWord s).1.toNat) else obF s 0x5100 5 * v / (sup - v)
  let i (a b : Rat) := decide (a ≤ r) && decide (r ≤ b)
  (r, if sup * mkRat 95 100 ≤ v ∨ 7000 < r then 0
      else if i 3300 4700 then 1 else if i 1100 2460 then 2 else if i 400 936 then 3 else if i 164 308 then 4
      else if i 75 140 then 5 else 0xFF)

/-- A code of 2 to 5. -/
def cableCode (c : Nat) : Bool := decide (2 ≤ c) && decide (c ≤ 5)

/-- A proximity code is accepted: what it does to the session, and a session that starts by itself (R415, R418). -/
def ppAccept (s : State) (c : Nat) : State :=
  let old := ob s 0x5101 6
  if c = old then s
  else
    let s1 := putOb s 0x5101 6 c
    let s2 := if s1.chg.step = 0 then s1
      else if c = 0 then chgL1 s1 7
      else if c = 0xFF ∨ (cableCode old ∧ cableCode c) then chgL3 s1 8 else s1
    if old = 0 ∧ cableCode c ∧ ob s2 0x5003 2 = 1 ∧ ob s2 0x5003 1 = 0 ∧ fnState s2 .charger = .armed ∧ !s2.chg.noAuto
        ∧ s2.chg.step = 0 then
      startSession s2 false
    else s2

/-- The bus voltage. -/
def busVolt (s : State) : Rat := chanVal s (ob s 0x5201 4)

/-- Step 5 of R415 and of R425: the precharge lane goes inactive and the PFC legs go live; while charging the bus brace is
preset to 0 and the bus set point begins at the measured voltage. -/
def pfcGoLive (s : State) : State :=
  let s1 := pfcAll (relayPre s false) true
  if s.chg.v2l then setChg s1 (fun x => { x with step := 24, t0 := now s })
  else
    let s2 := presetBrace s1 (ob s1 0x5202 3) 0
    putPhase (setChg s2 (fun x => { x with
      step := 5, t0 := now s, busNow := some (f32Of (busVolt s)), zeroSince := 0, posSince := 0, gridSince := 0 })) 4

/-- Phases in use: those of the topology, or of V2l.Phases (R410, R425). -/
def phasesUsed (s : State) : List Nat :=
  if s.chg.v2l then (if ob s 0x5400 3 = 1 then [0] else [0, 1, 2]) else pfcPhases s

/-- The zero crossings of a phase on rod 3 (R416). -/
def zeroCrossings (ph : Nat) : List Nat :=
  if ph = 0 then [0, 0x80000000] else if ph = 1 then [0x55555555, 0xD5555555] else [0xAAAAAAAA, 0x2AAAAAAA]

/-- A position lies in the way from one position to the next, either way. -/
def between (p q x : Nat) : Bool :=
  let d := toInt 32 (q + 2 ^ 32 - p)
  if 0 ≤ d then decide (0 < (x + 2 ^ 32 - p) % 2 ^ 32) && decide (((x + 2 ^ 32 - p) % 2 ^ 32 : Nat) ≤ d)
  else decide (0 < (p + 2 ^ 32 - x) % 2 ^ 32) && decide (((p + 2 ^ 32 - x) % 2 ^ 32 : Nat) ≤ -d)

/-- A phase voltage's half-cycle RMS in one limit stage (R405). -/
def vrmsPhase (p q : Nat) (s : State) (k : Nat) : State :=
  let ch := ob s 0x3300 (3 + k)
  let a := tabGet (0, 0, 0) s.chg.sq k
  let edge := (zeroCrossings k).any (between p q)
  let s1 := if edge ∧ 0 < a.2.1 then
      setChg (putOb s 0x5203 (4 + k) (f32Of (rsqrt (a.1 / (a.2.1 : Nat))))) (fun x => { x with vSide := tabSet 5 x.vSide k a.2.2 })
    else s
  let b := if edge then (0, 0, 0) else a
  let w := (chanWord s ch).2
  let v := chanVal s ch
  let side := if b.2.1 = 0 then Nat.land w 13 else Nat.lor (Nat.land (Nat.lor b.2.2 w) 5) (Nat.land (Nat.land b.2.2 w) 8)
  setChg s1 (fun x => { x with sq := tabSet (0, 0, 0) x.sq k (b.1 + v * v, b.2.1 + 1, side) })

/-- RMS voltages and Vlow in one limit stage (R405). -/
def vrmsStage (s : State) : State :=
  let p := s.chg.pos3
  let q := (rodAt s 3).pos.toNat / 2 ^ 32
  let s1 := (List.range 3).foldl (vrmsPhase p q) s
  let us := phasesUsed s
  if us.any (fun k => (zeroCrossings k).any (between p q)) then
    let vs := us.map (fun k => obF s1 0x5203 (4 + k))
    let sd := us.map (fun k => some ((0 : Rat), tabGet 5 s1.chg.vSide k))
    ridgeOut s1 0x5203 7 (f32Of (vs.foldl rmin (vs.headD 0))) (sideOf sd)
  else s1

/-- Ref.Quad: the phase current delayed by a quarter turn of rod 3, once its history reaches that far (R403). -/
def quadStage (s : State) : State :=
  let q := (rodAt s 3).pos.toNat / 2 ^ 32
  let w := chanWord s (ob s 0x5201 1)
  let h := ((q, w.1 + w.2 * 2 ^ 32) :: s.chg.quad).take 128
  let s1 := setChg s (fun x => { x with pos3 := q, quad := h })
  if ob s 0x5200 1 ≠ 2 then s1
  else match h.find? (fun e => decide (2 ^ 30 ≤ (q + 2 ^ 32 - e.1) % 2 ^ 32) && decide ((q + 2 ^ 32 - e.1) % 2 ^ 32 < 2 ^ 31)) with
    | none => s1
    | some e => ridgeOut s1 0x5205 3 (e.2 % 2 ^ 32) (e.2 / 2 ^ 32)

/-- A brace's output in its unit, 0 with STL or INV. -/
def braceOutZ (s : State) (i : Nat) : Rat := if Nat.land (brcOf s i).side 5 = 0 then ofMant (braceEd s i) (brcOf s i).u else 0

/-- Pilot.Current in the limit stage: while Hlc.Current gives it, that object's STL or INV makes it 0 (R395, R411). -/
def pilotNow (s : State) : Rat :=
  let d := ob s 0x5101 2
  if 30 ≤ d ∧ d ≤ 70 ∧ Nat.land (obSide s 0x5102 1) 5 ≠ 0 then 0 else obF s 0x5101 5

/-- AC current limit of the stage (R410). -/
def chgIac (s : State) : Rat :=
  let c := ob s 0x5101 6
  let cable : Rat := if c = 2 then 13 else if c = 3 then 20 else if c = 4 then 32 else if c = 5 then 63 else 0
  rmin (rmin (pilotNow s) cable) (obF s 0x5005 3)

/-- The terms of R410 with their BIND codes, `inv` standing for 1 / V_out. An unnamed brace gives no term. -/
def chgTerms (s : State) (inv : Rat) : List (Nat × Rat) :=
  let dc := obF s 0x5005 4
  let br (c i : Nat) : List (Nat × Rat) := if i < 192 then [(c, rclamp 0 dc (braceOutZ s i))] else []
  let sum := (phasesUsed s).foldl (fun a k => a + obF s 0x5203 (4 + k)) 0
  [(1, obF s 0x5004 1)] ++ br 2 (ob s 0x5004 5) ++ [(3, obF s 0x5005 7 * sum * chgIac s * inv), (4, zeroIn s 0x5005 1),
    (5, zeroIn s 0x5005 2 * inv)] ++ br 6 (ob s 0x5204 1) ++ [(7, dc)]

/-- icmd, ilim and BIND (R410, R411). With an output voltage of 0 the quotients are a free value (DESIGN CHOICE, log 30). -/
def chgLimits (s : State) : State :=
  let ch := ob s 0x5301 1
  let v := chanVal s ch
  let fr := freshWord s
  let s0 := if v = 0 then fr.2 else s
  let inv := if v = 0 then f32Val (f32Finite fr.1.toNat) else 1 / v
  let ts := chgTerms s0 inv
  let icmd := ts.foldl (fun a t => rmin a t.2) (obF s0 0x5005 4)
  let der := obF s0 0x5017 0 * obF s0 0x5005 4
  let bad := !chanGood s0 ch || (phasesUsed s0).any (fun k => decide (Nat.land (tabGet 5 s0.chg.vSide k) 5 ≠ 0))
  let ilim := if bad then 0 else rmin icmd der
  let bind := if bad then 0 else (((ts ++ [(8, der)] : List (Nat × Rat)).find? (fun e => decide (e.2 = ilim))).map (fun e => e.1)).getD 0
  setChg s0 (fun x => { x with icmd := icmd, ilim := ilim, iac := chgIac s0, bind := bind })

/-- Ref.Idc moves by its slews (R410, R411); outside a charging session, or before the DAB is live, it is 0. -/
def idcStage (s : State) : State :=
  let x := s.chg
  let old := obF s 0x5005 8
  let tgt := if x.step = 6 ∧ x.gridSince = 0 then x.ilim else 0
  let d : Rat := mkRat 1 20
  let v : Rat := if x.v2l ∨ !x.dab then 0
    else if old < tgt then rmin tgt (old + obF s 0x5005 5 * d) else rmax tgt (old - obF s 0x5005 6 * d)
  let w := (chanWord s (ob s 0x5301 1)).2
  let c := (chanWord s (ob s 0x5301 2)).2
  ridgeOut s 0x5005 8 (f32Of v) (Nat.lor (Nat.land (Nat.lor w c) 5) (Nat.land (Nat.land w c) 8))

/-- Ref.PfcId and Ref.PfcIq, an output with STL or INV counting as 0 (R405, R411, R419, R426); answers whether the current was clipped. -/
def pfcRefStage (s : State) : State × Bool :=
  let x := s.chg
  let r2 := rsqrt 2
  let out (u : State) (k : Nat) (v : Rat) (side : Nat) (c : Bool) : State :=
    ridgeOut u 0x5205 k (f32Of v) (Nat.lor (Nat.land side 13) (bitAt c 1))
  if x.v2l then
    let i := ob s 0x5400 9
    let j := ob s 0x5400 10
    let a := braceOutZ s i
    let b := braceOutZ s j
    let m := r2 * obF s 0x5400 4
    let n2 := a * a + b * b
    let clip := decide (m * m < n2)
    let k := if clip then m / rsqrt n2 else 1
    let z : Rat := if x.cut then 0 else 1
    (out (out s 1 (a * k * z) (brcOf s i).side clip) 2 (b * k) (brcOf s j).side clip, clip)
  else
    let i := ob s 0x5202 3
    let a := braceOutZ s i
    let m := r2 * x.iac
    let v := rclamp (-m) m a
    let c := decide (v ≠ a)
    (out (out s 1 (if x.cut then 0 else v) (brcOf s i).side c) 2 0 8 false, c)

/-- The bus set point on its ramp of 200 V/s (R415, R425). -/
def busRamp (s : State) : State :=
  match s.chg.busNow with
  | none => s
  | some w =>
    let v := slewTo (f32Val w) (obF s 0x5200 11) (mkRat 1 100)
    setChg s (fun x => { x with busNow := if v = obF s 0x5200 11 then none else some (f32Of v) })

/-- V2l.Vd (R425, R426). -/
def vdStage (s : State) : State :=
  let x := s.chg
  let top := rsqrt 2 * obF s 0x5400 1
  let f := rmin 1 (mkRat (now s - x.t0 : Nat) (max 1 (ob s 0x5400 6) * 1000000))
  let v := if x.step = 24 then top * f else if x.step = 25 then top else if x.step = 26 then x.vdFrom * (1 - f) else 0
  ridgeOut s 0x5400 11 (f32Of v) 8

/-- A since-field follows its condition. -/
def sinceOf (s : State) (on : Bool) (t : Nat) : Nat := if on then (if t = 0 then now s + 1 else t) else 0

/-- The grid is lost (R421). -/
def gridLost (s : State) : Bool :=
  let io := s.grid.io
  bit io.faults 7 || bit io.faults 0 || !io.lock
    || (phasesUsed s).any (fun k => let v := obF s 0x5203 (4 + k); decide (v < obF s 0x5203 1) || decide (obF s 0x5203 2 < v))

/-- Loss of the grid in phases 4 to 7, and its return within Grid.RideThrough, from which the session goes on at step 5 of
R415 (R421). -/
def gridStage (s : State) : State :=
  let x := s.chg
  if x.v2l ∨ x.step < 4 ∨ 7 < x.step then s
  else if gridLost s then
    setChg (pfcAll s false) (fun y => { y with gridSince := sinceOf s true y.gridSince })
  else if x.gridSince ≠ 0 ∧ now s ≤ x.gridSince - 1 + ob s 0x5203 3 * 1000000 then
    (if x.step = 4 ∧ now s < x.t0 + 20000000 then setChg s (fun y => { y with gridSince := 0 }) else pfcGoLive s)
  else s

/-- Phases 5 and 6, and the times of R413 and R416. -/
def phaseStage (s : State) : State :=
  let x := s.chg
  let i := chanVal s (ob s 0x5301 2)
  if x.step = 6 then
    let fin := decide (x.bind = 2) && decide (i < mkRat (ob s 0x5004 3) 100 * obF s 0x5004 1)
    putPhase (setChg s (fun y => { y with
      zeroSince := sinceOf s (decide (x.ilim = 0)) y.zeroSince, endSince := sinceOf s fin y.endSince })) (if x.bind = 2 then 6 else 5)
  else if x.step = 7 then setChg s (fun y => { y with posSince := sinceOf s (decide (0 < x.ilim)) y.posSince })
  else s

/-- Energy of the session in kWh, the timer's mean current and the two overload times (R414, R426, R427). -/
def meterStage (s : State) (clip : Bool) : State :=
  let x := s.chg
  let v := chanVal s (ob s 0x5301 1)
  let i := chanVal s (ob s 0x5301 2)
  if x.step = 0 then s
  else
    let e := x.energy + v * i
    let s1 := putOb s 0x5003 7 (f32Of (e / 72000000000))
    let lim := rmin (obF s 0x5400 5) (zeroIn s 0x5005 2)
    let live := decide (24 ≤ x.step) && decide (x.step ≤ 25)
    setChg s1 (fun y => { y with
      energy := e, iSum := y.iSum + i, iNum := y.iNum + 1, overSince := sinceOf s (live && clip) y.overSince,
      overPow := sinceOf s (live && decide (lim < rabs (v * i))) y.overPow })

/-- The output has read good for 2 s after BATTERY_LOST: its cause clears (R420). -/
def lostStage (s : State) : State :=
  if !s.chg.lost then s
  else
    let ch := ob s 0x5301 1
    let v := chanVal s ch
    let t := sinceOf s (chanGood s ch && decide (obF s 0x5301 4 ≤ v) && decide (v ≤ obF s 0x5301 5)) s.chg.okSince
    if t ≠ 0 ∧ t - 1 + 2000000000 ≤ now s then
      clearDet (setChg s (fun y => { y with lost := false, okSince := 0 })) (0x5300 * 16)
    else setChg s (fun y => { y with okSince := t })

/-- A phase channel in use has not stayed below V2l.BackfeedLevel (R425). -/
def backfeedStage (s : State) : State :=
  if s.chg.step = 21 ∧ (phasesUsed s).any (fun k => decide (obF s 0x5400 8 ≤ rabs (chanVal s (ob s 0x3300 (3 + k))))) then
    setChg s (fun y => { y with backfeed := true })
  else s

/-- One evaluation of the limit stage (R405, R410 to R412, R416, R421, R426). -/
def chgLimitStage (s : State) : State :=
  let s1 := quadStage (vrmsStage (setChg s (fun x => { x with limAt := now s })))
  let s2 := if fnState s .charger = .run ∧ !s.chg.v2l then chgLimits s1 else setChg s1 (fun x => { x with bind := 0 })
  let s3 := pfcRefStage (vdStage (idcStage (busRamp s2)))
  lostStage (backfeedStage (meterStage (phaseStage (gridStage s3.1)) s3.2))

/-- Charger.Status (R427). -/
def chgStatus (s : State) : Nat :=
  let x := s.chg
  x.bind * 4096 + bitAt (x.v2l && decide (x.step ≠ 0)) 7 + bitAt (decide (obF s 0x5017 0 < 1)) 6 + bitAt x.dab 5
    + bitAt (decide (x.pfc ≠ 0)) 4 + bitAt x.main 3 + bitAt (cpS2High s) 2 + bitAt x.pwm 1 + bitAt (plugDetected s) 0

end Sys2Proof.Machine
end

