-- ==== Sys2Proof/Machine/ActOps.lean ====
section
/-! DEFINITION. The sequencers of the Pump, the Park lock and the Clutch as operations, and their status words (R469 to
R485). -/

namespace Sys2Proof.Machine

/-- Status of actuator drive n (R485). -/
def actStatus (s : State) (n : Nat) : Nat :=
  let x := actOf s n
  let m := match x.mode with | .off => 0 | .drive => 1 | .brake => 2
  (match actSector s n with | none => 7 | some k => k) * 256 + m * 64
    + bitAt (decide (x.mode = .drive) && decide (f32Val x.duty < 0)) 5 + bitAt x.refreshed 4 + bitAt x.ilim 3 + bitAt x.itrip 2
    + bitAt (decide (ob s 0x5E00 1 = 1)) 1 + bitAt (decide (x.mode ≠ .off)) 0

/-- Pump.Status (R473). -/
def pumpStatus (s : State) : Nat :=
  let x := s.pump
  bitAt x.boost 3 + bitAt x.windmill 2 + bitAt x.brake 1 + bitAt x.on 0

/-- A speed in rpm in the units of Rod.Rate (R470). -/
def pumpRate (s : State) (rpm : Rat) : Int := rround (rpm * (ob s 0x5C03 1 : Nat) / 60 * (2 ^ 36 : Nat) / 200000000)

/-- Pump.Speed: the speed of rod 6 in rpm (R473). -/
def pumpSpeed (s : State) : Rat := wordHz (rodRate (rodAt s 6)) * 60 / (max 1 (ob s 0x5C03 1) : Nat)

/-- Write the set duty of a sequencer, signed by whether it drives against direction `dir` 0. -/
def seqWord (s : State) (n : Nat) (duty : Rat) (fwd : Bool) : State :=
  setAct s n { actOf s n with word := f32Of (if fwd then duty else -duty) }

/-- Preset the speed brace of the Pump (R471). -/
def pumpPreset (s : State) (v : Rat) : State := presetBrace s (ob s 0x5C03 10) (f32Of v)

/-- The mechanical speed of a drive in rpm, signed (R331). -/
def drvRpm (s : State) (x : Drv) : Rat := 60 * drvHz s x / (max 1 (ob s (drvBase x + 3) 1) : Nat)

/-- Vehicle speed of R477 in km/h. -/
def parkSpeed (s : State) : Rat :=
  rmax (rabs (drvRpm s .a) * obF s 0x5C14 2) (rabs (drvRpm s .b) * obF s 0x5C14 3)

/-- The speed limit in the units of a drive's rod, rounded to nearest (R477); with a factor of 0 the drive is left out and
the limit reads 0. -/
def parkLimit (s : State) (x : Drv) (k : Nat) : Nat :=
  let f := obF s 0x5C14 k
  if f = 0 then 0
  else
    let rpm := obF s 0x5C14 1 / f
    (iclamp 0 2147483647 (rround (rpm * (ob s (drvBase x + 3) 1 : Nat) / 60 * (2 ^ 36 : Nat) / 200000000))).toNat

/-- The limits of the interlock are formed again (R477). -/
def parkLimits (s : State) : State := putOb (putOb s 0x5C14 4 (parkLimit s .a 2)) 0x5C14 5 (parkLimit s .b 3)

/-- The report of the Park lock as it reads (R474). -/
def parkReport (s : State) : Nat :=
  if fnState s .parkLock = .shored ∨ fnState s .parkLock = .lockout then 0
  else if s.plock.seq ≠ 0 then 3 else s.plock.report

/-- The Park lock leaves its engaged report while the Charger is in ARMED or RUN: PARK_RELEASED (R401). -/
def parkLeft (before : Nat) (s : State) : State :=
  if before = 2 ∧ parkReport s ≠ 2 ∧ fnLive s .charger ∧ s.chg.step ≠ 0 then chgL3 s 12 else s

/-- ParkLock.Status (R478). -/
def parkStatus (s : State) : Nat :=
  let x := s.plock
  bitAt x.sf4 7 + bitAt x.tooth 6 + bitAt (decide (x.seq = 2)) 5 + bitAt (decide (x.seq = 1)) 4 + parkReport s

/-- A position channel lies within a band of its block, and is fresh. -/
def posIn (s : State) (idx ch lo : Nat) : Bool :=
  let v := chanVal s (ob s idx ch)
  chanGood s (ob s idx ch) && decide (obF s idx lo ≤ v) && decide (v ≤ obF s idx (lo + 1))

/-- A report from a position: 0 unknown, 1 or 2 within a band for three consecutive readings, 3 moving (R474, R479). -/
def reportOf (good : Bool) (n1 n2 : Nat) : Nat := if !good then 0 else if 3 ≤ n1 then 1 else if 3 ≤ n2 then 2 else 3

/-- A sequence of the Park lock starts: 1 engage, 2 release. Against a sequence in progress, or one whose commutator has not
yet turned off, the commutator passes through OFF for one period (R475, R476). -/
def parkStart (s : State) (v : Nat) : State :=
  let s1 := { s with plock := { s.plock with seq := v, t0 := now s, tooth := false, sf4 := s.plock.sf4 && decide (v ≠ 1) } }
  let s2 := seqWord s1 1 (obF s 0x5C13 8) (decide (v = 1) == decide (ob s 0x5C13 9 = 0))
  if (actOf s 1).mode = .off then actEnter s2 1 .drive
  else setAct s2 1 { actOf s2 1 with next := [.off, .drive] }

/-- Slip of the Clutch in Drive B rpm (R480). -/
def clutchSlip (s : State) : Rat :=
  let fs := wordHz (rodRate (rodAt s (ob s 0x5C24 1)))
  60 * (drvHz s .b - obF s 0x5C24 2 * fs) / (max 1 (ob s 0x4803 1) : Nat)

/-- The words of rod 2 and of the shaft rod are free of STL and INV (R481). -/
def clutchRodsOk (s : State) : Bool := decide (rodBad s 2 = 0) && decide (rodBad s (ob s 0x5C24 1) = 0)

/-- The report of the Clutch as it reads (R479). -/
def clutchReport (s : State) : Nat :=
  if fnState s .clutch = .shored ∨ fnState s .clutch = .lockout then 0
  else if s.clutch.st ≠ 0 then 3 else s.clutch.report

/-- Clutch.Status (R484). -/
def clutchStatus (s : State) : Nat :=
  let x := s.clutch
  bitAt x.sync 7 + bitAt x.match_ 6 + bitAt (decide (x.st = 5 ∨ x.st = 6)) 5
    + bitAt (decide (x.st = 1 ∨ x.st = 2 ∨ x.st = 3)) 4 + clutchReport s

/-- The actuator of the Clutch drives toward closed, or against it. -/
def clutchDrive (s : State) (close : Bool) : State :=
  actEnter (seqWord s 2 (obF s 0x5C23 7) (close == decide (ob s 0x5C23 8 = 0))) 2 .drive

/-- Put the Clutch's sequence into a step that begins now. -/
def clutchGo (s : State) (k : Nat) : State := { s with clutch := { s.clutch with st := k, t0 := now s, bandSince := 0 } }

/-- Drive B's target torque by the Clutch (R480, R483). -/
def clutchTorque (s : State) (t : Rat) : State := setDrv s .b { drvOf s .b with clutchT := some t }

/-- The torque of R480 in the present step. -/
def clutchAim (s : State) : Rat :=
  let l := obF s 0x5C24 (if s.clutch.st = 1 then 6 else 7)
  rclamp (-l) l (-(obF s 0x5C24 5 * clutchSlip s))

/-- Step 1 of a close (R481). -/
def clutchMatchStart (s : State) : State :=
  let s1 := clutchGo s 1
  let s2 := { s1 with clutch := { s1.clutch with sync := true, match_ := false, torqueAt := now s } }
  clutchTorque s2 (clutchAim s2)

/-- A close fails: its fault, Drive B's target back at the host's request, and where the actuator has moved its return to
the open band (R482). -/
def clutchFail (s : State) (lvl : Nat) (back : Bool) : State :=
  let s1 := clutchRelease s
  let s2 := if back then clutchGo (clutchDrive s1 false) 4 else clutchEnd s1
  raiseEv s2 .act lvl (fnCode .clutch) 1 (0x5C20 * 65536)

end Sys2Proof.Machine
end

