-- ==== Sys2Proof/Machine/Status.lean ====
section
/-! DEFINITION. What the Ledger's services read: the status objects that are formed from the state as they are read, the
objects that Read.lean keeps in their own records, the pending values of shored blocks, and the bytes of DOMAIN objects. -/

namespace Sys2Proof.Machine

/-- Converter.Status (R440). -/
def cnvStatus (s : State) : Nat :=
  let x := s.cnv
  x.bind * 4096 + bitAt x.precharged 4 + bitAt (decide (11 ≤ x.step) && decide (x.step ≤ 13)) 3 + bitAt x.buck 2 + bitAt x.dcx 1
    + bitAt x.live 0

/-- The HVIL switch is closed (R445 to R447, R493). -/
def hvilClosed (s : State) : Bool :=
  (decide (s.dev = .preop) || decide (s.dev = .operational)) && decide (ob s 0x2201 1 = 1) && decide (s.saf.disAt = 0)
    && decide (s.camp.step = 0)

/-- System.Hvil.Status (R451). -/
def hvilStatus (s : State) : Nat := bitAt (s.hvilCurrent && hvilClosed s) 1 + bitAt (hvilClosed s) 0

/-- The typed objects of block 0x2200 (R451). -/
def campCell (s : State) (sub : Nat) : Option Nat :=
  let x := s.camp
  if sub = 7 then some x.result else if sub = 8 then some x.cause else if sub = 9 then some x.sources
  else if sub = 10 then some x.entered else if sub = 11 then some x.duration else if sub = 12 then some x.holdover
  else if sub = 13 then some x.rcPeriod else none

/-- Truss.Utilisation in 0.1 % (R319): 25 ns of one of eight lanes for an evaluation. -/
def utilisation (s : State) : Nat :=
  let ms := now s / 1000000
  min 1000 ((if ms = s.evalMs then s.evalsPrev else if ms = s.evalMs + 1 then s.evals else 0) * 25 / 8000)

/-- Bytes of a row of n channel values (R325). -/
def rowBytes (n : Nat) : Nat := 8 + 4 * n

/-- Rows of n channels that the capture memory holds (R324). -/
def respCap (n : Nat) : Nat := 262144 / rowBytes (max 1 n)

/-- The 256 KiB of the capture memory hold the rows (R324). -/
def rowsFit (rs : List RespRow) : Bool := decide (rs.foldl (fun a r => a + rowBytes r.vals.length) 0 ≤ 262144)

/-- The latest rows that the memory holds. -/
def lastRows : List RespRow → List RespRow
  | [] => []
  | r :: rs => if rowsFit (r :: rs) then r :: rs else lastRows rs

/-- The memory has no room for one more row of the channels that Resp.Channels gives: it holds its capacity (R324). -/
def respFull (s : State) : Bool :=
  decide (262144 < s.resp.rows.foldl (fun a r => a + rowBytes r.vals.length) 0 + rowBytes (max 1 (ob s 0x3C29 1)))

/-- The bytes of Resp.Data (R325). -/
def respBytes (s : State) : List Byte :=
  s.resp.rows.flatMap (fun r =>
    leBytes 4 (ofInt 32 (iclamp (-2147483647) 2147483647 ((r.stamp : Int) - s.resp.trigTime))) ++ leBytes 4 r.side
      ++ r.vals.flatMap (leBytes 4))

/-- The bytes of Stat.Snapshot (R263). -/
def statBytes (s : State) (u : Nat) : List Byte :=
  let b := statBase u + 1
  leBytes 4 (ob s b 1) ++ leBytes 8 (ob64 s b 2) ++ leBytes 8 (ob64 s b 3)
    ++ [4, 5, 6, 7, 8, 9, 10].flatMap (fun k => leBytes 4 (ob s b k)) ++ leBytes 1 (ob s b 11) ++ leBytes 3 0

/-- The 16 bytes of a capture record (R195). -/
def capBytes (r : CapRec) : List Byte :=
  leBytes 8 r.stamp ++ leBytes 1 (r.edge * 32 + r.phase) ++ leBytes 3 0 ++ leBytes 4 r.pos

/-- The status objects of the System, lane, comparator and Truss domains. -/
def statusLow (s : State) (idx sub : Nat) : Option Nat :=
  if idx = 0x2010 then some (trussLoad (viewNow s)).floor.toNat
  else if idx = 0x2011 then some (ridgeLoad s (viewNow s) / 1000).floor.toNat
  else if idx = 0x2101 then some (linkStatus s)
  else if idx = 0x2105 then some (protSeal s (sub - 1))
  else if idx = 0x2200 then campCell s sub
  else if idx = 0x2201 ∧ sub = 2 then some (hvilStatus s)
  else if idx = 0x2900 then some (laneSeal s (sub - 1))
  else if idx = 0x2902 then some (levelWord s sub)
  else if 0x2A00 ≤ idx ∧ idx < 0x2A10 ∧ sub = 6 then some (tabGet [] s.caps (idx - 0x2A00)).length
  else if 0x3800 ≤ idx ∧ idx < 0x3C00 ∧ sub = 0x16 then some (winStatus s ((idx - 0x3800) / 0x20))
  else if 0x3800 ≤ idx ∧ idx < 0x3C00 ∧ sub = 0x1B then some (winSeal s ((idx - 0x3800) / 0x20))
  else if idx = 0x3C00 ∧ sub = 4 then some (utilisation s)
  else if idx = 0x3C20 ∧ sub = 10 then some s.inj.st
  else if idx = 0x3C29 then
    (if sub = 8 then some s.resp.st else if sub = 9 then some s.resp.rows.length
     else if sub = 10 then some (s.resp.trig.getD 0) else if sub = 11 then some s.resp.trigTime else none)
  else if 0x3D00 ≤ idx ∧ idx < 0x4000 ∧ (idx - 0x3D00) % 4 = 3 ∧ sub = 10 then some (braceStatus s ((idx - 0x3D00) / 4))
  else none

/-- The status objects of the function domains. -/
def statusFn (s : State) (idx sub : Nat) : Option Nat :=
  if idx = 0x4002 then some (drvStatus s .a) else if idx = 0x4802 then some (drvStatus s .b)
  else if idx = 0x4701 then some (protStatus s .a) else if idx = 0x4F01 then some (protStatus s .b)
  else if idx = 0x5002 then some (chgStatus s)
  else if idx = 0x5802 then some (cnvStatus s)
  else if idx = 0x5C02 then some (pumpStatus s)
  else if idx = 0x5C07 then some (f32Of (pumpSpeed s))
  else if idx = 0x5C12 then some (parkStatus s)
  else if idx = 0x5C22 then some (clutchStatus s)
  else if idx = 0x5C25 ∧ sub = 1 then some (f32Of (clutchSlip s))
  else if (idx = 0x5D01 ∨ idx = 0x5D41 ∨ idx = 0x5D81) ∧ sub = 1 then some (actStatus s ((idx - 0x5D01) / 0x40))
  else none

/-- A status object as it stands now. -/
def statusCell (s : State) (a : Nat) : Option Cell :=
  ((statusLow s (a / 256) (a % 256)).orElse (fun _ => statusFn s (a / 256) (a % 256))).map cellOf

/-- The cell of an object as it stands now: a status object, else as consumers see it. -/
def cellLive (s : State) (a : Nat) : Cell := (statusCell s a).getD (cellNow s a)

/-- What an RO object of a block past its shore instant held then (R138). -/
def frozenCell (s : State) (a : Nat) : Option Cell :=
  ((blockAt a).bind (shoreOf s)).bind (fun e => (e.frozen.find? (fun x => decide (x.1 = a))).map (fun x => x.2.1))

/-- The cell of an object as the Ledger's services see it: as it stands now; an RO object of a block past its shore instant
keeps the value it held then (R138). -/
def cellShown (s : State) (a : Nat) : Cell := (frozenCell s a).getD (cellLive s a)

/-- The addresses that a row gives a block. -/
def blockAddrs (b : Nat) (r : Row) : List Nat :=
  (List.range r.count).flatMap (fun i =>
    let idx := r.base + r.stride * i
    if blockOf idx = some b then (List.range r.subs).map (fun j => oaddr idx (r.sub + j)) else [])

/-- The RO objects of a block with the values that they keep from its shore instant on, and whether the object store holds them (R138).
The objects of a twin-key transaction go on, since R517 has them read while the block is shored (DEDUCED, log 118). -/
def roCells (s : State) (b : Nat) : List (Nat × Cell × Bool) :=
  (((dictOf b).filter (fun r => decide (r.acc = .ro))).flatMap (blockAddrs b)).filterMap (fun a =>
    if a / 256 = 0x6001 ∨ a / 256 = 0x6002 then none
    else some (a, cellLive s a, (statusCell s a).isNone && (typedCell s (a / 256) (a % 256)).isNone))

/-- The bytes of a DOMAIN object of a domain. -/
def domainBlob (s : State) (a : Nat) : List Byte :=
  let idx := a / 256
  if 0x2A00 ≤ idx ∧ idx < 0x2A10 then (tabGet [] s.caps (idx - 0x2A00)).flatMap capBytes
  else if idx = 0x3C2A then respBytes s
  else if 0x7800 ≤ idx ∧ idx < 0x7A00 then statBytes s ((idx - 0x7800) / 0x10)
  else netBlob s a

/-- The cell a READ gives: the pending value while the block is shored (R138) or the transaction is open (R517). -/
def cellRead (s : State) (a : Nat) : Cell :=
  match tabFind s.saf.tkPend a with
  | some c => c
  | none => if addrShored s a then (tabFind s.pend a).getD (cellShown s a) else cellShown s a

/-- One entry of Ledger.ShoredBlocks (R147). -/
def shoredBytes (s : State) (x : Shored) : List Byte :=
  let diff := s.pend.any (fun e => decide (blockAt e.1 = some x.blk) && decide (cellAt s e.1 ≠ e.2))
  leBytes 2 x.blk ++ leBytes 1 (x.owner.getD 0xFF) ++ leBytes 1 (bitAt diff 0)

/-- Ledger.ShoredBlocks, in ascending block index (R147). -/
def shoredList (s : State) : List Byte :=
  let t := s.led.shored.foldl (fun t x => tabPut t x.blk x) ([] : Tab Shored)
  t.flatMap (fun e => shoredBytes s e.2)

/-- The bytes of a DOMAIN or STR object. -/
def domainBytes (s : State) (a : Nat) : List Byte :=
  if a = 0x101500 then shoredList s
  else if a = 0x680100 then s.tally.hist.flatMap entryBytes
  else if a = 0x681200 then (match s.tally.lockRec with | none => [] | some r => recordBytes r)
  else if a = 0x681300 then s.tally.log.flatMap recordBytes
  else if a = 0x600108 then s.saf.tkList.flatMap (fun o => leBytes 2 (o / 256) ++ leBytes 1 (o % 256) ++ leBytes 1 0)
  else if a / 256 = 0x6202 then wordsBytes ((tabGet [] s.saf.staged (a % 256 - 1)).map (fun w => w.toNat))
  else domainBlob s a

/-- The bytes of a value (R88, R89); a BF32 or F32 word is sent as its 32-bit word. -/
def valueBytes (s : State) (a : Nat) (r : Row) : List Byte :=
  if r.ty = 11 ∨ r.ty = 12 then domainBytes s a else leBytes (tySize r.ty) (cellRead s a).toNat

end Sys2Proof.Machine
end

