-- ==== Sys2Proof/Machine/NetOps.lean ====
section
/-! DEFINITION. Sending and taking up frames: the Ethernet transmit queues with the ARP look-up (R548, R554, R557), the
CAN transmit buffers (R567, R569, R573), and the frames that wait in receive buffers. -/

namespace Sys2Proof.Machine

/-- The tag of a frame: none with Eth.Vid at 0 and for gPTP, else that VID with the PCP of the frame's queue (R553, R554). -/
def ethTag (s : State) (qn kind : Nat) : Option Nat :=
  let vid := bootOb s 0x6C00 6
  if vid = 0 ∨ kind = 3 then none
  else some (ob s 0x6C00 8 / 2 ^ (4 * (4 - qn)) % 8 * 2 ^ 13 + vid)

/-- A publication's frame has been sent: it is counted, and the run of missed cycles ends (R122; DEDUCED, log 100). -/
def manSent (s : State) (m : Nat) : State := putOb (incOb s (0x1500 + m) 1) (0x1500 + m) 3 0

/-- A publication's cycle is missed (R122, R125). -/
def manLate (s : State) (m : Nat) : State :=
  putOb (incOb s (0x1500 + m) 2) (0x1500 + m) 3 (min 255 (ob s (0x1500 + m) 3 + 1))

/-- The cycle of the publication that a dropped frame carries, if any, is missed (R122; DEDUCED, log 100). -/
def dropMan (s : State) (m : Option Nat) : State :=
  match m with
  | none => s
  | some k => manLate s k

/-- Put a frame with its tag into a transmit queue of the MAC; a full queue drops it under reason 6 (R553, R554). -/
def ethPush (s : State) (qn : Nat) (f : EthOut) : State :=
  let q := tabGet [] s.net.q qn
  if 16 ≤ q.length then dropMan (incOb s 0x6C02 6) f.man
  else { s with net := { s.net with
    q := tabSet [] s.net.q qn (q ++ [{ f with tag := ethTag s qn f.kind }]), wire := match s.net.wire with | none => some qn | some w => some w } }

/-- The next hop of a destination: itself in the subnet, else the gateway (R557). -/
def nextHop (s : State) (ip : Word) : Word :=
  let own := BitVec.ofNat 32 (bootOb s 0x6C00 3)
  let mask := BitVec.ofNat 32 (bootOb s 0x6C00 4)
  if ip &&& mask = own &&& mask then ip else BitVec.ofNat 32 (bootOb s 0x6C00 5)

/-- The bytes of an ARP message the device sends: request 1 or reply 2, addresses of the two ends (R557). -/
def arpBytes (s : State) (op : Nat) (tmac : BitVec 48) (tip : Word) : List Byte :=
  let be (n x : Nat) := (leBytes n x).reverse
  be 2 1 ++ be 2 0x0800 ++ be 1 6 ++ be 1 4 ++ be 2 op ++ be 6 (bootOb s 0x6C00 2) ++ be 4 (bootOb s 0x6C00 3)
    ++ be 6 tmac.toNat ++ be 4 tip.toNat

/-- Send an ARP request for an address, broadcast, in queue 4 (R554, R557). -/
def arpAsk (s : State) (ip : Word) : State :=
  ethPush s 4 { kind := 1, mac := 0xFFFFFFFFFFFF, ip := ip, dport := 0, sport := 0, bytes := arpBytes s 1 0 ip }

/-- Send a UDP datagram: to a known Ethernet address, or through the ARP look-up, which holds one frame for each
destination and drops a further one under reason 5 (R557). `man` is the manifest whose publication it carries. -/
def udpSend (s : State) (qn : Nat) (mac : Option (BitVec 48)) (ip : Word) (dport sport : Nat) (bs : List Byte)
    (man : Option Nat := none) : State :=
  let f : EthOut := { kind := 0, mac := mac.getD 0, ip := ip, dport := dport, sport := sport, bytes := bs, man := man }
  match mac with
  | some _ => ethPush s qn f
  | none =>
    let hop := nextHop s ip
    match s.net.arp.find? (fun e => e.1 == hop && decide (now s < e.2.2 + 300000000000)) with
    | some e => ethPush s qn { f with mac := e.2.1 }
    | none =>
      if s.net.arpWait.any (fun e => e.1 == hop) then dropMan (incOb s 0x6C02 5) man
      else arpAsk { s with net := { s.net with arpWait := s.net.arpWait ++ [(hop, 1, now s, qn, f)] } } hop

/-- Base index of a controller's block (R545). -/
def canBaseIdx (cn : Nat) : Nat := 0x6D00 + 0x80 * cn

/-- The length a CAN FD frame is padded to (R102). -/
def fdLen (n : Nat) : Nat :=
  if n ≤ 8 then n else if n ≤ 12 then 12 else if n ≤ 16 then 16 else if n ≤ 20 then 20 else if n ≤ 24 then 24
  else if n ≤ 32 then 32 else if n ≤ 48 then 48 else 64

/-- Pad a CAN FD frame's data with 0xCC (R102). -/
def fdPad (bs : List Byte) : List Byte := bs ++ List.replicate (fdLen bs.length - bs.length) 0xCC

/-- Queue a frame in a controller's transmit buffers: dropped and counted while the controller is off or listens only,
and where every buffer is full (R567, R573). -/
def canSend (s : State) (cn : Nat) (f : CanOut) : State :=
  let c := canOf s cn
  if !c.on || c.listen || decide (32 ≤ c.tx.length) then
    dropMan (incOb s (canBaseIdx cn + 7) 8) (if f.use = 1 then some f.num else none)
  else setCan s cn { c with tx := c.tx ++ [f] }

/-- Cancel the pending frames that a test names and count them; an attempt and its outcome fall in one step, so no
start-of-frame is out (R574). -/
def canCancel (s : State) (cn : Nat) (p : CanOut → Bool) : State :=
  let c := canOf s cn
  let n := (c.tx.filter p).length
  let s1 := setCan s cn { c with tx := c.tx.filter (fun f => !p f) }
  putOb s1 (canBaseIdx cn + 7) 9 ((ob s (canBaseIdx cn + 7) 9 + n) % 2 ^ 32)

/-- The controller of a CAN transport. -/
def trCan : Transport → Nat
  | .can1 => 1
  | _ => 0

/-- A transport serves the Ledger: the host port at once, CAN on a controller in NORMAL that has integrated to its bus,
Ethernet once the PHY has reported link (R82, R567). -/
def trServed (s : State) (tr : Transport) : Bool :=
  match tr with
  | .host => true
  | .udp => s.net.served
  | _ =>
    let c := canOf s (trCan tr)
    c.on && c.integ && !c.listen

/-- Base index of a Waybill profile's block (R487, R508). -/
def wbIdx (p : Nat) : Nat := 0x6080 + 8 * p

/-- A Waybill frame with a stamp at or before a time waits to be taken up (R111, R507, R508). -/
def wbWaiting (s : State) (t : Nat) : Bool :=
  let ident (cn : Nat) (x : CanFrame) : Bool := !x.ide && (List.range 32).any (fun p =>
    decide (ob s (wbIdx p) 1 = 1) && decide (ob s (wbIdx p) 2 = cn + 1) && decide (bits (ob64 s (wbIdx p) 3) 10 0 = x.ident))
  s.net.rx.any (fun e => decide (e.1 ≤ t) && decide (e.2.dport = ob s 0x6040 2))
    || [0, 1].any (fun cn => (canOf s cn).fifo.any (fun e => decide (e.1 ≤ t) && ident cn e.2)
        || (canOf s cn).hpf.any (fun e => match e.2 with | none => false | some y => decide (y.1 ≤ t) && ident cn y.2))

/-- A frame that waits in a receive buffer may be taken up: 2 µs have passed since its stamp (R547). -/
def rxReady (s : State) (tr : Transport) (bs : List Byte) : Bool :=
  let old (t : Nat) : Bool := decide (t + 2000 ≤ now s)
  match tr with
  | .host => true
  | .udp =>
    match s.net.rx.find? (fun e => e.2.payload == bs) with
    | none => true
    | some e => old e.1
  | _ =>
    let c := canOf s (trCan tr)
    let hit (x : CanFrame) : Bool := x.data.take bs.length == bs
    match c.fifo.find? (fun e => hit e.2) with
    | some e => old e.1
    | none =>
      match c.hpf.find? (fun e => match e.2 with | none => false | some y => hit y.2) with
      | none => true
      | some e => (match e.2 with | none => true | some y => old y.1)

/-- Take up the oldest received frame that carries these bytes: its stamp, or now where none waits (R547). -/
def takeRx (s : State) (tr : Transport) (bs : List Byte) : Nat × State :=
  match tr with
  | .udp =>
    match s.net.rx.find? (fun e => e.2.payload == bs) with
    | none => (now s, s)
    | some e => (e.1, { s with net := { s.net with rx := s.net.rx.erase e } })
  | .host => (now s, s)
  | _ =>
    let cn := trCan tr
    let c := canOf s cn
    let hit (x : CanFrame) : Bool := x.data.take bs.length == bs
    match c.fifo.find? (fun e => hit e.2) with
    | some e => (e.1, setCan s cn { c with fifo := c.fifo.erase e })
    | none =>
      match c.hpf.find? (fun e => match e.2 with | none => false | some y => hit y.2) with
      | none => (now s, s)
      | some e =>
        (match e.2 with | none => now s | some y => y.1, setCan s cn { c with hpf := tabSet none c.hpf e.1 none })

end Sys2Proof.Machine
end

