-- ==== Sys2Proof/Machine/Ledger.lean ====
section
/-! DEFINITION. The Ledger as shared operations: frames and answers, sessions and their close, the queue of requests,
and the checks of READ and WRITE (R88 to R121). -/

namespace Sys2Proof.Machine

/-- A deferred answer: the request is answered later, when its procedure completes. -/
def deferred : Nat := 2 ^ 32

/-- The roles of a session: READ 1, WRITE 2, CONFIG 4, KEEPER 8, WITNESS 16 (R119); the host port has the first three
(R120). -/
def sessRoles (s : State) (n : Nat) : Nat :=
  let k := (sess s n).keySlot
  if k = 0xFF then 7 else (tabGet ({} : KeySlot) s.led.keySlots k).roles

/-- A session holds a role. -/
def hasRole (s : State) (n m : Nat) : Bool := decide (Nat.land (sessRoles s n) m ≠ 0)

/-- A session differs from the keeper in session, key slot and key identifier (R516). -/
def tkDistinct (s : State) (n : Nat) : Bool :=
  match s.saf.keeper with
  | none => false
  | some k =>
    decide (k ≠ n) && decide ((sess s k).keySlot ≠ (sess s n).keySlot)
      && decide ((tabGet ({} : KeySlot) s.led.keySlots (sess s k).keySlot).keyId
          ≠ (tabGet ({} : KeySlot) s.led.keySlots (sess s n).keySlot).keyId)

/-- Bytes 0 to 7 of a Ledger frame (R97). -/
def frameHead (vk session fresh plen : Nat) : List Byte :=
  leBytes 1 vk ++ leBytes 1 session ++ leBytes 4 fresh ++ leBytes 2 plen

/-- A Ledger frame with its tag, most significant byte of the tag first (R97, R98). -/
def frameOf (key : BitVec 128) (vk session fresh : Nat) (payload : List Byte) : List Byte :=
  let b := frameHead vk session fresh payload.length ++ payload
  b ++ (leBytes 8 (Config.cmac key b).toNat).reverse

/-- A frame whose tag is all zero (R115). -/
def frameZero (vk session fresh : Nat) (payload : List Byte) : List Byte :=
  frameHead vk session fresh payload.length ++ payload ++ List.replicate 8 0

/-- Largest DATA of an answer on a session's transport (R100). -/
def maxData (tr : Transport) (xl : Bool) : Nat :=
  match tr with
  | .udp => 1450
  | .host => 250
  | _ => if xl then 2026 else 42

/-- Largest Ledger frame on a transport (R100). -/
def maxFrame (tr : Transport) (xl : Bool) : Nat :=
  match tr with
  | .udp => 1472
  | .host => 256
  | _ => if xl then 2048 else 64

/-- Hand a frame of a session to its transport: UDP queue 3, or a CAN transmit buffer under identifier B + 0x08 + s
(R101, R102, R554, R569). -/
def transmit (s : State) (n : Nat) (x : Session) (mac : Option (BitVec 48)) (xl : Bool) (bs : List Byte) : State :=
  match x.tr with
  | .udp =>
    udpSend s 3 mac (BitVec.ofNat 32 (x.peer.toNat / 65536)) (x.peer.toNat % 65536) (bootOb s 0x1030 1) bs
  | .host => s
  | tr =>
    canSend s (trCan tr) { ident := bootOb s 0x1030 2 + 8 + n, classical := false, xl := xl,
                           bytes := if xl then bs else fdPad bs, use := 0, num := n }

/-- The mapping entries of a manifest in frame order (R122). -/
def manEntries (s : State) (m : Nat) : List Nat := (List.range (ob s (0x1600 + m) 0)).map (fun i => ob s (0x1600 + m) (i + 1))

/-- The functions that use the element of an object at an address: a carrier by the marks of a function on it, a
scaling table by a channel of a function, a channel's settings by the channel, the fixed rate by rod 7, a capture unit by the Charger's
pilot, any other element by its block (R127; DEDUCED, log 100). -/
def entryUsers (s : State) (a : Nat) : List Fn :=
  let i := a / 256
  let v := viewNow s
  if 0x2800 ≤ i ∧ i < 0x2880 ∧ (i - 0x2800) % 16 = 2 then
    let c := 8 + (i - 0x2800) / 16
    fnAll.filter (fun f => s.marks.any (fun m => decide (m.src = c) && decide (fnOfBlock m.blk = some f)))
  else if 0x3410 ≤ i ∧ i < 0x3414 then
    fnAll.filter (fun f => (fnChans v f).any (fun ch => decide (chanScaling v ch = i - 0x3410 + 1)))
  else if 0x3420 ≤ i ∧ i < 0x3620 ∧ 1 ≤ (i - 0x3420) % 16 ∧ 1 ≤ a % 256 ∧ a % 256 ≤ 16 then
    chanUsers s ((i - 0x3420) / 16 * 16 + (a % 256 - 1))
  else if i = 0x2B05 then rodUsers s 7
  else if 0x2A00 ≤ i ∧ i < 0x2A10 then (if i - 0x2A00 = ob s 0x5100 3 then [.charger] else [])
  else match blockOf i with
  | none => []
  | some b => fnAll.filter (fun f => decide (fnOfBlock b = some f) || fnConsumes s f b)

/-- The functions that own or consume an entry of a manifest (R127). -/
def manFns (s : State) (m : Nat) : List Fn :=
  fnAll.filter (fun f => (manEntries s m).any (fun e => (entryUsers s (e / 256)).contains f))

/-- Abort every block transfer, subscription and manifest of a session and free its slot; the blocks it shored belong to
no session, a twin-key transaction of its keeper or approved by its witness ends, and on the host port the slots, the
notifications and the shadow go (R107, R117, R519, R611). An enabled consumption manifest raises its miss fault at once
(R127). -/
def closeSession (s : State) (n : Nat) : State :=
  let x := sess s n
  if x.st = 0 then s
  else
    let bound := (List.range 32).filter (fun m => decide (ob s (0x1400 + m) 1 = 1) && decide (ob s (0x1400 + m) 4 = n))
    let s1 := bound.foldl (fun t m => putOb t (0x1400 + m) 1 0) s
    let s2 := bound.foldl (fun t m =>
      if ob t (0x1400 + m) 2 = 1 then
        raiseAllOr t (manFns t m) .com (ob t (0x1400 + m) 9) 7 ((0x1400 + m) * 65536) (0x1400 + m)
      else t) s1
    let s3 := { s2 with led := { s2.led with
      sessions := tabSet {} s2.led.sessions n {},
      queue := s2.led.queue.filter (fun q => !decide (q.ses = n)),
      subs := s2.led.subs.filter (fun q => !decide (q.ses = n)),
      xfers := tabSet none s2.led.xfers n none,
      manRx := s2.led.manRx.filter (fun e => !decide (e.1 = n)),
      shored := s2.led.shored.map (fun e => if e.owner = some n then { e with owner := none, req := none } else e),
      strikes := s2.led.strikes.map (fun e => if e.req.ses = n then { e with live := false } else e) } }
    let s4 := if x.tr = .host then
        { s3 with host := { s3.host with slots := [], notes := [], shadow := none } }
      else s3
    if s4.saf.keeper = some n ∨ (s4.saf.witness = some n ∧ s4.saf.tk = 3) then abortTk s4 0 else s4

/-- Send one frame of a session under its key with its next freshness value; one with 0xFFFF_FFFF closes the session
(R98, R116). -/
def sendFrame (s : State) (n kind : Nat) (mac : Option (BitVec 48)) (xl : Bool) (payload : List Byte) : State :=
  let x := sess s n
  let x' := { x with txFresh := x.txFresh + 1 }
  let s1 := transmit (setSess s n x') n x' mac xl (frameOf x.key (16 + kind) n x'.txFresh payload)
  if x'.txFresh = 0xFFFFFFFF then closeSession s1 n else s1

/-- The window slot's response: WIN_ABORT holds the code, and PEND clears (R609, R610). -/
def winReply (s : State) (w code : Nat) : State :=
  let x := tabGet ({} : Slot) s.host.slots w
  irq { s with host := { s.host with
    slots := tabSet {} s.host.slots w { x with pend := false }, winAbort := code, winSlot := w } } 8

/-- Requests of a session that are not answered (R111). -/
def unanswered (s : State) (n : Nat) : Nat :=
  (s.led.queue.filter (fun q => decide (q.ses = n))).length
    + (s.led.strikes.filter (fun o => o.live && decide (o.req.ses = n))).length
    + (s.led.shored.filter (fun e => match e.req with | none => false | some q => decide (q.ses = n))).length
    + (match s.saf.committing with | none => 0 | some c => if c.1.ses = n then 1 else 0)

/-- Send the answer of a request to the session that made it (R99, R103, R106); the answer to the frame with the last freshness value
closes its session (R116). -/
def answer (s : State) (q : QReq) (msg : List Byte) (code : Nat) : State :=
  match q.win with
  | some w => winReply s w code
  | none =>
    let x := sess s q.ses
    if x.st = 0 then s
    else
      let s1 := if x.tr = .host then { s with host := { s.host with answer := some msg } }
                else sendFrame s q.ses 2 (some q.mac) q.xl msg
      if q.last then closeSession s1 q.ses else s1

/-- The first six bytes of a message (R99). -/
def msgHead (svc reqid idx sub ty : Nat) : List Byte :=
  leBytes 1 svc ++ leBytes 1 reqid ++ leBytes 2 idx ++ leBytes 1 sub ++ leBytes 1 ty

/-- A success response with its type and data (R99). -/
def reply (s : State) (q : QReq) (ty : Nat) (data : List Byte) : State :=
  answer s q (msgHead (q.svc + 0x80) q.reqid.toNat q.idx q.sub ty ++ data) 0

/-- An abort with its code (R99, R130). -/
def refuse (s : State) (q : QReq) (code : Nat) : State :=
  answer s q (msgHead 0xFF q.reqid.toNat q.idx q.sub 0 ++ leBytes 4 code) code

/-- The abort, the deferral, or the success of a write service (R106). -/
def conclude (s : State) (q : QReq) (ty code : Nat) : State :=
  if code = 0 then reply s q ty [] else if code = deferred then s else refuse s q code

/-- Order of transports at equal stamps (R111). -/
def trRank : Transport → Nat
  | .udp => 0 | .can0 => 1 | .can1 => 2 | .host => 3

/-- The block a request addresses, and the blocks a write to 0x1010 to 0x1014 names (R111). -/
def reqBlocks (s : State) (q : QReq) : List Nat :=
  if 0x1010 ≤ q.idx ∧ q.idx ≤ 0x1014 ∧ q.svc = 2 then
    let v := leNat q.data
    if v = 0xFFFF then (s.led.shored.filter (fun e => decide (e.owner = some q.ses))).map (fun e => e.blk) else [v]
  else if 1 ≤ q.svc ∧ q.svc ≤ 5 then (match blockOf q.idx with | none => [] | some b => [b])
  else []

/-- A request is held while a strike or abandon of a block it addresses is in progress (R111, R140). -/
def reqHeld (s : State) (q : QReq) : Bool :=
  let bs := reqBlocks s q
  s.led.strikes.any (fun o => o.blocks.any (fun b => bs.contains b))

/-- One queued request takes effect before another (R111). -/
def reqBefore (s : State) (a b : QReq) : Bool :=
  decide (a.stamp < b.stamp)
    || (decide (a.stamp = b.stamp) && decide (trRank (sess s a.ses).tr < trRank (sess s b.ses).tr))

/-- The request that a service command carries out: the one in the queue whose message has its REQID, SVC, INDEX, SUB, TYPE and
DATA; one that is not there arrives now. -/
def queued (s : State) (r : Req) (svc idx sub : Nat) : QReq :=
  match s.led.queue.find? (fun e => decide (e.ses = r.ses) && decide (e.reqid = r.reqid) && decide (e.svc = svc)
      && decide (e.idx = idx) && decide (e.sub = sub) && decide (e.ty = r.ty) && decide (e.data = r.data)) with
  | some e => e
  | none => { ses := r.ses, reqid := r.reqid, stamp := now s, svc := svc, idx := idx, sub := sub, ty := r.ty,
              data := r.data, xl := false, mac := (sess s r.ses).mac }

/-- Remove a request from the queue. -/
def dequeue (s : State) (q : QReq) : State := { s with led := { s.led with queue := s.led.queue.erase q } }

/-- Admit a request to its service: its session is open, no earlier request waits that is not held, no Waybill frame of its
stamp or an earlier one waits, and it is not held itself; a held request stays in the queue (R111). -/
def admitted (s : State) (r : Req) (svc idx sub : Nat) : State × Option QReq :=
  let q := queued s r svc idx sub
  let s1 := dequeue s q
  if !serving s || decide ((sess s r.ses).st ≠ 2) then (s, none)
  else if s1.led.queue.any (fun e => reqBefore s e q && !reqHeld s e) || wbWaiting s q.stamp then (s, none)
  else if reqHeld s q then ({ s1 with led := { s1.led with queue := s1.led.queue ++ [q] } }, none)
  else (s1, some q)

/-- The role that a WRITE of an object demands (R119); a write of 4 to Safety.Tk.Command is for keeper or witness. -/
def writeRole (acc : Acc) (idx : Nat) (sub v : Nat) : Nat :=
  if idx = 0x6001 ∧ sub = 1 then (if v = 4 then 24 else if 1 ≤ v ∧ v ≤ 3 then 8 else 24)
  else if idx = 0x6001 ∧ sub = 5 then 16
  else if acc = .tk then 8
  else if acc = .sh ∨ (0x1010 ≤ idx ∧ idx ≤ 0x1014) ∨ (0x1400 ≤ idx ∧ idx < 0x1620) ∨ (idx = 0x6C03) then 4
  else 2

/-- A value satisfies its type's own rule at check 7: BOOL 0 or 1, F32 finite, STR printable (R88, R90). -/
def typeOk (ty : Nat) (data : List Byte) : Bool :=
  if ty = 1 then decide (leNat data ≤ 1)
  else if ty = 9 then !f32IsSpecial (leNat data)
  else if ty = 11 then data.all (fun b => decide (0x20 ≤ b.toNat) && decide (b.toNat ≤ 0x7E))
  else true

/-- The value as it is stored: a subnormal F32 becomes zero (R90). -/
def storedOf (ty : Nat) (data : List Byte) : Nat := if ty = 9 then f32Flush (leNat data) else leNat data

/-- Checks 1 to 5 of R105 of a READ, and check 6 for its empty DATA where `len` says so. -/
def checkRead (s : State) (q : QReq) : Nat :=
  match rowOf q.idx q.sub with
  | none => 0x02000007
  | some r =>
    if !hasRole s q.ses 1 then 0x04000002
    else if r.acc = .wo then 0x02000002
    else if q.ty ≠ 0 ∧ q.ty.toNat ≠ tyAt s (oaddr q.idx q.sub) r.ty then 0x02000005
    else 0

/-- Check 3 of R105: the access code permits a WRITE (R9, R517). -/
def accessCode (s : State) (q : QReq) (acc : Acc) : Nat :=
  match acc with
  | .ro => 0x02000001
  | .const => 0x02000001
  | .sh => if isShoredOpt s (blockOf q.idx) then 0 else 0x02000003
  | .tk => if s.saf.tk = 1 ∧ s.saf.keeper = some q.ses ∧ isShored s 0x6000 then 0 else 0x02000004
  | _ => 0
where
  /-- A block that exists is shored. -/
  isShoredOpt (s : State) (b : Option Nat) : Bool := match b with | none => false | some x => isShored s x

/-- Check 4 of R105: the device state and the shoring permit a WRITE (R48, R107, R138). -/
def stateCode (s : State) (q : QReq) (acc : Acc) : Nat :=
  if s.dev = .lockout then 0x03000005
  else match blockOf q.idx with
  | none => 0
  | some b =>
    match shoreOf s b with
    | none => 0
    | some e => if (acc = .sh ∨ acc = .rw) ∧ e.owner ≠ some q.ses then 0x03000006 else 0

/-- A Shore that names no block is refused before the session's role is asked (R135). -/
def shoreNoBlock (q : QReq) : Bool :=
  decide (q.idx = 0x1010) && decide (q.ty = 3) && decide (q.data.length = 2) && !isBlock (leNat q.data)

/-- Checks 1 to 7 of R105 of a WRITE, up to the conditions of single objects; 0 where all hold. Safety.Lockout.Reset is
refused with 0x0500_0004 in place of checks 4 to 8 (R497). In LOCKOUT the order of R105 stands for a Shore too (R48). -/
def checkWrite (s : State) (q : QReq) : Nat :=
  match rowOf q.idx q.sub with
  | none => 0x02000007
  | some r =>
    let acc := accAt s (oaddr q.idx q.sub) r
    if s.dev ≠ .lockout ∧ shoreNoBlock q then 0x02000006
    else if !hasRole s q.ses (writeRole acc q.idx q.sub (leNat q.data)) then 0x04000002
    else if accessCode s q acc ≠ 0 then accessCode s q acc
    else if q.idx = 0x6007 then 0x05000004
    else if stateCode s q acc ≠ 0 then stateCode s q acc
    else if q.ty.toNat ≠ r.ty then 0x02000005
    else if r.ty ≠ 11 ∧ r.ty ≠ 12 ∧ q.data.length ≠ tySize r.ty then 0x01000002
    else if r.ty = 11 ∧ 1024 < q.data.length then 0x01000002
    else if !typeOk r.ty q.data then 0x02000006
    else if r.ty ≠ 11 ∧ r.ty ≠ 12 ∧ !rngHas r.rng r.ty (leNat q.data) then 0x02000006
    else 0

/-- Conditions of check 8 of R105 that ask nothing of the value: a manifest's configuration while it is enabled (R95), the
carrier of rod 0 while a resolver uses it (R207), and the generator's settings while it runs (R321). -/
def writeCond (s : State) (idx sub : Nat) : Nat :=
  let manCfg (m : Nat) : Bool := decide (ob s (0x1400 + m) 1 = 1)
  if 0x1400 ≤ idx ∧ idx < 0x1420 ∧ sub ≠ 1 ∧ manCfg (idx - 0x1400) then 0x03000005
  else if 0x1600 ≤ idx ∧ idx < 0x1620 ∧ manCfg (idx - 0x1600) then 0x03000005
  else if idx = 0x2802 ∧ (sub = 1 ∨ sub = 3) ∧ (ob s (resBase 0) 1 = 1 ∨ ob s (resBase 1) 1 = 1) then 0x03000005
  else if idx = 0x3C20 ∧ sub ≠ 9 ∧ s.inj.st = 1 then 0x03000005
  else 0

/-- Put a WRITE's value in place: into the pending set of a shored block (R138), or in effect; a Ridge-backed object is
written with all four sideband bits clear (R636). -/
def putValue (s : State) (a v : Nat) : State :=
  if addrShored s a then { s with pend := tabPut s.pend a (cellOf v) } else setCell s a (cellOf v)

/-- The request that writes a value to an object of one byte: the rows that stand for one value of a command object. -/
def byteReq (r : Req) (ty v : Nat) : Req := { r with ty := BitVec.ofNat 8 ty, data := [BitVec.ofNat 8 v] }

/-- Serve a WRITE-type request: take it in, check it, run its effect, and answer. -/
def serveWrite (s : State) (r : Req) (idx sub : Nat) (eff : State → QReq → State × Nat) : State :=
  match admitted s r 2 idx sub with
  | (s1, none) => s1
  | (s1, some q) =>
    let ty := match rowOf idx sub with | none => 0 | some w => w.ty
    let c := checkWrite s1 q
    if c ≠ 0 then refuse s1 q c
    else
      let e := eff s1 q
      conclude e.1 q ty e.2

end Sys2Proof.Machine
end

