-- ==== Sys2Proof/Machine/Acquire.lean ====
section
/-! DEFINITION. The commands of the Acquisition and Statistics domains (R224 to R263). -/

namespace Sys2Proof.Machine

/-- The first event on its way to a consumer, and the state without it. -/
def takeTrig (s : State) (kind num : Nat) : Option (TrigEv × State) :=
  match s.trigs.find? (fun e => decide (e.kind = kind) && decide (e.num = num)) with
  | none => none
  | some e => some (e, { s with trigs := s.trigs.erase e })

/-- Device time of a trigger event. -/
def trigTime (e : TrigEv) : Nat := nsTime e.stamp + e.phase * 671088640

/-- A conversion sequence runs: its block is not shored and it has a trigger line. -/
def seqRuns (s : State) (q : Nat) : Bool :=
  running s && !isShored s (seqBase q) && decide (ob s (seqBase q) 2 ≠ 0xFF)

/-- The instance's channels miss their update (R229). -/
def missSeq (s : State) (q : Nat) : State := (seqChans s q).foldl missChan s

/-- A thermal sample of a die sensor or an NTC slot is due on a converter: it comes before other work in a gap (R585). -/
def thermDue (s : State) (c : Nat) : Bool :=
  let due (p : Nat) : Bool := (tabGet ({} : Sensor) s.therm.sensors p).seen && decide ((tabGet ({} : Sensor) s.therm.sensors p).due ≤ now s)
  due (c / 2) || (List.range 12).any (fun n => due (n + 8) && decide (ob s (0x7040 + 8 * n) 1 < 512)
    && seqUses (viewNow s) (ob s (0x7040 + 8 * n) 1 / 16) c)

/-- A pair's check is due (R245). -/
def pairDue (s : State) (p : Nat) : Bool :=
  let x := tabGet ({} : PairChk) s.pairs p
  decide (x.lastAt = 0) || decide (x.lastAt + ob s 0x3405 0 * 1000 ≤ now s)

/-- The limits of a sequence's channels as its trigger finds them (R131). -/
def seqLims (s : State) (q : Nat) : List (Nat × Nat) := (List.range 16).map (fun k => chanLims s (16 * q + k))

/-- A trigger reaches a sequence: overrun, urgent drop, start or wait (R229, R230, R232). A conversion of the Outrider on its
converters is aborted, and the hold then comes at least 37.5 ns after the trigger's arrival in CONV (R40, R234). A trigger of an
URGENT sequence whose own instance runs is an overrun and no urgent drop (DESIGN CHOICE, log 119). -/
def seqEvent (s' : State) (q : Nat) (e : TrigEv) : State :=
  let hit := (seqConvs s' q).any (fun c => !outFree s' c (trigTime e))
  let s := abortOut s' (seqConvs s' q) (trigTime e)
  let h := trigTime e + nsTime 20
  let h1 := if hit then trigTime e + nsTime 50 else h
  if seqBusy s q then incOb s (seqBase q + 15) 1
  else if convBusy s q then
    if ob s (seqBase q) 4 = 1 then missSeq (incOb s 0x3400 (ob s (seqBase q) 1 + 1)) q
    else setSeq s q { seqOf s q with st := 1, due := h, step := 0, lims := seqLims s q, after := h1 }
  else startSeq (setSeq s q { seqOf s q with lims := seqLims s q }) q h h1

/-- The order in which trigger events of a converter are taken: by time, then URGENT sequences first, then by number (R231). -/
def trigKey (s : State) (e : TrigEv) : List Nat :=
  [e.stamp, e.phase, if ob s (seqBase e.num) 4 = 1 then 0 else 1, e.num]

/-- No trigger event that waits for a sequence on one of its converters comes before an event (R231). -/
def trigFirst (s : State) (e : TrigEv) : Bool :=
  s.trigs.all (fun x => !(decide (x.kind = 0) && (decide (x.num = e.num) || seqShare s x.num e.num) && decide (trigKey s x < trigKey s e)))

/-- SEQ_TRIGGER: the first trigger event on its way to a sequence reaches it, in its order at the converter (R175, R229 to
R232). -/
def execSeqTrigger (q : Nat) (s : State) : Host.Outcome State Fault Refusal :=
  .next (match takeTrig s 0 q with
    | none => s
    | some (e, s1) => if !trigFirst s e then s else if seqRuns s1 q then seqEvent s1 q e else s1)

/-- A waiting instance's converters became free by h + Seq.MaxWait (R229). -/
def freeInTime (s : State) (q : Nat) : Bool := decide (freeAt s q ≤ (seqOf s q).due + nsTime (ob s (seqBase q) 5))

/-- CONVERTER_FREE: the lowest-numbered instance that waits for a converter, with all its converters free, starts at the instant
they became free, and after an abort of R234 not before its time, unless that was later than Seq.MaxWait or its block is shored (R228,
R229, R233). -/
def execConverterFree (cv : Nat) (s : State) : Host.Outcome State Fault Refusal :=
  .next (match (List.range 32).find? (fun q => decide ((seqOf s q).st = 1) && seqUses (viewNow s) q cv && convFree s q) with
    | none => s
    | some q =>
      if running s ∧ !isShored s (seqBase q) ∧ freeInTime s q then
        startSeq s q (seqOf s q).due (max (freeAt s q) (seqOf s q).after)
      else s)

/-- SEQ_WAIT_DROP: an instance whose converters are not free by h + Seq.MaxWait is dropped (R229). -/
def execSeqWaitDrop (q : Nat) (s : State) : Host.Outcome State Fault Refusal :=
  .next (if running s ∧ (seqOf s q).st = 1 ∧ (seqOf s q).due + nsTime (ob s (seqBase q) 5) ≤ s.dt ∧ !(convFree s q && freeInTime s q) then
      missSeq (incOb (setSeq s q { seqOf s q with st := 0 }) (seqBase q + 15) 2) q
    else s)

/-- A DUPLEX difference above Pair.Limit is counted and confirmed; an agreeing step ends the run (R233). -/
def duplexCheck (s : State) (q : Nat) (differ : Bool) : State :=
  let x := seqOf s q
  let det := seqBase q * 16
  if differ then
    let s1 := incOb (setSeq s q { x with differ := x.differ + 1 }) (seqBase q + 15) 4
    if ob s 0x3406 0 ≤ x.differ + 1 then
      condAllOr s1 (usersOf s1 (seqChans s1 q)) .acq 3 2 (seqBase q * 65536 + 256) det
    else s1
  else clearDet (setSeq s q { x with differ := 0 }) det

/-- The words of step k of a sequence from what its conversion met: code, scaling and sideband, within the limits that its
trigger found (R225, R233, R236 to R240). -/
def stepWords (s : State) (q k : Nat) (m : AdcMeas) (lim : Nat × Nat) : State :=
  let c := ob s (seqBase q) 1
  let code := sampleCode s (muxVolt s m.src m.uv)
  let code2 := sampleCode s (muxVolt s m.src m.uv2)
  let duplex := decide (ob s (seqBase q) 4 = 2)
  let differ := duplex && decide (ob s 0x3404 (c / 2 + 1) < (code - code2) + (code2 - code))
  let bad := convBad s c || (duplex && convBad s (Nat.xor c 1))
  let sat := decide (code = 0) || decide (code = 65535)
  let s1 := if duplex then duplexCheck s q differ else s
  let raw := decide (ob s (seqBase q + 2) (k + 1) = 1)
  let s2 := if raw then ridgeOut s1 (seqBase q + 14) (k + 1) code (bitAt bad 2 + bitAt sat 1)
            else putRidge s1 (seqBase q + 14) (k + 1) code 0
  calSample (writeChan s2 (16 * q + k) code sat (bad || differ) lim) (16 * q + k) code (sat || bad || differ)

/-- CONVERSION_COMPLETE: a step's conversion of the input that its mux code selects, with the voltages that the converter and its
partner see, is written to Ridge (R224, R227, R233). -/
def execConversionComplete (q k : Nat) (src : AdcIn) (uv : Int × Int) (s : State) : Host.Outcome State Fault Refusal :=
  let x := seqOf s q
  let m : AdcMeas := { src := src, uv := uv.1, uv2 := uv.2 }
  .next (if !running s ∨ x.st ≠ 2 ∨ x.step ≠ k ∨ s.dt < x.hold + nsTime (125 * k)
      ∨ muxInput (ob s (seqBase q) 1) (ob s (seqBase q + 1) (k + 1)) ≠ some m.src then s
    else
      stepWords (setSeq s q { x with step := k + 1, st := if ob s (seqBase q) 3 ≤ k + 1 then 3 else 2 }) q k m
        (x.lims.getD k (chanLims s (16 * q + k))))

/-- The object that takes a channel's calibration command (R237, R255). -/
def calCmdAt (ch : Nat) : Nat × Nat :=
  if ch < 512 then (seqBase (ch / 16) + 10, ch % 16 + 1) else (sdBase (ch - 512) + 1, 10)

/-- Cal.State of a channel's sequence or demodulator. -/
def calState (s : State) (ch : Nat) : Nat :=
  if ch < 512 then ob s (seqBase (ch / 16) + 15) 5 else ob s (sdBase (ch - 512) + 1) 0xB

/-- Start a capture; one for another step discards the points held (R243). -/
def calStart (s : State) (ch side : Nat) : State :=
  let x := calOf s ch
  let x1 : CalCap := if x.step = ch % 16 then x else {}
  putCalState (setCal s ch { x1 with step := ch % 16, taking := side, n := 0, sum := 0, startAt := now s }) ch
    (if side = 1 then 1 else 3)

/-- Persist the coefficients of a channel at once (R242, R244). -/
def calPersist (s : State) (ch : Nat) : State :=
  let a5 := chanSet s ch 5
  let a6 := chanSet s ch 6
  let s1 := persistAt (persistAt s (oaddr a5.1 a5.2)) (oaddr a6.1 a6.2)
  { s1 with led := { s1.led with stored := tabSet 0 s1.led.stored (chanBlock ch) (now s + 1) } }

/-- Put coefficients in place (R244). -/
def calPut (s : State) (ch g o : Nat) : State :=
  let a5 := chanSet s ch 5
  let a6 := chanSet s ch 6
  calPersist (putOb (putOb s a5.1 a5.2 g) a6.1 a6.2 o) ch

/-- Command 3: gain and offset from the two captures, formed in binary64, refused where the codes or the true values do not differ enough
(R244). -/
def calSolve (s : State) (ch : Nat) : State × Nat :=
  let x := calOf s ch
  match x.low, x.high with
  | some l, some h =>
    let cl : Rat := mkRat l 256
    let chh : Rat := mkRat h 256
    if rabs (chh - cl) < 1024 ∨ chanF s ch 7 = chanF s ch 8 then (putCalState s ch 5, 0x02000006)
    else
      let g := r64 (r64 (chanF s ch 8 - chanF s ch 7) / (chh - cl))
      (putCalState (setCal (calPut s ch (f32Of g) (f32Of (r64 (chanF s ch 7 - r64 (g * cl))))) ch {}) ch 0, 0)
  | _, _ => (s, 0x03000005)

/-- A write to Chan.CalCommand: the refusals of R241, then the command (R242). -/
def doCal (ch : Nat) (s : State) (q : QReq) : State × Nat :=
  let v := leNat q.data
  let st := calState s ch
  let t := tabGet 0 s.led.stored (chanBlock ch)
  if calBar s ch ≠ 0 then (s, calBar s ch)
  else if (st = 1 ∨ st = 3) ∧ (calOf s ch).taking ≠ 0 ∧ (calOf s ch).step ≠ ch % 16 then (s, 0x03000005)
  else if v = 1 ∨ v = 2 then (calStart s ch v, 0)
  else if v = 3 then
    if st ≠ 4 ∨ (calOf s ch).step ≠ ch % 16 then (s, 0x03000005)
    else if t ≠ 0 ∧ now s < t - 1 + 10000000000 then (s, 0x03000009)
    else calSolve s ch
  else if v = 4 then (calPut s ch 0 0, 0)
  else (putCalState (setCal s ch {}) ch 0, 0)

/-- A calibration command of a channel. -/
def calCmd (r : Req) (ch : Nat) (s : State) : State := serveWrite s r (calCmdAt ch).1 (calCmdAt ch).2 (doCal ch)

/-- CAL_CAPTURE_LOW: calibration command 1 (R242). -/
def execCalCaptureLow (r : Req) (ch : Nat) (s : State) : Host.Outcome State Fault Refusal := .next (calCmd r ch s)

/-- CAL_CAPTURE_HIGH: calibration command 2 (R242). -/
def execCalCaptureHigh (r : Req) (ch : Nat) (s : State) : Host.Outcome State Fault Refusal := .next (calCmd r ch s)

/-- CAL_COMPUTE: calibration command 3 (R244). -/
def execCalCompute (r : Req) (ch : Nat) (s : State) : Host.Outcome State Fault Refusal := .next (calCmd r ch s)

/-- CAL_CLEAR: calibration command 4 (R242). -/
def execCalClear (r : Req) (ch : Nat) (s : State) : Host.Outcome State Fault Refusal := .next (calCmd r ch s)

/-- CAL_ABANDON: calibration command 5 (R242). -/
def execCalAbandon (r : Req) (ch : Nat) (s : State) : Host.Outcome State Fault Refusal := .next (calCmd r ch s)

/-- CAL_CAPTURE_DONE: with 256 fresh conversions the mean code is held (R243). -/
def execCalCaptureDone (ch : Nat) (s : State) : Host.Outcome State Fault Refusal :=
  let x := calOf s ch
  .next (if !running s ∨ x.taking = 0 ∨ x.step ≠ ch % 16 ∨ x.n < 256 then s
    else if x.taking = 1 then
      putCalState (setCal s ch { x with low := some x.sum, taking := 0 }) ch (if x.high.isSome then 4 else 2)
    else putCalState (setCal s ch { x with high := some x.sum, taking := 0 }) ch (if x.low.isSome then 4 else 3))

/-- CAL_CAPTURE_TIMEOUT: a capture without 256 conversions in 10 s fails (R243). -/
def execCalCaptureTimeout (ch : Nat) (s : State) : Host.Outcome State Fault Refusal :=
  let x := calOf s ch
  .next (if running s ∧ x.taking ≠ 0 ∧ x.step = ch % 16 ∧ x.n < 256 ∧ x.startAt + 10000000000 ≤ now s then
      putCalState (setCal s ch { x with taking := 0 }) ch 5
    else s)

/-- A test's state in the running cycle. -/
def testOf (s : State) (t : Nat) : TestRun := tabGet {} s.outr.tests t

/-- Outrider.Test.Status (R596). No test is in progress between two commands. -/
def testWord (x : TestRun) : Nat := bitAt x.starved 2 + bitAt x.failed 1 + bitAt x.done 0

/-- Write a test's state and its status word. -/
def setTest (s : State) (t : Nat) (x : TestRun) : State :=
  putOb { s with outr := { s.outr with tests := tabSet {} s.outr.tests t x } } (0x7410 + t) 1 (testWord x)

/-- The functions that consume a channel of a converter. -/
def convUsers (s : State) (c : Nat) : List Fn :=
  usersOf s ((List.range 32).flatMap (fun q => if seqUses (viewNow s) q c then seqChans s q else []))

/-- The functions that consume a channel of a pair's converters. -/
def pairUsers (s : State) (p : Nat) : List Fn := (convUsers s (2 * p) ++ convUsers s (2 * p + 1)).eraseDups

/-- A pair has had no check within twice Pair.CheckPeriod (R245). -/
def pairLate (s : State) (p : Nat) : Bool :=
  decide ((tabGet ({} : PairChk) s.pairs p).lastAt + 2 * ob s 0x3405 0 * 1000 ≤ now s)

/-- A starved test is counted and raises TST at L1; at StarveLimit cycles in a row also TST at L3 against the functions that use
what it has not reached (R594). -/
def testStarve (s : State) (t : Nat) (fs : List Fn) : State :=
  let b := 0x7410 + t
  let n := min 255 (ob s b 5 + 1)
  let s1 := putOb (incOb s b 4) b 5 n
  let s2 := condRaise s1 .tst 1 0 7 (b * 65536 + 256) (0x74000000 + 2 * t)
  if ob s 0x7400 2 ≤ n then condAllOr s2 fs .tst 3 7 (b * 65536 + 256) (0x74000001 + 2 * t) else s2

/-- Test 1 starves at the deadline of R245, once in a cycle (R594). -/
def pairStarve (s : State) : State :=
  let x := testOf s 1
  if x.early then s
  else
    testStarve (setTest s 1 { x with starved := true, early := true }) 1
      (((List.range 8).filter (pairLate s)).flatMap (pairUsers s)).eraseDups

/-- A pair's check passes or fails; Pair.FaultCount of either in a row change Pair.Status (R245, R246). -/
def pairResult (s : State) (p : Nat) (failed : Bool) : State :=
  let x := tabGet ({} : PairChk) s.pairs p
  let n := ob s 0x3406 0
  let det := 0x3400 * 16 + p
  let x1 := { x with fails := if failed then x.fails + 1 else 0, passes := if failed then 0 else x.passes + 1, lastAt := now s }
  let s1 := { s with pairs := tabSet {} s.pairs p x1 }
  let s2 := if failed then incOb s1 0x3409 (p + 1) else s1
  let st := ob s2 0x3407 (p + 1)
  let chs := (List.range 32).flatMap (fun q =>
    if seqUses (viewNow s2) q (2 * p) ∨ seqUses (viewNow s2) q (2 * p + 1) then seqChans s2 q else [])
  if n ≤ x1.fails then condAllOr (putOb s2 0x3407 (p + 1) 1) (usersOf s2 chs) .acq 3 2 (0x34030000 + (p + 1) * 256) det
  else if n ≤ x1.passes ∧ st = 1 then clearDet (putOb s2 0x3407 (p + 1) 0) det
  else if st = 2 then putOb s2 0x3407 (p + 1) 0 else s2

/-- PAIR_CHECK: both converters of a pair convert Pair.CheckInput in a gap, not more often than every Pair.CheckPeriod and after
the thermal samples due there, and their codes are compared (R234, R245, R246, R585). One without a gap in twice the period is
reported as starved (R245, R594). -/
def execPairCheck (p : Nat) (src : AdcIn) (uv : Int × Int) (s : State) : Host.Outcome State Fault Refusal :=
  let cs := [2 * p, 2 * p + 1]
  .next (if !running s ∨ isShored s 0x3400 ∨ !pairDue s p
      ∨ muxInput (2 * p) (ob s 0x3403 (p + 1)) ≠ some src then s
    else
      let o := if !outDone s 1 p cs && cs.any (thermDue s) then (s, false) else outConv s 1 p cs 1
      if o.2 then
        let d : Int := (sampleCode s (muxVolt s src uv.1) : Int) - sampleCode s (muxVolt s src uv.2)
        pairResult (putOb o.1 0x3408 (p + 1) (ofInt 32 d)) p (decide (ob s 0x3404 (p + 1) < d.natAbs))
      else if pairLate s p ∧ cs.any (fun c => outFree o.1 c s.dt) then pairStarve o.1
      else o.1)

/-- A demodulator. -/
def sdOf (s : State) (d : Nat) : Demod := tabGet {} s.sd d

/-- A demodulator is enabled, clocked and past its first settling time (R254). -/
def sdActive (s : State) (d : Nat) (x : Demod) : Bool :=
  decide (ob s (sdBase d) 1 = 1) && !x.clk && decide (3 * ob s (sdBase d) 3 ≤ x.clocks)

/-- Write a demodulator and its status word (R254). -/
def setSd (s : State) (d : Nat) (x : Demod) : State :=
  putOb { s with sd := tabSet {} s.sd d x } (sdBase d + 2) 4
    (bitAt x.clk 3 + bitAt x.stuck 2 + bitAt x.ovr 1 + bitAt (sdActive s d x) 0)

/-- n modulator clocks of a demodulator in ns, truncated (R248). -/
def sdClocks (s : State) (d n : Nat) : Nat := n * sdcDivider (viewNow s) d * 5 / 8

/-- A demodulator's fault is confirmed: counted, and ACQ at L3 against the functions that consume its channel (R254). -/
def sdFault (s : State) (d i : Nat) : State :=
  condAllOr (incOb s (sdBase d + 2) 5) (chanUsers s (512 + d)) .acq 3 2 (sdBase d * 65536 + 256) (sdBase d * 16 + i)

/-- A demodulator is enabled and not shored. -/
def sdOn (s : State) (d : Nat) : Bool := running s && decide (ob s (sdBase d) 1 = 1) && !isShored s (sdBase d)

/-- A demodulator runs: its modulator clock is not shored either. -/
def sdRuns (s : State) (d : Nat) : Bool := sdOn s d && !isShored s 0x3700

/-- Sum of the bits of a history weighted by their age (R250, R252). -/
def sincSum (h : Nat → Nat) : List Bool → Nat → Nat
  | [], _ => 0
  | b :: bs, i => (if b then h i else 0) + sincSum h bs (i + 1)

/-- Weights of a sinc2 filter of length n, which sum to n². -/
def sinc2 (n i : Nat) : Nat := if i < n then i + 1 else 2 * n - 1 - i

/-- Weights of a sinc3 filter of length n, which sum to n³. -/
def sinc3 (n i : Nat) : Nat :=
  let c (k : Nat) : Nat := if k ≤ i then (i - k + 1) * (i - k + 2) / 2 else 0
  if 3 * n - 2 ≤ i then 0 else c 0 + 3 * c (2 * n) - 3 * c n

/-- Filter value for a weighted sum out of its greatest: a ones density D gives (2D − 1) × 2^23, rounded to nearest (R250; DESIGN
CHOICE, log 21). -/
def sincValue (sum full : Nat) : Int := rround ((mkRat (2 * sum : Nat) full - 1) * (2 ^ 23 : Nat))

/-- Clip to 24 bits (R250). -/
def sdClip (v : Int) : Int := iclamp (-8388608) 8388607 v

/-- The windows on a demodulator's protection filter take its value at a time, unless the demodulator reports CLK (R252, R266,
R268). -/
def protWindows (s : State) (d : Nat) (v : Int) (t : Nat) : State :=
  (List.range 28).foldl (fun u w => if ob u (winBase w) 2 = 0x40 + d ∧ winRuns u w then winSample u w v t else u) s

/-- The data output of a demodulator (R250, R254): its value, SAT where it was clipped, and INV while it is stuck; none before its
first settling time. -/
def sdOutput (s : State) (d : Nat) : State :=
  let x := sdOf s d
  let n := ob s (sdBase d) 3
  if x.clocks < 3 * n then s
  else
    let raw := sincValue (sincSum (sinc3 n) x.hist 0) (n ^ 3)
    let v := sdClip raw
    let clip := decide (v ≠ raw)
    let s1 := setSd s d { x with ovr := clip, sinceOut := 0 }
    let s2 := putOb (if clip then incOb s1 (sdBase d + 2) 6 else s1) (sdBase d + 2) 2 (ofInt 32 v)
    calSample (writeChan s2 (512 + d) v clip x.stuck (chanLims s2 (512 + d))) (512 + d) v (clip || x.stuck)

/-- One modulator clock: the bit of the edge that Sd.Edge names enters both filters, the protection filter gives its value, STUCK
clears, and FREE gives an output every Sd.Osr clocks (R249, R250, R252, R254). -/
def sdClock (d t : Nat) (s : State) (b : SdBit) : State :=
  let x := sdOf s d
  let v := if ob s (sdBase d) 8 = 1 then b.fall else b.rise
  let lim := ob s (sdBase d) 7
  let same := if x.hist.head? = some v then x.same + 1 else 0
  let okFor := if lim ≤ same then 0 else x.okFor + 1
  let free := x.stuck && decide (lim ≤ okFor)
  let y := { x with clocks := x.clocks + 1, sinceOut := x.sinceOut + 1, hist := (v :: x.hist).take 768, same := same, okFor := okFor,
                    stuck := x.stuck && !free }
  let s1 := setSd s d y
  let s2 := if free then clearDet s1 (sdBase d * 16 + 2) else s1
  let n := ob s (sdBase d) 6
  let s3 := if y.clocks < 2 * n then s2
    else
      let p := sdClip (sincValue (sincSum (sinc2 n) (y.hist.take (2 * n - 1)) 0) (n ^ 2))
      protWindows (putOb s2 (sdBase d + 2) 3 (ofInt 32 p)) d p t
  if ob s (sdBase d) 4 = 0 ∧ ob s (sdBase d) 3 ≤ y.sinceOut then sdOutput (setSd s3 d { sdOf s3 d with sinceOut := 0 }) d else s3

/-- The clocks of a command in order, the last one at a time in phases and the others one clock period apart (R248). -/
def sdClocksIn (d per t : Nat) : List SdBit → State → State
  | [], s => s
  | b :: bs, s => sdClocksIn d per t bs (sdClock d (t - bs.length * per) s b)

/-- SD_OUTPUT: the modulator clocks up to now, with SDDd as seen at their rising and at their falling edges, enter a demodulator; in
TRIG the first trigger event on its way then gives an output (R248 to R254). While its clock has failed or stands still with block
0x3700 shored no bit comes and a scheduled output is missed (R23, R27, R254). -/
def execSdOutput (dm : Nat) (rise fall : List Bool) (s : State) : Host.Outcome State Fault Refusal :=
  let x := sdOf s dm
  let bs := List.zipWith SdBit.mk rise fall
  .next (if !sdOn s dm then s
    else if x.clk ∨ isShored s 0x3700 then
      (if ob s (sdBase dm) 4 = 1 then
        (match takeTrig s 2 dm with
        | none => s
        | some (_, s1) => missChan s1 (512 + dm))
      else if x.lastAt + sdClocks s dm (ob s (sdBase dm) 3) ≤ now s then missChan (setSd s dm { x with lastAt := now s }) (512 + dm)
      else s)
    else if now s < x.startAt + sdClocks s dm (x.clocks + bs.length) then s
    else
      let s1 := sdClocksIn dm (4 * sdcDivider (viewNow s) dm) (outNow s) bs s
      let s2 := setSd s1 dm { sdOf s1 dm with lastAt := now s }
      if ob s (sdBase dm) 4 = 1 then
        (match takeTrig s2 2 dm with
        | none => s2
        | some (_, s3) => sdOutput s3 dm)
      else s2)

/-- The level of a modulator clock's ball: low at divider 0, else a square wave of 1.6 GHz / Sdc.Divider (R248). -/
def sdcBall (s : State) (k : Nat) : Bool :=
  let d := ob s 0x3700 (k + 1)
  decide (d ≠ 0) && decide (outNow s % (4 * d) < 2 * d)

/-- SDC_FAULT: the readback of a modulator clock's ball has missed edges or seen extra ones; at the fourth CLK is confirmed on its
demodulators, and their channels miss their updates (R248, R254). -/
def execSdcFault (r : SdcSeen) (s : State) : Host.Outcome State Fault Refusal :=
  let k := r.clock
  let n := (tabGet ({} : SdcRead) s.sdc k).bad + r.missing + r.extra
  .next (if !running s ∨ ob s 0x3700 (k + 1) = 0 ∨ isShored s 0x3700 ∨ r.missing + r.extra = 0 then s
    else
      let s1 := { s with sdc := tabSet {} s.sdc k { bad := n, badAt := now s } }
      if n < 4 then s1
      else (List.range 24).foldl (fun t d =>
        if sdRuns t d ∧ ob t (sdBase d) 2 = k ∧ !(sdOf t d).clk then
          missChan (sdFault (setSd t d { sdOf t d with clk := true, lastAt := now t }) d 3) (512 + d)
        else t) (putOb s1 0x3701 (k + 1) 2))

/-- SDC_CLOCK_RETURN: correct edges for Sd.StuckLimit clocks end CLK, and the demodulators resume output (R254). -/
def execSdcClockReturn (k : Nat) (s : State) : Host.Outcome State Fault Refusal :=
  let x := tabGet ({} : SdcRead) s.sdc k
  let ours (d : Nat) : Bool := decide (ob s (sdBase d) 2 = k)
  .next (if !running s ∨ ob s 0x3701 (k + 1) ≠ 2 then s
    else
      let s1 := (List.range 24).foldl (fun t d =>
        if (sdOf t d).clk ∧ ours d ∧ x.badAt + sdClocks t d (ob t (sdBase d) 7) ≤ now t then
          clearDet (setSd t d { sdOf t d with clk := false }) (sdBase d * 16 + 3)
        else t) s
      if (List.range 24).any (fun d => (sdOf s1 d).clk && ours d) then s1
      else putOb { s1 with sdc := tabSet {} s1.sdc k {} } 0x3701 (k + 1) 1)

/-- SD_STUCK: SDDd has not changed for Sd.StuckLimit clocks: STUCK is confirmed and the channel carries INV (R254). -/
def execSdStuck (dm : Nat) (s : State) : Host.Outcome State Fault Refusal :=
  .next (if sdRuns s dm ∧ !(sdOf s dm).stuck ∧ !(sdOf s dm).clk ∧ ob s (sdBase dm) 7 ≤ (sdOf s dm).same then
      sdFault (setSd s dm { sdOf s dm with stuck := true }) dm 2
    else s)

/-- A statistic unit runs. -/
def statRuns (s : State) (u : Nat) : Bool :=
  running s && decide (ob s (statBase u) 7 = 1) && !isShored s (statBase u)

/-- STAT_BOUNDARY: a boundary that has come takes effect in the first RIDGE cycle at least 5 ns after it (R258 to R262). -/
def execStatBoundary (u : Nat) (s : State) : Host.Outcome State Fault Refusal :=
  .next (if statRuns s u then statDue s u else s)

/-- STAT_TIMEOUT: a period that has lasted Stat.MaxPeriod ends there; a boundary that passed by then ends it instead (R261). -/
def execStatTimeout (u : Nat) (s : State) : Host.Outcome State Fault Refusal :=
  let x := statOf s u
  let e := x.start + ob s (statBase u) 6 * 1000000
  .next (if statRuns s u ∧ x.on ∧ e ≤ now s then
      (match x.due with
      | some t => if t ≤ nsTime e then statDue s u else statLatch s u e true
      | none => statLatch s u e true)
    else s)

end Sys2Proof.Machine
end

