-- ==== Sys2Proof/Machine/AfterCfg.lean ====
section
/-! DEFINITION. What follows a change of the values in effect beside the restart of the elements: derived values, the faults
that they raise, and the carriers that the Charger and the Converter set (R162, R286, R378, R404, R431, R477). -/

namespace Sys2Proof.Machine

/-- AscSpeed exceeds AscSpeedEmf: CFG at L1 against the drive (R378). -/
def ascCheck (s : State) (x : Drv) : State :=
  let b := drvBase x + 0x700
  if obF s b 8 < (ob s b 1 : Rat) then raiseEv s .cfg 1 (fnCode (drvFn x)) 7 (b * 65536 + 256) else s

/-- The check of R378 where either value has changed. -/
def ascChanged (old s : State) (x : Drv) : State :=
  let b := drvBase x + 0x700
  if ob old b 1 = ob s b 1 ∧ ob old b 8 = ob s b 8 then s else ascCheck s x

/-- The carrier of rod 3 by the PFC's settings (R404). -/
def pfcCarrier (s : State) : State :=
  let b := rodBase 3 + 2
  if ob s 0x5200 8 = 0 then setCarrier s 3 1 (ob s b 2) (hzWord (obF s 0x5200 9)) else setCarrier s 3 2 (ob s 0x5200 8) (ob s b 3)

/-- The carrier of rod 5 runs FREE at Buck.Fsw (R431). -/
def buckCarrier (s : State) : State := setCarrier s 5 1 (ob s (rodBase 5 + 2) 2) (hzWord (obF s 0x5901 3))

/-- What a struck block's new values bring; Seq.MaxDelay is counted from the strike (R162, R229, R286, R404, R431). -/
def afterStrike (s : State) (b : Nat) : State :=
  if 0x3420 ≤ b ∧ b < 0x3620 then putOb s (b + 15) 3 0
  else if 0x3D00 ≤ b ∧ b < 0x4000 then coefCheck s ((b - 0x3D00) / 4)
  else if 0x2810 ≤ b ∧ b ≤ 0x2870 then carrierSync s ((b - 0x2800) / 0x10)
  else if b = 0x5200 then pfcCarrier s
  else if b = 0x5900 then buckCarrier s
  else s

/-- After a release: what each struck block brings, the limits of the Park lock's interlock, and the check of R378; `old` is
the state before it. -/
def afterRelease (old s : State) (struck : Bool) (bs : List Nat) : State :=
  let s1 := if struck then bs.foldl afterStrike s else s
  let s2 := if bs.contains 0x4000 || bs.contains 0x4800 then parkLimits s1 else s1
  ascChanged old (ascChanged old s2 .a) .b

/-- After the commit instant of a twin-key transaction (R378, R477, R518). -/
def afterCommit (old s : State) : State := ascChanged old (ascChanged old (parkLimits s) .a) .b

/-- The asserted outputs of a window fall (R273, R530). -/
def winDown (s : State) (w : Nat) : State :=
  let one (t : State) (isH : Bool) : State :=
    if (if isH then (winOf t w).outH else (winOf t w).outL) then winRelease t w isH (outNow t) else t
  one (one s false) true

/-- The windows of changed privileged blocks restart with their latch cleared, and the derived values follow (R276,
R377, R518). -/
def tkRestart (s : State) (as : List Nat) : State :=
  let s1 := (List.range 32).foldl (fun t w =>
    if as.any (fun a => decide (blockAt a = some (winBase w))) then restartWin (winDown t w) w else t) s
  publishAsc (publishAsc s1 .a) .b

end Sys2Proof.Machine
end

