-- ==== Sys2Proof/Machine/Waybill.lean ====
section
/-! DEFINITION. Plumb's supervision, the Waybill connections, SF3 and the deliberate reset (R488 to R508). Intervals run
on the SAFE clock: a command that ends one has its effect from 0.97 of the nominal length on (R490). -/

namespace Sys2Proof.Machine

/-- LOCKSTEP_FAULT: the cores disagree; the device-wide override and TST at L5 (R488). -/
def execLockstepFault (s : State) : Host.Outcome State Fault Refusal :=
  .next (if running s then raiseEv { s with power := { s.power with override := true } } .tst 5 0 0 0 else s)

/-- WATCHDOG_WINDOW: a sign-in in its window clears the misses; an early one or a window with none is a miss, and the
second in a row raises CLK at L4 against every function (R489). -/
def execWatchdogWindow (proc : Nat) (x : SignIn) (s : State) : Host.Outcome State Fault Refusal :=
  let m := tabGet 0 s.saf.misses proc
  .next (if !running s then s
    else if x = .inWindow then
      clearAll { s with saf := { s.saf with misses := tabSet 0 s.saf.misses proc 0 } } .clk (0x40 + proc)
    else
      let s1 := { s with saf := { s.saf with misses := tabSet 0 s.saf.misses proc (m + 1) } }
      if m = 1 then raiseAll s1 fnAll .clk 4 0 0 (0x40 + proc) else s1)

/-- A profile's watchdog in ns. -/
def wbWatchdog (s : State) (p : Nat) : Nat := ob s (wbIdx p) 5 * 1000000

/-- The transport a profile names (R508). -/
def wbTransport (s : State) (p : Nat) : Transport :=
  if ob s (wbIdx p) 2 = 0 then .udp else if ob s (wbIdx p) 2 = 1 then .can0 else .can1

/-- A frame's origin is the peer of the profile (R502, R508). -/
def wbOrigin (s : State) (p : Nat) (x : WbFrame) : Bool :=
  decide (wbTransport s p = x.tr)
    && (if x.tr = .udp then decide (ob64 s (wbIdx p) 3 = x.peer.toNat) else decide (bits (ob64 s (wbIdx p) 3) 10 0 = x.peer.toNat))

/-- Fields of a frame's bytes, least significant byte first (R499). -/
def wbField (x : WbFrame) (i k : Nat) : Nat := leNat ((x.bytes.drop i).take k)

/-- The CRC of a frame under a profile's code (R499). -/
def wbCrc (code : Nat) (body : List Byte) : Nat := crc32c (leBytes 4 code ++ body)

/-- The form checks of R502: version, kind, profile, origin, CRC and reserved bits. -/
def wbFormOk (s : State) (x : WbFrame) : Bool :=
  let p := wbField x 1 1
  decide (x.bytes.length = 16) && decide (wbField x 0 1 = 0x11) && decide (p < 32)
    && decide (ob s (wbIdx p) 1 = 1) && wbOrigin s p x
    && decide (wbCrc (ob s (wbIdx p) 4) (x.bytes.take 12) = wbField x 12 4)
    && decide (Nat.land (wbField x 4 2) 0xFEF0 = 0)

/-- The SEQ rule of R503 for a connection. -/
def wbSeqOk (w : Wb) (q : Nat) : Bool :=
  if w.st = 2 then
    decide (1 ≤ q) && decide (1 ≤ (q + 65535 - w.rxSeq) % 65535) && decide ((q + 65535 - w.rxSeq) % 65535 ≤ 8)
  else decide (q = 1)

/-- The lowest free of the 24 connection slots (R504). -/
def wbFreeSlot (s : State) : Option Nat :=
  (List.range 24).find? (fun k => !(s.saf.wb.any (fun e => decide (e.2.slot = some k))))

/-- The 16 bytes of a status frame (R499, R501). -/
def wbStatusBytes (s : State) (p : Nat) (w : Wb) : List Byte :=
  let st := safetyStatus s
  let word := devCode s.dev * 2 ^ 13 + bitAt (chkOk s) 12 + bits st 5 0 * 64 + w.held
  let b := leBytes 1 0x12 ++ leBytes 1 p ++ leBytes 2 w.txSeq ++ leBytes 2 word ++ leBytes 2 w.rxSeq
    ++ leBytes 4 (lockToken s)
  b ++ leBytes 4 (wbCrc (ob s (wbIdx p) 4) b)

/-- Send a status frame of a connection; a newer one on CAN cancels the older (R499, R505, R574). -/
def wbSend (s : State) (p : Nat) (mac : Option (BitVec 48)) : State :=
  let w := wbOf s p
  let w' := { w with txSeq := if w.txSeq = 65535 then 1 else w.txSeq + 1, statusAt := now s }
  let s1 := setWb s p w'
  let bs := wbStatusBytes s1 p w'
  let peer := ob64 s (wbIdx p) 3
  match wbTransport s p with
  | .udp => udpSend s1 1 mac (BitVec.ofNat 32 (peer / 65536)) (peer % 65536) (ob s 0x6040 2) bs
  | tr =>
    let s2 := canCancel s1 (trCan tr) (fun f => decide (f.use = 2) && decide (f.num = p))
    canSend s2 (trCan tr)
      { ident := bits peer 26 16, classical := false, xl := false, bytes := bs, use := 2, num := p }

/-- The functions a request acts on: STOA, STOB, DIS, CHI (R491, R492). -/
def wbTargets (b : Nat) : List Fn :=
  if b = 0 then [.driveA] else if b = 1 then [.driveB] else if b = 2 then [.driveA, .driveB, .charger, .converter]
  else [.charger]

/-- The detector of a request of a connection. -/
def wbDet (p b : Nat) : Nat := 0x1000 + p * 16 + b

/-- A request bit of a connection as a frame brings it: a new one raises WAY at L4 against its functions with the frame's
stamp, one that ended clears its cause; DIS starts or ends SF3 (R491 to R493). -/
def wbRequest (p stamp old new : Nat) (s : State) (b : Nat) : State :=
  if bit new b && !bit old b then
    let s1 := (wbTargets b).foldl (fun t f => raiseAt t .way 4 (fnCode f) stamp 0 (wbIdx p * 65536) (wbDet p b)) s
    if b = 2 ∧ s.saf.disAt = 0 then
      { s1 with saf := { s1.saf with disAt := stamp + 1, discharged := false, sf3Fail := false },
                link := { (plumbStart s1).link with pulse := s1.link.pulse.map (fun x => (x.1, true)) } }
    else s1
  else if bit old b && !bit new b then
    let s1 := if b = 2 ∧ !bit (wbHeld s) 2 then
        { s with saf := { s.saf with disAt := 0, discharged := false }, link := { s.link with plumbDump := false } }
      else s
    (wbTargets b).foldl (fun t f => clearCause t .way (fnCode f) (wbDet p b)) s1
  else s

/-- An accepted command frame takes effect and is answered (R492, R496, R503, R505). -/
def wbAccept (s : State) (p : Nat) (slot : Nat) (x : WbFrame) (stamp : Nat) : State :=
  let w := wbOf s p
  let word := wbField x 4 2
  let rights := ob s (wbIdx p) 8
  let held := Nat.land (Nat.land word 15) rights
  let refused := Nat.land (Nat.land word 15) (15 - Nat.land rights 15)
  let tokenOk := bit word 8 && bit rights 4 && decide (wbField x 8 4 = lockToken s) && decide (s.dev = .lockout)
  if tokenOk && w.resetSeen then enterBoot (leaveLockout s stamp) 5 0
  else
    let opening := decide (w.st ≠ 2)
    let w' := { w with
      st := 2, rxSeq := wbField x 2 2, txSeq := if opening then 0 else w.txSeq, lastRx := stamp, slot := some slot,
      held := held, resetSeen := tokenOk }
    let s1 := setWb s p w'
    let s2 := if w.st = 3 then clearAll s1 .way (0x2000 + p) else s1
    let s3 := [0, 1, 2, 3].foldl (wbRequest p stamp w.held held) s2
    let s4 := if refused ≠ 0 then raiseAt s3 .way 1 0 stamp 0 (wbIdx p * 65536) 0 else s3
    let s5 := if bit word 8 && decide (s.dev ≠ .lockout) then raiseAt s4 .way 1 0 stamp 0 (wbIdx p * 65536) 0 else s4
    wbSend s5 p (some x.mac)
where
  /-- The deliberate reset clears the current record and marks the log's copy (R45, R542). -/
  leaveLockout (s : State) (stamp : Nat) : State :=
    match s.tally.lockRec with
    | none => s
    | some r =>
      { s with tally := { s.tally with
        lockRec := none, log := s.tally.log.map (fun q => if q = r then { q with left := 2, leftAt := stamp } else q) } }

/-- WAYBILL_COMMAND: a command frame is checked for form and SEQ, may open its connection, and takes effect (R498 to
R505). -/
def execWaybillCommand (x : WbFrame) (s : State) : Host.Outcome State Fault Refusal :=
  let p := wbField x 1 1
  .next (if !serving s || !rxReady s x.tr x.bytes then s
    else
      let rx := takeRx s x.tr x.bytes
      let s1 := rx.2
      if !wbFormOk s1 x then incOb s1 0x6040 3
      else if !wbSeqOk (wbOf s1 p) (wbField x 2 2) then incOb s1 0x6040 4
      else match (wbOf s1 p).slot with
        | some k => wbAccept s1 p k x rx.1
        | none =>
          match wbFreeSlot s1 with
          | none => incOb s1 0x6040 5
          | some k => wbAccept s1 p k x rx.1)

/-- WAYBILL_STATUS_TIMER: half the watchdog has passed without a status frame of a connecting or open connection, and
one is sent (R490, R505). -/
def execWaybillStatusTimer (p : Nat) (s : State) : Host.Outcome State Fault Refusal :=
  let w := wbOf s p
  .next (if serving s ∧ (w.st = 1 ∨ w.st = 2) ∧ w.statusAt + wbWatchdog s p / 2 * 97 / 100 ≤ now s then wbSend s p none else s)

/-- WAYBILL_WATCHDOG: no command frame accepted within Wb.Watchdog: the connection fails, its requests stay, and WAY is
raised at Wb.LossLevel against the functions of Wb.Functions (R490, R506). -/
def execWaybillWatchdog (p : Nat) (s : State) : Host.Outcome State Fault Refusal :=
  let w := wbOf s p
  .next (if serving s ∧ (w.st = 1 ∨ w.st = 2) ∧ (max w.lastRx w.since) + wbWatchdog s p * 97 / 100 ≤ now s then
      let s1 := setWb s p { w with st := 3 }
      raiseAll s1 (fnAll.filter (fun f => bit (ob s (wbIdx p) 6) (fnCode f - 1))) .way (ob s (wbIdx p) 7) 0
        (wbIdx p * 65536) (0x2000 + p)
    else s)

/-- A profile takes the lowest free slot without a frame and connects (R504, R505). -/
def wbConnect (s : State) (p k : Nat) : State :=
  setWb s p { ({} : Wb) with st := 1, slot := some k, since := now s, statusAt := now s }

/-- A write to Safety.Wb.Connect (R504, R508). -/
def doConnect (s : State) (q : QReq) : State × Nat :=
  let p := leNat q.data
  if ob s (wbIdx p) 1 ≠ 1 ∨ (wbOf s p).slot.isSome then (s, 0x02000006)
  else match wbFreeSlot s with
    | none => (s, 0x03000004)
    | some k => (wbConnect s p k, 0)

/-- WAYBILL_CONNECT: a write to Safety.Wb.Connect (R504, R505, R508). -/
def execWaybillConnect (r : Req) (s : State) : Host.Outcome State Fault Refusal :=
  .next (serveWrite s r 0x6040 6 doConnect)

/-- At entry into PREOP each enabled profile with Initiate takes a slot, in profile order (R504). -/
def wbInitiate (s : State) : State :=
  (List.range 32).foldl (fun t p =>
    if ob t (wbIdx p) 1 = 1 ∧ ob t (wbIdx p) 9 = 1 ∧ (wbOf t p).slot = none then
      match wbFreeSlot t with
      | none => incOb t 0x6040 5
      | some k => wbConnect t p k
    else t) s

/-- DISCHARGE_DONE: while DIS is held, every link word of the last 100 ms lies below 60 V: DISCHARGED is set and the dump
lane goes inactive (step 3 of R493). -/
def execDischargeDone (s : State) : Host.Outcome State Fault Refusal :=
  .next (if running s ∧ s.saf.disAt ≠ 0 ∧ s.saf.lowSince ≠ 0 ∧ s.saf.lowSince - 1 + 97000000 ≤ now s then
      { s with saf := { s.saf with discharged := true }, link := { s.link with plumbDump := false } }
    else s)

/-- DISCHARGE_TIMEOUT: Safety.Discharge.Time has passed and the link is not discharged: SF3FAIL and DMP at L4 (step 4 of
R493). -/
def execDischargeTimeout (s : State) : Host.Outcome State Fault Refusal :=
  .next (if running s ∧ s.saf.disAt ≠ 0 ∧ !s.saf.discharged ∧ !s.saf.sf3Fail
      ∧ s.saf.disAt - 1 + ob s 0x6006 1 * 970000 ≤ now s then
      raiseEv { s with saf := { s.saf with sf3Fail := true } } .dmp 4 0 0 0x60060100
    else s)

/-- LOCKOUT_RESET_WRITE: a Ledger write to Safety.Lockout.Reset is refused with 0x0500_0004 after checks 1 to 3 (R497). -/
def execLockoutResetWrite (r : Req) (s : State) : Host.Outcome State Fault Refusal :=
  .next (serveWrite s r 0x6007 0 (fun t _ => (t, 0x05000004)))

end Sys2Proof.Machine
end

