-- ==== Sys2Proof/Machine/Start.lean ====
section
/-! DEFINITION. What the domains do at entry into PREOP out of CHECK (R201, R207, R247, R286, R377, R378, R477, R504). -/

namespace Sys2Proof.Machine

/-- The blocks whose elements start at entry into PREOP: the Position blocks, the pair checks, the demodulators and their clocks. -/
def startBlocks : List Nat := posBlocks ++ [0x3400] ++ (List.range 24).map sdBase ++ [0x3700]

/-- The braces with a value other than its default. -/
def listedBraces (s : State) : List Nat :=
  (List.range 192).filter (fun i => s.objs.any (fun e => decide (blockAt e.1 = some (braceBase i))))

/-- Every domain starts from its values. -/
def domainStart (s : State) : State :=
  let s1 := startBlocks.foldl restartElems (rebuild s)
  let s2 := (List.range 8).foldl carrierSync s1
  let s3 := (listedBraces s2).foldl coefCheck s2
  let s4 := parkLimits (publishAsc (publishAsc s3 .a) .b)
  wbInitiate (ascCheck (ascCheck s4 .a) .b)

/-- At every entry into PREOP the count of failed power-up attempts is published and its AON register cleared (R74). -/
def showFailures (s : State) : State :=
  putOb { s with power := { s.power with failures := 0 } } 0x2020 4 s.power.failures

end Sys2Proof.Machine
end

