-- ==== Sys2Proof/Machine/Sessions.lean ====
section
/-! DEFINITION. The Ledger's services that name no element: frames, READ, block reads, subscriptions, TIME, sessions and
state requests (R97 to R121, R637). -/

namespace Sys2Proof.Machine

/-- The identifier of a session's host-to-device frames, on a controller that carries the Ledger (R96, R102). -/
def canPathOk (s : State) (x : LFrame) (n : Nat) : Bool :=
  match x.tr with
  | .can0 => decide (bootOb s 0x1030 3 ≠ 1) && !x.classical && (decide (x.ident = bootOb s 0x1030 2 + n) || ownIdent s x)
  | .can1 => decide (bootOb s 0x1030 3 ≠ 0) && !x.classical && (decide (x.ident = bootOb s 0x1030 2 + n) || ownIdent s x)
  | _ => true
where
  /-- A consumption manifest's own identifier (R102, R122). -/
  ownIdent (s : State) (x : LFrame) : Bool :=
    decide (x.vk.toNat % 16 = 5) && (List.range 32).any (fun m =>
      decide (ob s (0x1400 + m) 1 = 1) && decide (ob64 s (0x1400 + m) 7 = x.ident) && decide (x.ident ≠ 0))

/-- The enabled consumption manifest that a frame of kind 5 carries: bound to its session, from its source, and of its
length (R102, R122, R123). -/
def manOfFrame (s : State) (x : LFrame) : Option Nat :=
  let m := leNat (x.payload.take 1)
  let a := ob64 s (0x1400 + m) 7
  let src := match x.tr with | .udp => x.peer.toNat | _ => x.ident
  if x.vk.toNat % 16 = 5 ∧ m < 32 ∧ ob s (0x1400 + m) 1 = 1 ∧ ob s (0x1400 + m) 2 = 1
      ∧ ob s (0x1400 + m) 4 = x.session.toNat ∧ (a = 0 ∨ a = src)
      ∧ x.payload.length = (manEntries s m).foldl (fun n e => n + e % 256) 12 then some m
  else none

/-- A received frame belongs to an open or pending session that its origin matches, on a transport that serves the Ledger
(R82, R97, R100 to R102). -/
def framePathOk (s : State) (x : LFrame) : Bool :=
  let n := x.session.toNat
  let ss := sess s n
  decide (n < 8) && decide (ss.st ≠ 0) && decide (ss.tr = x.tr) && decide (x.tr ≠ .host)
    && (decide (x.tr ≠ .udp) || decide (ss.peer = x.peer)
        || (match manOfFrame s x with | none => false | some m => decide (ob64 s (0x1400 + m) 7 ≠ 0)))
    && canPathOk s x n && trServed s x.tr
    && decide (x.vk.toNat / 16 = 1) && (decide (x.vk.toNat % 16 = 1) || decide (x.vk.toNat % 16 = 5))
    && decide (x.plen = x.payload.length) && decide (16 + x.plen ≤ maxFrame x.tr x.xl)

/-- The bytes of a received frame up to its tag (R97, R98). -/
def frameBody (x : LFrame) : List Byte := frameHead x.vk.toNat x.session.toNat x.fresh.toNat x.plen ++ x.payload

/-- Enter a request into the queue, or refuse it: a ninth, an unknown service, or an OPEN inside a session (R99, R104,
R111, R113). A message shorter than its head of 6 bytes is answered as malformed (DESIGN CHOICE, log 99); a service that names no
object is served whatever its INDEX and SUB, and its answer carries 0 there (DESIGN CHOICE, log 115). `last`: its frame carried the
last freshness value (R116). -/
def enqueue (s : State) (n : Nat) (stamp : Nat) (xl : Bool) (mac : BitVec 48) (p : List Byte) (last : Bool := false) : State :=
  let at_ (i k : Nat) := leNat ((p.drop i).take k)
  let none_ := [6, 7, 9].contains (at_ 0 1)
  let q : QReq := { ses := n, reqid := BitVec.ofNat 8 (at_ 1 1), stamp := stamp, svc := at_ 0 1, idx := if none_ then 0 else at_ 2 2,
                    sub := if none_ then 0 else at_ 4 1, ty := BitVec.ofNat 8 (at_ 5 1), data := p.drop 6, xl := xl, mac := mac,
                    last := last }
  if p.length < 6 then refuse s q 0x01000002
  else if 8 ≤ unanswered s n then refuse s q 0x0300000A
  else if q.svc = 0 ∨ 9 < q.svc then refuse s q 0x01000001
  else if q.svc = 8 then refuse s q 0x03000005
  else { s with led := { s.led with queue := s.led.queue ++ [q] } }

/-- A dropped frame of a session is counted; the eighth in a row closes the session (R116). -/
def dropFrame (s : State) (n : Nat) : State :=
  let x := sess s n
  let s1 := setSess s n { x with rejected := (x.rejected + 1) % 2 ^ 32, drops := x.drops + 1 }
  if 7 ≤ x.drops then closeSession s1 n else s1

/-- LEDGER_FRAME_RX: a frame is checked for version, size, origin, tag and freshness (R97 to R102, R116) and, when it is
accepted, its request enters the queue, or its manifest payload waits for the manifest (R126). A frame that carries 0xFFFF_FFFF ends its session after its answer. -/
def execLedgerFrameRx (x : LFrame) (s : State) : Host.Outcome State Fault Refusal :=
  let n := x.session.toNat
  .next (if !serving s || !framePathOk s x || !rxReady s x.tr (frameBody x ++ (leBytes 8 x.tag.toNat).reverse) then s
    else
      let ss := sess s n
      let rx := takeRx s x.tr (frameBody x ++ (leBytes 8 x.tag.toNat).reverse)
      let s1 := rx.2
      if Config.cmac ss.key (frameBody x) ≠ x.tag ∨ x.fresh.toNat ≤ ss.rxFresh then dropFrame s1 n
      else
        let s2 := setSess s1 n { ss with
          rxFresh := x.fresh.toNat, drops := 0, lastRx := rx.1, mac := x.mac,
          ending := decide (x.fresh = 0xFFFFFFFF) && decide (x.vk.toNat % 16 = 5),
          st := if x.vk.toNat % 16 = 1 then 2 else ss.st }
        if x.vk.toNat % 16 = 1 then enqueue s2 n rx.1 x.xl x.mac x.payload (decide (x.fresh = 0xFFFFFFFF))
        else if (manOfFrame s x).isSome then
          { s2 with led := { s2.led with manRx := s2.led.manRx ++ [(n, rx.1, x.payload)] } }
        else if x.fresh = 0xFFFFFFFF then closeSession s2 n
        else s2)

/-- Check 8 of R105 of a READ: the response memory while it records (R326), and the capture unit whose records the Charger
reads itself (R393). -/
def readCond (s : State) (idx sub : Nat) : Nat :=
  if idx = 0x3C2A ∧ (s.resp.st = 1 ∨ s.resp.st = 2) then 0x03000005
  else if 0x2A00 ≤ idx ∧ idx < 0x2A10 ∧ sub = 8 ∧ idx - 0x2A00 = ob s 0x5100 3 then 0x03000005
  else 0

/-- What reading an object takes from it: LOST of Tally.Queue (R544), and the returned records of Capture.Next (R195); from
an object of a shored block nothing (R138). -/
def readTake (s : State) (idx sub : Nat) : State :=
  if addrDone s (oaddr idx sub) then s
  else if idx = 0x6801 then { s with tally := { s.tally with lostNew := false } }
  else if 0x2A00 ≤ idx ∧ idx < 0x2A10 ∧ sub = 8 then { s with caps := tabSet [] s.caps (idx - 0x2A00) [] }
  else s

/-- READ: checks 1 to 6 of R105, then the value; one too long for the transport is refused (R105, R129). A READ of
Tally.Queue clears LOST (R544). -/
def execRead (r : Req) (idx sub : Nat) (s : State) : Host.Outcome State Fault Refusal :=
  .next (match admitted s r 1 idx sub with
    | (s1, none) => s1
    | (s1, some q) =>
      let c := checkRead s1 q
      if c ≠ 0 then refuse s1 q c
      else if q.data.length ≠ 0 then refuse s1 q 0x01000002
      else if readCond s1 idx sub ≠ 0 then refuse s1 q (readCond s1 idx sub)
      else match rowOf idx sub with
      | none => s1
      | some w =>
        let v := valueBytes s1 (oaddr idx sub) w
        if maxData (sess s1 q.ses).tr q.xl < v.length then refuse s1 q 0x01000006
        else readTake (reply s1 q (tyAt s1 (oaddr idx sub) w.ty) v) idx sub)

/-- A block transfer of a session. -/
def xferOf (s : State) (n : Nat) : Option Xfer := tabGet none s.led.xfers n

/-- Write a session's block transfer. -/
def setXfer (s : State) (n : Nat) (x : Option Xfer) : State :=
  { s with led := { s.led with xfers := tabSet none s.led.xfers n x } }

/-- The records of Capture.Next whose last byte a segment of its snapshot returns are removed from the unit (R196). -/
def capReturned (s : State) (x : Xfer) (off n : Nat) : State :=
  if 0x2A00 ≤ x.idx ∧ x.idx < 0x2A10 ∧ x.sub = 8 ∧ !addrDone s (oaddr x.idx x.sub) then
    let gone := ((List.range 16).filter (fun j => decide (off < 16 * (j + 1)) && decide (16 * (j + 1) ≤ off + n))).map
      (fun j => (x.bytes.drop (16 * j)).take 16)
    { s with caps := tabMod [] s.caps (x.idx - 0x2A00) (fun l => l.filter (fun r => !gone.contains (capBytes r))) }
  else s

/-- Answer one segment of a snapshot (R104, R108). -/
def sendSegment (s : State) (q : QReq) (x : Xfer) (off len : Nat) : State :=
  let room := maxData (sess s q.ses).tr q.xl - 4
  let part := (x.bytes.drop off).take (min len room)
  let done := decide (x.total ≤ off + part.length)
  let s1 := setXfer (capReturned s x off part.length) q.ses (if done then none else some { x with lastAt := now s })
  let ty := match rowOf x.idx x.sub with | none => 0 | some w => tyAt s (oaddr x.idx x.sub) w.ty
  reply s1 q ty (leBytes 4 x.total ++ part)

/-- A session's block transfer as a segment meets it: the start of a new transfer finds none where the gap of 1 s has ended the
one before (R108). -/
def liveXfer (s : State) (n : Nat) (start : Bool) : Option Xfer :=
  match xferOf s n with
  | none => none
  | some x => if x.timedOut && start then none else some x

/-- BLOCK_READ: offset 0 captures a snapshot, later offsets read from it until its last byte has gone (R104, R108). One at
another offset without a snapshot, or at or past the total size, is out of sequence, and the latter ends the transfer
(DESIGN CHOICE, log 99). -/
def execBlockRead (r : Req) (idx sub : Nat) (s : State) : Host.Outcome State Fault Refusal :=
  .next (match admitted s r 3 idx sub with
    | (s1, none) => s1
    | (s1, some q) =>
      let c := checkRead s1 q
      let off := leNat (q.data.take 4)
      let len := leNat (q.data.drop 4)
      if c ≠ 0 then refuse s1 q c
      else if q.data.length ≠ 6 then refuse s1 q 0x01000002
      else if readCond s1 idx sub ≠ 0 then refuse s1 q (readCond s1 idx sub)
      else match rowOf idx sub with
      | none => s1
      | some w =>
        match liveXfer s1 q.ses (decide (off = 0)) with
        | none =>
          if off ≠ 0 then refuse s1 q 0x01000003
          else
            let v := valueBytes s1 (oaddr idx sub) w
            let x : Xfer := { write := false, idx := idx, sub := sub, total := v.length, bytes := v, lastAt := now s1,
                              timedOut := false }
            sendSegment (if idx = 0x6801 then readTake s1 idx sub else s1) q x 0 len
        | some x =>
          if x.timedOut then refuse (setXfer s1 q.ses none) q 0x01000004
          else if off = 0 ∨ x.write ∨ x.idx ≠ idx ∨ x.sub ≠ sub then refuse s1 q 0x0300000B
          else if x.total ≤ off then refuse (setXfer s1 q.ses none) q 0x01000003
          else sendSegment s1 q x off len)

/-- BLOCK_TRANSFER_TIMEOUT: more than 1 s since the latest segment ends the transfer; its next segment is refused
(R108). -/
def execBlockTransferTimeout (ses : Nat) (s : State) : Host.Outcome State Fault Refusal :=
  .next (match xferOf s ses with
    | none => s
    | some x => if x.lastAt + 1000000000 < now s then setXfer s ses (some { x with timedOut := true, bytes := [] }) else s)

/-- Put a notification into the queue of the host port; with 16 queued it is dropped and counted (R606, R610). -/
def noteHost (s : State) (p : List Byte) : State :=
  if 16 ≤ s.host.notes.length then { s with host := { s.host with notesLost := (s.host.notesLost + 1) % 65536 } }
  else irq { s with host := { s.host with notes := s.host.notes ++ [p] } } 4

/-- The payload of a notification (R109): the value that a READ of the object would give, so of a shored block the pending one
(DESIGN CHOICE, log 116). -/
def notePayload (s : State) (u : Sub) (w : Row) : List Byte :=
  let a := oaddr u.idx u.sub
  leBytes 1 u.num ++ leBytes 1 0 ++ leBytes 2 u.idx ++ leBytes 1 u.sub ++ leBytes 1 (tyAt s a w.ty) ++ leBytes 8 (now s)
    ++ valueBytes s a w ++ (if w.ridge then leBytes 1 (bits (cellRead s a).toNat 35 32) else [])

/-- Send a notification of a subscription, while its session lasts (R109, R116, R569, R606). -/
def notify (s : State) (u : Sub) : State :=
  match rowOf u.idx u.sub with
  | none => s
  | some w =>
    if (sess s u.ses).st = 0 then s
    else if (sess s u.ses).tr = .host then noteHost s (notePayload s u w)
    else
      let cn := trCan (sess s u.ses).tr
      sendFrame s u.ses 3 none (decide (ob s (canBaseIdx cn) 9 = 1)) (notePayload s u w)

/-- The lowest subscription number that a session does not hold (R109). -/
def freeSubNum (s : State) (n : Nat) : Nat :=
  ((List.range 16).find? (fun k => !(s.led.subs.any (fun u => decide (u.ses = n) && decide (u.num = k))))).getD 0

/-- SUBSCRIBE: checks of a READ, then a subscription within the limits of R109, answered and notified at once. A mode or an
interval outside R104 and R109 is answered as out of range (DESIGN CHOICE, log 99). -/
def execSubscribe (r : Req) (idx sub : Nat) (s : State) : Host.Outcome State Fault Refusal :=
  .next (match admitted s r 5 idx sub with
    | (s1, none) => s1
    | (s1, some q) =>
      let c := checkRead s1 q
      let mode := leNat (q.data.take 1)
      let iv := leNat (q.data.drop 2)
      if c ≠ 0 then refuse s1 q c
      else if q.data.length ≠ 4 ∨ leNat ((q.data.drop 1).take 1) ≠ 0 then refuse s1 q 0x01000002
      else if mode > 1 ∨ iv < 10 ∨ 60000 < iv then refuse s1 q 0x02000006
      else match rowOf idx sub with
      | none => s1
      | some w =>
        if w.ty = 11 ∨ w.ty = 12 then refuse s1 q 0x02000005
        else if 16 ≤ (s1.led.subs.filter (fun u => decide (u.ses = q.ses))).length ∨ 64 ≤ s1.led.subs.length then
          refuse s1 q 0x03000007
        else
          let u : Sub := { ses := q.ses, num := freeSubNum s1 q.ses, idx := idx, sub := sub, periodic := decide (mode = 1),
                           interval := iv, last := cellRead s1 (oaddr idx sub), due := now s1 + iv * 1000000 }
          let s2 := { s1 with led := { s1.led with subs := s1.led.subs ++ [u] } }
          notify (reply s2 q (tyAt s2 (oaddr idx sub) w.ty) (leBytes 1 u.num)) u)

/-- UNSUBSCRIBE: ends a subscription that the session holds (R109, R119). The TYPE of its answer, as of every service that names
no object, is 0 (DESIGN CHOICE, log 99). -/
def execUnsubscribe (r : Req) (s : State) : Host.Outcome State Fault Refusal :=
  .next (match admitted s r 6 0 0 with
    | (s1, none) => s1
    | (s1, some q) =>
      let k := leNat q.data
      if q.data.length ≠ 1 then refuse s1 q 0x01000002
      else if s1.led.subs.any (fun u => decide (u.ses = q.ses) && decide (u.num = k)) then
        reply { s1 with led := { s1.led with
          subs := s1.led.subs.filter (fun u => !(decide (u.ses = q.ses) && decide (u.num = k))) } } q 0 []
      else refuse s1 q 0x02000006)

/-- SUBSCRIPTION_SAMPLE: at the end of an interval the object is sampled; a periodic subscription notifies, an on-change
one when value or sideband differ from the last notified (R109). -/
def execSubscriptionSample (ses n : Nat) (s : State) : Host.Outcome State Fault Refusal :=
  .next (match s.led.subs.find? (fun u => decide (u.ses = ses) && decide (u.num = n)) with
    | none => s
    | some u =>
      if !serving s || decide (now s < u.due) then s
      else
        let v := cellRead s (oaddr u.idx u.sub)
        let u' := { u with due := u.due + u.interval * 1000000, last := v }
        let s1 := { s with led := { s.led with subs := s.led.subs.map (fun e => if e = u then u' else e) } }
        if u.periodic || decide (v ≠ u.last) then notify s1 u' else s1)

/-- TIME: answered with the receive stamp and the transmit stamp (R104, R110). -/
def execTime (r : Req) (s : State) : Host.Outcome State Fault Refusal :=
  .next (match admitted s r 7 0 0 with
    | (s1, none) => s1
    | (s1, some q) =>
      if !hasRole s1 q.ses 1 then refuse s1 q 0x04000002
      else if q.data.length ≠ 0 then refuse s1 q 0x01000002
      else reply s1 q 0 (leBytes 8 q.stamp ++ leBytes 8 (now s1)))

/-- The lowest free session slot (R113). -/
def freeSession (s : State) : Option Nat := (List.range 8).find? (fun n => decide ((sess s n).st = 0))

/-- The fields of an OPEN's message (R99, R104): REQID, the key slot, the reserved bytes and the host nonce. -/
def openReqid (x : OpenReq) : Nat := leNat ((x.frame.payload.drop 1).take 1)

/-- Key slot of an OPEN. -/
def openSlotNo (x : OpenReq) : Nat := leNat ((x.frame.payload.drop 6).take 1)

/-- Host nonce of an OPEN. -/
def openNonce (x : OpenReq) : Nat := leNat ((x.frame.payload.drop 10).take 8)

/-- The message of an OPEN is malformed: its DATA is not 12 bytes long, or a reserved byte is not 0 (R104). -/
def openBad (x : OpenReq) : Bool := decide (x.frame.payload.length ≠ 18) || ((x.frame.payload.drop 7).take 3).any (· != 0)

/-- An OPEN reaches its service: on a transport that serves the Ledger, in a request frame of SESSION 0xFF and FRESH 0 with its
true length and within the transport's limit; on CAN on identifier B + 0x10, not in a classical frame, on a controller that
carries the Ledger; on the host port as a message (R82, R96, R97, R100, R102, R103, R113). -/
def openPathOk (s : State) (x : OpenReq) : Bool :=
  let f := x.frame
  let onCan (other : Nat) : Bool :=
    decide (bootOb s 0x1030 3 ≠ other) && !f.classical && decide (f.ident = bootOb s 0x1030 2 + 0x10)
  trServed s f.tr && decide (leNat (f.payload.take 1) = 8)
    && (decide (f.tr = .host)
      || (decide (f.vk = 0x11) && decide (f.session = 0xFF) && decide (f.fresh = 0) && decide (f.plen = f.payload.length)
          && decide (16 + f.plen ≤ maxFrame f.tr f.xl)))
    && (match f.tr with | .can0 => onCan 1 | .can1 => onCan 0 | _ => true)

/-- Send an OPEN response, or the abort of an OPEN, outside any session: under the slot key, or with an all-zero tag
(R101, R102, R113, R115). -/
def sendOpen (s : State) (x : OpenReq) (session : Nat) (key : Option (BitVec 128)) (msg : List Byte) : State :=
  let f := x.frame
  let bs := match key with
    | some k => frameOf k 0x12 session 0 msg
    | none => frameZero 0x12 session 0 msg
  match f.tr with
  | .host => { s with host := { s.host with answer := some msg } }
  | .udp => udpSend s 3 (some f.mac) (BitVec.ofNat 32 (f.peer.toNat / 65536)) (f.peer.toNat % 65536) (bootOb s 0x1030 1) bs
  | tr =>
    canSend s (trCan tr)
      { ident := bootOb s 0x1030 2 + 0x18, classical := false, xl := f.xl, bytes := if f.xl then bs else fdPad bs,
        use := 0, num := session }

/-- Refuse an OPEN. The frame of the abort carries SESSION 0xFF, as the request did (DESIGN CHOICE, log 99). -/
def refuseOpen (s : State) (x : OpenReq) (key : Option (BitVec 128)) (code : Nat) : State :=
  sendOpen s x 0xFF key (msgHead 0xFF (openReqid x) 0 0 0 ++ leBytes 4 code)

/-- The session key of R114. -/
def sessionKey (x : OpenReq) (n : Nat) : BitVec 128 :=
  Config.cmacFull (Config.slotKey (openSlotNo x))
    (leBytes 8 (openNonce x) ++ leBytes 8 x.devNonce.toNat ++ leBytes 1 n ++ leBytes 1 (openSlotNo x)
      ++ leBytes 1 (trCode x.frame.tr) ++ List.replicate 5 0)

/-- The DATA of an OPEN response (R104). -/
def openData (s : State) (x : OpenReq) (n : Nat) : List Byte :=
  leBytes 1 n ++ leBytes 3 0 ++ leBytes 8 (openNonce x) ++ leBytes 8 x.devNonce.toNat ++ leBytes 8 (now s)

/-- The peer of a session: address and port, or the CAN identifier of its OPEN (R121). -/
def openPeer (x : LFrame) : BitVec 64 :=
  match x.tr with
  | .udp => x.peer
  | .host => 0
  | _ => BitVec.ofNat 64 x.ident

/-- An accepted OPEN: the slot, its key and its first values (R113, R114, R115, R120). -/
def openSlot (s : State) (x : OpenReq) (n : Nat) : State :=
  setSess s n { ({} : Session) with
    st := if x.frame.tr = .host then 2 else 1, tr := x.frame.tr, keySlot := openSlotNo x, peer := openPeer x.frame,
    mac := x.frame.mac, opened := now s, lastRx := now s, timeout := ob s 0x1030 4,
    key := if x.frame.tr = .host then 0 else sessionKey x n }

/-- A session is open on the host port (R120). -/
def hostOpen (s : State) : Bool := (List.range 8).any (fun n => decide ((sess s n).st ≠ 0) && decide ((sess s n).tr = .host))

/-- An OPEN finds no free slot: it is counted and refused (R113). -/
def openNoSlot (s : State) (x : OpenReq) (key : Option (BitVec 128)) : State :=
  refuseOpen { s with led := { s.led with noSlot := (s.led.noSlot + 1) % 2 ^ 32 } } x key 0x03000003

/-- OPEN: its form, then key slot, tag over the frame's bytes and session slot in this order (R98, R104, R113 to R115); on the
host port R120. One that does not reach its service is dropped. -/
def execOpen (x : OpenReq) (s : State) : Host.Outcome State Fault Refusal :=
  let k := openSlotNo x
  let key := Config.slotKey k
  let okMsg (n : Nat) := msgHead 0x88 (openReqid x) 0 0 0 ++ openData s x n
  .next (if !serving s || !openPathOk s x then s
    else if openBad x then refuseOpen s x none 0x01000002
    else if x.frame.tr = .host then
      if k ≠ 0xFF then refuseOpen s x none 0x04000003
      else if hostOpen s then refuseOpen s x none 0x03000003
      else match freeSession s with
        | none => openNoSlot s x none
        | some n => sendOpen (openSlot s x n) x n none (okMsg n)
    else if k = 0 ∨ 15 < k ∨ (tabGet ({} : KeySlot) s.led.keySlots k).state ≠ 1 then refuseOpen s x none 0x04000003
    else if Config.cmac key (frameBody x.frame) ≠ x.frame.tag then
      refuseOpen { s with led := { s.led with authFails := (s.led.authFails + 1) % 2 ^ 32 } } x none 0x04000001
    else match freeSession s with
      | none => openNoSlot s x (some key)
      | some n => sendOpen (openSlot s x n) x n (some key) (okMsg n))

/-- PENDING_SESSION_TIMEOUT: a pending session without a request within 100 ms is closed (R115). -/
def execPendingSessionTimeout (ses : Nat) (s : State) : Host.Outcome State Fault Refusal :=
  .next (if (sess s ses).st = 1 ∧ (sess s ses).opened + 100000000 ≤ now s then closeSession s ses else s)

/-- CLOSE: the request is answered and the session closes (R104, R117, R119). -/
def execClose (r : Req) (s : State) : Host.Outcome State Fault Refusal :=
  .next (match admitted s r 9 0 0 with
    | (s1, none) => s1
    | (s1, some q) =>
      if q.data.length ≠ 0 then refuse s1 q 0x01000002
      else closeSession (reply s1 q 0 []) q.ses)

/-- SESSION_TIMEOUT: no accepted frame within the session's timeout closes it (R117). -/
def execSessionTimeout (ses : Nat) (s : State) : Host.Outcome State Fault Refusal :=
  let x := sess s ses
  .next (if x.st ≠ 0 ∧ x.lastRx + x.timeout * 1000000 ≤ now s then closeSession s ses else s)

/-- The Ridge-backed objects whose value the host sets (R636). -/
def hostWords : List Nat :=
  ([0x4200, 0x4A00, 0x5000, 0x5100, 0x5200, 0x5800, 0x5A00].flatMap ridgeOf).filterMap (fun e => if e.2 = .ro then none else some e.1)

/-- Entry into PREOP writes each word whose value the host sets with its persisted value, or its default (R636). -/
def hostRestore (s : State) : State :=
  hostWords.foldl (fun t a => ridgeOut t (a / 256) (a % 256) ((tabGetD dfltAt t.mram a).toNat % 2 ^ 32) 0) s

/-- The decision of R637 on a write to System.StateRequest; an entry into PREOP publishes the failed
power-ups (R74), writes the words whose value the host sets (R636), makes the check of R378 and connects the Waybill profiles
that ask for it (R504); the domains run on, since they run in OPERATIONAL as in PREOP (R201; DEDUCED, log 125). -/
def stateRequest (s : State) (v : Nat) : State × Nat :=
  if v = devCode s.dev then (s, 0)
  else if v = 4 then
    if fnAll.any (fnLive s) then (s, 0x03000001) else (wbInitiate (ascCheck (ascCheck (hostRestore (showFailures (setDev s .preop))) .a) .b), 0)
  else if isShored s 0x6000 then (s, 0x03000005)
  else if s.saf.computed ≠ s.saf.confirmed then (s, 0x05000001)
  else (setDev s .operational, 0)

/-- STATE_REQUEST: a write to System.StateRequest (R44, R46, R47, R637). -/
def execStateRequest (r : Req) (s : State) : Host.Outcome State Fault Refusal :=
  .next (serveWrite s r 0x2001 0 (fun t q => stateRequest t (leNat q.data)))

end Sys2Proof.Machine
end

