-- ==== Sys2Proof/Machine/Lanes.lean ====
section
/-! DEFINITION. The commands of the Rods and lanes domain (R148 to R197), with the frequency words that feed rods (R202). -/

namespace Sys2Proof.Machine

/-- Device time and the lane clock advance by one tick (R15, R151, R560). -/
def timeTick (s : State) : State :=
  { s with
    dtPrev := s.dt, dt := (s.dt + (5 * 2 ^ 32 + 5 * s.net.corr / 256).toNat) % 2 ^ 96, tick := s.tick + 1,
    dtLog := (s.dtPrev :: s.dtLog).take 72 }

/-- The movement of a rod and its carrier in the tick that ends is kept for the output stage (R160, R195). -/
def logMove (s : State) (r : Nat) : State :=
  let x := rodAt s r
  setRod s r { x with log := ((x.prev.toNat, x.moved, x.cprev.toNat, x.cmoved) :: x.log).take 8 }

/-- Every rod's tick, after its movement in the tick before is kept (R150). -/
def rodsTick (s : State) : State :=
  (List.range 7).foldl (fun t r => rodTick t (r + 1)) (rodZero ((List.range 8).foldl logMove s))

/-- The three words of a watched rod that is not shored enter the statistic unit that watches it (R23, R158, R257). -/
def rodSnoop (s : State) (u : Nat) : State :=
  let a := refAddr (ob s (statBase u) 1)
  if ob s (statBase u) 7 = 1 ∧ 0x2800 ≤ a / 256 ∧ a / 256 < 0x2880 ∧ !isShored s (statBase u) ∧ !addrShored s a then
    statWord s u (valueOf (typeOf s a) ((cellNow s a).toNat % 2 ^ 32)) (rdSide s a)
  else s

/-- A statistic unit's period source in one tick: a boundary, every Stat.Turns-th passage of its source, or a multiple of
Stat.Interval of device time; an earlier one takes effect before it (R258, R259). -/
def statTick (s' : State) (u : Nat) : State :=
  let b := statBase u
  if ob s' b 7 ≠ 1 ∨ isShored s' b then s'
  else
    let s := statDue s' u
    let x := statOf s u
    let src := ob s b 2
    if src = 16 then
      let iv := nsTime (max 1 (ob s b 5) * 1000)
      if s.dt / iv ≠ s.dtPrev / iv then setStat s u { x with due := some (s.dt / iv * iv) } else s
    else
      let p := ob s b 3 * 2 ^ 32
      match srcPass s src p with
      | some d =>
        if x.armed then
          let t := s.dtPrev + passPhase (srcMove s src).2 d * 671088640
          if ob s b 4 ≤ x.turns + 1 then setStat s u { x with armed := false, turns := 0, due := some t }
          else setStat s u { x with armed := false, turns := x.turns + 1 }
        else s
      | none => if (srcPass s src ((p + 2 ^ 63) % 2 ^ 64)).isSome then setStat s u { x with armed := true } else s

/-- Distance to a position that a source passed in the output stage's latest tick (R160, R167). -/
def outPass (s : State) (src x : Nat) : Option Nat :=
  passDist (moveAt s src (outNow s - 1)).1 (moveAt s src (outNow s - 1)).2 x

/-- A running window at the start of a tick of the output stage: the edges of its blanking lane in the tick come, and its PERIOD
clear is armed (R168, R269, R272). -/
def winTick (s : State) (w : Nat) : State :=
  if winRuns s w then
    let s1 := winLaneEdge s w
    let b := winBase w
    if ob s1 b 0xB = 2 ∧ (outPass s1 (ob s1 b 0xC) ((ob s1 b 0xD * 2 ^ 32 + 2 ^ 63) % 2 ^ 64)).isSome then
      setWin s1 w { winOf s1 w with armed := true }
    else s1
  else s

/-- A running window's logic up to the end of the output stage's latest tick (R268 to R271). -/
def winEnd (s : State) (w : Nat) : State := if winRuns s w then winAdvance s w (outNow s) else s

/-- The generators of all claimed lanes in one tick (R179 to R181, R186). -/
def lanesTick (s : State) : State := (s.claims.map (fun e => e.1)).foldl laneStep s

/-- The output stage of all lanes in one tick (R160, R175, R182 to R187). -/
def outTick (s : State) : State := (List.range 64).foldl (fun t k => legStep t (2 * k)) s

/-- The work that closes the tick before: its command edges enter the generators, the windows' logic comes to the end of the output
stage's tick, instances are armed again, and the capture filters end (R168, R179, R194, R268 to R271). -/
def tickEnd (s : State) : State :=
  (List.range 16).foldl (fun t u => capDue t u (outNow t)) (rearm ((List.range 32).foldl winEnd (lanesTick s)))

/-- LANE_TICK: one tick of 5 ns: the lanes' generators and the windows close the tick before; then device time, the rods and
carriers, the live mark positions, the commutators, the relay marks and the edge words, the output stage, the windows' lane
blanking, the statistic boundaries and the speed rule (R15, R150, R151, R160, R161, R168, R173, R175, R179 to R187, R258, R268
to R272, R376, R399, R459). -/
def execLaneTick (s : State) : Host.Outcome State Fault Refusal :=
  .next (if running s then
      let s0 := livePos (rodsTick (timeTick (tickEnd s)))
      let s1 := (s0.claims.map (fun e => e.1)).foldl edgeTick (relayTick ((List.range 3).foldl actTick s0))
      let s2 := (List.range 32).foldl winTick (outTick s1)
      let s3 := (List.range 32).foldl statTick ((List.range 32).foldl rodSnoop s2)
      speedTrack (speedTrack s3 .a) .b
    else s)

/-- MARK_FIRE: instance j of mark k fires where its source passed it in the latest tick, it is armed, its direction is
admitted and its block is not shored, once every instance before it in the order of R171 has fired (R166 to R175). -/
def execMarkFire (k j : Nat) (s : State) : Host.Outcome State Fault Refusal :=
  .next (match s.marks[k]? with
    | none => s
    | some m =>
      match fireDist s k m j with
      | none => s
      | some d =>
        if running s ∧ !firesBefore s (fireKey s k m d) then
          fireMark { s with disarmed := tabSet none s.disarmed (256 * k + j) (some { tick := s.tick, again := false }) } k m
            (instPos m j) d
        else s)

/-- ONESHOT_END: a pulse has lasted its width (R179). -/
def execOneshotEnd (l : Nat) (s : State) : Host.Outcome State Fault Refusal :=
  let x := laneAt s l
  .next (if running s ∧ laneMode s l = 3 ∧ x.cmd ∧ x.endAt ≠ 0 ∧ x.endAt ≤ phases s then
      laneCmd (setLane s l { x with endAt := 0 }) l false x.endAt else s)

/-- GATE_TIMEOUT: a GATE has been open for its longest time: it closes and is counted (R179). -/
def execGateTimeout (l : Nat) (s : State) : Host.Outcome State Fault Refusal :=
  let x := laneAt s l
  .next (if running s ∧ laneMode s l = 4 ∧ x.cmd ∧ x.endAt ≠ 0 ∧ x.endAt ≤ phases s then
      incOb (laneCmd (setLane s l { x with endAt := 0 }) l false x.endAt) 0x2905 (funcSub (sealFunc s l)) else s)

/-- Take the first source update on its way to a rod. -/
def takeUpd (s : State) (r : Nat) : Option (RodUpd × State) :=
  match s.sent.find? (fun e => decide (e.1 = r)) with
  | none => none
  | some e => some (e.2, { s with sent := s.sent.erase e })

/-- A position update at a rod (R153): the source's estimate brought to this tick, and the residual. -/
def updPos (s : State) (r : Nat) (x : Rod) (u : RodUpd) (p : BitVec 64) : Rod :=
  let n : Rat := mkRat ((s.dt : Int) - (nsTime u.ts : Nat)) (5 * 2 ^ 32)
  let a : Int := if ob s (rodBase r + 1) 6 = 1 then iclamp (-2147483648) 2147483647 u.accel else 0
  let pm : Int := p.toNat + (u.rate * n + a * n * n / 2).floor
  let res := toInt 64 ((pm - x.pos.toNat) % (2 ^ 64 : Nat)).toNat
  { x with rate := u.rate + (a * n).floor, accel := a, resid := res, stl := false, inv := false, updAt := now s, last := some u }

/-- A source update at a rod that is not stopped: the rate clamp and the jump limit (R153, R155, R156). -/
def applyUpd (s : State) (r : Nat) (u : RodUpd) : State :=
  let x := rodAt s r
  let mx := maxRate32 s r
  let y := match u.pos with
    | none => { x with rate := u.rate, accel := 0, stl := false, inv := false, updAt := now s }
    | some p => updPos s r x u p
  let jump := u.pos.isSome && decide (ob s (rodBase r + 1) 5 * 2 ^ 32 < y.resid.natAbs)
  let s1 := rodHold (setRod s r { y with rate := iclamp (-(mx : Int)) mx y.rate, jumped := if u.pos.isSome then jump || (x.jumped && decide (ob s (rodBase r + 1) 5 * 2 ^ 32 ≤ y.resid.natAbs * 16)) else x.jumped }) r (decide (mx < y.rate.natAbs))
  if jump then
    let s2 := incOb s1 (rodBase r) 5
    let fs := rodUsers s2 r
    let d := rodBase r * 65536 + 256
    if fs.isEmpty then raiseEv s2 .pos 1 0 7 d else fs.foldl (fun t f => raiseEv t .pos 1 (fnCode f) 7 d) s2
  else s1

/-- ROD_SOURCE_UPDATE: the first update on its way to a rod reaches LANE (R143, R153 to R157). A stopped rod only keeps it
for its restart. -/
def execRodSourceUpdate (rod : Nat) (s : State) : Host.Outcome State Fault Refusal :=
  .next (match takeUpd s rod with
    | none => s
    | some (u, s1) =>
      if !running s ∨ rod = 0 ∨ 8 ≤ rod then s
      else if isShored s1 (rodBase rod) then
        (if u.pos.isSome then setRod s1 rod { rodAt s1 rod with last := some u } else s1)
      else applyUpd s1 rod u)

/-- ROD_TIMEOUT: no update has come for Rod.Timeout: the acceleration is zero and the words carry STL (R157). -/
def execRodTimeout (rod : Nat) (s : State) : Host.Outcome State Fault Refusal :=
  let x := rodAt s rod
  .next (if running s ∧ rod ≠ 0 ∧ rod < 8 ∧ !isShored s (rodBase rod) ∧ x.updAt + ob s (rodBase rod + 1) 7 * 1000 ≤ now s then
      setRod s rod { x with accel := 0, stl := true } else s)

/-- CARRIER_WRAP_APPLY: the carrier's phase has wrapped in the latest tick and a written setting waits: it starts at phase
0 with the anchor at the rod position at the wrap (R162). -/
def execCarrierWrapApply (rod : Nat) (s : State) : Host.Outcome State Fault Refusal :=
  let x := rodAt s rod
  .next (match passDist x.cprev.toNat x.cmoved 0 with
    | none => s
    | some d =>
      if running s ∧ rod < 8 ∧ x.cpend ∧ (rod = 0 ∨ !isShored s (rodBase rod)) then
        let full : Int := max 1 x.cmoved.natAbs
        let anchor := BitVec.ofInt 64 (x.prev.toNat + x.moved * d / full)
        let s1 := carrierTake s rod anchor
        let y := rodAt s1 rod
        let z : BitVec 64 := if y.cmode = 0 then 0
          else if y.cmode = 1 then BitVec.ofInt 64 (((y.crate * 2 ^ 28 : Nat) : Int) * (full - d) / full)
          else BitVec.ofNat 64 (y.cratio * (y.pos - anchor).toNat)
        setRod s1 rod { y with
          cpos := z, cprev := x.cprev, cmoved := (if x.cmoved < 0 then -(d : Int) else d) + z.toInt }
      else s)

/-- A comparison of a lane falls due in the output stage's latest tick: at Lane.ReadbackDelay after one of its edges, or on the
1 µs grid of device time once that delay after the latest has passed (R191; DEDUCED, log 101). -/
def readbackDue (s : State) (l : Nat) : Bool :=
  let x := laneAt s l
  let due (t : Nat) := t + nsPhases (ob s 0x2903 1)
  let us (t : Nat) := tickTime s t / 2 ^ 32 / 1000
  decide (x.seenAt ≠ s.tick + 1)
    && (x.eds.any (fun t => decide (outNow s < due t + 32) && decide (due t ≤ outNow s))
      || (decide (due x.edgeAt ≤ outNow s) && decide (us (outNow s) ≠ us (outNow s - 32))))

/-- LANE_READBACK_COMPARE: one comparison of a lane's level with the level driven, when one is due; three mismatches in a row
raise LAN at L3 (R191, R455). -/
def execLaneReadbackCompare (x : Readback) (s : State) : Host.Outcome State Fault Refusal :=
  let l := x.lane
  let lv := laneLevel s l
  let y : Lane := { laneAt s l with seenAt := s.tick + 1 }
  .next (if !running s ∨ 114 ≤ l ∨ lv = .hiZ ∨ !readbackDue s l then s
    else if decide (lv = .high) = x.seen then
      clearDet (setLane s l { y with miss := 0 }) (0x290000 + l)
    else if y.miss = 2 then
      condRaise (incOb (setLane s l { y with miss := 3 }) 0x2903 2) .lan 3 (sealFunc s l) 1 (0x29000000 + (l + 1) * 256) (0x290000 + l)
    else if y.miss < 2 then setLane s l { y with miss := y.miss + 1 } else s)

/-- CAPTURE_EDGE: an edge at a phase of the output stage's latest tick, on a unit whose input is a ball; the device's own
signals reach their units by themselves (R193, R194). -/
def execCaptureEdge (u : Nat) (rising : Bool) (phase : Nat) (s : State) : Host.Outcome State Fault Refusal :=
  .next (if ob s (0x2A00 + u) 1 ≤ 0x86 then capEdge s u rising (outNow s - 32 + phase) else s)

/-- CAPTURE_NEXT_READ: a READ of Capture.Next returns the held records and removes them (R196). -/
def execCaptureNextRead (r : Req) (u : Nat) (s : State) : Host.Outcome State Fault Refusal := execRead r (0x2A00 + u) 8 s

/-- WIN_PERIOD_CLEAR: the clear source has passed Win.ClearPosition in the output stage's latest tick, armed: a PERIOD latch clears
(R272). -/
def execWinPeriodClear (w : Nat) (s : State) : Host.Outcome State Fault Refusal :=
  let b := winBase w
  .next (match outPass s (ob s b 0xC) (ob s b 0xD * 2 ^ 32) with
    | none => s
    | some d =>
      if winRuns s w ∧ ob s b 0xB = 2 ∧ (winOf s w).armed then
        let t := outNow s - 32 + passPhase (moveAt s (ob s b 0xC) (outNow s - 1)).2 d
        let s1 := winAdvance s w t
        winClearOut (winClearOut (setWin s1 w { winOf s1 w with armed := false }) w false t) w true t
      else s)

/-- Rate word that a frequency word source sends: Charger.Dab.Fsw, the Converter's frequency in effect, or Integ.Rod7Rate
(R152, R202, R409, R440). -/
def freqWord (s : State) (code : Nat) : Int :=
  if code = 9 then hzWord (obF s 0x5300 1)
  else if code = 10 then hzWord (f32Val (s.cnv.fsw.getD (ob s 0x5900 2)))
  else obI32 s 0x2B05 0

/-- A frequency word source sends its rate to the rods that it feeds (R202). -/
def sendFreq (s : State) (rod : Nat) : State :=
  { s with
    sent := s.sent ++ [(rod, { ts := now s, pos := none, rate := freqWord s (rodSource s rod) * 2 ^ 28, accel := 0 })],
    freqAt := tabSet 0 s.freqAt rod (now s) }

/-- A frequency word source sends to every rod that it feeds (R152, R409, R440). -/
def sendFreqAll (s : State) (code : Nat) : State :=
  (List.range 8).foldl (fun t r => if rodSource t r = code then sendFreq t r else t) s

/-- FREQUENCY_WORD_UPDATE: every 100 µs between writes, from entry into PREOP (R202). -/
def execFrequencyWordUpdate (rod : Nat) (s : State) : Host.Outcome State Fault Refusal :=
  .next (if running s ∧ (s.dev = .preop ∨ s.dev = .operational) ∧ 9 ≤ rodSource s rod ∧ rodSource s rod ≤ 11
      ∧ tabGet 0 s.freqAt rod + 100000 ≤ now s then
      sendFreq s rod
    else s)

end Sys2Proof.Machine
end

