-- ==== Sys2Proof/Machine/Actuator.lean ====
section
/-! DEFINITION. The commands of the Actuators domain (R457 to R483). -/

namespace Sys2Proof.Machine

/-- The start of a period in the latest tick, in units of device time (R458). -/
def periodStart (s : State) (n : Nat) : Option Nat :=
  let p := nsTime (max 1 (ob s (actBase n) 1))
  let o := nsTime (ob s (actBase n) 2) % p
  let k := (s.dt + p - o) / p
  if (s.dtPrev + p - o) / p < k then some (k * p + o - p) else none

/-- The duty word of a drive with its sideband: Brace.Out of Pump.Brace, or the sequencer's (R458). -/
def dutyWord (s : State) (n : Nat) : Nat × Nat :=
  let i := ob s 0x5C03 10
  if n = 0 then (if i < 192 then (ob s (braceBase i + 3) 9, obSide s (braceBase i + 3) 9) else (0, 5))
  else ((actOf s n).word, 8)

/-- The commutator enters the first of the modes that wait; where the Park lock's enters DRIVE this is step 2 of R476, from which
its travel time counts. -/
def actWaited (s : State) (n : Nat) (m : CommMode) (r : List CommMode) : State :=
  let s1 := actEnter s n m
  let s2 := setAct s1 n { actOf s1 n with next := r }
  if n = 1 ∧ m = .drive then { s2 with plock := { s2.plock with t0 := now s } } else s2

/-- ACT_PERIOD_START: in the latest tick the device time has reached a period start: a mode that waits is entered, the duty
is read, and the period lane rises for 20 ns, at the phase of the start (R457, R458, R460). -/
def execActPeriodStart (n : Nat) (s : State) : Host.Outcome State Fault Refusal :=
  .next (match periodStart s n with
    | none => s
    | some t =>
      let x := actOf s n
      if !running s ∨ isShored s (actBase n) ∨ x.startAt = t then s
      else
        let w := dutyWord s n
        let d : Rat := if Nat.land w.2 5 ≠ 0 then 0 else rclamp (-1) 1 (f32Val w.1)
        let s1 := setAct s n { x with startAt := t, duty := f32Of d, ilim := false, refreshed := false }
        let s2 := ridgeOut s1 (actBase n + 1) 2 (f32Of d) w.2
        let s3 := match x.next with
          | [] => s2
          | m :: r => actWaited s2 n m r
        let l := ob s (actBase n) 12
        let s4 := parkPlumb (actTick s3 n)
        let ph := (t + 2 ^ 96 - s.dtPrev) % 2 ^ 96 / 671088640
        if 116 ≤ l ∧ l ≤ 127 then laneAction (setLive s4 [l] true) 3 l ((s.tick - 1) * 32 + ph) else s4)

/-- The high side of the PWM leg is on. -/
def pwmOn (s : State) (n : Nat) : Option ActLeg :=
  let x := actOf s n
  match x.mode, pwmLeg x with
  | .drive, some p => let g := tabGet ({} : ActLeg) x.legs p; if g.hi && !g.ref then some g else none
  | _, _ => none

/-- The amplifier of drive n in µV: half the reference and the gain times the differential voltage, within its range (R456). -/
def actAmp (s : State) (n : Nat) (uv : Rat) : Rat :=
  let ref : Rat := (s.power.refUv : Nat)
  rclamp 0 ref (ref / 2 + (ob s (actBase n) 5 : Nat) * uv)

/-- The amplifier stands at or above the threshold of a current (R461). -/
def actAbove (s : State) (n sub : Nat) (uv : Int) : Bool :=
  decide ((mkRat s.power.refUv 2) + (ob s (actBase n) 5 : Nat) * (obF s (actBase n) sub * obF s (actBase n) 6 * 1000000)
    ≤ actAmp s n (uv : Rat))

/-- ACT_ILIMIT: a sense voltage at Act.ILimit or above, outside the blanking: the PWM leg's high side is off for
the rest of the period (R461). -/
def execActIlimit (x : ShuntMeas) (s : State) : Host.Outcome State Fault Refusal :=
  let n := x.drive
  .next (match pwmOn s n with
    | none => s
    | some g =>
      if running s ∧ actAbove s n 7 x.uv ∧ !(actOf s n).ilim ∧ g.hiAt + phasesOf (ob s (actBase n) 9) ≤ phases s then
        actTick (incOb (setAct s n { actOf s n with ilim := true }) (actBase n + 1) 4) n
      else s)

/-- ACT_ITRIP: a sense voltage at Act.ITrip or above: every switch is off and OC at L3 is raised, unless the
drive's block is shored (R461). -/
def execActItrip (x : ShuntMeas) (s : State) : Host.Outcome State Fault Refusal :=
  let n := x.drive
  .next (if running s ∧ n < 3 ∧ actAbove s n 8 x.uv ∧ !isShored s (actBase n) then
      raiseEv (actOff (setAct s n { actOf s n with itrip := true }) n) .oc 3 (fnCode (actFn n)) 1 (actBase n * 65536 + 256)
    else s)

/-- ACT_REFRESH: a high side has been on for Act.RefreshInterval: it turns off for a refresh pulse, which is counted (R463). -/
def execActRefresh (n leg : Nat) (s : State) : Host.Outcome State Fault Refusal :=
  let x := actOf s n
  let g := tabGet ({} : ActLeg) x.legs leg
  .next (if running s ∧ g.hi ∧ !g.ref ∧ g.hiAt + phasesOf (ob s (actBase n) 10 * 1000) ≤ phases s then
      actTick (incOb (setAct s n { x with legs := tabSet {} x.legs leg { g with ref := true }, refreshed := true })
        (actBase n + 1) 3) n
    else s)

/-- VGD_LOCKOUT: VGD has been below its falling threshold for 2 µs: every commutator enters OFF, and BST at L3 is raised
against the three functions where one is in ARMED or RUN (R466). -/
def execVgdLockout (s : State) : Host.Outcome State Fault Refusal :=
  .next (if !running s ∨ ob s 0x5E00 1 = 1 then s
    else
      let s1 := putOb (incOb (putOb s 0x5E00 1 1) 0x5E00 2) 0x5E00 3 (now s % 2 ^ 64)
      let s2 := (List.range 3).foldl actOff s1
      if [Fn.pump, .parkLock, .clutch].any (fnLive s) then
        raiseAll s2 [.pump, .parkLock, .clutch] .bst 3 1 (0x5E00 * 65536 + 256) (0x5E00 * 16)
      else s2)

/-- VGD_LOCKOUT_RELEASE: VGD has stayed above its rising threshold for 100 µs (R466). -/
def execVgdLockoutRelease (s : State) : Host.Outcome State Fault Refusal :=
  .next (if running s ∧ ob s 0x5E00 1 = 1 then clearDet (putOb s 0x5E00 1 0) (0x5E00 * 16) else s)

/-- The motor is demanded off: a start or brake ends, and the commutator enters OFF at the next period start (R472). -/
def pumpOff (s : State) : State := actOffNext (pumpQuiet s) 0

/-- PUMP_EVAL: every 10 ms in ARMED and RUN: the demand by the oil temperature, the speed, and Pump.SpeedRef (R469, R470).
The sequencer runs in the states in which its function is live (DEDUCED, log 126). -/
def execPumpEval (s : State) : Host.Outcome State Fault Refusal :=
  .next (if !running s ∨ !fnLive s .pump ∨ now s < s.pump.evalAt + 10000000 then s
    else
      let ch := ob s 0x5C03 2
      let good := chanGood s ch
      let t := chanVal s ch
      let n := ob s 0x5C03 12
      let boost := obF s 0x5C03 6
      let x := s.pump
      let on := if !good then true
        else if x.on then !(decide (t < obF s 0x5C03 3 - obF s 0x5C03 4) && decide (boost = 0))
        else decide (obF s 0x5C03 3 ≤ t) || decide (0 < boost)
      let base := if good then interp n (fun k => obF s 0x5C04 (k + 1)) (fun k => obF s 0x5C05 (k + 1)) (obF s 0x5C05 1) t
                  else obF s 0x5C03 7
      let low := rmax base (obF s 0x5C03 5)
      let rpm := if on then rmin (obF s 0x5C03 8) (rmax low boost) else 0
      let s1 := { s with pump := { x with
        on := on, boost := on && decide (low < boost), evalAt := now s,
        start := x.start || (on && !x.on && decide (fnState s .pump = .run)) } }
      let s2 := ridgeOut s1 0x5C06 0 (ofInt 32 (pumpRate s rpm)) 8
      let s3 := if good then clearDet s2 (0x5C00 * 16) else condRaise s2 .acq 1 (fnCode .pump) 7 (0x5C00 * 65536) (0x5C00 * 16)
      if x.on ∧ !on then pumpOff s3 else s3)

/-- The commutator of the Pump enters DRIVE with its brace preset (R471). -/
def pumpDrive (s : State) (v : Rat) : State := actEnter (pumpPreset (pumpQuiet s) v) 0 .drive

/-- PUMP_START: steps 1 and 2 of R471, on MOTION of Hall triplet 0. -/
def execPumpStart (s : State) : Host.Outcome State Fault Refusal :=
  let m := (tabGet ({} : Hall) s.hall 0).io.motion
  .next (if !running s ∨ fnState s .pump ≠ .run ∨ !s.pump.start ∨ m = 3 then s
    else
      let s1 := { s with pump := { s.pump with windmill := decide (m = 2) } }
      if m = 2 then
        actEnter { s1 with pump := { s1.pump with start := false, brake := true, brakeAt := now s } } 0 .brake
      else
        let mx := pumpRate s (obF s 0x5C03 8)
        pumpDrive s1 (if mx = 0 then 0 else (rodRate (rodAt s 6) : Rat) / (mx : Rat)))

/-- PUMP_BRAKE_END: MOTION reads standstill: step 3 of R471. -/
def execPumpBrakeEnd (s : State) : Host.Outcome State Fault Refusal :=
  .next (if running s ∧ s.pump.brake ∧ (tabGet ({} : Hall) s.hall 0).io.motion = 0 then pumpDrive s 0 else s)

/-- PUMP_BRAKE_TIMEOUT: step 4 of R471. -/
def execPumpBrakeTimeout (s : State) : Host.Outcome State Fault Refusal :=
  .next (if running s ∧ s.pump.brake ∧ (tabGet ({} : Hall) s.hall 0).io.motion ≠ 0
      ∧ s.pump.brakeAt + ob s 0x5C03 9 * 1000000 ≤ now s then
      pumpDrive (raiseEv s .act 2 (fnCode .pump) 1 (0x5C00 * 65536)) 0
    else s)

/-- PARKLOCK_REPORT: every 1 ms, outside SHORED and LOCKOUT: a reading, the report, and the vehicle speed (R474, R477). -/
def execParklockReport (s : State) : Host.Outcome State Fault Refusal :=
  .next (if !running s ∨ fnState s .parkLock = .shored ∨ fnState s .parkLock = .lockout ∨ now s < s.plock.repAt + 1000000 then s
    else
      let good := chanGood s (ob s 0x5C13 2)
      let a := if posIn s 0x5C13 2 3 then s.plock.inRel + 1 else 0
      let b := if posIn s 0x5C13 2 5 then s.plock.inEng + 1 else 0
      let rep := reportOf good a b
      let s1 := { s with plock := { s.plock with
        report := rep, inRel := a, inEng := b, repAt := now s, tooth := s.plock.tooth && decide (rep ≠ 2) } }
      parkLeft (parkReport s) (putOb s1 0x5C15 0 (f32Of (parkSpeed s))))

/-- A write to ParkLock.Request (R475, R476). A request for what the lock reports, or for what its sequence drives to, changes nothing
(DEDUCED, log 33). -/
def doPark (s : State) (q : QReq) : State × Nat :=
  let v := leNat q.data
  if fnState s .parkLock ≠ .run then (s, 0x03000005)
  else if v = 1 ∧ (fnState s .driveA = .run ∨ fnState s .driveB = .run) then (s, 0x03000001)
  else if v = 1 ∧ parkInterlock s then (s, 0x03000005)
  else if v = 2 ∧ fnLive s .charger then (s, 0x03000001)
  else if parkReport s = (if v = 1 then 2 else 1) ∨ s.plock.seq = v then (s, 0)
  else (parkStart s v, 0)

/-- PARKLOCK_ENGAGE (R475, R476). -/
def execParklockEngage (r : Req) (s : State) : Host.Outcome State Fault Refusal := .next (serveWrite s (byteReq r 2 1) 0x5C13 1 doPark)

/-- PARKLOCK_RELEASE (R475, R476). -/
def execParklockRelease (r : Req) (s : State) : Host.Outcome State Fault Refusal := .next (serveWrite s (byteReq r 2 2) 0x5C13 1 doPark)

/-- The position of the Park lock lies in the band that its sequence drives to. -/
def parkThere (s : State) : Bool := posIn s 0x5C13 2 (if s.plock.seq = 1 then 5 else 3)

/-- PARKLOCK_TARGET_REACHED: step 3 of R476. -/
def execParklockTargetReached (s : State) : Host.Outcome State Fault Refusal :=
  .next (if running s ∧ s.plock.seq ≠ 0 ∧ parkThere s then actOffNext (parkEnd s) 1 else s)

/-- PARKLOCK_TRAVEL_TIMEOUT: step 4 of R476. -/
def execParklockTravelTimeout (s : State) : Host.Outcome State Fault Refusal :=
  .next (if running s ∧ s.plock.seq ≠ 0 ∧ !parkThere s ∧ s.plock.t0 + ob s 0x5C13 10 * 1000000 ≤ now s then
      let s1 := actOff (parkEnd s) 1
      let ch := ob s 0x5C13 2
      if s.plock.seq = 1 ∧ chanGood s ch ∧ obF s 0x5C13 7 ≤ chanVal s ch then
        raiseEv { s1 with plock := { s1.plock with tooth := true } } .act 0 (fnCode .parkLock) 1 (0x5C10 * 65536)
      else raiseEv s1 .act 3 (fnCode .parkLock) 1 (0x5C10 * 65536)
    else s)

/-- PARKLOCK_INTERLOCK: the rate of a rod crosses its limit, or its words go stale or return: Plumb holds or frees the lanes;
where it acts on an engage, SF4 is set, ACT at L1 is raised and a release starts (R477). -/
def execParklockInterlock (s : State) : Host.Outcome State Fault Refusal :=
  .next (if !running s then s
    else
      let s1 := parkPlumb s
      if parkInterlock s ∧ s.plock.seq = 1 then
        raiseEv (parkStart { s1 with plock := { s1.plock with sf4 := true } } 2) .act 1 (fnCode .parkLock) 0 (0x5C10 * 65536)
      else s1)

/-- A return of the Clutch's actuator reaches the open band: a retry begins its match again, any other sequence ends
(R482, R483). -/
def clutchReturned (s : State) : State :=
  let k := s.clutch.st
  if (k = 3 ∨ k = 4 ∨ k = 6) ∧ posIn s 0x5C23 2 3 then
    let s1 := actOff s 2
    if k = 3 then clutchMatchStart s1 else clutchEnd s1
  else s

/-- CLUTCH_REPORT: every 1 ms, outside SHORED and LOCKOUT (R479). -/
def execClutchReport (s : State) : Host.Outcome State Fault Refusal :=
  .next (if !running s ∨ fnState s .clutch = .shored ∨ fnState s .clutch = .lockout ∨ now s < s.clutch.repAt + 1000000 then s
    else
      let good := chanGood s (ob s 0x5C23 2)
      let a := if posIn s 0x5C23 2 3 then s.clutch.inOpen + 1 else 0
      let b := if posIn s 0x5C23 2 5 then s.clutch.inClosed + 1 else 0
      clutchReturned { s with clutch := { s.clutch with
        report := reportOf good a b, inOpen := a, inClosed := b, repAt := now s } })

/-- A write to Clutch.Request (R481, R483). A close while one runs changes nothing (DEDUCED, log 33). -/
def doClutch (s : State) (q : QReq) : State × Nat :=
  let v := leNat q.data
  let k := s.clutch.st
  if fnState s .clutch ≠ .run then (s, 0x03000005)
  else if v = 1 then
    if fnState s .driveB ≠ .run ∨ !clutchRodsOk s then (s, 0x03000005)
    else if k = 1 ∨ k = 2 ∨ k = 3 then (s, 0)
    else
      let s1 := actOff { s with clutch := { s.clutch with retries := 0 } } 2
      (clutchMatchStart (putOb s1 0x5C25 2 0), 0)
  else if fnState s .driveB = .run then
    let s1 := clutchGo (actOff s 2) 5
    (clutchTorque { s1 with clutch := { s1.clutch with sync := true, match_ := false } } 0, 0)
  else (clutchGo (clutchDrive (clutchRelease s) false) 6, 0)

/-- CLUTCH_CLOSE (R481). -/
def execClutchClose (r : Req) (s : State) : Host.Outcome State Fault Refusal := .next (serveWrite s (byteReq r 2 1) 0x5C23 1 doClutch)

/-- CLUTCH_OPEN (R483). -/
def execClutchOpen (r : Req) (s : State) : Host.Outcome State Fault Refusal := .next (serveWrite s (byteReq r 2 2) 0x5C23 1 doClutch)

/-- A step of a close is under way in RUN. -/
def clutchAt (s : State) (k : Nat) : Bool := running s && decide (s.clutch.st = k) && decide (fnState s .clutch = .run)

/-- The slip lies within Clutch.MatchBand. -/
def slipIn (s : State) : Bool := decide (rabs (clutchSlip s) ≤ obF s 0x5C24 3)

/-- CLUTCH_TORQUE_UPDATE: every 1 ms during a close: Drive B's target torque, the watch over the band, and the end of a close
whose Drive B leaves RUN or whose rod words go stale (R480 to R482). -/
def execClutchTorqueUpdate (s : State) : Host.Outcome State Fault Refusal :=
  .next (if !(clutchAt s 1 || clutchAt s 2 || clutchAt s 3) ∨ now s < s.clutch.torqueAt + 1000000 then s
    else if fnState s .driveB ≠ .run ∨ !clutchRodsOk s then clutchFail s 1 true
    else
      let since := if !slipIn s then 0 else if s.clutch.bandSince = 0 then now s + 1 else s.clutch.bandSince
      clutchTorque { s with clutch := { s.clutch with torqueAt := now s, bandSince := since } } (clutchAim s))

/-- CLUTCH_MATCH: the slip has stayed in band for Clutch.MatchTime: step 2 of R481. -/
def execClutchMatch (s : State) : Host.Outcome State Fault Refusal :=
  let z := s.clutch.bandSince
  .next (if clutchAt s 1 ∧ slipIn s ∧ z ≠ 0 ∧ z - 1 + ob s 0x5C24 4 * 1000000 ≤ now s then
      let s1 := clutchGo s 2
      clutchDrive { s1 with clutch := { s1.clutch with match_ := true } } true
    else s)

/-- CLUTCH_CLOSED: the position enters the closed band: step 3 of R481. -/
def execClutchClosed (s : State) : Host.Outcome State Fault Refusal :=
  .next (if clutchAt s 2 ∧ posIn s 0x5C23 2 5 then clutchEnd (actOff s 2) else s)

/-- CLUTCH_RETRY: the slip exceeds twice the band during the travel: a retry, or past Clutch.Retries the end of the close
(R482). -/
def execClutchRetry (s : State) : Host.Outcome State Fault Refusal :=
  .next (if clutchAt s 2 ∧ 2 * obF s 0x5C24 3 < rabs (clutchSlip s) then
      let n := s.clutch.retries + 1
      let s1 := putOb { s with clutch := { s.clutch with retries := n, match_ := false } } 0x5C25 2 n
      if ob s 0x5C24 10 < n then clutchFail s1 2 true else clutchGo (clutchDrive s1 false) 3
    else s)

/-- CLUTCH_SYNC_TIMEOUT: step 2 is not reached within Clutch.SyncTimeout (R482). -/
def execClutchSyncTimeout (s : State) : Host.Outcome State Fault Refusal :=
  .next (if clutchAt s 1 ∧ s.clutch.t0 + ob s 0x5C24 9 * 1000000 ≤ now s then clutchFail s 1 false else s)

/-- CLUTCH_TRAVEL_TIMEOUT: a travel exceeds Clutch.TravelTime (R482, R483). -/
def execClutchTravelTimeout (s : State) : Host.Outcome State Fault Refusal :=
  .next (if (clutchAt s 2 || clutchAt s 3 || clutchAt s 4 || clutchAt s 6) ∧ s.clutch.t0 + ob s 0x5C23 9 * 1000000 ≤ now s then
      raiseEv (clutchEnd (actOff s 2)) .act 3 (fnCode .clutch) 1 (0x5C20 * 65536)
    else s)

/-- CLUTCH_UNLOAD: |T_ref| lies at or below Clutch.UnloadTorque, or Drive B is no longer in RUN: the actuator opens (R483). -/
def execClutchUnload (s : State) : Host.Outcome State Fault Refusal :=
  .next (if clutchAt s 5 ∧ (rabs (drvOf s .b).tref ≤ obF s 0x5C24 8 ∨ fnState s .driveB ≠ .run) then
      clutchGo (clutchDrive s false) 6
    else s)

end Sys2Proof.Machine
end

