-- ==== Sys2Proof/Machine/Charger.lean ====
section
/-! DEFINITION. The commands of the Charger (R392 to R426). -/

namespace Sys2Proof.Machine

/-- Block 0x5100 measures: the clock domains run and it is not shored. -/
def inletRuns (s : State) : Bool := running s && !isShored s 0x5100

/-- PILOT_EVAL: every 10 ms the pilot's values, its state and its effect on the session and the drives (R356, R393 to R395,
R418). -/
def execPilotEval (s : State) : Host.Outcome State Fault Refusal :=
  .next (if inletRuns s ∧ s.chg.pilotAt + 10000000 ≤ now s then
      let f := pilotForm s
      let a := pilotAccept f.1 f.2
      plugWatch (pilotSession (putPilotCurrent a.1) a.2)
    else s)

/-- PROXIMITY_EVAL: every 10 ms the proximity resistance and its code, accepted when it has held for Pp.Debounce (R396). -/
def execProximityEval (s : State) : Host.Outcome State Fault Refusal :=
  .next (if inletRuns s ∧ s.chg.ppAt + 10000000 ≤ now s then
      let r := ppCode s
      let x := s.chg
      let t0 := if r.2 = x.ppCand then x.ppSince else now s
      let s1 := putOb (setChg (freshWord s).2 (fun y => { y with ppAt := now s, ppCand := r.2, ppSince := t0 })) 0x5101 7 (f32Of r.1)
      plugWatch (if t0 + ob s1 0x5100 7 * 1000000 ≤ now s1 then ppAccept s1 r.2 else s1)
    else s)

/-- The Charger's session stands at a step and the function is in RUN. -/
def atStep (s : State) (k : Nat) : Bool := running s && decide (s.chg.step = k) && decide (fnState s .charger = .run)

/-- SESSION_PILOT_READY: step 2 of R415: CP_S2 goes high and the safety timer starts (R414). -/
def execSessionPilotReady (s : State) : Host.Outcome State Fault Refusal :=
  let st := ob s 0x5101 1
  let d := ob s 0x5101 2
  .next (if atStep s 1 ∧ (st = 2 ∨ st = 3) ∧ s.chg.pwm ∧ 6 ≤ obF s 0x5101 5 ∧ (d < 30 ∨ 70 < d ∨ ob s 0x5102 2 = 1) then
      let s1 := putPhase (putS2 (setChg s (fun x => { x with
        step := 2, t0 := now s, timerOn := true, timerLim := ob s 0x5006 1 * 3600, timer := 0, timerAt := now s, iSum := 0,
        iNum := 0 })) true) 2
      putOb s1 0x5006 2 0
    else s)

/-- Grid lock with every phase in use within its limits (step 3 of R415). -/
def gridReady (s : State) : Bool :=
  s.grid.io.lock && (phasesUsed s).all (fun k =>
    let v := obF s 0x5203 (4 + k); decide (obF s 0x5203 1 ≤ v) && decide (v ≤ obF s 0x5203 2))

/-- SESSION_GRID_READY: step 3 of R415: the precharge relay lane goes active. -/
def execSessionGridReady (s : State) : Host.Outcome State Fault Refusal :=
  .next (if atStep s 2 ∧ gridReady s then
      putPhase (relayPre (setChg s (fun x => { x with step := 3, t0 := now s })) true) 3
    else s)

/-- SESSION_AC_TIMEOUT: the grid is not ready within Session.AcTimeout: NO_POWER (R415). -/
def execSessionAcTimeout (s : State) : Host.Outcome State Fault Refusal :=
  .next (if atStep s 2 ∧ !gridReady s ∧ s.chg.t0 + ob s 0x5003 3 * 1000000 ≤ now s then chgL1 s 10 else s)

/-- The bus has reached 0.9 of the rectified peak (step 4 of R415). -/
def busPrecharged (s : State) : Bool :=
  let v := busVolt s
  let k : Rat := if ob s 0x5200 1 = 2 then 2 else 6
  decide (0 ≤ v) && decide (mkRat 81 100 * k * obF s 0x5203 7 * obF s 0x5203 7 ≤ v * v)

/-- SESSION_PRECHARGE_DONE: step 4 of R415: the main relay lane goes active. -/
def execSessionPrechargeDone (s : State) : Host.Outcome State Fault Refusal :=
  .next (if atStep s 3 ∧ busPrecharged s then
      putPhase (relayMain (setChg s (fun x => { x with step := 4, t0 := now s })) true) 4
    else s)

/-- SESSION_PRECHARGE_TIMEOUT: the bus does not precharge within 500 ms: PRECHARGE (R415). -/
def execSessionPrechargeTimeout (s : State) : Host.Outcome State Fault Refusal :=
  .next (if atStep s 3 ∧ !busPrecharged s ∧ s.chg.t0 + 500000000 ≤ now s then chgL3 s 11 else s)

/-- SESSION_PFC_LIVE: 20 ms after the main relay the PFC legs go live, unless the grid is lost (step 5 of R415 and
of R425; R421). -/
def execSessionPfcLive (s : State) : Host.Outcome State Fault Refusal :=
  .next (if (atStep s 4 ∨ atStep s 23) ∧ s.chg.gridSince = 0 ∧ s.chg.t0 + 20000000 ≤ now s then pfcGoLive s else s)

/-- The bus lies within 2 % of Pfc.BusRef. -/
def busAtRef (s : State) : Bool := decide (rabs (busVolt s - obF s 0x5200 11) ≤ mkRat 2 100 * obF s 0x5200 11)

/-- SESSION_BUS_READY: the bus is within 2 % of Pfc.BusRef: the DAB legs go live, or in vehicle-to-load the main relay lane
goes active; a lost grid holds the former (R415, R421, R425). -/
def execSessionBusReady (s : State) : Host.Outcome State Fault Refusal :=
  .next (if atStep s 5 ∧ s.chg.gridSince = 0 ∧ busAtRef s then
      putPhase (dabPut (setChg s (fun x => { x with step := 6, t0 := now s, zeroSince := 0, endSince := 0 })) true) 5
    else if atStep s 22 ∧ busAtRef s then relayMain (setChg s (fun x => { x with step := 23, t0 := now s })) true
    else s)

/-- CHARGER_LIMIT_STAGE: every 50 µs of device time (R405, R410). -/
def execChargerLimitStage (s : State) : Host.Outcome State Fault Refusal :=
  .next (if running s ∧ !isShored s 0x5000 ∧ !isShored s 0x5200 ∧ !isShored s 0x5300 ∧ !isShored s 0x5400
      ∧ s.chg.limAt + 50000 ≤ now s then chgLimitStage s else s)

/-- SESSION_PAUSE: ilim has been 0 for 1 s in phase 5 or 6 (R416). -/
def execSessionPause (s : State) : Host.Outcome State Fault Refusal :=
  let z := s.chg.zeroSince
  .next (if atStep s 6 ∧ z ≠ 0 ∧ z - 1 + 1000000000 ≤ now s then
      putPhase (setChg (dabStop s) (fun x => { x with step := 7, pfcEnd := true, posSince := 0 })) 7
    else s)

/-- SESSION_RESUME: ilim has been above 0 for 1 s in a pause: the session resumes from step 5, unless the grid is lost (R416,
R421). -/
def execSessionResume (s : State) : Host.Outcome State Fault Refusal :=
  let z := s.chg.posSince
  .next (if atStep s 7 ∧ s.chg.gridSince = 0 ∧ z ≠ 0 ∧ z - 1 + 1000000000 ≤ now s then pfcGoLive s else s)

/-- SESSION_COMPLETE: the conditions of R413 have held for Profile.EndTime. -/
def execSessionComplete (s : State) : Host.Outcome State Fault Refusal :=
  let z := s.chg.endSince
  .next (if atStep s 6 ∧ z ≠ 0 ∧ z - 1 + ob s 0x5004 4 * 1000000000 ≤ now s then chgStop s 1 .armed else s)

/-- The timer's rate over the last second (R414). -/
def timerRate (s : State) : Rat :=
  let x := s.chg
  if x.bind ≠ 8 ∨ x.icmd = 0 ∨ x.iNum = 0 then 1
  else rmax (mkRat 1 4) (rmin 1 (x.iSum / (x.iNum : Nat) / x.icmd))

/-- SAFETY_TIMER_TICK: every 1 s the effective time advances; at Timer.Limit the session ends with TIMER (R414). -/
def execSafetyTimerTick (s : State) : Host.Outcome State Fault Refusal :=
  let x := s.chg
  .next (if running s ∧ x.timerOn ∧ x.timerAt + 1000000000 ≤ now s then
      let r := timerRate s
      let t := x.timer + r
      let s1 := setChg s (fun y => { y with timer := t, timerAt := x.timerAt + 1000000000, iSum := 0, iNum := 0 })
      let s2 := putOb (putOb s1 0x5006 2 (t.floor.toNat % 2 ^ 32)) 0x5006 3 (f32Of r)
      if (x.timerLim : Rat) ≤ t ∧ x.timer < x.timerLim then chgL3 s2 3 else s2
    else s)

/-- SESSION_DAB_OFF: Ref.Idc is 0 and the output current below 0.5 A, or 100 ms have passed: step 2 of R417. -/
def execSessionDabOff (s : State) : Host.Outcome State Fault Refusal :=
  .next (if running s ∧ s.chg.step = 8
      ∧ ((obF s 0x5005 8 = 0 ∧ chanVal s (ob s 0x5301 2) < mkRat 1 2) ∨ s.chg.t0 + 100000000 ≤ now s) then legsEnd s
    else s)

/-- PFC_ZERO_CROSS_OFF: rod 3 has passed a zero crossing of the phase in the latest tick: its PFC legs turn off; after
BATTERY_LOST also while rod 3 carries STL or INV. In vehicle-to-load the DAB follows the last leg (R416, R417, R419, R426). -/
def execPfcZeroCrossOff (ph : Nat) (s : State) : Host.Outcome State Fault Refusal :=
  .next (if running s ∧ s.chg.pfcEnd ∧ bit s.chg.pfc ph
      ∧ ((zeroCrossings ph).any (fun z => (srcPass s 3 (z * 2 ^ 32)).isSome) ∨ (s.chg.cut ∧ rodStale s 3)) then
      let s1 := pfcPut s ph false
      if s1.chg.v2l ∧ s1.chg.pfc = 0 ∧ s1.chg.step = 9 then dabStop s1 else s1
    else s)

/-- The outputs at the end of a session: the sequencer's marks turn the relays off in RUN, the stop path's own hardware
after a fault (R399, R417, R419). -/
def sessionOff (s : State) : State :=
  if fnState s .charger = .run then putS2 (relayPre (relayMain (dabPut (pfcAll s false) false) false) false) false else chgOff s

/-- SESSION_END: the last PFC leg is off, and in vehicle-to-load the DAB: CP_S2 and both relay lanes turn off, the reason is
written, and a Charger in RUN enters ARMED, or IDLE after DISARM (R417, R426). -/
def execSessionEnd (s : State) : Host.Outcome State Fault Refusal :=
  let a := s.chg.after
  .next (if running s ∧ s.chg.step = 9 ∧ s.chg.pfc = 0 ∧ (!s.chg.v2l ∨ !s.chg.dab) then
      let s1 := sessionOver (sessionOff s)
      if fnState s1 .charger = .run then setFn s1 .charger a else s1
    else s)

/-- GRID_RIDETHROUGH_TIMEOUT: the grid has not returned within Grid.RideThrough: GRID_FAULT (R421). -/
def execGridRidethroughTimeout (s : State) : Host.Outcome State Fault Refusal :=
  let z := s.chg.gridSince
  .next (if running s ∧ fnState s .charger = .run ∧ 4 ≤ s.chg.step ∧ s.chg.step ≤ 7 ∧ z ≠ 0
      ∧ z - 1 + ob s 0x5203 3 * 1000000 ≤ now s then chgL1 s 9 else s)

/-- A write to Charger.Dab.Fsw: within Rod.MaxRate of rod 4 and 2 MHz of samples, it is sent to rod 4 at once (R409). A
shored block takes it into its pending values. -/
def doDabFsw (s : State) (q : QReq) : State × Nat :=
  let f := f32Val (storedOf 9 q.data)
  if isShored s 0x5300 then (putValue s (oaddr 0x5300 1) (storedOf 9 q.data), 0)
  else if rodMaxHz (viewNow s) 4 < f ∨ 2000000 < f * (ob s 0x5300 5 : Nat) then (s, 0x02000006)
  else (sendFreqAll (putValue s (oaddr 0x5300 1) (storedOf 9 q.data)) 9, 0)

/-- DAB_FSW_WRITE (R409). -/
def execDabFswWrite (r : Req) (s : State) : Host.Outcome State Fault Refusal :=
  .next (serveWrite s r 0x5300 1 doDabFsw)

/-- V2L_BACKFEED_CHECK: 100 ms after a vehicle-to-load RUN: BACKFEED, or the DAB legs go live and the bus set point begins at
the measured voltage (R425). -/
def execV2lBackfeedCheck (s : State) : Host.Outcome State Fault Refusal :=
  .next (if atStep s 21 ∧ s.chg.t0 + 100000000 ≤ now s then
      if s.chg.backfeed then chgL3 s 14
      else dabPut (setChg s (fun x => { x with step := 22, t0 := now s, busNow := some (f32Of (busVolt s)) })) true
    else s)

/-- V2L_RAMP_END: the ramp of V2l.Vd ends: phase 10 begins, or at the end of a stop's ramp the PFC turns off (R425, R426). -/
def execV2lRampEnd (s : State) : Host.Outcome State Fault Refusal :=
  let due := s.chg.t0 + ob s 0x5400 6 * 1000000
  .next (if atStep s 24 ∧ due ≤ now s then putPhase (setChg s (fun x => { x with step := 25, t0 := now s })) 10
    else if atStep s 26 ∧ due ≤ now s then setChg s (fun x => { x with step := 9, pfcEnd := true })
    else s)

/-- V2L_OVERLOAD: clipping, or excess power, has lasted V2l.OverloadTime without a break (R426). -/
def execV2lOverload (s : State) : Host.Outcome State Fault Refusal :=
  let past (z : Nat) : Bool := decide (z ≠ 0) && decide (z - 1 + ob s 0x5400 7 * 1000000 ≤ now s)
  .next (if (atStep s 24 ∨ atStep s 25) ∧ (past s.chg.overSince ∨ past s.chg.overPow) then chgL1 s 13 else s)

end Sys2Proof.Machine
end

