-- ==== Sys2Proof/Machine/Converter.lean ====
section
/-! DEFINITION. The Converter (R429 to R440): its limit stage, the starts and stops, and its commands. -/

namespace Sys2Proof.Machine

/-- The LV voltage floored at 1 V (R434). -/
def lvFloor (s : State) : Rat := rmax 1 (chanVal s (ob s 0x5903 1))

/-- A CNV fault at L3 against the Converter. -/
def cnvL3 (s : State) : State := raiseEv s .cnv 3 4 7 0x58000000

/-- Forward, of the running start or of Converter.Mode (R434, R440). -/
def cnvForward (s : State) : Bool := if s.cnv.step = 0 then decide (ob s 0x5803 1 = 0) else s.cnv.fwd

/-- The limits I_max and I_min with BIND (R434); a stop holds both at 0 (R438). -/
def cnvLimits (s : State) : State :=
  let v := lvFloor s
  let x := s.cnv
  if 20 ≤ x.step then setCnv s (fun y => { y with imax := 0, imin := 0, bind := 0 })
  else if cnvForward s then
    let ts : List (Nat × Rat) := [(1, obF s 0x5803 4), (2, obF s 0x5803 5 / v), (3, obF s 0x5803 7 * zeroIn s 0x5803 6 / v)]
    let m := ts.foldl (fun a e => rmin a e.2) (obF s 0x5803 4)
    let b := ((ts.find? (fun e => decide (e.2 = m))).map (fun e => e.1)).getD 0
    setCnv s (fun y => { y with imax := m, imin := 0, bind := if y.step = 0 then 0 else b })
  else setCnv s (fun y => { y with imax := 0, imin := -(obF s 0x5804 2 / v) })

/-- The ramps of the LV target and of the bus target in one limit stage (R434, R436). -/
def cnvRamp (s : State) : State :=
  let x := s.cnv
  let d : Rat := mkRat 1 20
  let k := obF s 0x5900 5
  if x.step = 3 then setCnv s (fun y => { y with tgt := slewTo y.tgt (obF s 0x5803 2) (obF s 0x5803 3 * d) })
  else if x.step = 12 then setCnv s (fun y => { y with tgt := slewTo y.tgt (obF s 0x5804 1 / k) (obF s 0x5804 3 / k * d) })
  else s

/-- Ref.Vset, Ref.Vfb and Converter.Power (R434, R440). -/
def cnvRefs (s : State) : State :=
  let lv := chanWord s (ob s 0x5903 1)
  let il := chanWord s (ob s 0x5903 2)
  let bus := chanWord s (ob s 0x5903 3)
  let t := f32Of s.cnv.tgt
  let s1 := if cnvForward s then ridgeOut (ridgeOut s 0x5805 2 t 8) 0x5805 3 lv.1 (Nat.land lv.2 13)
            else ridgeOut (ridgeOut s 0x5805 2 bus.1 (Nat.land bus.2 13)) 0x5805 3 t 8
  ridgeOut s1 0x5805 6 (f32Of (lvFloor s * f32Val il.1 / obF s 0x5803 7)) (sideOf [some (0, lv.2), some (0, il.2)])

/-- An LV or bus channel that carries STL or INV for 1 ms in RUN (R435). -/
def cnvWatch (s : State) : State :=
  let bad := !(chanGood s (ob s 0x5903 1) && chanGood s (ob s 0x5903 3))
  let on := bad && decide (fnState s .converter = .run)
  let t := sinceOf s on s.cnv.staleSince
  let s1 := setCnv s (fun y => { y with staleSince := t })
  if t ≠ 0 ∧ t - 1 + 1000000 ≤ now s then condRaise s1 .acq 3 4 7 0x59030100 (0x5900 * 16)
  else if bad then s1 else clearDet s1 (0x5900 * 16)

/-- CONVERTER_LIMIT_STAGE: every 50 µs of device time (R433, R434). -/
def execConverterLimitStage (s : State) : Host.Outcome State Fault Refusal :=
  .next (if running s ∧ !isShored s 0x5800 ∧ !isShored s 0x5900 ∧ s.cnv.limAt + 50000 ≤ now s then
      cnvWatch (cnvRefs (cnvLimits (cnvRamp (setCnv s (fun x => { x with limAt := now s })))))
    else s)

/-- The Converter's sequencer stands at a step and the function is in RUN. -/
def cnvStep (s : State) (k : Nat) : Bool := running s && decide (s.cnv.step = k) && decide (fnState s .converter = .run)

/-- Step 2 of R436 in either mode: the DCX legs go live at the start frequency or at Dcx.Fsw; in precharge the presets are
written and the bus target starts at the measured bus voltage. -/
def cnvStart (s : State) : State :=
  let fwd := decide (ob s 0x5803 1 = 0)
  let s1 := setCnv s (fun x => { x with
    step := if fwd then 1 else 11, t0 := now s, runAt := now s, softAt := now s, fwd := fwd, live := false, precharged := false,
    fsw := if fwd then some (ob s 0x5900 3) else none, latch := tabGet 0 s.fired (latchIndex s.marks 0x5900 (ob s 0x5901 8)),
    tgt := if fwd then chanVal s (ob s 0x5903 1) else chanVal s (ob s 0x5903 3), hold := none, after := .armed, bind := 0,
    staleSince := 0 })
  let s2 := sendFreqAll (dcxPut s1 true) 10
  if fwd then s2
  else presetBrace (presetBrace s2 (ob s2 0x5902 5) 0) (ob s2 0x5902 4) (f32Of (chanVal s2 (ob s2 0x5903 1)))

/-- DCX_SOFTSTART_STEP: every 100 µs the frequency word falls linearly toward Dcx.Fsw (R436). -/
def execDcxSoftstartStep (s : State) : Host.Outcome State Fault Refusal :=
  let x := s.cnv
  .next (if cnvStep s 1 ∧ x.softAt + 100000 ≤ now s then
      let f := rmin 1 (mkRat (now s - x.t0 : Nat) (max 1 (ob s 0x5900 4) * 1000000))
      let v := obF s 0x5900 3 + (obF s 0x5900 2 - obF s 0x5900 3) * f
      sendFreqAll (setCnv s (fun y => { y with softAt := now s, fsw := if f = 1 then none else some (f32Of v) })) 10
    else s)

/-- The bus lies within ±5 % of the link voltage divided by Dcx.Ratio (step 3 of R436). -/
def busAtLink (s : State) : Bool :=
  let w := chanVal s (ob s 0x2100 1) / obF s 0x5900 5
  decide (rabs (chanVal s (ob s 0x5903 3) - w) ≤ rabs w * mkRat 5 100)

/-- DCX_SOFTSTART_END: step 3 of a forward start: the bus is checked, and the braces are preset (R436). -/
def execDcxSoftstartEnd (s : State) : Host.Outcome State Fault Refusal :=
  .next (if cnvStep s 1 ∧ s.cnv.t0 + ob s 0x5900 4 * 1000000 ≤ now s then
      let s1 := sendFreqAll (setCnv s (fun y => { y with fsw := none })) 10
      if busAtLink s1 then
        let v := chanVal s1 (ob s1 0x5903 1)
        let s2 := presetBrace (presetBrace s1 (ob s1 0x5902 5) 0) (ob s1 0x5902 4) (f32Of v)
        setCnv s2 (fun y => { y with
          step := 2, t0 := now s, tgt := v, latch := tabGet 0 s.fired (latchIndex s.marks 0x5900 (ob s 0x5901 8)) })
      else cnvL3 s1
    else s)

/-- BUCK_LIVE: two latch intervals after the presets the buck-boost legs go live (R436). -/
def execBuckLive (s : State) : Host.Outcome State Fault Refusal :=
  .next (if (cnvStep s 2 ∨ cnvStep s 11)
      ∧ s.cnv.latch + 2 ≤ tabGet 0 s.fired (latchIndex s.marks 0x5900 (ob s 0x5901 8)) then
      setCnv (buckPut s true) (fun y => { y with step := if y.fwd then 3 else 12, live := y.fwd, t0 := now s })
    else s)

/-- The link lies within 2 % of Pre.Target. -/
def linkAtTarget (s : State) : Bool :=
  decide (rabs (chanVal s (ob s 0x2100 1) - obF s 0x5804 1) ≤ obF s 0x5804 1 * mkRat 2 100)

/-- PRECHARGE_REACHED: step 4 of a precharge: PRECHARGED is set and the target is held (R436). -/
def execPrechargeReached (s : State) : Host.Outcome State Fault Refusal :=
  .next (if cnvStep s 12 ∧ linkAtTarget s then
      setCnv s (fun y => { y with step := 13, t0 := now s, precharged := true }) else s)

/-- PRECHARGE_HOLD_END: Pre.HoldTime after that, a controlled stop that ends in ARMED (R436). -/
def execPrechargeHoldEnd (s : State) : Host.Outcome State Fault Refusal :=
  .next (if cnvStep s 13 ∧ s.cnv.t0 + ob s 0x5804 5 * 1000000 ≤ now s then cnvStop s .armed else s)

/-- PRECHARGE_TIMEOUT: step 4 is not reached within Pre.Timeout of the RUN: CNV at L3 (R436). -/
def execPrechargeTimeout (s : State) : Host.Outcome State Fault Refusal :=
  .next (if (cnvStep s 11 ∨ cnvStep s 12) ∧ s.cnv.runAt + ob s 0x5804 4 * 1000000 ≤ now s then cnvL3 s else s)

/-- CONVERTER_STOP_DONE: in a stop, the current is below 2 % of Limit.Current or 10 ms have passed: the buck-boost turns off; the
DCX follows at rod 5's next passage through 0, and a Converter in RUN enters the state that the stop ends in (R438). -/
def execConverterStopDone (s : State) : Host.Outcome State Fault Refusal :=
  let x := s.cnv
  .next (if !running s then s
    else if x.step = 20 then
      (if rabs (chanVal s (ob s 0x5903 2)) < mkRat 2 100 * obF s 0x5803 4 ∨ x.t0 + 10000000 ≤ now s then cnvEnd s else s)
    else if x.step = 21 ∧ !x.buckEnd ∧ (srcPass s 5 0).isSome then
      let s1 := cnvOff s
      if fnState s1 .converter = .run then setFn s1 .converter x.after else s1
    else s)

/-- A write to Converter.Dcx.Fsw: within Rod.MaxRate of rod 5, it is sent to rod 5 at once unless a soft start runs (R430,
R432). A shored block takes it into its pending values. -/
def doDcxFsw (s : State) (q : QReq) : State × Nat :=
  let w := storedOf 9 q.data
  if isShored s 0x5900 then (putValue s (oaddr 0x5900 2) w, 0)
  else if rodMaxHz (viewNow s) 5 < f32Val w then (s, 0x02000006)
  else (sendFreqAll (putValue s (oaddr 0x5900 2) w) 10, 0)

/-- DCX_FSW_WRITE (R430, R432). -/
def execDcxFswWrite (r : Req) (s : State) : Host.Outcome State Fault Refusal :=
  .next (serveWrite s r 0x5900 2 doDcxFsw)

end Sys2Proof.Machine
end

