-- ==== Sys2Proof/Machine/Axle.lean ====
section
/-! DEFINITION. The Axle arbiter and the HVIL switch (R442 to R445). -/

namespace Sys2Proof.Machine

/-- A BMS word with its last fresh value for Axle.Bms.Hold and 0 W after that (R442): the value, whether it is replaced, and
the last fresh word with its time. -/
def bmsWord (s : State) (sub last lastAt : Nat) : Rat × Bool × Nat × Nat :=
  if Nat.land (obSide s 0x5A00 sub) 5 = 0 then (obF s 0x5A00 sub, false, ob s 0x5A00 sub, now s)
  else if now s ≤ lastAt + ob s 0x5A00 3 * 1000000 then (f32Val last, true, last, lastAt)
  else (0, true, last, lastAt)

/-- The mechanical power that a drive requests (R442). -/
def drvPower (s : State) (x : Drv) : Rat :=
  let d := drvBase x
  if fnLive s (drvFn x) then
    let tc := match (drvOf s x).clutchT with | some v => v | none => drvSign s x * obF s (d + 0x200) 1
    tc * (2 * piR * drvHz s x / (max 1 (ob s (d + 3) 1) : Nat))
  else 0

/-- `share` of R442: the grants of two drives, and whether the demands fit. -/
def share (s : State) (da db avail : Rat) : Rat × Rat × Bool :=
  let a := fnLive s .driveA
  let b := fnLive s .driveB
  let sp := obF s 0x5A00 5
  if da + db ≤ avail then
    let r := avail - da - db
    if a && b then (da + sp * r, db + (1 - sp) * r, true)
    else if a then (da + r, 0, true) else if b then (0, db + r, true) else (0, 0, true)
  else (avail * da / (da + db), avail * db / (da + db), false)

/-- A grant takes a fall at once and rises by at most Axle.GrantSlew (R443). -/
def grantTo (s : State) (idx sub : Nat) (v : Rat) : State :=
  let old := obF s idx sub
  ridgeOut s idx sub (f32Of (if old < v then rmin v (old + obF s 0x5A00 6) else v)) 8

/-- PowerRegen under the ramp of OV1 (R443). -/
def regenPut (s : State) (idx sub : Nat) (v fromW : Rat) : State :=
  let x := s.axle
  let n : Nat := max 1 (ob s 0x5A00 7)
  if x.ramp = 0 then grantTo s idx sub v
  else ridgeOut s idx sub (f32Of (rmin v (fromW * rmax 0 (1 - mkRat (x.ramp - 1 : Nat) n)))) 8

/-- One evaluation of the arbiter (R442 to R444). -/
def axleEval (s : State) : State :=
  let x := s.axle
  let p := bmsWord s 1 x.dis x.disAt
  let c := bmsWord s 2 x.chg x.chgAt
  let pa := drvPower s .a
  let pb := drvPower s .b
  let dma := rmax 0 pa
  let dmb := rmax 0 pb
  let dra := rmax 0 (-pa)
  let drb := rmax 0 (-pb)
  let fwd := decide (fnState s .converter = .run) && s.cnv.fwd
  let gconv := if fwd then rmin (obF s 0x5803 5 / obF s 0x5803 7) p.1 else 0
  let a1 := p.1 - gconv
  let gpump := if fnLive s .pump then rmin (obF s 0x5A00 4) a1 else 0
  let a2 := a1 - gpump
  let m := share s dma dmb a2
  let ses := decide (s.chg.step ≠ 0) && decide (fnState s .charger = .run)
  let gv := if ses && s.chg.v2l then a2 - m.1 - m.2.1 else 0
  let ac := c.1 + rmax (obF s 0x5805 6) 0
  let r := share s dra drb ac
  let gc := if ses && !s.chg.v2l then ac - r.1 - r.2.1 else 0
  let y : Axle := { x with
    t0 := now s, dis := p.2.2.1, disAt := p.2.2.2, chg := c.2.2.1, chgAt := c.2.2.2,
    ramp := if s.link.ov1 then (if x.ramp = 0 then 2 else min 1000 (x.ramp + 1)) else 0,
    fromA := if x.ramp = 0 then obF s 0x4200 8 else x.fromA, fromB := if x.ramp = 0 then obF s 0x4A00 8 else x.fromB }
  let s1 := { s with axle := y }
  let s2 := grantTo (grantTo s1 0x4200 7 m.1) 0x4A00 7 m.2.1
  let s3 := regenPut (regenPut s2 0x4200 8 r.1 y.fromA) 0x4A00 8 r.2.1 y.fromB
  let s4 := grantTo (grantTo s3 0x5803 6 gconv) 0x5005 2 (if s.chg.v2l then gv else gc)
  let s5 := putOb (putOb (putOb (putOb s4 0x5A01 1 (f32Of dma)) 0x5A01 2 (f32Of dmb)) 0x5A01 3 (f32Of dra)) 0x5A01 4 (f32Of drb)
  putOb s5 0x5A02 0 (bitAt (decide (y.ramp ≠ 0)) 2 + bitAt (!(m.2.2 && r.2.2)) 1 + bitAt (p.2.1 || c.2.1) 0)

/-- AXLE_EVAL: every 1 ms, and at once on entry into OV1 (R442). -/
def execAxleEval (s : State) : Host.Outcome State Fault Refusal :=
  .next (if running s ∧ (s.axle.t0 + 1000000 ≤ now s ∨ (s.link.ov1 ∧ s.axle.ramp = 0)) then axleEval s else s)

/-- HVIL_CURRENT_LOSS: loop current is lost; with the switch closed COM at L1 without a function (R445). -/
def execHvilCurrentLoss (s : State) : Host.Outcome State Fault Refusal :=
  .next (if running s then
      let s1 := { s with hvilCurrent := false }
      if hvilClosed s then condRaise s1 .com 1 0 7 0x22010100 0x220100 else s1
    else s)

/-- HVIL_CURRENT_RETURN: loop current flows again: the cause clears (R445, R530). -/
def execHvilCurrentReturn (s : State) : Host.Outcome State Fault Refusal :=
  .next (if running s then clearDet { s with hvilCurrent := true } 0x220100 else s)

end Sys2Proof.Machine
end

