-- ==== Sys2Proof/Machine/Power.lean ====
section
/-! DEFINITION. Power, resets, crystals and start-up (R43, R44, R59 to R87). A command whose trigger cannot occur in the
state changes nothing. -/

namespace Sys2Proof.Machine

/-- Step 1 and 2 of R72: the power-up controller starts, ERR_N goes low and PMIC_EN goes high (R65, R540). -/
def powerUp (s : State) : State :=
  { s with power := { s.power with ctl := .waitPg, pmicEn := true, pmicPg := false, errnHeld := true } }

/-- VBAT_RISE: VBAT_AON rises through 5.9 V; in OFF the AON regulator drives ERR_N low, and with PORST_N high the power-up
controller leaves idle (R60, R65, R66). -/
def execVbatRise (s : State) : Host.Outcome State Fault Refusal :=
  let s1 := { s with power := { s.power with vbat := true, errnHeld := s.power.errnHeld || decide (s.dev = .off) } }
  .next (if s.dev = .off ∧ s.power.ctl = .idle ∧ s.power.porstLow = false then powerUp s1 else s1)

/-- VBAT_FALL: VBAT_AON falls through 5.6 V and the device returns to OFF (R44, R60). -/
def execVbatFall (s : State) : Host.Outcome State Fault Refusal :=
  let t := toOff s 1
  .next { t with power := { t.power with vbat := false } }

/-- PORST_N_LOW: PORST_N low for 1 µs or longer forces OFF (R44, R66); in OFF ERR_N stays as it is driven (R65). -/
def execPorstNLow (s : State) : Host.Outcome State Fault Refusal :=
  let t := toOff s (if s.dev = .off ∧ s.power.ctl = .idle then s.power.cause else 2)
  .next { t with power := { t.power with porstLow := true, errnHeld := s.power.errnHeld || decide (s.dev ≠ .off) } }

/-- PORST_N_RELEASE: PORST_N returns high; with VBAT_AON above 5.9 V the power-up sequence starts again (R66). -/
def execPorstNRelease (s : State) : Host.Outcome State Fault Refusal :=
  let s1 := { s with power := { s.power with porstLow := false } }
  .next (if s.dev = .off ∧ s.power.ctl = .idle ∧ s.power.vbat then powerUp s1 else s1)

/-- PMIC_PG_LOSS: while the device runs, PMIC_PG low for 2 µs drops PMIC_EN and enters OFF (R62). During the power-up
sequence, before BOOT, it only notes the level: the sequence goes on or fails by R73 (DESIGN CHOICE, log 96). -/
def execPmicPgLoss (s : State) : Host.Outcome State Fault Refusal :=
  .next (if s.dev ≠ .off ∧ s.dev ≠ .camp then toOff s 3 else { s with power := { s.power with pmicPg := false } })

/-- PMIC_PG_RISE: step 3 of R72, the 25 MHz oscillator and the SAFE RC start. -/
def execPmicPgRise (s : State) : Host.Outcome State Fault Refusal :=
  .next (if s.power.ctl = .waitPg then { s with power := { s.power with ctl := .waitXtal, pmicPg := true } } else s)

/-- VDD_REF_SAMPLE: 100 µs after PMIC_PG rises VDD_REF is sampled; at or above 2.0 V it is the reference, else the
internal driver is enabled; the choice holds until the next OFF or CAMP (R63). -/
def execVddRefSample (mv : Nat) (s : State) : Host.Outcome State Fault Refusal :=
  .next (if s.power.pmicPg ∧ s.power.refSampled = false then
      let s1 := { s with power := { s.power with
        refSampled := true, refExternal := decide (2000 ≤ mv), refUv := if 2000 ≤ mv then mv * 1000 else 2500000 } }
      if running s then putOb s1 0x2020 8 (if 2000 ≤ mv then 1 else 0) else s1
    else s)

/-- CRYSTAL_QUALIFIED: step 5 of R72 (R70). -/
def execCrystalQualified (s : State) : Host.Outcome State Fault Refusal :=
  .next (if s.power.ctl = .waitXtal then { s with power := { s.power with ctl := .waitPll, xtalOk := true } } else s)

/-- The length in ns of a number of AON periods on the crystal and on the RC (R449). -/
def campSpan (s : State) (n : Nat × Nat) : Rat := (n.1 : Nat) * mkRat 30517578125 1000000 + (n.2 : Nat) * f32Val s.camp.rcPeriod

/-- The load of device time after camp: T_e and the AON periods to the first AON edge after the domains leave reset, `us` after the
wake (R449). -/
def campLoad (s : State) (us : Nat) : State :=
  let p : Rat := campSpan s (if s.power.x32On then (1, 0) else (0, 1))
  let k := if p = 0 then 0 else ((us * 1000 : Nat) / p).floor.toNat + 1
  let n := if s.power.x32On then (s.camp.periods.1 + k, s.camp.periods.2) else (s.camp.periods.1, s.camp.periods.2 + k)
  let d := (campSpan s n).floor.toNat
  { s with dt := (s.camp.entered + d) % 2 ^ 64 * 2 ^ 32, camp := { s.camp with duration := d } }

/-- PLL_LOCK: step 6 of R72, the eight domains leave reset and the device enters BOOT (R44); `us` is the time steps 1
to 6 took. A crystal lost in CAMP raises CLK at L1 after the wake (R449). -/
def execPllLock (us : Nat) (s : State) : Host.Outcome State Fault Refusal :=
  .next (if s.power.ctl = .waitPll then
      let s0 := if s.power.cause = 6 then campLoad s us else s
      let s1 := enterBoot { s0 with power := { s0.power with pllLock := true } } s.power.cause us
      if s.power.cause = 6 ∧ s.camp.lost then
        raiseEv { s1 with camp := { s1.camp with lost := false } } .clk 1 0 7 0x22000C00
      else s1
    else s)

/-- POWER_UP_ATTEMPT_FAIL: the controller drops PMIC_EN and waits, or after three consecutive failures keeps it low;
the failure is counted in AON retention (R73, R74). -/
def execPowerUpAttemptFail (s : State) : Host.Outcome State Fault Refusal :=
  .next (if s.power.ctl = .waitPg ∨ s.power.ctl = .waitXtal ∨ s.power.ctl = .waitPll then
      { s with power := { s.power with
          ctl := if 2 ≤ s.power.attempts then .parked else .retryWait,
          attempts := s.power.attempts + 1, failures := min 255 (s.power.failures + 1),
          pmicEn := false, pmicPg := false, refSampled := false, refExternal := false, xtalOk := false } }
    else s)

/-- POWER_UP_RETRY: 100 ms after a failed attempt the controller starts again at step 2 (R73). -/
def execPowerUpRetry (s : State) : Host.Outcome State Fault Refusal :=
  .next (if s.power.ctl = .retryWait then powerUp s else s)

/-- WAKE_RESTART: after three failed attempts a rising edge on WAKE starts again at step 2 (R73). -/
def execWakeRestart (s : State) : Host.Outcome State Fault Refusal :=
  .next (if s.power.ctl = .parked then powerUp { s with power := { s.power with attempts := 0 } } else s)

/-- SEAL_FUSE_LOAD: step 7 of R72; lanes of groups that pass take their sealed safe state, the others stay in their
R64 state (R64, R68, R509). After a fault at L5 in BOOT before it, it does not come: the lanes keep their R64 state in that
LOCKOUT (DESIGN CHOICE, log 96). -/
def execSealFuseLoad (s : State) : Host.Outcome State Fault Refusal :=
  .next (if s.dev = .boot ∧ s.power.laneR64 ∧ s.power.srstHeld = false then
      { s with fuse := loadSeals s.fuse, power := { s.power with laneR64 := false } }
    else s)

/-- A firmware bank (R76). -/
def bankAt (s : State) (b : Nat) : Bank := if b = 0 then s.fw.bankA else s.fw.bankB

/-- A bank's signature verifies and its anti-rollback number is at or above the fuse counter (R76). -/
def bankValid (s : State) (b : Nat) : Bool := (bankAt s b).signed && decide (s.fw.fuseCount ≤ (bankAt s b).rollback)

/-- The first valid bank: the one the boot selector names, then the other (R76). -/
def bankChoice (s : State) : Option Nat :=
  let a := s.fw.selector % 2
  if bankValid s a then some a else if bankValid s (1 - a) then some (1 - a) else none

/-- FIRMWARE_VERIFIED: step 8 of R72: the boot ROM runs the first valid bank and the device enters CHECK; with neither
valid it stays in BOOT (R76, R77). -/
def execFirmwareVerified (s : State) : Host.Outcome State Fault Refusal :=
  .next (if s.dev = .boot ∧ s.power.laneR64 = false ∧ s.power.srstHeld = false then
      match bankChoice s with
      | none => s
      | some b =>
        let s1 := { s with fw := { s.fw with running := some b, fallback := decide (b ≠ s.fw.selector % 2) } }
        setDev (putOb (putOb s1 0x2020 2 b) 0x2020 3 (Config.fwVersion b).toNat) .check
    else s)

/-- Write System.Boot.Check (R87). -/
def putCheck (s : State) (b : Nat) : State := putOb s 0x2020 5 b

/-- The first check that ends CHECK in LOCKOUT, in the order of R78: its bit of System.Boot.Check and the class, scope
and rank of its fault. -/
def checkLockout (s : State) (x : CheckFind) : Option (Nat × Cls × Nat × Nat) :=
  if x.lockstepFail then some (14, .tst, 0, 0)
  else if x.safeClkOff then some (13, .clk, 0, 0)
  else if x.recUncorr then some (7, .mem, 0, 7)
  else match s.tally.lockRec with
    | some r => some (15, clsOf r.cls, r.scope, r.rank)
    | none =>
      if 165000 ≤ x.dieMilliC.1 ∨ 165000 ≤ x.dieMilliC.2 then some (12, .ot, 0, 7)
      else if (List.range 11).any (fun g => decide (groupState s g = 2)) then some (11, .cfg, 0, 7)
      else none

/-- A CHECK that restores LOCKOUT from the record counts in it and in the log's copy (R541). -/
def countRestore (s : State) : State :=
  match s.tally.lockRec with
  | none => s
  | some r =>
    let r' := { r with restores := min 65535 (r.restores + 1) }
    { s with tally := { s.tally with lockRec := some r', log := s.tally.log.map (fun q => if q = r then r' else q) } }

/-- The functions that own or consume a block (check 9 of R78). -/
def blockUsers (s : State) (b : Nat) : List Fn :=
  fnAll.filter (fun f => decide (fnOfBlock b = some f) || fnConsumes s f b)

/-- The functions that use an element of the self-test (check 11 of R78): those that consume a channel of the converter,
the window's sealed function, and the lane's. -/
def testUsers (s : State) : TestElem → List Fn
  | .converter cv => fnAll.filter (fun f => (fnChans (viewNow s) f).any (fun c => decide (c < 512) && seqUses (viewNow s) (c / 16) cv))
  | .window w => (fnOf (winFunc s w)).toList
  | .laneReadback l => (fnOf (sealFunc s l)).toList

/-- The class of a failed element of the self-test (check 11 of R78). -/
def testCls : TestElem → Cls
  | .converter _ => .acq
  | .window _ => .cmp
  | .laneReadback _ => .lan

/-- Corrected words of the MRAM: each is counted in the MRAM statistics, and they are reported at L0 (R79). -/
def mramCorrected (s : State) (n : Nat) : State :=
  if n = 0 then s else raiseEv { s with fw := { s.fw with mramFixed := s.fw.mramFixed + n } } .mem 0 0 7 0

/-- MEM at L3 against the functions that own or consume a block whose configuration area cannot be read (check 9 of R78). -/
def cfgFaults (s : State) (bs : List Nat) : State :=
  bs.foldl (fun t b => raiseAllOr t (blockUsers t b) .mem 3 7 (b * 65536) 0) s

/-- Entry into PREOP: the Ledger serves, the failures' count is published and cleared, ERR_N follows the Tally, and
every domain starts from its values (R65, R74, R82, R86, R201, R504, R636). -/
def enterPreop (s : State) : State :=
  let s1 := putOb (showFailures s) 0x2020 6 (bootDuration s % 2 ^ 32)
  let s2 := { s1 with power := { s1.power with errnHeld := false } }
  domainStart (setDev s2 .preop)

/-- The faults of the checks that let CHECK end in PREOP, raised when it ends (R78). Check 7 holds until a later CHECK
(R80); the others are events of this CHECK (DEDUCED, log 13). -/
def checkFaults (s : State) (x : CheckFind) (blank standby chk : Bool) : State :=
  let s1 := if blank then raiseAll s fnAll .cfg 3 7 0x62010100 7 else s
  let s2 := if standby then raiseEv s1 .sec 1 0 7 0 else s1
  let s4 := mramCorrected (cfgFaults s2 x.cfgUncorr) x.corrected
  let s5 := if chk then raiseEv s4 .cfg 1 0 7 0x60030000 else s4
  x.selfTest.foldl (fun t e => raiseAllOr t (testUsers t e) (testCls e) 3 7 0 0) s5

/-- CHECK_COMPLETE: step 9 of R72 by the checks of R78 to R81; CHECK ends in LOCKOUT (R83) or in PREOP (R82), and the
faults are raised when it ends. Check 4 restores LOCKOUT from the record, and writes no other (R45, R541). -/
def execCheckComplete (x : CheckFind) (s : State) : Host.Outcome State Fault Refusal :=
  .next (if s.dev = .check ∧ s.power.srstHeld = false then
      let s0 := x.cfgUncorr.foldl forgetBlock s
      match checkLockout s0 x with
      | some (b, c, scope, rank) =>
        let s1 := putCheck s0 (2 ^ b)
        let s2 := if b = 15 then countRestore s1 else s1
        let s3 := raiseEv s2 c 5 scope rank 0
        let s3' := if b = 15 then { s3 with tally := { s3.tally with lockRec := s2.tally.lockRec, log := s2.tally.log } } else s3
        let s4 := mramCorrected (cfgFaults s3' x.cfgUncorr) x.corrected
        { s4 with power := { s4.power with errnHeld := false } }
      | none =>
        let blank := (List.range 11).any (fun g => decide (groupState s0 g = 0))
        let standby := match s0.fw.running with | none => true | some b => !bankValid s0 (1 - b)
        let s1 := restoreCfg s0
        let s2 := { s1 with saf := { s1.saf with computed := checkValue s1 } }
        let chk := !chkOk s2
        let s3 := putCheck s2 (checkBits s + bitAt blank 10 + bitAt standby 9 + bitAt (!x.cfgUncorr.isEmpty) 8
                    + bitAt chk 6 + bitAt (!x.selfTest.isEmpty) 5)
        checkFaults (enterPreop s3) x blank standby chk
    else s)

/-- SRST_N_ACCEPT: the device is held in reset while SRST_N stays low, lanes in their R64 state and ERR_N low (R64, R65,
R67); no effect in OFF, during power-up and in CAMP. -/
def execSrstNAccept (s : State) : Host.Outcome State Fault Refusal :=
  .next (if running s then
      { s with power := { s.power with srstHeld := true, laneR64 := true, errnHeld := true } }
    else s)

/-- A deliberate reset clears the current LOCKOUT record and marks the log's copy, before BOOT (R45, R542). -/
def leaveLockout (s : State) (by_ : Nat) : State :=
  match s.tally.lockRec with
  | none => s
  | some r =>
    { s with tally := { s.tally with
      lockRec := none,
      log := s.tally.log.map (fun q => if q = r then { q with left := by_, leftAt := now s } else q) } }

/-- A 32.768 kHz crystal lost while the reset held the device: CLK at L1 is raised at the BOOT that ends it (R85). -/
def lostCrystal (s : State) : State :=
  if s.power.x32Lost then raiseEv { s with power := { s.power with x32Lost := false } } .clk 1 0 7 0x20200700 else s

/-- SRST_N_RELEASE: the rising edge after an accepted reset enters BOOT; out of LOCKOUT it is a deliberate reset (R44,
R45, R67, R68). -/
def execSrstNRelease (s : State) : Host.Outcome State Fault Refusal :=
  .next (if s.power.srstHeld then lostCrystal (enterBoot (if s.dev = .lockout then leaveLockout s 1 else s) 4 0) else s)

/-- X32_QUALIFIED: the AON domain switches to the 32.768 kHz crystal (R71). -/
def execX32Qualified (s : State) : Host.Outcome State Fault Refusal :=
  .next (if s.dev ≠ .off ∧ s.power.x32Given = false then
      putOb { s with
        power := { s.power with x32On := true, x32Given := true },
        camp := { s.camp with qual := s.camp.qual || decide (s.dev = .camp) } } 0x2020 7 0
    else s)

/-- X32_TIMEOUT: no crystal within 1 s of AON start, and AON stays on the RC until the next OFF (R71). -/
def execX32Timeout (s : State) : Host.Outcome State Fault Refusal :=
  .next (if s.dev ≠ .off ∧ s.power.x32Given = false then { s with power := { s.power with x32Given := true } } else s)

/-- X32_LOSS: the crystal is lost outside CAMP, AON switches to the RC, and CLK at L1 is raised; while a reset holds the
device, at the BOOT that ends it (R85). AON then stays on the RC until OFF: a crystal that comes back does not qualify again
(DESIGN CHOICE, log 96). -/
def execX32Loss (s : State) : Host.Outcome State Fault Refusal :=
  .next (if running s ∧ s.power.x32On then
      raiseEv (putOb { s with power := { s.power with x32On := false } } 0x2020 7 1) .clk 1 0 7 0x20200700
    else if s.power.srstHeld ∧ s.power.x32On then
      putOb { s with power := { s.power with x32On := false, x32Lost := true } } 0x2020 7 1
    else s)

/-- CLOCK_SUPERVISION_FAULT: Plumb drives every lane to its sealed safe state through the override and raises CLK at
L5 (R84). -/
def execClockSupervisionFault (s : State) : Host.Outcome State Fault Refusal :=
  .next (if running s ∧ s.dev ≠ .lockout then
      raiseEv { s with power := { s.power with override := true } } .clk 5 0 0 0
    else s)

end Sys2Proof.Machine
end

