-- ==== Sys2Proof/Machine/Shoring.lean ====
section
/-! DEFINITION. Shoring, striking, abandoning, storing and restoring (R21, R25, R26, R33 to R37, R93, R94, R107, R135 to
R147). -/

namespace Sys2Proof.Machine

/-- The conditions of R135 after the block index and the role, in order; 0 where the shore is accepted. -/
def shoreCode (s : State) (b : Nat) : Nat :=
  let own := fnOfBlock b
  if noShore b || (decide (0x3800 ≤ b ∧ b < 0x3C00) && winPriv s ((b - 0x3800) / 0x20)) then 0x03000005
  else if s.dev ≠ .preop ∧ s.dev ≠ .operational then 0x03000005
  else if isShored s b then 0x03000006
  else if fnAll.any (fun f => fnLive s f && (decide (own = some f) || fnConsumes s f b)) then 0x03000001
  else if (match claimedConfig s b with | none => false | some c => !isShored s c) then 0x03000005
  else match own with
    | none => 0
    | some f => if fnState s f = .stopped ∨ fnState s f = .safe ∨ fnState s f = .lockout then 0x03000005 else 0

/-- Accept a shore: the block is shored, its function enters SHORED, and the answer waits for its elements to stop (R51,
R135, R136); an instance that has held its first step completes (R228). -/
def doShore (s : State) (q : QReq) : State × Nat :=
  let b := leNat q.data
  if !isBlock b then (s, 0x02000006)
  else
    let c := shoreCode s b
    if c ≠ 0 then (s, c)
    else
      let e : Shored := { blk := b, owner := some q.ses, done := false, stamp := now s, req := some q }
      let s0 := stopUnheld s b
      let s1 := { s0 with led := { s0.led with shored := s0.led.shored ++ [e] } }
      (match fnOfBlock b with
        | none => s1
        | some f =>
          let s2 := if fnState s1 f = .idle then setFn s1 f .shored else s1
          if f = .parkLock then parkLeft (parkReport s) { s2 with plock := { s2.plock with report := 0, inRel := 0, inEng := 0 } }
          else s2, deferred)

/-- SHORE: a write of a block index to Ledger.Shore (R135, R136). -/
def execShore (r : Req) (s : State) : Host.Outcome State Fault Refusal :=
  .next (serveWrite s r 0x1010 0 doShore)

/-- The last element of a shored block stops: its Ridge words take STL, a rod stops, its RO objects keep their values, and the shore is
answered (R24, R136, R138). -/
def completeShore (s : State) (b : Nat) : State :=
  match shoreOf s b with
  | none => s
  | some e =>
    if e.done then s
    else
      let s1 := (blockWords s b).foldl (fun t w => if w.2 = .ro then ridgeStale t w else t) (stopElems s b)
      let s2 := if 0x2810 ≤ b ∧ b ≤ 0x2870 then
          setRod s1 ((b - 0x2800) / 0x10) { rodAt s1 ((b - 0x2800) / 0x10) with stl := true } else s1
      let s3 := clearBlock s2 b
      let e' := { e with done := true, req := none, frozen := roCells s2 b }
      let s4 := { s3 with led := { s3.led with shored := s3.led.shored.map (fun x => if x.blk = b then e' else x) } }
      match e.req with
      | none => s4
      | some q => reply s4 q 3 []

/-- A conversion instance of the block has held its first step and completes (R228). -/
def seqRunning (s : State) (b : Nat) : Bool :=
  decide (0x3420 ≤ b) && decide (b < 0x3620) && decide ((tabGet ({} : SeqInst) s.seq ((b - 0x3420) / 16)).st = 2)

/-- SHORE_COMPLETE: the last element of the block has stopped (R136). -/
def execShoreComplete (blk : Nat) (s : State) : Host.Outcome State Fault Refusal :=
  .next (if running s ∧ !seqRunning s blk then completeShore s blk else s)

/-- Write Ledger.StrikeResult (R147). -/
def putResult (s : State) (c : Nat) : State := putOb s 0x1016 0 c

/-- The view a strike is checked over: the struck blocks at their pending values, all else in effect (R141). -/
def strikeView (s : State) (bs : List Nat) : Nat → Cell := viewOf s bs

/-- The budget a configuration exceeds: bit 0 Truss (or a brace above 2 MHz), bit 1 Ridge (R36, R37). -/
def overBudget (s : State) (v : Nat → Cell) : Nat :=
  bitAt (decide (320000000 < trussLoad v) || braceFast v) 0 + bitAt (decide (24000000000 < ridgeLoad s v)) 1

/-- The outcome of steps 2 and 3 of R142: 0, or the code that refuses the strike; System.Load.Failed is set on a budget
(R36, R37, R142), and a refusal for another reason leaves it (DESIGN CHOICE, log 113). An abandon whose blocks an operation ahead has
released finds none shored (R107). -/
def checkOp (s : State) (o : StrikeOp) : State × Nat :=
  if o.blocks.isEmpty then (s, 0x02000003)
  else if o.abandon then (s, 0)
  else
    let v := strikeView s o.blocks
    if !strikeCheck s v o.blocks then (s, 0x02000006)
    else
      let f := overBudget s v
      if f ≠ 0 then (putOb s 0x2012 0 f, 0x03000002) else (s, 0)

/-- Refused operations complete and leave the queue, until one at the head has passed its checks (R140, R145). -/
def startOps : Nat → State → State
  | 0, s => s
  | n + 1, s =>
    match s.led.strikes with
    | [] => s
    | o' :: rest =>
      if o'.built then s
      else
        let o := { o' with blocks := o'.blocks.filter (isShored s) }
        let r := checkOp s o
        if r.2 = 0 then
          { r.1 with led := { r.1.led with strikes := { o with built := true } :: rest } }
        else
          let s1 := putResult { r.1 with led := { r.1.led with strikes := rest } } r.2
          let s2 := if o.live then refuse s1 o.req r.2 else s1
          startOps n { s2 with led := { s2.led with
            strikes := s2.led.strikes.map (fun x => if x.built then x else { x with from_ := max x.from_ (now s2) }) } }

/-- The blocks a strike or abandon commits, or the code that refuses it at receipt (R107). -/
def opBlocks (s : State) (ses v : Nat) : List Nat × Nat :=
  if v = 0xFFFF then
    let l := (s.led.shored.filter (fun e => decide (e.owner = some ses))).map (fun e => e.blk)
    (l, if l.isEmpty then 0x02000003 else 0)
  else match shoreOf s v with
    | none => ([], 0x02000003)
    | some e => ([v], if e.owner = some ses ∨ e.owner = none then 0 else 0x03000006)

/-- The claiming block of a loop and the configuration blocks of the loop and its members (R284). -/
def loopFamily (s : State) (e : Nat × Nat) : List Nat :=
  e.2 :: loopBase e.1 :: (loopMembers (viewNow s) e.1).map elemBlock

/-- A family of claimed elements would be torn: one block is committed and another stays shored (R284). -/
def tornFamily (s : State) (bs : List Nat) : Bool :=
  (s.owned.map (loopFamily s) ++ (elemNames (viewNow s)).map (fun e => [e.2, elemBlock e.1])).any (fun fam =>
    fam.any (fun b => bs.contains b) && fam.any (fun b => isShored s b && !bs.contains b))

/-- Queue a strike or an abandon and start it where none is ahead (R107, R140, R142, R146, R147). -/
def doOp (abandon : Bool) (s : State) (q : QReq) : State × Nat :=
  let v := leNat q.data
  if v ≠ 0xFFFF ∧ !isBlock v then (s, 0x02000006)
  else
    let r := opBlocks s q.ses v
    if r.2 ≠ 0 then (putResult s r.2, r.2)
    else if tornFamily s r.1 then (putResult s 0x03000005, 0x03000005)
    else
      let o : StrikeOp := { req := q, live := true, from_ := q.stamp, blocks := r.1, abandon := abandon, built := false }
      let s2 := { s with led := { s.led with strikes := s.led.strikes ++ [o] } }
      (startOps s2.led.strikes.length s2, deferred)

/-- STRIKE: a write to Ledger.Strike is queued and checked (steps 1 to 4 of R142). -/
def execStrike (r : Req) (s : State) : Host.Outcome State Fault Refusal :=
  .next (serveWrite s r 0x1011 0 (doOp false))

/-- ABANDON: a write to Ledger.Abandon is queued (R146). -/
def execAbandon (r : Req) (s : State) : Host.Outcome State Fault Refusal :=
  .next (serveWrite s r 0x1012 0 (doOp true))

/-- The access code of an address, WO where no object is. -/
def accOf (s : State) (a : Nat) : Acc := match rowAt a with | none => .wo | some r => accAt s a r

/-- The addresses and the values in effect of a block's objects of the access codes named, where either they or what is
persisted differ from the default (R93). -/
def blockCells (s : State) (accs : List Acc) (b : Nat) : Tab Cell :=
  (s.objs ++ s.mram).filterMap (fun e =>
    if blockAt e.1 = some b ∧ accs.contains (accOf s e.1) then some (e.1, cellAt s e.1) else none)

/-- The release of the operation at the head of the queue (step 5 of R142): the blocks run, the record is published, the
answer is sent, and the next operation starts. -/
def releaseOp (s : State) (o : StrikeOp) (rest : List StrikeOp) : State :=
  let s0 := if o.abandon ∧ o.blocks.contains 0x6000 then abortTk s 0 else s
  let s1 := afterRelease s (o.blocks.foldl clearBlock (releaseBlocks (!o.abandon) s0 o.blocks)) (!o.abandon) o.blocks
  let s2 := { s1 with led := { s1.led with
    strikes := rest.map (fun x => { x with from_ := max x.from_ (now s) }),
    persist := if o.abandon then s1.led.persist
               else s1.led.persist ++ [(now s + 20000000, o.blocks, o.blocks.flatMap (blockCells s1 [.sh, .rw]))] } }
  let s3 := if o.abandon then s2 else putOb s2 0x2012 0 0
  let s4 := putOb (putOb (putResult s3 0) 0x1017 0 ((now s - o.req.stamp) / 1000 % 2 ^ 32)) 0x1018 0 (now s % 2 ^ 64)
  let s5 := if o.live then reply s4 o.req 3 [] else s4
  startOps s5.led.strikes.length s5

/-- The release instant of a strike or abandon of n blocks: 4 ms + 0.5 ms × (n − 1) after its receive stamp, or after the
end of the one ahead, rounded up to the next phase frame of 25 ns (steps 4 and 5 of R142, R140). -/
def releaseAt (o : StrikeOp) : Nat := (o.from_ + 4000000 + 500000 * (o.blocks.length - 1) + 24) / 25 * 25

/-- STRIKE_RELEASE: the release instant of the strike or abandon in progress (R142, R146). It does not come before the shores of its
blocks are answered (DESIGN CHOICE, log 117). -/
def execStrikeRelease (s : State) : Host.Outcome State Fault Refusal :=
  .next (match s.led.strikes with
    | [] => s
    | o :: rest => if o.built ∧ running s ∧ releaseAt o ≤ now s ∧ o.blocks.all (shoreDone s) then releaseOp s o rest else s)

/-- A block's persistence is noted (R94). -/
def noteStored (s : State) (b : Nat) : State :=
  { s with led := { s.led with stored := tabSet 0 s.led.stored b (now s + 1) } }

/-- Persist the values in effect of a block's objects of the access codes named (R93). -/
def persistBlock (accs : List Acc) (s : State) (b : Nat) : State :=
  noteStored ((blockCells s accs b).foldl (fun t e => persistCell t e.1 e.2) s) b

/-- The struck values of a release are persisted, as they were at that release (step 7 of R142). -/
def persistStruck (s : State) (p : List Nat × Tab Cell) : State :=
  p.1.foldl noteStored (p.2.foldl (fun t e => persistCell t e.1 e.2) s)

/-- STRIKE_PERSIST: 20 ms after a release the struck SH and RW values are persisted (step 7 of R142, R93). -/
def execStrikePersist (s : State) : Host.Outcome State Fault Refusal :=
  .next (match s.led.persist with
    | [] => s
    | p :: rest => if p.1 ≤ now s then persistStruck { s with led := { s.led with persist := rest } } p.2 else s)

/-- Persist the RW device-level objects except Enable (R95). -/
def persistDevice (s : State) : State :=
  let ks := (s.objs ++ s.mram).filterMap (fun e =>
    if e.1 / 256 < 0x2000 ∧ accOf s e.1 = .rw ∧ !(decide (0x1400 ≤ e.1 / 256 ∧ e.1 / 256 < 0x1420) && decide (e.1 % 256 = 1))
    then some e.1 else none)
  let s1 := ks.foldl persistAt s
  { s1 with led := { s1.led with stored := tabSet 0 s1.led.stored 0x1000 (now s + 1) } }

/-- A Store within 10 s of the block's latest persistence is refused; else its RW values in effect are persisted (R93,
R94, R95). -/
def doStore (s : State) (q : QReq) : State × Nat :=
  let b := leNat q.data
  let t := tabGet 0 s.led.stored b
  if b ≠ 0x1000 ∧ !isBlock b then (s, 0x02000006)
  else if t ≠ 0 ∧ now s < t - 1 + 10000000000 then (s, 0x03000009)
  else if b = 0x1000 then (persistDevice s, 0)
  else (persistBlock [.rw] s b, 0)

/-- STORE: a write to Ledger.Store (R94). -/
def execStore (r : Req) (s : State) : Host.Outcome State Fault Refusal :=
  .next (serveWrite s r 0x1013 0 doStore)

/-- A Restore loads the defaults of the SH and RW objects into the pending values (R94). -/
def doRestore (s : State) (q : QReq) : State × Nat :=
  let b := leNat q.data
  if !isBlock b then (s, 0x02000006)
  else match shoreOf s b with
  | none => (s, 0x02000003)
  | some e =>
    if e.owner ≠ some q.ses then (s, 0x03000006)
    else
      let ks := (s.objs ++ s.pend).filterMap (fun e =>
        if blockAt e.1 = some b ∧ [Acc.sh, .rw].contains (accOf s e.1) then some e.1 else none)
      ({ s with pend := ks.foldl (fun t a => tabPut t a (dfltAt a)) s.pend }, 0)

/-- RESTORE: a write to Ledger.Restore (R94). -/
def execRestore (r : Req) (s : State) : Host.Outcome State Fault Refusal :=
  .next (serveWrite s r 0x1014 0 doRestore)

end Sys2Proof.Machine
end

