-- ==== Sys2Proof/Machine/CampMode.lean ====
section
/-! DEFINITION. Camp mode: entry, and the wake with the hand-back of device time (R446 to R451). -/

namespace Sys2Proof.Machine

/-- Write the camp-entry sequencer. -/
def setCamp (s : State) (f : Camp → Camp) : State := { s with camp := f s.camp }

/-- A write of 1 to System.Camp.Enter: step 1 of R446; an entry that runs already goes on (DEDUCED, log 32). -/
def doCampEnter (s : State) (_q : QReq) : State × Nat :=
  if s.dev ≠ .preop ∧ s.dev ≠ .operational then (s, 0x03000005)
  else if fnAll.any (fnLive s) then (s, 0x03000001)
  else if s.camp.step ≠ 0 then (s, 0)
  else (setCamp s (fun x => { x with step := 1, t0 := now s, woken := none, result := 1 }), 0)

/-- CAMP_ENTER (R446). -/
def execCampEnter (r : Req) (s : State) : Host.Outcome State Fault Refusal :=
  .next (serveWrite s r 0x2200 1 doCampEnter)

/-- Step 3 of R446: every session closes, shored blocks are abandoned, and the pending persistence completes. -/
def campClose (s : State) : State :=
  let s1 := (List.range 8).foldl closeSession s
  let s2 := releaseBlocks false s1 (s1.led.shored.map (fun x => x.blk))
  let s3 := s2.led.persist.foldl (fun t p => persistStruck t p.2) s2
  { s3 with led := { s3.led with persist := [], strikes := [] } }

/-- The link reads below Camp.LinkLevel, or no link channel is named (step 2 of R446). -/
def campLinkOk (s : State) : Bool :=
  let ch := ob s 0x2100 1
  decide (ch = 0xFFFF) || (chanGood s ch && decide (chanVal s ch < obF s 0x2200 2))

/-- CAMP_LINK_LOW: the link reads low, step 2 of R446; sent again from 1 ms later on, step 3. -/
def execCampLinkLow (s : State) : Host.Outcome State Fault Refusal :=
  .next (if running s ∧ s.camp.step = 1 ∧ campLinkOk s then setCamp s (fun x => { x with step := 2, t0 := now s })
    else if running s ∧ s.camp.step = 2 ∧ s.camp.t0 + 1000000 ≤ now s then
      setCamp (campClose s) (fun x => { x with step := 3, t0 := now s })
    else s)

/-- The sequencer ends before step 3: the HVIL switch follows System.Hvil.Close again, the result is written, and CNV at L1
is raised (R447). -/
def campAbandon (s : State) (result : Nat) : State :=
  raiseEv (setCamp s (fun x => { x with step := 0, result := result })) .cnv 1 0 7 0x22000100

/-- CAMP_LINK_TIMEOUT: step 2 has not come within Camp.LinkTimeout (R447). -/
def execCampLinkTimeout (s : State) : Host.Outcome State Fault Refusal :=
  .next (if running s ∧ s.camp.step = 1 ∧ !campLinkOk s ∧ s.camp.t0 + ob s 0x2200 3 * 1000000 ≤ now s then campAbandon s 3 else s)

/-- What AON retention takes of windows 28 to 31: the settings, and whether the window may wake; a shored one wakes nothing
(R277, R278). -/
def wakeWindows (s : State) : Tab KeptWin :=
  (List.range 4).foldl (fun a k =>
    let b := winBase (28 + k)
    tabSet {} a k { wake := decide (ob s b 1 = 1) && decide (ob s b 0x14 = 1) && !isShored s b, src := ob s b 2, thrL := ob s b 3,
                    thrH := ob s b 4, pol := ob s b 5, hyst := ob s b 6, filter := ob s b 7 }) []

/-- One AON period of a comparison in CAMP: its output, and for how many periods it has held it (R268, R277). -/
def keptStep (below : Bool) (th hy : Nat) (src pol : Nat) (x : Bool × Nat) (uv : Int) : Bool × Nat :=
  let code (k : Nat) : Rat := mkRat (k * 2500000 : Nat) 1024
  let c := winCompare below x.1 (inputOf src pol uv) (code th) (code hy)
  (c, if c then x.2 + 1 else 0)

/-- L or H of a window in CAMP asserts: its comparison holds through Win.Filter AON periods after its first sample (R277). -/
def keptAsserts (k : KeptWin) (uvs : List Int) : Bool :=
  let on (below : Bool) (th : Nat) : Bool :=
    ((List.range (uvs.length + 1)).any (fun n =>
      decide (k.filter < ((uvs.take n).foldl (keptStep below th k.hyst k.src k.pol) (false, 0)).2)))
  k.wake && decide (k.src ≠ 0xFF) && (on (bit k.pol 0) k.thrL || on (bit k.pol 1) k.thrH)

/-- The codes of a wake event that the settings in AON retention allow (R448). -/
def wakeCodes (s : State) (x : WakeEv) : List Nat :=
  (List.range 9).filter (fun c =>
    if 2 ≤ c ∧ c ≤ 5 then
      x.wins.any (fun e => decide (e.1 + 2 = c) && keptAsserts (tabGet {} s.camp.windows e.1) e.2)
    else
      x.codes.contains c && (decide (c = 1) || (decide (c = 6) && bit s.camp.canWake 0 && decide (s.camp.canTime ≤ x.can0Us))
        || (decide (c = 7) && bit s.camp.canWake 1 && decide (s.camp.canTime ≤ x.can1Us))
        || (decide (c = 8) && decide (s.camp.timer ≠ 0))))

/-- The time of a stay in camp up to a wake in ns (R449). -/
def campTime (s : State) (x : WakeEv) : Rat := campSpan s (x.periodsX32, x.periodsRc)

/-- The wake of R75: its record and the power-up sequence, with the AON domain on the source it has (R449). RC periods are a crystal's
loss unless it qualified in this stay, when they are those before that (R71, R75; DESIGN CHOICE, log 120). -/
def campWakeUp (s : State) (x : WakeEv) : State :=
  let cs := wakeCodes s x
  let lost := s.power.x32On && decide (x.periodsRc ≠ 0) && !s.camp.qual
  let s1 := setCamp s (fun y => { y with
    step := 0, woken := none, cause := cs.headD 0, sources := cs.foldl (fun a c => a + 2 ^ (c - 1)) 0,
    periods := (x.periodsX32, x.periodsRc), holdover := if !s.power.x32On then 1 else if lost then 2 else 0, lost := lost })
  powerUp { s1 with power := { s1.power with cause := 6, x32On := s.power.x32On && !lost } }

/-- What CAMP leaves of the state: as at OFF, but the AON domain keeps device time, the settings of block 0x2200 and the crystal, and
ERR_N keeps its level (R43, R446, R451). -/
def toCamp (s : State) (rcps : Nat) : State :=
  let low := errnLow s
  let b := bootState s
  let c : Camp := { s.camp with
    step := 0, result := 2, entered := now s, rcPeriod := f32Of (mkRat rcps 1000), timer := ob s 0x2200 6,
    canWake := ob s 0x2200 4, canTime := ob s 0x2200 5, linkLevel := ob s 0x2200 2, linkTimeout := ob s 0x2200 3,
    hvilClose := ob s 0x2201 1, windows := wakeWindows s, qual := false }
  { b with
    dev := .camp, camp := c, tick := 0,
    power := { s.power with
      ctl := .idle, pmicEn := false, pmicPg := false, attempts := 0, refSampled := false, refExternal := false,
      refUv := 2500000, xtalOk := false, pllLock := false, srstHeld := false, laneR64 := true, errnHeld := low,
      override := false, preUs := 0 } }

/-- CAMP_ENTRY_COMPLETE: steps 4 and 5 of R446 with the measured RC period in ps; a wake latched since step 3 acts at once
(R447). -/
def execCampEntryComplete (rcps : Nat) (s : State) : Host.Outcome State Fault Refusal :=
  .next (if running s ∧ s.camp.step = 3 then
      let s1 := toCamp s rcps
      match s.camp.woken with
      | none => s1
      | some x => campWakeUp s1 x
    else s)

/-- The settings that a wake event meets outside CAMP: those in effect. -/
def campArm (s : State) : State :=
  setCamp s (fun y => { y with timer := 0, canWake := ob s 0x2200 4, canTime := ob s 0x2200 5, windows := wakeWindows s })

/-- CAMP_WAKE: a wake event ends the entry before step 3, is latched from step 3 on, or wakes the device from CAMP (R447 to
R449). -/
def execCampWake (x : WakeEv) (s : State) : Host.Outcome State Fault Refusal :=
  .next (if s.dev = .camp then
      (if s.power.ctl = .idle ∧ wakeCodes s x ≠ [] ∧ (wakeCodes s x ≠ [8] ∨ (s.camp.timer * 1000000000 : Nat) ≤ campTime s x) then
        campWakeUp s x else s)
    else if running s ∧ (s.camp.step = 1 ∨ s.camp.step = 2) ∧ wakeCodes (campArm s) x ≠ [] then campAbandon s 4
    else if running s ∧ s.camp.step = 3 ∧ wakeCodes (campArm s) x ≠ [] then
      setCamp s (fun y => { y with woken := some x }) else s)

end Sys2Proof.Machine
end

