-- ==== Sys2Proof/Machine/Truss.lean ====
section
/-! DEFINITION. The commands of the Truss domain (R298 to R327): loops with their nested loops, coefficients, the bench's
generator and capture. -/

namespace Sys2Proof.Machine

/-- A loop's running state. -/
def loopAt (s : State) (l : Nat) : Loop := tabGet {} s.loops l

/-- Write a loop's running state. -/
def setLoop (s : State) (l : Nat) (x : Loop) : State := { s with loops := tabSet {} s.loops l x }

/-- A claimed loop evaluates: its claiming block and its own are not shored, and its function is in ARMED, RUN, STOPPED or SAFE
(R353, R423, R438). -/
def loopActive (s : State) (l : Nat) : Bool :=
  let o := loopOwner s.owned l
  running s && decide (o ≠ 0) && !isShored s o && !isShored s (loopBase l)
    && (match fnOfBlock o with
        | none => true
        | some f => fnLive s f || decide (fnState s f = .stopped) || decide (fnState s f = .safe))

/-- The claimed loops nested directly under a loop. -/
def nestedUnder (s : State) (l : Nat) : List Nat :=
  (s.owned.map (fun e => e.1)).filter (fun m => decide (ob s (loopBase m) 3 = l))

/-- The due nested loops of a chain that are active, outermost first, their counters advanced; one that does not evaluate passes no
evaluation on to those nested in it (R23, R50, R311). -/
def dueLoops : Nat → State → Nat → State × List Nat
  | 0, s, _ => (s, [])
  | n + 1, s, l =>
    (nestedUnder s l).foldl (fun a m =>
      let x := loopAt a.1 m
      let t := setLoop a.1 m { x with k := x.k + 1 }
      if x.k % max 1 (ob a.1 (loopBase m) 4) = 0 ∧ loopActive a.1 m then
        let r := dueLoops n t m
        (r.1, a.2 ++ r.2 ++ [m])
      else (t, a.2)) (s, [])

/-- Brace evaluations are counted by the millisecond (R319). -/
def countEvals (s : State) (n : Nat) : State :=
  let ms := now s / 1000000
  if ms = s.evalMs then { s with evals := s.evals + n }
  else { s with evals := n, evalsPrev := if ms = s.evalMs + 1 then s.evals else 0, evalMs := ms }

/-- The source words of the response capture. -/
def respSrc (s : State) : List Nat := (List.range (ob s 0x3C29 1)).map (fun k => ob s 0x3C28 (k + 1))

/-- A channel's value word and sideband at the end of an evaluation (R324). -/
def respVal (s : State) (w : Nat) : Nat × Nat :=
  if srcKind w = 1 then let c := cellNow s (srcAddr w); (c.toNat % 2 ^ 32, bits c.toNat 35 32)
  else
    let i := bits w 7 0
    let x := brcOf s i
    let sel := bits w 9 8
    (f32Of (if sel = 0 then ofMant (braceEd s i) x.e else if sel = 1 then ofMant (braceEd s i) x.y
            else if sel = 2 then ofMant (braceEd s i) x.u else x.g), x.side)

/-- The capture at the end of an evaluation of a loop whose trigger came at `trig` (R324). -/
def respRow (s : State) (l trig : Nat) : State :=
  let x := s.resp
  if ob s 0x3C29 2 ≠ l ∨ (x.st ≠ 1 ∧ x.st ≠ 2) then s
  else
    let n := x.n + 1
    let y := { x with n := n }
    if n % max 1 (ob s 0x3C29 3) ≠ 0 then { s with resp := y }
    else
      let vs := (respSrc s).map (respVal s)
      let side := (List.range vs.length).foldl (fun a k => a + (vs.getD k (0, 0)).2 % 16 * 2 ^ (4 * k)) 0
      let row : RespRow := { stamp := trig / 2 ^ 32, side := side, vals := vs.map (fun v => v.1) }
      if x.st = 1 then
        let rs := (x.rows ++ [row]).drop (x.rows.length + 1 - min (ob s 0x3C29 4) (respCap (ob s 0x3C29 1)))
        { s with resp := { y with rows := lastRows rs } }
      else if respFull s then { s with resp := y }
      else
        { s with resp := { y with
          rows := x.rows ++ [row], trig := some (x.trig.getD x.rows.length),
          trigTime := if x.trig.isNone then trig / 2 ^ 32 else x.trigTime } }

/-- Injection that began in an evaluation triggers the capture (R324). -/
def respInject (before s : State) : State :=
  if before.inj.n = 0 ∧ s.inj.n ≠ 0 ∧ s.resp.st = 1 ∧ ob s 0x3C29 5 = 1 then { s with resp := { s.resp with st := 2 } } else s

/-- The drive whose current loop a loop is. -/
def loopDrv (s : State) (l : Nat) : Option Drv :=
  if ob s 0x4100 4 = l ∧ loopOwner s.owned l = 0x4100 then some .a
  else if ob s 0x4900 4 = l ∧ loopOwner s.owned l = 0x4900 then some .b else none

/-- What a function does before the members of its current loop: the Converter's clamp stage (R309, R433). -/
def loopBefore (s : State) (l : Nat) : State :=
  if ob s 0x5902 1 = l ∧ loopOwner s.owned l = 0x5900 then clampStage s else s

/-- What a function does after the members of its current loop: a drive's presets, the duty stages (R357, R405, R433). -/
def loopAfter (s : State) (l : Nat) : State :=
  let s1 := match loopDrv s l with | none => s | some x => drvAfter s x
  if ob s1 0x5200 4 = l ∧ loopOwner s1.owned l = 0x5200 then dutyStage s1
  else if ob s1 0x5902 1 = l ∧ loopOwner s1.owned l = 0x5900 then cnvDutyStage s1
  else s1

/-- One evaluation of a loop (R307). -/
def loopEval (trig : Nat) (s : State) (l : Nat) : State :=
  let cs := loopMembers (viewNow s) l
  let s1 := cs.foldl (memberEval trig) (loopBefore s l)
  let s2 := countEvals (incOb (loopAfter s1 l) (loopBase l + 2) 5) (cs.filter isBrace).length
  respRow (respInject s s2) l trig

/-- The outputs of a dropped loop miss their update (R310). -/
def loopMiss (s : State) (l : Nat) : State := (loopMembers (viewNow s) l).foldl memberMiss s

/-- The parts of one loop's evaluation: each member's time in list order (R307, R309). -/
def loopItems (s : State) (l : Nat) : List MacItem :=
  let v := viewNow s
  let cs := loopMembers v l
  (List.range cs.length).map (fun k =>
    { mac := isBrace (cs.getD k 0xFFFF), ns := memberLatency v cs k, prio := ob s (loopBase l) 5, loop := l })

/-- The parts of an evaluation with the nested loops that are due, which run first (R309, R311). -/
def evalItems (s : State) (l : Nat) (due : List Nat) : List MacItem :=
  let wait (n : Nat) : MacItem := { mac := false, ns := n, prio := 0, loop := l }
  due.flatMap (fun m => wait 10 :: loopItems s m) ++ (wait (restStage (viewNow s) l) :: loopItems s l)

/-- An evaluation on its way: its ready time, and the parts left. -/
structure MacRun where
  job : MacJob
  ready : Nat
  left : List MacItem
deriving DecidableEq, Repr

/-- The parts that need no MAC lane pass at once. -/
def macPass (r : MacRun) : MacRun :=
  let free := r.left.takeWhile (fun i => !i.mac)
  { r with ready := r.ready + nsTime (free.foldl (fun a i => a + i.ns) 0), left := r.left.drop free.length }

/-- The key by which ready evaluations take a lane: Loop.Priority, trigger event, loop number (R308). -/
def macKey (r : MacRun) : List Nat :=
  match r.left with
  | [] => []
  | i :: _ => [i.prio, r.job.trig, i.loop]

/-- One brace evaluation takes a lane: at the first instant at which a lane is free and an evaluation ready, the first of those ready
by their key (R308). None when nothing is left. -/
def macNext (rs : List MacRun) (lanes : List Nat) : Option (MacRun × Nat × Nat) :=
  let ws := rs.filter (fun r => !r.left.isEmpty)
  match ws, lanes with
  | [], _ => none
  | _, [] => none
  | w :: _, _ :: _ =>
    let f := lanes.foldl min (lanes.headD 0)
    let t := max f (ws.foldl (fun a r => min a r.ready) w.ready)
    let rd := ws.filter (fun r => decide (r.ready ≤ t))
    let first := rd.foldl (fun a r => if macKey r < macKey a then r else a) (rd.headD w)
    some (first, t, f)

/-- The MAC lanes serve the running evaluations to their ends (R308); the fuel is the number of parts. -/
def macServe : Nat → List MacRun → List Nat → List MacRun
  | 0, rs, _ => rs
  | n + 1, rs, lanes =>
    match macNext rs lanes with
    | none => rs
    | some (r, t, f) =>
      let r' := macPass { r with ready := t + nsTime ((r.left.headD { mac := true, ns := 25, prio := 0, loop := 0 }).ns), left := r.left.drop 1 }
      macServe n (rs.map (fun x => if x.job.loop = r.job.loop ∧ x.job.trig = r.job.trig then r' else x)) ((t + nsTime 25) :: lanes.erase f)

/-- The evaluations with the instants at which their last output is readable, on the lanes in service (R308, R309, R320). -/
def macEnds (lanes : Nat) (js : List MacJob) : List (MacJob × Nat) :=
  let rs := js.map (fun j => macPass { job := j, ready := j.start, left := j.items })
  (macServe (js.foldl (fun a j => a + j.items.length) 0) rs (List.replicate lanes 0)).map (fun r => (r.job, r.ready))

/-- The number of MAC lanes in service (R319, R320). -/
def macLanes (s : State) : Nat := ((List.range 8).filter (fun k => bit (ob s 0x3C00 1) k)).length

/-- The running evaluations give their loops their ends and largest latencies (R308 to R310). -/
def macPublish (s : State) : State :=
  ((macEnds (macLanes s) s.mac).filter (fun e => decide (e.1.loop < 32))).foldl (fun t e =>
    let l := e.1.loop
    let lat := (e.2 - e.1.trig) / 2 ^ 32
    let t1 := if (loopAt t l).trigAt = e.1.trig then setLoop t l { loopAt t l with busyUntil := e.2 } else t
    if ob t1 (loopBase l + 2) 3 < lat then putOb t1 (loopBase l + 2) 3 lat else t1) s

/-- An evaluation starts on the MAC lanes. One that has ended is forgotten once no running one began before its end (R308). -/
def macStart (s : State) (j : MacJob) : State :=
  let es := macEnds (macLanes s) s.mac
  let run := es.filter (fun e => decide (j.start < e.2))
  let keep := es.filter (fun e => run.any (fun r => decide (r.1.start < e.2)))
  macPublish { s with mac := keep.map (fun e => e.1) ++ [j] }

/-- A test evaluation of the Outrider on a MAC lane: it comes after every ready evaluation of a loop, and one that becomes ready
meanwhile waits for it (R308, R593). Its key stands behind every Loop.Priority. -/
def macTest (s : State) (lane : Nat) : State :=
  macStart s { loop := 0x100 + lane, trig := s.dt, start := s.dt, items := [{ mac := true, ns := 25, prio := 256, loop := 0x100 + lane }] }

/-- A loop's evaluation is dropped: its outputs miss their update, and the fourth drop in a row raises its fault once (R310, R320). -/
def loopDrop (s : State) (l : Nat) : State :=
  let x := loopAt s l
  let s1 := loopMiss (setLoop s l { x with drops := x.drops + 1 }) l
  if x.drops = 3 then
    condRaise s1 .trs 3 (match fnOfBlock (loopOwner s.owned l) with | none => 0 | some f => fnCode f) 7 (loopBase l * 65536 + 256)
      (loopBase l * 16)
  else s1

/-- An evaluation of a loop that is not dropped ends a run of drops (R310). -/
def loopTaken (s : State) (l : Nat) : State :=
  setLoop (clearDet s (loopBase l * 16)) l { loopAt s l with drops := 0 }

/-- A triggered loop's event: dropped while the previous evaluation runs, else the due nested loops and the loop (R306, R310,
R311). -/
def loopEvent (s : State) (l trig : Nat) : State :=
  let d := dueLoops 3 s l
  let ls := d.2 ++ [l]
  if trig < (loopAt d.1 l).busyUntil then incOb (ls.foldl loopDrop d.1) (loopBase l + 2) 4
  else
    let j : MacJob := { loop := l, trig := trig, start := trig + nsTime (ob s (loopBase l) 2 + 10), items := evalItems s l d.2 }
    let s1 := ls.foldl loopTaken d.1
    ls.foldl (loopEval trig) (macStart (setLoop s1 l { loopAt s1 l with trigAt := trig }) j)

/-- Time of a trigger event in units of device time. -/
def evTime (e : TrigEv) : Nat := nsTime e.stamp + e.phase * 671088640

/-- The order in which the evaluations of waiting events start: by the instant of their start, then as R308 says. -/
def loopKey (s : State) (e : TrigEv) : List Nat :=
  [evTime e + nsTime (ob s (loopBase e.num) 2), ob s (loopBase e.num) 5, evTime e, e.num]

/-- No event of an active loop starts before an event (R308). -/
def loopFirst (s : State) (e : TrigEv) : Bool :=
  s.trigs.all (fun x => decide (x.kind ≠ 1) || !loopActive s x.num || !decide (loopKey s x < loopKey s e))

/-- LOOP_TRIGGER: the first event on its way to a loop starts it, Loop.Delay after the event, in its order among the loops that
start. A drive's reference unit and bands run on every event of its current loop (R306, R308, R332). -/
def execLoopTrigger (l : Nat) (s : State) : Host.Outcome State Fault Refusal :=
  .next (match s.trigs.find? (fun e => decide (e.kind = 1) && decide (e.num = l)) with
    | none => s
    | some e =>
      if s.dt < evTime e + nsTime (ob s (loopBase l) 2 + 10) ∨ (loopActive s l ∧ !loopFirst s e) then s
      else
        let s1 := { s with trigs := s.trigs.erase e }
        if !loopActive s1 l then s1
        else
          let s2 := match loopDrv s1 l with | none => s1 | some x => drvBefore s1 x (evTime e)
          loopEvent s2 l (evTime e))

/-- A write to a coefficient word (R286, R289). -/
def doCoef (i bank k : Nat) (s : State) (q : QReq) : State × Nat :=
  let a := oaddr (braceBase i + 1 + bank) (k + 1)
  let s1 := putValue s a (leNat q.data)
  (if addrShored s a then s1 else coefCheck s1 i, 0)

/-- BRACE_COEF_WRITE (R286). -/
def execBraceCoefWrite (r : Req) (i bank k : Nat) (s : State) : Host.Outcome State Fault Refusal :=
  .next (serveWrite s r (braceBase i + 1 + bank) (k + 1) (doCoef i bank k))

/-- A write to Brace.Select: bank 1 needs Brace.Shadow; with SelectPreset a change presets the history with the latest output
(R299, R303). -/
def doSelect (i : Nat) (s : State) (q : QReq) : State × Nat :=
  let v := leNat q.data
  let b := braceBase i
  if v = 1 ∧ vw (viewOf s [b]) b 9 = 0 then (s, 0x02000006)
  else
    let s1 := putValue s (oaddr (b + 3) 1) v
    if isShored s b ∨ v = ob s (b + 3) 1 ∨ ob s (b + 3) 2 = 0 then (s1, 0)
    else (presetBrace s1 i (f32Of (ofMant (braceEd s i) (brcOf s i).u)), 0)

/-- BRACE_SELECT (R299, R303). -/
def execBraceSelect (r : Req) (i : Nat) (s : State) : Host.Outcome State Fault Refusal :=
  .next (serveWrite s r (braceBase i + 3) 1 (doSelect i))

/-- A write to Brace.Preset is applied at the next evaluation (R302). -/
def doPreset (i : Nat) (s : State) (q : QReq) : State × Nat := (presetBrace s i (storedOf 9 q.data), 0)

/-- BRACE_PRESET (R302). -/
def execBracePreset (r : Req) (i : Nat) (s : State) : Host.Outcome State Fault Refusal :=
  .next (serveWrite s r (braceBase i + 3) 7 (doPreset i))

/-- A write to Inject.Start: 1 starts, 2 stops (R322). -/
def doInject (s : State) (q : QReq) : State × Nat :=
  let i := ob s 0x3C20 1
  if leNat q.data = 1 then
    if !hasRole s q.ses 4 then (s, 0x04000002)
    else if s.inj.st = 1 then (s, 0x03000005)
    else match (if i < 192 then memberLoop (viewNow s) s.owned i else none) with
      | none => (s, 0x02000006)
      | some l =>
        if ob s 0x3C20 3 = 3 ∧ (ob s (braceBase i + 3) 11 : Rat) ≤ 2 * obF s 0x3C20 5 then (s, 0x02000006)
        else ({ s with inj := { ({} : Inject) with st := 1, brace := i, fn := fnOfBlock (loopOwner s.owned l) } }, 0)
  else (if s.inj.st = 1 then { s with inj := { s.inj with st := 3 } } else s, 0)

/-- INJECT_START: a write to Inject.Start (R322). -/
def execInjectStart (r : Req) (s : State) : Host.Outcome State Fault Refusal := .next (serveWrite s (byteReq r 2 1) 0x3C20 9 doInject)

/-- INJECT_STOP: a write to Inject.Start (R322). -/
def execInjectStop (r : Req) (s : State) : Host.Outcome State Fault Refusal := .next (serveWrite s (byteReq r 2 2) 0x3C20 9 doInject)

/-- INJECT_DONE: Inject.Length evaluations have been injected (R322). -/
def execInjectDone (s : State) : Host.Outcome State Fault Refusal :=
  .next (if s.inj.st = 1 ∧ ob s 0x3C20 8 ≤ s.inj.n then { s with inj := { s.inj with st := 2 } } else s)

/-- A source word that the capture admits: KIND 1 or 4 (R293, R326). -/
def respSrcOk (s : State) (w : Nat) : Bool :=
  srcForm w && ((decide (srcKind w = 1) && consumable (viewNow s) (srcAddr w)) || decide (srcKind w = 4))

/-- A write to Resp.Command: 1 arms, 2 triggers, 3 stops (R324, R326). -/
def doResp (s : State) (q : QReq) : State × Nat :=
  let v := leNat q.data
  let x := s.resp
  let l := ob s 0x3C29 2
  if v = 1 then
    let rate := mkRat (ob s (loopBase l + 2) 1) (max 1 (ob s 0x3C29 3))
    if !hasRole s q.ses 4 then (s, 0x04000002)
    else if loopOwner s.owned l = 0 ∨ !(respSrc s).all (respSrcOk s) then (s, 0x02000006)
    else if 100000000 < rate * (8 + 4 * ob s 0x3C29 1 : Nat) then (s, 0x02000006)
    else if x.st = 1 ∨ x.st = 2 then (s, 0x03000005)
    else ({ s with resp := { ({} : Resp) with st := 1 } }, 0)
  else if v = 2 then (if x.st = 1 then { s with resp := { x with st := 2 } } else s, 0)
  else (if x.st = 1 ∨ x.st = 2 then { s with resp := { x with st := 3 } } else s, 0)

/-- RESP_ARM: a write to Resp.Command (R326). -/
def execRespArm (r : Req) (s : State) : Host.Outcome State Fault Refusal := .next (serveWrite s (byteReq r 2 1) 0x3C29 7 doResp)

/-- RESP_TRIGGER: a write to Resp.Command (R324). -/
def execRespTrigger (r : Req) (s : State) : Host.Outcome State Fault Refusal := .next (serveWrite s (byteReq r 2 2) 0x3C29 7 doResp)

/-- RESP_STOP: a write to Resp.Command (R324). -/
def execRespStop (r : Req) (s : State) : Host.Outcome State Fault Refusal := .next (serveWrite s (byteReq r 2 3) 0x3C29 7 doResp)

/-- RESP_FULL: the memory holds its capacity (R324). -/
def execRespFull (s : State) : Host.Outcome State Fault Refusal :=
  .next (if s.resp.st = 2 ∧ respFull s then { s with resp := { s.resp with st := 3 } } else s)

end Sys2Proof.Machine
end

