-- ==== Sys2Proof/Machine/Drive.lean ====
section
/-! DEFINITION. The commands of the traction drives' sequencers (R354 to R361). -/

namespace Sys2Proof.Machine

/-- The drive's block lanes follow their commands, or take their OFF level. -/
def drvLanes (s : State) (x : Drv) : List Nat := blockLanes s (drvBase x + 0x100)

/-- DRIVE_RELEASE: from the second latch after the presets were applied the lanes follow their commands (step 4 of R357). -/
def execDriveRelease (d : Drv) (s : State) : Host.Outcome State Fault Refusal :=
  let y := drvOf s d
  .next (if running s ∧ fnState s (drvFn d) = .run ∧ y.rel = 2 ∧ y.latches + 2 ≤ tabGet 0 s.fired (drvLatch s d) then
      setDrv (setLive s (drvLanes s d) true) d { y with rel := 3, relAt := now s }
    else s)

/-- DRIVE_SETTLE_END: Start.Settle after the release T_ref may leave 0 (step 5 of R357). -/
def execDriveSettleEnd (d : Drv) (s : State) : Host.Outcome State Fault Refusal :=
  let y := drvOf s d
  .next (if running s ∧ fnState s (drvFn d) = .run ∧ y.rel = 3 ∧ y.relAt + ob s (drvBase d + 6) 1 * 1000 ≤ now s then
      setDrv s d { y with rel := 4 } else s)

/-- DRIVE_STOP_COMPLETE: T_ref is 0 and the EMF ratio lies below Stop.EmfLimit: the lanes take their OFF level at the next latch
(R354). -/
def execDriveStopComplete (d : Drv) (s : State) : Host.Outcome State Fault Refusal :=
  let y := drvOf s d
  .next (if running s ∧ fnState s (drvFn d) = .run ∧ y.stopping ∧ y.tref = 0 ∧ emfRatio s d < obF s (drvBase d + 6) 2 then
      setDrv s d { y with ending := 1 } else s)

/-- DRIVE_FAULT_RAMP_END: in STOPPED, T_ref has reached 0 or Stop.FaultRamp has passed: the lanes take their OFF level at the next
latch (R355). -/
def execDriveFaultRampEnd (d : Drv) (s : State) : Host.Outcome State Fault Refusal :=
  let y := drvOf s d
  .next (match y.ramp with
    | none => s
    | some (t, _) =>
      if running s ∧ (y.tref = 0 ∨ t + ob s (drvBase d + 6) 3 * 1000000 ≤ now s) then setDrv s d { y with ending := 2 } else s)

/-- A write to Direction.Select: forward or reverse against a rotor that turns faster than Direction.Threshold is refused
(R359). -/
def doDirection (x : Drv) (s : State) (q : QReq) : State × Nat :=
  let v := leNat q.data
  let d := drvBase x
  let k : Rat := if v = 1 then 1 else if v = 2 then -1 else 0
  let sg := if ob s (d + 5) 2 = 1 then -k else k
  if (ob s (d + 5) 3 : Rat) < rabs (drvRpm s x) ∧ sg * drvRpm s x < 0 then (s, 0x03000005)
  else (putValue s (oaddr (d + 5) 1) v, 0)

/-- DIRECTION_SELECT (R359). -/
def execDirectionSelect (r : Req) (d : Drv) (s : State) : Host.Outcome State Fault Refusal :=
  .next (serveWrite s r (drvBase d + 5) 1 (doDirection d))

/-- DERATE_UPDATE: every 1 ms a drive's sequencer or the Charger's writes its derating factor (R360, R361, R427), and a drive
watches its inputs, also while its derating block is shored (R361, R362). -/
def execDerateUpdate (f : Fn) (s : State) : Host.Outcome State Fault Refusal :=
  let drv (x : Drv) (b : Nat) : State :=
    if (drvOf s x).derAt + 1000000 ≤ now s then
      let s1 := setDrv s x { drvOf s x with derAt := now s }
      drvWatch (if isShored s b then s1 else derateEval s1 f b) x
    else s
  .next (if running s then
      (match f with
      | .driveA => drv .a 0x4400
      | .driveB => drv .b 0x4C00
      | .charger =>
        if s.chg.derAt + 1000000 ≤ now s ∧ !isShored s 0x5000 then
          derateEval (setChg s (fun y => { y with derAt := now s })) .charger 0x5010
        else s
      | _ => s)
    else s)

end Sys2Proof.Machine
end

