-- ==== Sys2Proof/Machine/Manifest.lean ====
section
/-! DEFINITION. Manifests: their commit, publications, and the frames that consumptions take up (R122 to R128). -/

namespace Sys2Proof.Machine

/-- Object address of an entry, and its LEN (R122). -/
def entAddr (e : Nat) : Nat := e / 256

/-- Bytes of a manifest's entries. -/
def manLen (s : State) (m : Nat) : Nat := (manEntries s m).foldl (fun n e => n + e % 256) 0

/-- The cycle of a manifest in ns (R125). -/
def manCycle (s : State) (m : Nat) : Nat := max 1 (ob s (0x1400 + m) 5) * 1000

/-- The first cycle instant Phase + k × Cycle after a time in ns (R125). -/
def manNext (s : State) (m t : Nat) : Nat :=
  let c := manCycle s m
  t + (c - (t + c - ob s (0x1400 + m) 6 * 1000 % c) % c)

/-- The transport code of a manifest as a transport. -/
def manTr (s : State) (m : Nat) : Transport :=
  if ob s (0x1400 + m) 3 = 0 then .udp else if ob s (0x1400 + m) 3 = 1 then .can0 else .can1

/-- An entry's LEN fits its object (R122): 5 for a Ridge-backed 32-bit object of a publication. -/
def lenFits (s : State) (pub : Bool) (e : Nat) : Bool :=
  match rowAt (entAddr e) with
  | none => false
  | some r =>
    if e % 256 = 5 then pub && decide (tySize r.ty = 4) && consumable (viewNow s) (entAddr e)
    else decide (r.ty ≠ 11) && decide (r.ty ≠ 12) && decide (tySize r.ty = e % 256)

/-- The condition of a command object under which no value is taken, from session n: entry into camp with a function in ARMED or RUN
(R446), the Park lock and the Clutch outside RUN (R475, R481), a calibration (R241), the steps of a twin-key transaction (R516, R517)
and a Waybill connection (R508). -/
def cmdBar (s : State) (n idx sub : Nat) : Nat :=
  if idx = 0x2200 ∧ sub = 1 then (if fnAll.any (fnLive s) then 0x03000001 else 0)
  else if idx = 0x5C13 ∧ sub = 1 then (if fnState s .parkLock ≠ .run then 0x03000005 else 0)
  else if idx = 0x5C23 ∧ sub = 1 then (if fnState s .clutch ≠ .run then 0x03000005 else 0)
  else if idx = 0x6001 ∧ sub = 5 then (if s.saf.tk ≠ 2 then 0x05000002 else if !tkDistinct s n then 0x05000003 else 0)
  else if idx = 0x6001 ∧ sub = 1 then
    if s.saf.tk = 0 then (if s.dev ≠ .preop ∨ !shoredBy s 0x6000 n then 0x03000005 else 0)
    else if s.saf.committing.isSome ∨ (s.saf.keeper ≠ some n ∧ !hasRole s n 16) then 0x05000002 else 0
  else if idx = 0x6040 ∧ sub = 1 then
    if (List.range 32).all (fun p => decide (ob s (wbIdx p) 1 ≠ 1) || (wbOf s p).slot.isSome) then 0x02000006
    else if (wbFreeSlot s).isNone then 0x03000004 else 0
  else match calChan idx sub with
    | none => 0
    | some ch => calBar s ch

/-- What a WRITE of an object from a session is refused with whatever its value: role, access, state, and the object's own
condition where it asks nothing of the value (R105, R124). -/
def writeBar (s : State) (n a : Nat) : Nat :=
  match rowAt a with
  | none => 0x02000007
  | some r =>
    let q : QReq := { ses := n, reqid := 0, stamp := now s, svc := 2, idx := a / 256, sub := a % 256, ty := 0, data := [],
                      xl := false, mac := 0 }
    let acc := accAt s a r
    if !hasRole s n (writeRole acc q.idx q.sub 0) then 0x04000002
    else if accessCode s q acc ≠ 0 then accessCode s q acc
    else if q.idx = 0x6007 then 0x05000004
    else if stateCode s q acc ≠ 0 then stateCode s q acc
    else if writeCond s q.idx q.sub ≠ 0 then writeCond s q.idx q.sub
    else cmdBar s n q.idx q.sub

/-- The conditions of R124 in the order of its table; 0 where the manifest commits. -/
def manCode (s : State) (m : Nat) : Nat :=
  let b := 0x1400 + m
  let es := manEntries s m
  let n := ob s b 4
  let pub := decide (ob s b 2 = 0)
  let x := sess s n
  let bars := if !pub ∧ x.st = 2 then (es.map (fun e => writeBar s n (entAddr e))).filter (fun c => decide (c ≠ 0)) else []
  let cb := canBaseIdx (trCan (manTr s m))
  let xl := if pub then decide (ob s cb 9 = 1) else decide (bootOb s cb 6 ≠ 0)
  if es.any (fun e => (rowAt (entAddr e)).isNone) then 0x02000007
  else if es.any (fun e => !lenFits s pub e) then 0x02000005
  else if bars ≠ [] then bars.headD 0
  else if 1024 < manLen s m then 0x03000008
  else if maxFrame (manTr s m) xl < 28 + manLen s m then 0x03000008
  else if x.st ≠ 2 then 0x03000005
  else if !hasRole s n (if pub then 1 else 2) then 0x04000002
  else if x.tr ≠ manTr s m then 0x03000005
  else if 24000000000 < ridgeLoad s (fun a => if a = oaddr b 1 then 1 else cellAt s a) then 0x03000002
  else 0

/-- A manifest starts or stops with no frame waiting and no window running. -/
def manFresh (s : State) (m : Nat) (x : Manif) : State :=
  setMan { s with led := { s.led with manRx := s.led.manRx.filter (fun e => !decide (leNat (e.2.2.take 1) = m)) } } m x

/-- A write to Manifest.Enable: 1 commits and starts, 0 stops (R122, R124); 1 to a manifest that runs changes nothing. The window under
way at the enable is the first, and counts (DESIGN CHOICE, log 35). -/
def doManEnable (s : State) (q : QReq) : State × Nat :=
  let m := q.idx - 0x1400
  if leNat q.data = 0 then (manFresh (putOb s q.idx 1 0) m {}, 0)
  else if ob s q.idx 1 = 1 then (s, 0)
  else
    let c := manCode s m
    if c = 0x03000002 then (putOb s 0x2012 0 2, c)
    else if c ≠ 0 then (s, c)
    else (manFresh (putOb (putOb s q.idx 1 1) (0x1500 + m) 3 0) m { due := manNext s m (now s) }, 0)

/-- MANIFEST_ENABLE: a write of 1 to Manifest.Enable (R124). -/
def execManifestEnable (r : Req) (m : Nat) (s : State) : Host.Outcome State Fault Refusal :=
  .next (serveWrite s (byteReq r 1 1) (0x1400 + m) 1 doManEnable)

/-- MANIFEST_DISABLE: a write of 0 to Manifest.Enable (R122). -/
def execManifestDisable (r : Req) (m : Nat) (s : State) : Host.Outcome State Fault Refusal :=
  .next (serveWrite s (byteReq r 1 0) (0x1400 + m) 1 doManEnable)

/-- The bytes of one entry: its value, and with LEN 5 the sideband byte of R109 (R122, R129). -/
def entBytes (s : State) (e : Nat) : List Byte :=
  let c := cellShown s (entAddr e)
  if e % 256 = 5 then leBytes 4 c.toNat ++ leBytes 1 (bits c.toNat 35 32) else leBytes (e % 256) c.toNat

/-- Hand a publication to its transport: UDP queue 2, or a CAN transmit buffer in place of one still pending, whose cycle
is a miss (R102, R122, R125, R554, R569). -/
def manSend (s : State) (m : Nat) (x : Session) (bs : List Byte) : State :=
  let a := ob64 s (0x1400 + m) 7
  match x.tr with
  | .udp =>
    let p := if a = 0 then x.peer.toNat else a
    udpSend s 2 none (BitVec.ofNat 32 (p / 65536)) (p % 65536) (bootOb s 0x1030 1) bs (some m)
  | .host => s
  | tr =>
    let cn := trCan tr
    let mine (f : CanOut) : Bool := decide (f.use = 1) && decide (f.num = m)
    let s1 := if (canOf s cn).tx.any mine then manLate (canCancel s cn mine) m else s
    let xl := decide (ob s (canBaseIdx cn) 9 = 1)
    canSend s1 cn { ident := if a = 0 then bootOb s 0x1030 2 + 8 + ob s (0x1400 + m) 4 else a, classical := false, xl := xl,
                    bytes := if xl then bs else fdPad bs, use := 1, num := m }

/-- The payload of a publication at its cycle instant (R123). -/
def manPayload (s : State) (m : Nat) : List Byte :=
  let x := manOf s m
  leBytes 1 m ++ leBytes 1 0 ++ leBytes 2 x.cyc ++ leBytes 8 x.due ++ (manEntries s m).flatMap (entBytes s)

/-- MANIFEST_PUBLISH: at its cycle instant a publication latches its entries and goes out under the bound session's key and
counter; its frame is counted when it has been sent (R122 to R125, R128). -/
def execManifestPublish (m : Nat) (s : State) : Host.Outcome State Fault Refusal :=
  let x := manOf s m
  .next (if !serving s ∨ ob s (0x1400 + m) 1 ≠ 1 ∨ ob s (0x1400 + m) 2 ≠ 0 ∨ now s < x.due then s
    else
      let n := ob s (0x1400 + m) 4
      let y := { sess s n with txFresh := (sess s n).txFresh + 1 }
      let bs := frameOf y.key 0x14 n y.txFresh (manPayload s m)
      let s1 := setMan (setSess s n y) m { x with cyc := (x.cyc + 1) % 65536, due := x.due + manCycle s m }
      let s2 := manSend s1 m y bs
      if y.txFresh = 0xFFFFFFFF then closeSession s2 n else s2)

/-- A waiting frame is taken up in its window: it supersedes one accepted earlier in the window, which is an overrun (R126). -/
def manTake (s : State) (m : Nat) (e : Nat × Nat × List Byte) : State :=
  let x := manOf s m
  if x.due ≤ e.2.1 then s
  else
    let s1 := { s with led := { s.led with manRx := s.led.manRx.erase e } }
    let data := e.2.2.drop 12
    if x.held.isNone then setMan s1 m { x with held := some data, heldAt := e.2.1 }
    else
      let s2 := incOb s1 (0x1500 + m) 4
      if x.heldAt ≤ e.2.1 then setMan s2 m { x with held := some data, heldAt := e.2.1 } else s2

/-- The frames that wait for a manifest, in the order of their acceptance. -/
def manWaiting (s : State) (m : Nat) : List (Nat × Nat × List Byte) :=
  s.led.manRx.filter (fun e => decide (leNat (e.2.2.take 1) = m))

/-- MANIFEST_CONSUME_FRAME: the manifest takes up the oldest of its accepted frames (R126). -/
def execManifestConsumeFrame (m : Nat) (s : State) : Host.Outcome State Fault Refusal :=
  .next (match manWaiting s m with
    | [] => s
    | e :: _ => if serving s then manTake s m e else s)

end Sys2Proof.Machine
end

