-- ==== Sys2Proof/Machine/FnCmd.lean ====
section
/-! DEFINITION. The commands of the functions: ARM, RUN, STOP and DISARM with their interlocks and start conditions (R51,
R52, R137, R354, R356, R375, R380, R401, R404, R409, R430, R431, R438, R439, R466, R472, R588). -/

namespace Sys2Proof.Machine

/-- The command object of a function (R49). -/
def cmdIdx : Fn → Nat
  | .driveA => 0x4001 | .driveB => 0x4801 | .charger => 0x5001 | .converter => 0x5801 | .pump => 0x5C01
  | .parkLock => 0x5C11 | .clutch => 0x5C21

/-- The link guard runs and has fresh words (R380). -/
def guardFresh (s : State) : Bool := guardRuns s && !s.link.stale

/-- A thermal shutdown's record stands and no sample has read both dies cool since BOOT (R588). -/
def thermBarred (s : State) : Bool :=
  match s.tally.log.getLast? with
  | none => false
  | some r => decide (r.kind = 2) && decide (r.left ≠ 0) && !s.therm.released

/-- The elements that an ARM of the Charger asks to be named (R401; DEDUCED, log 34). -/
def chargerNamed (s : State) : Bool :=
  let ch := [ob s 0x5100 1, ob s 0x5100 4, ob s 0x5201 4, ob s 0x5301 1, ob s 0x5301 2]
    ++ (pfcPhases s).map (fun k => ob s 0x5201 (k + 1))
  ch.all (fun c => decide (c ≠ 0xFFFF))
    && [ob s 0x5100 2, ob s 0x5100 3, ob s 0x5100 8, ob s 0x5100 9, ob s 0x5200 2, ob s 0x5300 2, ob s 0x5301 3].all
        (fun c => decide (c ≠ 0xFF))

/-- The elements that an ARM of the Converter asks to be named (R439). -/
def converterNamed (s : State) : Bool :=
  [1, 2, 3].all (fun k => decide (ob s 0x5903 k ≠ 0xFFFF)) && [1, 2, 3, 4, 5].all (fun k => decide (ob s 0x5902 k ≠ 0xFF))
    && decide (ob s 0x5901 9 ≠ 0xFF) && decide (ob s 0x5903 4 ≠ 0xFF)

/-- The interlocks of a function's own chapter at ARM (R356, R380, R401, R439, R466). -/
def armInterlock (s : State) (f : Fn) : Bool :=
  match f with
  | .driveA => guardFresh s && !plugDetected s && !fnLive s .charger && decide (ob s 0x4004 1 ≠ 0xFFFF)
  | .driveB => guardFresh s && !plugDetected s && !fnLive s .charger && decide (ob s 0x4804 1 ≠ 0xFFFF)
  | .charger => guardFresh s && decide (parkReport s = 2) && !fnLive s .driveA && !fnLive s .driveB && chargerNamed s
  | .converter => converterNamed s
  | _ => decide (ob s 0x5E00 1 ≠ 1)

/-- An ARM is accepted (R51, R137, R375, R588). -/
def armOk (s : State) (f : Fn) : Bool :=
  decide (fnState s f = .idle) && decide (s.dev = .operational) && !fnFaulted s f && !fnHeld s f && !fltLowOf s f
    && !thermBarred s && armInterlock s f

/-- A drive in ARMED begins in the band of its rotor's frequency (R351). -/
def drvArm (s : State) (x : Drv) : State :=
  let s1 := setDrv s x { ({} : Drive) with k := (drvOf s x).k }
  bandPut s1 x (bandOf s1 x (rabs (drvHz s1 x)) 8 0)

/-- What an accepted ARM does beside the state (R351, R404, R409, R430, R431, R485). -/
def armEffect (s : State) (f : Fn) : State :=
  match f with
  | .driveA => drvArm s .a
  | .driveB => drvArm s .b
  | .charger => sendFreqAll (pfcCarrier s) 9
  | .converter => sendFreqAll (buckCarrier (setCnv s (fun x => { x with fsw := none }))) 10
  | .pump => setAct s 0 { actOf s 0 with itrip := false }
  | .parkLock => setAct s 1 { actOf s 1 with itrip := false }
  | .clutch => setAct s 2 { actOf s 2 with itrip := false }

/-- ARM (R51, R52). -/
def doArm (s : State) (f : Fn) : State × Nat :=
  if armOk s f then (setFn (armEffect s f) f .armed, 0) else (s, 0x03000005)

/-- MOTION of the interface that feeds a rod (R204, R220); a rod without a position sensor has none. -/
def rodMotion (s : State) (r : Nat) : Nat :=
  match sourceBlock (rodSource s r) with
  | none => 0
  | some b => if b = 0x3300 then 0 else ob s (b + 1) 1 / 512 % 4

/-- The start conditions of a drive (R356). -/
def drvRunOk (s : State) (x : Drv) : Bool :=
  let d := drvBase x
  let r := drvRod x
  let lk := ob s (d + 4) 1
  decide (parkReport s = 1)
    && (decide (x = .a) || decide (ob s 0x5C23 2 = 0xFFFF) || decide (clutchReport s = 1) || decide (clutchReport s = 2))
    && decide (rodMotion s r ≠ 3) && decide (rodBad s r = 0) && decide (rabs (drvHz s x) ≤ obF s (d + 3) 7)
    && chanGood s lk && decide (obF s (d + 4) 2 ≤ chanVal s lk)

/-- The start conditions of the Converter (R439). -/
def cnvRunOk (s : State) : Bool :=
  let lk := ob s 0x2100 1
  if ob s 0x5803 1 = 0 then chanGood s lk && decide (obF s 0x5803 8 ≤ chanVal s lk)
  else decide (obF s 0x5803 8 ≤ obF s 0x5804 1) && decide (chanVal s lk < obF s 0x5804 1 * mkRat 9 10)

/-- The start conditions of the functions (R51, R356, R401, R439). -/
def runOk (s : State) (f : Fn) : Bool :=
  decide (fnState s f = .armed) && (match f with
    | .driveA => drvRunOk s .a
    | .driveB => drvRunOk s .b
    | .charger => if ob s 0x5003 1 = 0 then cableCode (ob s 0x5101 6) else decide (ob s 0x5101 6 = 1)
    | .converter => cnvRunOk s
    | _ => true)

/-- RUN (R51, R52, R357, R415, R425, R436, R471). -/
def doRun (s : State) (f : Fn) : State × Nat :=
  if !runOk s f then (s, 0x03000005)
  else
    let s1 := setFn s f .run
    (match f with
      | .driveA => drvStart s1 .a
      | .driveB => drvStart s1 .b
      | .charger => startSession (sessionOver (chgOff s1)) (decide (ob s1 0x5003 1 = 1))
      | .converter => cnvStart s1
      | .pump => { s1 with pump := { s1.pump with start := s1.pump.on } }
      | _ => s1, 0)

/-- A drive begins its controlled stop; `idle` when DISARM asks for it (R52, R354). -/
def drvStop (s : State) (x : Drv) (idle : Bool) : State :=
  setDrv s x { drvOf s x with stopping := true, toIdle := (drvOf s x).toIdle || idle }

/-- The sequencer of an actuator function stops, its commutator in OFF at the next period start, and the function enters a
state at once (R468, R472). -/
def actStop (s : State) (n : Nat) (after : FnSt) : State := setFn (actOffNext (actSeqEnd s n) n) (actFn n) after

/-- STOP in RUN, and the stop of DISARM in RUN (R51, R52). -/
def stopRun (s : State) (f : Fn) (idle : Bool) : State :=
  let after := if idle then FnSt.idle else .armed
  match f with
  | .driveA => drvStop s .a idle
  | .driveB => drvStop s .b idle
  | .charger => let s1 := chgStop s 2 after; if idle then setChg s1 (fun x => { x with after := .idle }) else s1
  | .converter => let s1 := cnvStop s after; if idle then setCnv s1 (fun x => { x with after := .idle }) else s1
  | .pump => actStop s 0 after
  | .parkLock => actStop s 1 after
  | .clutch => actStop s 2 after

/-- STOP: accepted in every state, without effect where nothing runs (R52). -/
def doStop (s : State) (f : Fn) : State := if fnState s f = .run then stopRun s f false else s

/-- DISARM: ARMED enters IDLE; in RUN it stops and then disarms; elsewhere it has no effect (R51, R52). -/
def doDisarm (s : State) (f : Fn) : State :=
  if fnState s f = .run then stopRun s f true else if fnState s f = .armed then setFn s f .idle else s

/-- A write to a function's command object (R49, R52). -/
def doCommand (f : Fn) (s : State) (q : QReq) : State × Nat :=
  let v := leNat q.data
  if v = 1 then doArm s f else if v = 2 then doRun s f else if v = 3 then (doStop s f, 0) else (doDisarm s f, 0)

/-- ARM: a write of 1 to a command object. -/
def execArm (r : Req) (f : Fn) (s : State) : Host.Outcome State Fault Refusal := .next (serveWrite s (byteReq r 2 1) (cmdIdx f) 0 (doCommand f))

/-- RUN: a write of 2 to a command object. -/
def execRun (r : Req) (f : Fn) (s : State) : Host.Outcome State Fault Refusal := .next (serveWrite s (byteReq r 2 2) (cmdIdx f) 0 (doCommand f))

/-- STOP: a write of 3 to a command object. -/
def execStop (r : Req) (f : Fn) (s : State) : Host.Outcome State Fault Refusal := .next (serveWrite s (byteReq r 2 3) (cmdIdx f) 0 (doCommand f))

/-- DISARM: a write of 4 to a command object. -/
def execDisarm (r : Req) (f : Fn) (s : State) : Host.Outcome State Fault Refusal :=
  .next (serveWrite s (byteReq r 2 4) (cmdIdx f) 0 (doCommand f))

end Sys2Proof.Machine
end

