-- ==== Sys2Proof/Machine/Network.lean ====
section
/-! DEFINITION. Ethernet, ARP, ICMP, gPTP and the CAN controllers (R545 to R579). -/

namespace Sys2Proof.Machine

/-- The destination address is one that the MAC takes (R552). -/
def ethDstOk (s : State) (x : EthFrame) : Bool :=
  decide (x.dst.toNat = bootOb s 0x6C00 2 % 2 ^ 48)
    || (decide (x.dst = 0xFFFFFFFFFFFF) && decide (x.ethertype = 0x0806))
    || (decide (x.dst = 0x0180C200000E) && decide (x.ethertype = 0x88F7))

/-- The tag of the frame is one that the device accepts (R553). -/
def ethVlanOk (s : State) (x : EthFrame) : Bool :=
  let own := bootOb s 0x6C00 6
  if x.ethertype = 0x88F7 then x.vid.isNone
  else if own = 0 then (match x.vid with | none => true | some v => decide (v = 0))
  else match x.vid with
    | some v => decide (v = own) || (decide (v = 0) && decide (ob s 0x6C00 7 = 1))
    | none => decide (ob s 0x6C00 7 = 1)

/-- An IPv4 packet is one that the device accepts (R555). -/
def ipOk (s : State) (x : EthFrame) : Bool :=
  decide (bootOb s 0x6C00 3 ≠ 0) && decide (x.ipDst.toNat = bootOb s 0x6C00 3) && decide (x.ihl = 20) && x.ipSumOk && !x.fragment

/-- ETH_FRAME_RX: a frame is filtered by FCS, length, address, VLAN, IPv4 and UDP, counted, and a datagram for the Ledger
or Waybill is kept with its stamp (R546, R549, R552 to R556). -/
def execEthFrameRx (x : EthFrame) (s : State) : Host.Outcome State Fault Refusal :=
  .next (if !running s ∨ bootOb s 0x6C00 1 = 0 ∨ x.length < 64 ∨ 1522 < x.length then s
    else if !x.fcsOk then incOb s 0x6C01 5
    else if !ethDstOk s x then incOb s 0x6C02 1
    else
      let s1 := incOb s 0x6C01 3
      if !ethVlanOk s x then incOb s1 0x6C02 2
      else if x.ethertype ≠ 0x0800 then s1
      else if !ipOk s x then incOb s1 0x6C02 3
      else if x.proto ≠ 17 then s1
      else if !x.udpSumOk ∨ (x.dport ≠ bootOb s 0x1030 1 ∧ x.dport ≠ ob s 0x6040 2) then incOb s1 0x6C02 4
      else { s1 with net := { s1.net with rx := s1.net.rx ++ [(now s, x)] } })

/-- The link is up by one poll (R549, R550). -/
def pollUp (s : State) (x : LinkPoll) : Bool :=
  let lr := ob s 0x6C00 0xC
  x.sgmiiSync && x.anLink && x.fullDuplex && (bit x.reg.toNat (bits lr 3 0) == bit lr 4)

/-- Ptp.State: 0 while the MAC is not in use, 1 until the port is asCapable, 2 without an Announce or a
Sync in time, 3 as slave (R566; PRESUMED, log 14). -/
def ptpState (s : State) : Nat :=
  if bootOb s 0x6C00 1 = 0 then 0
  else if !s.net.link ∨ !s.net.ratioOk ∨ ob s 0x6C41 3 < ob s 0x6C41 5 then 1
  else if s.net.annAt = 0 ∨ s.net.syncAt = 0 then 2 else 3

/-- Publish Ptp.State (R563, R566). -/
def putPtp (s : State) : State := putOb s 0x6C41 4 (ptpState s)

/-- The link goes down: the port is no longer asCapable, and its peer-delay exchanges begin anew at the next link (R550, R566; PRESUMED,
log 14). -/
def linkDown (s : State) : State :=
  putPtp { s with net := { s.net with link := false, speed := 0, ratioOk := false, pdPrev := none } }

/-- ETH_LINK_POLL: the link state follows the PHY; a link that comes up is announced by a gratuitous ARP request and
serves the Ledger, one that goes down raises COM at L1 (R550, R557). -/
def execEthLinkPoll (x : LinkPoll) (s : State) : Host.Outcome State Fault Refusal :=
  .next (if !serving s ∨ bootOb s 0x6C00 1 = 0 then s
    else if pollUp s x then
      let s1 := putPtp { s with net := { s.net with link := true, speed := x.speed, served := true } }
      if s.net.link then s1
      else
        let s2 := clearCause s1 .com 0 0x6C00
        if bootOb s 0x6C00 3 = 0 then s2 else arpAsk s2 (BitVec.ofNat 32 (bootOb s 0x6C00 3))
    else if s.net.link then
      condRaise (linkDown s) .com 1 0 3 0x6C010100 0x6C00
    else s)

/-- The value of an MDIO command is one that R551 and R559 allow. -/
def mdioOk (v : Nat) : Bool :=
  decide (bits v 61 53 = 0) && decide (bits v 47 45 = 0) && (bit v 62 || decide (bits v 31 16 ≤ 31))

/-- One MDIO transaction: no answer, or an answer with the data a read brings; where no data is read, Mdio.Result's data bits
hold a free value (R551, R559; DESIGN CHOICE, log 4). -/
def doMdio (answer : Option (Option Nat)) (s : State) (q : QReq) : State × Nat :=
  if !mdioOk (leNat q.data) then (s, 0x02000006)
  else
    let fr := freshWord s
    match answer with
    | none => (putOb fr.2 0x6C04 0 (65536 + fr.1.toNat % 65536), 0)
    | some d =>
      match (if bit (leNat q.data) 63 then none else d) with
      | none => (putOb fr.2 0x6C04 0 (fr.1.toNat % 65536), 0)
      | some w => (putOb s 0x6C04 0 (w % 65536), 0)

/-- MDIO_READ: a write to Eth.Mdio.Command with WRITE 0 (R551). -/
def execMdioRead (r : Req) (ans : Option Nat) (s : State) : Host.Outcome State Fault Refusal :=
  .next (serveWrite s r 0x6C03 0 (doMdio (ans.map some)))

/-- MDIO_WRITE: a write to Eth.Mdio.Command with WRITE 1 (R551). -/
def execMdioWrite (r : Req) (answered : Bool) (s : State) : Host.Outcome State Fault Refusal :=
  .next (serveWrite s r 0x6C03 0 (doMdio (if answered then some none else none)))

/-- Learn an ARP entry; in a full cache the entry that gives way is not stated: a free value chooses it (R557; DESIGN CHOICE, log 4). -/
def arpLearn (s : State) (ip : Word) (mac : BitVec 48) : State :=
  let rest := s.net.arp.filter (fun e => e.1 != ip)
  if rest.length < 16 then { s with net := { s.net with arp := rest ++ [(ip, mac, now s)] } }
  else
    let fr := freshWord s
    { fr.2 with net := { fr.2.net with arp := rest.eraseIdx (fr.1.toNat % 16) ++ [(ip, mac, now s)] } }

/-- The frame held for a next hop is sent once its address is known (R557). -/
def arpRelease (s : State) (ip : Word) (mac : BitVec 48) : State :=
  match s.net.arpWait.find? (fun e => e.1 == ip) with
  | none => s
  | some e =>
    ethPush { s with net := { s.net with arpWait := s.net.arpWait.filter (fun w => w.1 != ip) } } e.2.2.2.1
      { e.2.2.2.2 with mac := mac }

/-- ARP_RX: a request for the device's address is answered and learnt, a reply to its own request is learnt (R557). -/
def execArpRx (x : ArpMsg) (s : State) : Host.Outcome State Fault Refusal :=
  .next (if !serving s ∨ bootOb s 0x6C00 3 = 0 ∨ bootOb s 0x6C00 1 = 0 then s
    else if x.isReply then
      if s.net.arpWait.any (fun e => e.1 == x.senderIp) then
        arpRelease (arpLearn s x.senderIp x.senderMac) x.senderIp x.senderMac
      else s
    else if x.targetIp.toNat = bootOb s 0x6C00 3 then
      ethPush (arpLearn s x.senderIp x.senderMac) 4
        { kind := 1, mac := x.senderMac, ip := x.senderIp, dport := 0, sport := 0,
          bytes := arpBytes s 2 x.senderMac x.senderIp }
    else s)

/-- ARP_RETRY: 1 s after an unanswered request it is repeated; after the third the held frame is dropped under reason 5
(R557). -/
def execArpRetry (ip : Word) (s : State) : Host.Outcome State Fault Refusal :=
  .next (match s.net.arpWait.find? (fun e => e.1 == ip) with
    | none => s
    | some e =>
      if now s < e.2.2.1 + 1000000000 then s
      else if 3 ≤ e.2.1 then
        dropMan (incOb { s with net := { s.net with arpWait := s.net.arpWait.filter (fun w => w.1 != ip) } } 0x6C02 5) e.2.2.2.2.man
      else
        arpAsk { s with net := { s.net with
          arpWait := s.net.arpWait.map (fun w => if w.1 = ip then (w.1, w.2.1 + 1, now s, w.2.2.2) else w) } } ip)

/-- ARP_ENTRY_EXPIRY: an entry leaves the cache 300 s after it was learnt (R557). -/
def execArpEntryExpiry (ip : Word) (s : State) : Host.Outcome State Fault Refusal :=
  .next { s with net := { s.net with
    arp := s.net.arp.filter (fun e => !(e.1 == ip && decide (e.2.2 + 300000000000 ≤ now s))) } }

/-- ICMP_ECHO: an echo request with up to 1472 bytes of data is answered, at most 100 in any second (R558). -/
def execIcmpEcho (ip : Word) (mac : BitVec 48) (msg : List Byte) (s : State) : Host.Outcome State Fault Refusal :=
  .next (if !serving s ∨ bootOb s 0x6C00 3 = 0 ∨ bootOb s 0x6C00 1 = 0 ∨ 1472 < msg.length then s
    else
      let recent := s.net.echoes.filter (fun t => decide (now s < t + 1000000000))
      if 100 ≤ recent.length then incOb s 0x6C02 7
      else ethPush { s with net := { s.net with echoes := recent ++ [now s] } } 4
        { kind := 2, mac := mac, ip := ip, dport := 0, sport := 0, bytes := msg })

/-- The next frame goes on the wire: the first queue that holds one, in strict priority (R554). -/
def nextWire (s : State) : Option Nat := (List.range 5).find? (fun k => !(tabGet [] s.net.q k).isEmpty)

/-- ETH_TX_DONE: the frame on the wire leaves its queue and the next by strict priority starts (R554); a publication's frame
is counted (R122). -/
def execEthTxDone (s : State) : Host.Outcome State Fault Refusal :=
  .next (match s.net.wire with
    | none => s
    | some k =>
      let s1 := { s with net := { s.net with q := tabSet [] s.net.q k ((tabGet [] s.net.q k).drop 1) } }
      let s2 := incOb { s1 with net := { s1.net with wire := nextWire s1 } } 0x6C01 4
      match ((tabGet [] s.net.q k).head?).bind (fun f => f.man) with
      | none => s2
      | some m => manSent s2 m)

/-- The value of Net.Time.Correction in ppb (R563). -/
def corrPpb (c : Int) : Int := divRound (c * 1000000000) (2 ^ 40)

/-- Set the rate correction of device time and publish it (R561, R563). -/
def setCorr (s : State) (integ corr : Int) : State :=
  putOb { s with net := { s.net with integ := integ, corr := corr } } 0x6C40 8 (ofInt 32 (corrPpb corr))

/-- One reference update: reference time R and device time D of one instant, and the nominal interval T, all in ns (R560,
R561). `corr` and `integ` are kept in units of 2^-40 (DESIGN CHOICE, log 8). -/
def timeUpdate (s : State) (r d : Int) (t : Rat) : State :=
  let off := toInt 64 (ob64 s 0x6C40 6)
  if !s.net.seen then
    putOb (putOb { s with net := { s.net with seen := true, good := 0 } } 0x6C40 6 (ofInt 64 (r - d))) 0x6C40 5 1
  else
    let e := r - (d + off)
    let s1 := putOb s 0x6C40 7 (ofInt 32 (iclamp (-2147483648) 2147483647 e))
    if (ob s 0x6C40 3 : Int) < e.natAbs then
      let s2 := incOb (putOb s1 0x6C40 6 (ofInt 64 (off + e))) 0x6C40 9
      raiseEv (putOb { s2 with net := { s2.net with good := 0 } } 0x6C40 5 1) .com 1 0 7 0x6C400000
    else
      let mx : Int := (ob s 0x6C40 2 : Int) * 2 ^ 40 / 1000000
      let step (k : Rat) : Int := rround ((e : Rat) * pow2 40 / (k * t))
      let integ := iclamp (-mx) mx (s.net.integ + step 16)
      let corr := iclamp (-mx) mx (integ + step 2)
      let good := if (e.natAbs : Int) ≤ (ob s 0x6C40 4 : Int) then s.net.good + 1 else 0
      let s2 := setCorr s1 integ corr
      let s3 := { s2 with net := { s2.net with good := min 8 good } }
      if 8 ≤ good then putOb s3 0x6C40 5 2 else if ob s3 0x6C40 5 = 3 then putOb s3 0x6C40 5 1 else s3

/-- A gPTP message is of the device's domain (R564). -/
def ptpMine (s : State) (x : PtpMsg) : Bool := serving s && decide (x.domain = ob s 0x6C41 1)

/-- A complete Sync gives one update in slave state with the source gPTP (R560, R565, R566). -/
def ptpUpdate (s : State) (originNs : Nat) (corrNs : Int) (rxNs : Nat) (interval : Int) : State :=
  let s1 := putPtp { s with net := { s.net with syncAt := now s + 1, syncInt := interval, sync := none } }
  if ptpState s1 = 3 ∧ ob s 0x6C40 1 = 1 then
    let link : Rat := (ob s 0x6C41 5 : Rat) * obF s 0x6C41 6
    timeUpdate s1 ((originNs : Int) + corrNs + rround link) ((rxNs : Int) - ob s 0x6C00 9) (1000000000 * pow2 interval)
  else s1

/-- PTP_SYNC: a one-step Sync gives its update; a two-step one waits for its Follow_Up (R564, R566). -/
def execPtpSync (x : PtpMsg) (s : State) : Host.Outcome State Fault Refusal :=
  .next (if !ptpMine s x then s
    else if x.twoStep then { s with net := { s.net with sync := some x } }
    else ptpUpdate s x.timeNs x.corrNs x.rxNs x.logInterval)

/-- PTP_FOLLOW_UP: completes the two-step Sync of its sequence number (R564, R566). -/
def execPtpFollowUp (x : PtpMsg) (s : State) : Host.Outcome State Fault Refusal :=
  .next (match s.net.sync with
    | none => s
    | some y =>
      if ptpMine s x ∧ x.seq = y.seq then ptpUpdate s x.timeNs (x.corrNs + y.corrNs) y.rxNs y.logInterval else s)

/-- PTP_ANNOUNCE: the grandmaster is noted (R566). -/
def execPtpAnnounce (x : PtpMsg) (s : State) : Host.Outcome State Fault Refusal :=
  .next (if !ptpMine s x then s
    else putPtp (putOb { s with net := { s.net with annAt := now s + 1, annInt := x.logInterval } } 0x6C41 7 x.clock.toNat))

/-- A gPTP message the device sends: its kind, sequence number and times (PRESUMED, log 14). -/
def ptpFrame (ty seq t : Nat) : EthOut :=
  { kind := 3, mac := 0x0180C200000E, ip := 0, dport := 0, sport := 0, bytes := leBytes 1 ty ++ leBytes 2 seq ++ leBytes 8 t }

/-- PTP_PDELAY_TIMER: every 2^PdelayInterval s a Pdelay_Req is sent; `t1` is its transmit timestamp (R564, R565). -/
def execPtpPdelayTimer (t1 : Nat) (s : State) : Host.Outcome State Fault Refusal :=
  let iv := (1000000000 * pow2 (obI16 s 0x6C41 2)).floor.toNat
  .next (if !serving s ∨ !s.net.link ∨ (s.net.pdAt ≠ 0 ∧ now s < s.net.pdAt - 1 + iv) then s
    else
      let seq := (s.net.pdSeq + 1) % 65536
      ethPush { s with net := { s.net with pdSeq := seq, pdT1 := t1 + ob s 0x6C00 0xA, pdAt := now s + 1 } } 0
        (ptpFrame 2 seq 0))

/-- PTP_PDELAY_REQ_RX: answered with Pdelay_Resp and Pdelay_Resp_Follow_Up, two-step (R564, R565). -/
def execPtpPdelayReqRx (x : PtpMsg) (s : State) : Host.Outcome State Fault Refusal :=
  .next (if !serving s ∨ !s.net.link then s
    else ethPush (ethPush s 0 (ptpFrame 3 x.seq (x.rxNs - ob s 0x6C00 9))) 4
           (ptpFrame 0xA x.seq (now s + ob s 0x6C00 0xA)))

/-- PTP_PDELAY_RESP_RX: the response to the latest request with its turnaround: `timeNs` is the neighbour's receive
time, `corrNs` the time from it to the response's departure, `rxNs` the device's receive time. The neighbour rate ratio
comes from two exchanges, the link delay from each (R565, R566; PRESUMED, log 14). -/
def execPtpPdelayRespRx (x : PtpMsg) (s : State) : Host.Outcome State Fault Refusal :=
  .next (if !serving s ∨ x.seq ≠ s.net.pdSeq then s
    else
      let t3 := ((x.timeNs : Int) + x.corrNs).toNat
      let t4 := x.rxNs - ob s 0x6C00 9
      let s1 := match s.net.pdPrev with
        | none => s
        | some (p3, p4) =>
          if p4 < t4 then
            let ratio : Rat := mkRat ((t3 : Int) - p3) (t4 - p4)
            let d := (mkRat ((t4 : Int) - s.net.pdT1) 1 * ratio - (x.corrNs : Rat)) / 2
            let s2 := putOb s 0x6C41 6 (f32Of ratio)
            { putOb s2 0x6C41 5 (min 4294967295 (rround d).toNat) with net := { s2.net with ratioOk := true } }
          else s
      putPtp { s1 with net := { s1.net with pdPrev := some (t3, t4) } })

/-- An Announce, or a Sync, is overdue: three of its intervals have passed since the latest (R566; the count of three is PRESUMED,
log 14). -/
def ptpLate (s : State) (announce : Bool) : Bool :=
  let a := if announce then s.net.annAt else s.net.syncAt
  let iv := if announce then s.net.annInt else s.net.syncInt
  decide (a ≠ 0) && decide (a - 1 + 3 * (1000000000 * pow2 iv).floor.toNat ≤ now s)

/-- PTP_RECEIPT_TIMEOUT: no Announce, or no Sync, came within its receipt timeout (R566). -/
def execPtpReceiptTimeout (announce : Bool) (s : State) : Host.Outcome State Fault Refusal :=
  .next (if !serving s || !ptpLate s announce then s
    else putPtp (if announce then putOb { s with net := { s.net with annAt := 0 } } 0x6C41 7 0
                 else { s with net := { s.net with syncAt := 0, sync := none } }))

/-- The reference in use is lost: for gPTP the port has left state 3, for CAN three reference cycles have passed without
an update (R562). -/
def sourceGone (s : State) : Bool :=
  let src := ob s 0x6C40 1
  if src = 1 then decide (ptpState s ≠ 3)
  else if src = 2 ∨ src = 3 then
    decide ((canOf s (src - 2)).slvAt + 3 * ob s (canBaseIdx (src - 2) + 1) 3 * 1000000 ≤ now s)
  else false

/-- TIME_SOURCE_LOST: holdover begins with the integral correction, and COM at L1 is raised (R562). -/
def execTimeSourceLost (s : State) : Host.Outcome State Fault Refusal :=
  .next (if serving s ∧ s.net.seen ∧ sourceGone s ∧ ob s 0x6C40 5 ≠ 3 then
      raiseEv (putOb (setCorr { s with net := { s.net with good := 0 } } s.net.integ s.net.integ) 0x6C40 5 3) .com 1 0 7 0x6C400000
    else s)

/-- A write to Net.Time.Source: a CAN source needs a controller that is not the time master; source 0 stops the
discipline, any other restarts acquisition (R560, R562, R578). -/
def doTimeSource (s : State) (q : QReq) : State × Nat :=
  let v := leNat q.data
  if 2 ≤ v ∧ ob s (canBaseIdx (v - 2) + 1) 1 = 1 then (s, 0x03000005)
  else
    let s1 := putOb { s with net := { s.net with seen := false, good := 0 } } 0x6C40 1 v
    if v = 0 then (putOb (putOb (setCorr s1 0 0) 0x6C40 6 0) 0x6C40 5 0, 0) else (putOb s1 0x6C40 5 1, 0)

/-- TIME_SOURCE_WRITE: a write to Net.Time.Source (R560). -/
def execTimeSourceWrite (r : Req) (s : State) : Host.Outcome State Fault Refusal :=
  .next (serveWrite s r 0x6C40 1 doTimeSource)

/-- A base identifier belongs to the Ledger on a controller (R96, R102, R570). -/
def isLedgerId (s : State) (cn : Nat) (i : Nat) : Bool :=
  let b := bootOb s 0x1030 2
  decide (bootOb s 0x1030 3 ≠ 1 - cn) && ((decide (b ≤ i) && decide (i < b + 8)) || decide (i = b + 0x10))

/-- A received frame's identifier belongs to a user of R570 on a controller. -/
def isUserId (s : State) (cn : Nat) (x : CanFrame) : Bool :=
  !x.ide && (isLedgerId s cn x.ident
    || (List.range 32).any (fun m => decide (ob s (0x1400 + m) 2 = 1) && decide (ob s (0x1400 + m) 3 = cn + 1)
          && decide (ob64 s (0x1400 + m) 7 = x.ident) && decide (x.ident ≠ 0))
    || (List.range 32).any (fun p => decide (ob s (0x6080 + 8 * p) 1 = 1) && decide (ob s (0x6080 + 8 * p) 2 = cn + 1)
          && decide (bits (ob64 s (0x6080 + 8 * p) 3) 10 0 = x.ident))
    || decide (ob s (canBaseIdx cn + 1) 2 = x.ident))

/-- A high-priority filter matches a frame (R572). -/
def hpfMatch (f : Nat) (x : CanFrame) : Bool :=
  bit f 63 && !x.xl && (bit f 62 == x.ide)
    && (if x.ide then decide (Nat.land x.ident (bits f 60 32) = Nat.land (bits f 28 0) (bits f 60 32))
        else decide (Nat.land x.ident (bits f 42 32) = Nat.land (bits f 10 0) (bits f 42 32)))

/-- Hpf.Frame of an accepted frame (R572). -/
def hpfBytes (t : Nat) (x : CanFrame) : List Byte :=
  leBytes 8 t ++ leBytes 4 (bitAt x.ide 31 + bitAt x.fdf 30 + bitAt x.brs 29 + x.ident % 2 ^ 29)
    ++ leBytes 2 x.data.length ++ leBytes 2 0 ++ x.data

/-- A frame a filter accepted enters its buffer (R572, R610). -/
def hpfStore (s : State) (cn k : Nat) (x : CanFrame) : State :=
  let b := canBaseIdx cn
  let c := canOf s cn
  let s1 := if (tabGet none c.hpf k).isSome then incOb s (b + 5) (k + 1) else s
  let s2 := setCan s1 cn { c with
    hpf := tabSet none c.hpf k (some (now s, x)), hpfFrame := tabSet [] c.hpfFrame k (hpfBytes (now s) x) }
  irq (incOb (incOb s2 (b + 4) (k + 1)) (b + 7) 5) (2 ^ (4 + 4 * cn + k))

/-- Error counters of ISO 11898-1 and the entry into error passive, which raises COM at L0 (R575; PRESUMED, log 15). -/
def canErrs (s : State) (cn tx rx : Nat) : State :=
  let c := canOf s cn
  let p := decide (128 ≤ tx) || decide (128 ≤ rx)
  let s1 := setCan s cn { c with txErr := tx, rxErr := rx, passive := p }
  if p && !c.passive then raiseEv s1 .com 0 0 (4 + cn) ((canBaseIdx cn + 7) * 65536) else s1

/-- CAN_FRAME_RX: a received frame is placed in a high-priority buffer or the FIFO, dropped, or ignored (R546, R569 to
R572, R576). -/
def execCanFrameRx (cn : Nat) (x : CanFrame) (s : State) : Host.Outcome State Fault Refusal :=
  let b := canBaseIdx cn
  let c0 := canOf s cn
  .next (if !running s ∨ !c0.on ∨ c0.busOff then s
    else if x.xl ∧ (bootOb s b 6 = 0 ∨ x.sec ∨ x.vcid.toNat ≠ bits (ob s b 0xA) 15 8) then s
    else
      let s1 := canErrs (setCan s cn { c0 with
        good := if c0.detecting then c0.good + 1 else c0.good, brsSeen := c0.brsSeen || x.brs }) cn c0.txErr (c0.rxErr - 1)
      match (List.range 4).find? (fun k => hpfMatch (ob64 s (b + 3) (k + 1)) x) with
      | some k => hpfStore s1 cn k x
      | none =>
        if !x.fdf && !x.xl && !x.ide && (isLedgerId s cn x.ident || (decide (8 ≤ x.ident) && isLedgerId s cn (x.ident - 8))) then incOb s1 (b + 7) 0xA
        else if !isUserId s cn x then s1
        else
          let c := canOf s1 cn
          if 28 ≤ c.fifo.length then incOb s1 (b + 7) 7
          else incOb (setCan s1 cn { c with fifo := c.fifo ++ [(now s, x)] }) (b + 7) 5)

/-- The value congruent to a 56-bit time that lies nearest to another (R578). -/
def nearest56 (prev : Nat) (near : Int) : Int :=
  let m : Int := 2 ^ 56
  let d := ((prev : Int) - near) % m
  if d < m / 2 then near + d else near + d - m

/-- A frame leaves the buffer that holds it, taken up by its consumer (R547, R571). -/
def canTaken (s : State) (cn : Nat) (x : CanFrame) : State :=
  let c := canOf s cn
  match c.fifo.find? (fun e => decide (e.2 = x)) with
  | some e => setCan s cn { c with fifo := c.fifo.erase e }
  | none =>
    match c.hpf.find? (fun e => match e.2 with | none => false | some y => decide (y.2 = x)) with
    | some e => setCan s cn { c with hpf := tabSet none c.hpf e.1 none }
    | none => s

/-- A reference message as slave; one whose cycle number follows the previous and with VALID 1 gives a time update (R560,
R578). -/
def refTake (cn : Nat) (x : CanFrame) (sof : Nat) (s : State) : State :=
  let b := canBaseIdx cn
  let c := canOf s cn
  if ob s 0x6C40 1 ≠ 2 + cn ∨ ob s (b + 1) 1 = 1 ∨ x.ide ∨ x.ident ≠ ob s (b + 1) 2 ∨ x.data.length ≠ 8 then s
  else
      let last := leNat (x.data.drop 7)
      let cyc := last / 2
      let used := bit last 0 && (match c.slvCyc with | none => false | some k => decide (cyc = (k + 1) % 128))
      let s1 := setCan s cn { c with slvCyc := some cyc, slvSof := sof, slvAt := if used then now s else c.slvAt }
      if used then
        let off := toInt 64 (ob64 s 0x6C40 6)
        timeUpdate s1 (nearest56 (leNat (x.data.take 7)) ((c.slvSof : Int) + off)) c.slvSof
          (ob s (b + 1) 3 * 1000000 : Nat)
      else s1

/-- CAN_REF_MESSAGE: a reference message is taken up from its buffer, and used where the device is its slave (R571, R578).
`sof` is the device time of its start-of-frame. -/
def execCanRefMessage (cn : Nat) (x : CanFrame) (sof : Nat) (s : State) : Host.Outcome State Fault Refusal :=
  .next (if !running s ∨ !(canOf s cn).on then s else refTake cn x sof (canTaken s cn x))

/-- The pending frame offered at the next arbitration: lowest identifier, then order of queueing (R573). -/
def canOffer : List CanOut → Option CanOut
  | [] => none
  | f :: rest => match canOffer rest with
    | none => some f
    | some g => if g.ident < f.ident then some g else some f

/-- What a frame carries beside its identifier and data as it is sent (R569). -/
def canWire (s : State) (cn : Nat) (f : CanOut) : CanWire :=
  let b := canBaseIdx cn
  let fd := !f.classical && !f.xl
  { brs := fd && decide (bootOb s b 4 ≠ 0), esi := fd && (canOf s cn).passive, af := 0, sec := false,
    sdt := if f.xl then bits (ob s b 0xA) 23 16 else 0, vcid := if f.xl then bits (ob s b 0xA) 15 8 else 0,
    tms := f.xl && decide (bootOb s b 8 = 1) }

/-- CAN_TX_ATTEMPT_DONE: the offered frame is sent, or stays pending after a lost arbitration or an error (R573 to R575,
R577). -/
def execCanTxAttemptDone (cn : Nat) (x : TxResult) (sof : Nat) (s : State) : Host.Outcome State Fault Refusal :=
  let c := canOf s cn
  .next (if !running s ∨ !c.on ∨ c.listen ∨ c.busOff ∨ !c.integ then s
    else match canOffer c.tx with
    | none => s
    | some f =>
      match x with
      | .lostArbitration => s
      | .error => canErrs s cn (c.txErr + 8) c.rxErr
      | .sent =>
        let c1 := { c with tx := c.tx.erase f, sent := some (f, canWire s cn f) }
        let c2 := if f.use = 3 then { c1 with refSof := sof, refSent := true } else c1
        let s1 := canErrs (incOb (setCan s cn c2) (canBaseIdx cn + 7) 6) cn (c.txErr - 1) c.rxErr
        if f.use = 1 then manSent s1 f.num else s1)

/-- CAN_BUS_OFF: the controller enters bus-off; COM at L1 (R575). -/
def execCanBusOff (cn : Nat) (s : State) : Host.Outcome State Fault Refusal :=
  let c := canOf s cn
  .next (if running s ∧ c.on ∧ !c.busOff then
      condRaise (incOb (setCan s cn { c with busOff := true, integ := false }) (canBaseIdx cn + 7) 4)
        .com 1 0 (4 + cn) ((canBaseIdx cn + 7) * 65536) (canBaseIdx cn)
    else s)

/-- CAN_BUS_OFF_RECOVERY: 128 occurrences of 11 recessive bits end bus-off and the controller integrates again (R575). -/
def execCanBusOffRecovery (cn : Nat) (s : State) : Host.Outcome State Fault Refusal :=
  let c := canOf s cn
  .next (if running s ∧ c.busOff then
      clearCause (setCan s cn { c with busOff := false, integ := true, passive := false, txErr := 0, rxErr := 0 })
        .com 0 (canBaseIdx cn)
    else s)

/-- CAN_DETECT_ACCEPT: the candidate has received its frames without error; its rates are taken (R576). `brs`: one of them switched
its bit rate, beside those that CAN_FRAME_RX has seen do so. -/
def execCanDetectAccept (cn : Nat) (brs : Bool) (s : State) : Host.Outcome State Fault Refusal :=
  let c := canOf s cn
  let b := canBaseIdx cn
  .next (if running s ∧ c.detecting ∧ ob s (b + 2) 9 ≤ c.good then
      let v := ob s (b + 2) c.cand
      let s1 := putOb (putOb s b 2 (bits v 31 16)) b 4 (bits v 15 0)
      let s2 := { s1 with led := { s1.led with
        boot := tabSetD dfltAt (tabSetD dfltAt s1.led.boot (oaddr b 2) (cellOf (bits v 31 16))) (oaddr b 4) (cellOf (bits v 15 0)) } }
      let s3 := setCan s2 cn { c with detecting := false, listen := decide (ob s (b + 2) 0xC = 0), integ := true }
      putOb (putOb s3 (b + 2) 0xD (if c.brsSeen || brs then 2 else 3)) (b + 2) 0xE c.cand
    else s)

/-- The candidate after one: the next that is not 0, around the list (R576). -/
def nextCand (s : State) (b k : Nat) : Nat :=
  (((List.range 8).map (fun j => (k + j) % 8 + 1)).find? (fun n => decide (ob s (b + 2) n ≠ 0))).getD k

/-- CAN_DETECT_DWELL: the candidate met an error or reached its dwell, and the next is tried (R576). -/
def execCanDetectDwell (cn : Nat) (error : Bool) (s : State) : Host.Outcome State Fault Refusal :=
  let c := canOf s cn
  let b := canBaseIdx cn
  .next (if running s ∧ c.detecting ∧ (error ∨ c.dwellAt + ob s (b + 2) 0xA * 1000000 ≤ now s) then
      setCan s cn { c with cand := nextCand s b c.cand, good := 0, brsSeen := false, dwellAt := now s }
    else s)

/-- CAN_DETECT_TIMEOUT: no candidate was accepted in time; the controller stays in LISTEN and COM at L1 is raised
(R576). -/
def execCanDetectTimeout (cn : Nat) (s : State) : Host.Outcome State Fault Refusal :=
  let c := canOf s cn
  let b := canBaseIdx cn
  .next (if running s ∧ c.detecting ∧ c.detectAt + ob s (b + 2) 0xB * 1000000 ≤ now s then
      raiseEv (putOb (setCan s cn { c with detecting := false, listen := true }) (b + 2) 0xD 4) .com 1 0 (4 + cn) ((b + 2) * 65536)
    else s)

/-- CAN_REF_CYCLE: at each multiple of Can.RefCycle the time master queues a reference message; one still pending is
cancelled and counted (R574, R577). -/
def execCanRefCycle (cn : Nat) (s : State) : Host.Outcome State Fault Refusal :=
  let b := canBaseIdx cn
  let c := canOf s cn
  let per := ob s (b + 1) 3 * 1000000
  .next (if !running s ∨ !c.on ∨ ob s (b + 1) 1 = 0 ∨ now s < c.refDue ∨ (c.refDue = 0 ∧ 6 ≤ now s % max 1 per) then s
    else
      let late := c.tx.any (fun f => decide (f.use = 3))
      let s1 := if late then incOb (canCancel s cn (fun f => decide (f.use = 3))) (b + 1) 4 else s
      let cyc := (c.refCyc + 1) % 128
      let s2 := setCan s1 cn { canOf s1 cn with refCyc := cyc, refSent := false, refDue := (now s / per + 1) * per }
      canSend s2 cn
        { ident := ob s (b + 1) 2, classical := true, xl := false,
          bytes := leBytes 7 c.refSof ++ leBytes 1 (cyc * 2 + bitAt c.refSent 0), use := 3, num := 0 })

/-- CAN_BUS_INTEGRATION: a controller integrates to its bus, and the Ledger is served on it (R82, R567). -/
def execCanBusIntegration (cn : Nat) (s : State) : Host.Outcome State Fault Refusal :=
  let c := canOf s cn
  .next (if running s ∧ c.on ∧ !c.busOff then setCan s cn { c with integ := true } else s)

/-- CAN_RECEIVE_ERROR: the receive error counter rises, the controller may enter error passive (R575), and the frames
received without error in a row are none (R576). -/
def execCanReceiveError (cn : Nat) (s : State) : Host.Outcome State Fault Refusal :=
  let c := canOf s cn
  .next (if running s ∧ c.on ∧ !c.busOff then canErrs (setCan s cn { c with good := 0, brsSeen := false }) cn c.txErr (min 255 (c.rxErr + 1)) else s)

end Sys2Proof.Machine
end

