-- ==== Sys2Proof/Machine/TallyCmd.lean ====
section
/-! DEFINITION. The Tally's commands (R523 to R544). -/

namespace Sys2Proof.Machine

/-- FAULT_RAISE: a detector raises a fault on an event against a function (1 to 7) or without one (0); its key sets the
effective level, and the function or the device reacts (R525 to R530, R541). -/
def execFaultRaise (cls : Cls) (lvl scope rank detail : Nat) (s : State) : Host.Outcome State Fault Refusal :=
  .next (if running s then raiseEv s cls lvl scope rank detail else s)

/-- FAULT_COMMIT: the next raise whose commit instant has come is committed (R534 to R540). -/
def execFaultCommit (s : State) : Host.Outcome State Fault Refusal :=
  .next (match nextCommit s with
    | none => s
    | some r => if running s then commitRaise s r else s)

/-- A write to Tally.Ack names a scope and a class, or every one (R532). -/
def doAck (s : State) (q : QReq) : State × Nat :=
  let v := leNat q.data
  let sc := bits v 15 8
  let cl := bits v 7 0
  if (sc = 0xFF ∨ (1 ≤ sc ∧ sc ≤ 8)) ∧ (cl = 0xFF ∨ (1 ≤ cl ∧ cl ≤ 24)) then (ackKeys s v q.stamp, 0) else (s, 0x02000006)

/-- TALLY_ACK: a write to Tally.Ack (R531, R532). -/
def execTallyAck (r : Req) (s : State) : Host.Outcome State Fault Refusal :=
  .next (serveWrite s r 0x6810 0 doAck)

end Sys2Proof.Machine
end

