-- ==== Sys2Proof/Machine/TwinKey.lean ====
section
/-! DEFINITION. The twin-key transaction, the staging of seals and the runtime check value (R509 to R520). -/

namespace Sys2Proof.Machine

/-- The view of the privileged values after a commit: the pending value where one is written (R517). -/
def tkView (s : State) (a : Nat) : Cell := (tabFind s.saf.tkPend a).getD (cellNow s a)

/-- The CRC word a group will have after the commit: that of the staged content, else as blown (R511). -/
def stagedCrc (s : State) (g : Nat) : Nat :=
  match tabFind s.saf.staged g with
  | some l => groupCrc (l.map (fun w => w.toNat))
  | none => (tabGet 0 s.fuse.crc g).toNat

/-- OPEN: in PREOP, with block 0x6000 shored by the same session, which takes CONFIG; KEEPER is checked before (R119,
R516, R517). -/
def doTkOpen (s : State) (q : QReq) : State × Nat :=
  if s.saf.tk ≠ 0 then (s, 0x05000002)
  else if s.dev ≠ .preop ∨ !shoredBy s 0x6000 q.ses then
    (s, 0x03000005)
  else ({ s with saf := { s.saf with
      tk := 1, keeper := some q.ses, witness := none, tkOpened := q.stamp, tkPend := [], tkList := [], staged := [] } }, 0)

/-- PROPOSE: the pending set is checked across objects, and Tk.Proposed takes the value R513 gives after the commit
(step 4 of R517). -/
def doTkPropose (s : State) (q : QReq) : State × Nat :=
  if s.saf.tk ≠ 1 ∨ s.saf.keeper ≠ some q.ses then (s, 0x05000002)
  else
    let c := tkCheck s (tkView s) s.saf.tkList
    if c ≠ 0 then (s, c)
    else ({ s with saf := { s.saf with tk := 2, proposed := (checkOf s (tkView s) (stagedCrc s)).toNat } }, 0)

/-- APPROVE: the witness writes the proposed value, or any other value, which aborts (step 5 of R517). -/
def doTkApprove (s : State) (q : QReq) : State × Nat :=
  if s.saf.tk ≠ 2 then (s, 0x05000002)
  else if !tkDistinct s q.ses then (s, 0x05000003)
  else if leNat q.data = s.saf.proposed then ({ s with saf := { s.saf with tk := 3, witness := some q.ses } }, 0)
  else (abortTk s 0x02000006, 0x02000006)

/-- A commit that disables a profile frees its connection's slot; the requests that it held end, and so does the cause of
its loss (R491, R492, R504, R506). -/
def freeSlot (s : State) (e : Nat × Wb) : State :=
  if ob s (wbIdx e.1) 1 = 1 then s
  else
    let s1 := { s with saf := { s.saf with wb := s.saf.wb.filter (fun x => decide (x.1 ≠ e.1)) } }
    clearAll ([0, 1, 2, 3].foldl (wbRequest e.1 (now s) e.2.held 0) s1) .way (0x2000 + e.1)

/-- COMMIT: every pending value takes effect at the commit instant, derived values are recomputed, PRIV windows restart
and disabled profiles free their slots (steps 1 and 2 of R518, R276, R504). -/
def doTkCommit (s : State) (q : QReq) : State × Nat :=
  if s.saf.tk ≠ 3 ∨ s.saf.keeper ≠ some q.ses ∨ s.saf.committing.isSome then (s, 0x05000002)
  else
    let s1 := s.saf.tkPend.foldl (fun t e => setCell t e.1 e.2) s
    let s2 := { s1 with saf := { s1.saf with
      tkPend := [], committing := some (q, now s) } }
    (afterCommit s (tkRestart (s2.saf.wb.foldl freeSlot s2) s.saf.tkList), deferred)

/-- Blow one staged group and take the CRC of its read-back content (R511); a content read back wrong holds a free value
(DESIGN CHOICE, log 4). -/
def blowGroup (readOk : Bool) (s : State) (e : Nat × List (BitVec 16)) : State :=
  let fr := freshWord s
  let s1 := if readOk then s else fr.2
  let l := if readOk then e.2 else (fr.1.setWidth 16) :: e.2.drop 1
  let t := (List.range l.length).foldl (fun t n => tabSet 0 t (e.1 * 64 + n) (l.getD n 0)) s1.fuse.words
  { s1 with fuse := { s1.fuse with
    words := t, crc := tabSet 0 s1.fuse.crc e.1 (BitVec.ofNat 32 (groupCrc (l.map (fun w => w.toNat)))) } }

/-- TK_COMMIT_DONE: the staged groups are blown and read back, the values persisted, 0x6003.00 recomputed, 0x6004.00 takes
the approved value, block 0x6000 is released and the commit answered: 10 ms for each staged group and 20 ms after the
commit instant (steps 3 and 4 of R518, R490, R511). -/
def execTkCommitDone (readOk : Bool) (s : State) : Host.Outcome State Fault Refusal :=
  .next (match s.saf.committing with
    | none => s
    | some (q, t0) =>
      if !running s ∨ now s < t0 + (10 * s.saf.staged.length + 20) * 970000 then s
      else
        let s1 := s.saf.staged.foldl (blowGroup readOk) s
        let s2 := s.saf.tkList.foldl persistAt s1
        let s3 := { s2 with saf := { s2.saf with
          computed := checkValue s2, confirmed := BitVec.ofNat 32 s2.saf.proposed, tk := 0, keeper := none, witness := none,
          tkList := [], staged := [], committing := none, tkResult := 0 } }
        let s4 := if isShored s3 0x6000 then releaseBlocks true s3 [0x6000] else s3
        let s5 := reply s4 q 2 []
        let s6 := if s5.saf.computed ≠ s5.saf.confirmed then raiseEv s5 .cfg 1 0 7 0x60030000 else s5
        if readOk ∨ s.saf.staged = [] then s6 else raiseEv s6 .cfg 5 0 7 0x62000100)

/-- ABORT by the keeper or by a witness, who differs from the keeper (R119, R516, R519). -/
def doTkAbort (s : State) (q : QReq) : State × Nat :=
  if s.saf.tk = 0 ∨ s.saf.committing.isSome then (s, 0x05000002)
  else if s.saf.keeper = some q.ses then (abortTk s 0, 0)
  else if !hasRole s q.ses 16 then (s, 0x05000002)
  else if !tkDistinct s q.ses then (s, 0x05000003)
  else (abortTk s 0, 0)

/-- A write to Safety.Tk.Command by its value (R517, R519, R520). -/
def doTkCommand (s : State) (q : QReq) : State × Nat :=
  if leNat q.data = 1 then doTkOpen s q
  else if leNat q.data = 2 then doTkPropose s q
  else if leNat q.data = 3 then doTkCommit s q
  else doTkAbort s q

/-- TK_OPEN: Safety.Tk.Command 1 (R517). -/
def execTkOpen (r : Req) (s : State) : Host.Outcome State Fault Refusal := .next (serveWrite s (byteReq r 2 1) 0x6001 1 doTkCommand)

/-- TK_PROPOSE: Safety.Tk.Command 2 (R517). -/
def execTkPropose (r : Req) (s : State) : Host.Outcome State Fault Refusal := .next (serveWrite s (byteReq r 2 2) 0x6001 1 doTkCommand)

/-- TK_APPROVE: a write to Safety.Tk.Approve (R517). -/
def execTkApprove (r : Req) (s : State) : Host.Outcome State Fault Refusal := .next (serveWrite s r 0x6001 5 doTkApprove)

/-- TK_COMMIT: Safety.Tk.Command 3 (R518). -/
def execTkCommit (r : Req) (s : State) : Host.Outcome State Fault Refusal := .next (serveWrite s (byteReq r 2 3) 0x6001 1 doTkCommand)

/-- TK_ABORT: Safety.Tk.Command 4 (R519). -/
def execTkAbort (r : Req) (s : State) : Host.Outcome State Fault Refusal := .next (serveWrite s (byteReq r 2 4) 0x6001 1 doTkCommand)

/-- TK_TIMEOUT: Safety.Tk.Timeout has passed after the OPEN without a commit (R490, R519). -/
def execTkTimeout (s : State) : Host.Outcome State Fault Refusal :=
  .next (if running s ∧ s.saf.tk ≠ 0 ∧ s.saf.tkOpened + ob s 0x6001 6 * 970000000 ≤ now s then abortTk s 0 else s)

/-- An object written in the transaction is listed once, in order of writing (R517, R520). -/
def tkNote (l : List Nat) (a : Nat) : List Nat := if l.contains a then l else l ++ [a]

/-- A write to the staging object of a group: the exact length, a group the integrator programs, and a blank one
(R511, R512). -/
def doStage (g : Nat) (s : State) (q : QReq) : State × Nat :=
  if q.data.length ≠ 2 * groupLen g then (s, 0x02000006)
  else if g = 6 ∨ g = 7 ∨ !groupBlank s.fuse g then (s, 0x03000005)
  else
    let ws := (List.range (groupLen g)).map (fun n => BitVec.ofNat 16 (leNat ((q.data.drop (2 * n)).take 2)))
    ({ s with saf := { s.saf with staged := tabPut s.saf.staged g ws, tkList := tkNote s.saf.tkList (oaddr 0x6202 (g + 1)) } }, 0)

/-- SEAL_STAGE_WRITE: a write to Safety.Seal.Stage inside the transaction (R511, R517). -/
def execSealStageWrite (r : Req) (g : Nat) (s : State) : Host.Outcome State Fault Refusal :=
  .next (serveWrite s r 0x6202 (g + 1) (doStage g))

/-- CHECK_VALUE_RECOMPUTE: a recomputed value that differs from 0x6003.00 raises MEM at L4 against every function; not
while a commit is between its commit instant and its end (R514, R518). -/
def execCheckValueRecompute (s : State) : Host.Outcome State Fault Refusal :=
  .next (if (s.dev = .preop ∨ s.dev = .operational) ∧ running s ∧ s.saf.committing = none then
      if checkValue s = s.saf.computed then clearAll s .mem 0x50 else condAll s fnAll .mem 4 0 0x60030000 0x50
    else s)

end Sys2Proof.Machine
end

