-- ==== Sys2Proof/Machine/Windows.lean ====
section
/-! DEFINITION. The commands of the window comparators (R268 to R280). -/

namespace Sys2Proof.Machine

/-- WINDOW_CROSSING: the input of an analogue window at a phase of the output stage's latest tick, in µV at the ball: the
comparators decide, and a filtered change acts on the window's logic (R265 to R268, R270, R272, R274, R275). A demodulator's
window takes its values from the protection filter (R252). -/
def execWindowCrossing (w : Nat) (uv : Int) (phase : Nat) (s : State) : Host.Outcome State Fault Refusal :=
  .next (if winRuns s w ∧ ob s (winBase w) 2 ≠ 0xFF ∧ !winDemod (ob s (winBase w) 2) then winSample s w uv (outNow s - 32 + phase)
    else s)

/-- BLANK_MAX_TIMEOUT: a blanking opened by a mark closes after Win.BlankMax and is counted (R269). -/
def execBlankMaxTimeout (w : Nat) (s : State) : Host.Outcome State Fault Refusal :=
  .next (if winRuns s w then winMaxEnd s w (outNow s) else s)

/-- BLANK_TIME_END: a lane blanking closes after Win.BlankTime (R269, R271). -/
def execBlankTimeEnd (w : Nat) (s : State) : Host.Outcome State Fault Refusal :=
  .next (if winRuns s w then winLaneEnd s w (outNow s) else s)

/-- A write to Win.Clear: it clears outputs held by HOST; FOLLOW and PERIOD hold or release theirs by their own rule
(R272). -/
def doWinClear (w : Nat) (s : State) (q : QReq) : State × Nat :=
  let v := if ob s (winBase w) 0xB = 1 then leNat q.data else 0
  let s1 := if bit v 0 then winClearOut s w false (outNow s) else s
  (if bit v 1 then winClearOut s1 w true (outNow s) else s1, 0)

/-- WIN_CLEAR: a write to Win.Clear (R272). -/
def execWinClear (r : Req) (w : Nat) (s : State) : Host.Outcome State Fault Refusal :=
  .next (serveWrite s r (winBase w) 0x15 (doWinClear w))

/-- WINDOW_CHECK: steps 1 to 4 of a check on the relief comparator of the window's kind (R279, R280). -/
def execWindowCheck (w : Nat) (agree : Bool) (s : State) : Host.Outcome State Fault Refusal :=
  .next (if !winRuns s w ∨ (winOf s w).chk ≠ 0 then s
    else if reliefTaken s w then (if agree then s else winCheckFail s w)
    else if !agree then winCheckFail s w
    else setWin s w { winOf s w with relief := true, chk := if winDemod (ob s (winBase w) 2) then 2 else 1 })

/-- The readback code lies within ±256 of its threshold's (step 5 of R279). -/
def readbackOk (s : State) (w t code : Nat) : Bool :=
  let want : Rat := if w < 28 then ((t * 64 : Nat) : Rat) else mkRat (t * 64 * 2500000 : Nat) s.power.refUv
  decide (rabs ((code : Rat) - want) ≤ 256)

/-- WINDOW_CHECK_READBACK: step 5 of R279, analogue windows only: the DACs are read in a converter gap (R234). -/
def execWindowCheckReadback (w codeL codeH : Nat) (s : State) : Host.Outcome State Fault Refusal :=
  .next (if winRuns s w ∧ (winOf s w).chk = 1 ∧ (List.range 16).any (gapFree s) then
      if readbackOk s w (ob s (winBase w) 3) codeL && readbackOk s w (ob s (winBase w) 4) codeH then
        setWin s w { winOf s w with chk := 2 }
      else winCheckFail s w
    else s)

/-- WINDOW_CHECK_END: the window reconnects; where it agrees it takes back its outputs and the check passes (step 6 of
R279, R280). -/
def execWindowCheckEnd (w : Nat) (agree : Bool) (s : State) : Host.Outcome State Fault Refusal :=
  .next (if winRuns s w ∧ (winOf s w).chk = 2 then
      if agree then
        reliefFreed (clearDet (setWin s w { winOf s w with chk := 0, relief := false, chkFail := false }) (winBase w * 16 + 3)) w
      else winCheckFail s w
    else s)

end Sys2Proof.Machine
end

