-- ==== Sys2Proof/Machine/WriteObj.lean ====
section
/-! DEFINITION. What a WRITE does to each object: the objects with a behaviour or a condition of their own, and the service
WRITE over them (R88 to R106, check 8 of R105). -/

namespace Sys2Proof.Machine

/-- The value of a WRITE as it is stored (R90). -/
def qVal (q : QReq) : Nat := storedOf q.ty.toNat q.data

/-- The address that a WRITE names. -/
def qAddr (q : QReq) : Nat := oaddr q.idx q.sub

/-- Put the value in place; one put live into a Ridge-backed object is a word on Ridge (R257, R636). -/
def putPlain (s : State) (q : QReq) : State × Nat :=
  let s1 := putValue s (qAddr q) (qVal q)
  (if !addrShored s (qAddr q) && (rowAt (qAddr q)).any (fun r => r.ridge) then snoop s1 (qAddr q) (qVal q) 0 else s1, 0)

/-- The values that the write would leave: the pending ones of the object's block where it is shored (R138). -/
def afterWrite (s : State) (q : QReq) (a : Nat) : Cell :=
  if a = qAddr q then cellOf (qVal q) else viewOf s ((blockOf q.idx).toList) a

/-- The Ledger's identifiers on a controller under a base and a choice of controllers (R102). -/
def ledgerIds (cn base carriers : Nat) : List Nat :=
  if carriers = 1 - cn then [] else (List.range 16).map (fun k => base + k) ++ [base + 0x10, base + 0x18]

/-- The users of identifiers on a controller, each with its number: the Ledger 0, manifest m 1 + m, Waybill profile p
64 + p, the reference message 128 (R570). -/
def canUsers (s : State) (v : Nat → Cell) (cn : Nat) : List (Nat × List Nat) :=
  (0, ledgerIds cn (bootOb s 0x1030 2) (bootOb s 0x1030 3)) :: (0, ledgerIds cn (vw v 0x1030 2) (vw v 0x1030 3))
    :: (128, [vw v (canBaseIdx cn + 1) 2])
    :: ((List.range 32).filter (fun m => decide (vw v (0x1400 + m) 3 = cn + 1) && decide ((v (oaddr (0x1400 + m) 7)).toNat ≠ 0))).map
        (fun m => (1 + m, [(v (oaddr (0x1400 + m) 7)).toNat]))
    ++ ((List.range 32).filter (fun p => decide (vw v (wbIdx p) 1 = 1) && decide (vw v (wbIdx p) 2 = cn + 1))).map
        (fun p => (64 + p, [bits (v (oaddr (wbIdx p) 3)).toNat 26 16, bits (v (oaddr (wbIdx p) 3)).toNat 10 0]))

/-- A user shares an identifier on a controller with another user (R570). -/
def idClash (s : State) (v : Nat → Cell) (u : Nat) : Bool :=
  [0, 1].any (fun cn =>
    let us := canUsers s v cn
    us.any (fun e => decide (e.1 = u) && us.any (fun f => decide (f.1 ≠ u) && e.2.any (fun i => f.2.contains i))))

/-- A write of an identifier: refused where it gives one identifier to two users (R570). -/
def writeId (s : State) (q : QReq) (u : Nat) : State × Nat :=
  if idClash s (afterWrite s q) u then (s, 0x02000006) else putPlain s q

/-- A write to a configuration object of a manifest whose Enable is 0 (R95, R122, R570). A Cycle is held to the range of the
transport written when it is written; a later change of Transport is not refused for it (DESIGN CHOICE, log 99). -/
def writeMan (s : State) (q : QReq) (m : Nat) : State × Nat :=
  let c := 0x1400 + m
  if q.idx = c ∧ q.sub = 5 ∧ ob s c 3 ≠ 0 ∧ qVal q < 500 then (s, 0x02000006)
  else if q.idx = c ∧ q.sub = 6 ∧ ob s c 5 < qVal q + 10 then (s, 0x02000006)
  else if q.idx = c ∧ (q.sub = 3 ∨ q.sub = 7) then writeId s q (1 + m)
  else putPlain s q

/-- The device-level objects (R94 to R96, R122). -/
def writeDevice (s : State) (q : QReq) : State × Nat :=
  if q.idx = 0x1010 then doShore s q
  else if q.idx = 0x1011 then doOp false s q
  else if q.idx = 0x1012 then doOp true s q
  else if q.idx = 0x1013 then doStore s q
  else if q.idx = 0x1014 then doRestore s q
  else if q.idx = 0x1030 ∧ (q.sub = 2 ∨ q.sub = 3) then writeId s q 0
  else if 0x1400 ≤ q.idx ∧ q.idx < 0x1420 ∧ q.sub = 1 then doManEnable s q
  else if 0x1400 ≤ q.idx ∧ q.idx < 0x1420 then writeMan s q (q.idx - 0x1400)
  else if 0x1600 ≤ q.idx ∧ q.idx < 0x1620 then writeMan s q (q.idx - 0x1600)
  else putPlain s q

/-- A write to a carrier's mode, ratio or rate (R162, R163, R207). -/
def writeCarrier (s : State) (q : QReq) (r : Nat) : State × Nat :=
  let b := rodBase r + 2
  let v := afterWrite s q
  if !carrierOk v r (vw v b 1) (vw v b 2) (vw v b 3) then (s, 0x02000006)
  else
    let s1 := putValue s (qAddr q) (qVal q)
    (if addrShored s (qAddr q) then s1 else carrierWrite s1 r, 0)

/-- A write of the fixed rate of rod 7, live at its source (R152, R164, R197). -/
def writeRod7 (s : State) (q : QReq) : State × Nat :=
  if maxRateOf (viewOf s [0x2B00, rodBase 7]) 7 < (toInt 32 (qVal q)).natAbs then (s, 0x02000006)
  else
    let s1 := putValue s (qAddr q) (qVal q)
    (if addrShored s (qAddr q) then s1 else sendFreqAll s1 11, 0)

/-- The Rod and Lane domains. -/
def writeRod (s : State) (q : QReq) : State × Nat :=
  if q.idx < 0x2880 ∧ (q.idx - 0x2800) % 0x10 = 2 ∧ q.sub ≤ 3 then writeCarrier s q ((q.idx - 0x2800) / 0x10)
  else if q.idx = 0x2B05 then writeRod7 s q
  else putPlain s q

/-- The live objects of brace i (R286, R298, R299, R302, R303). -/
def writeBrace (s : State) (q : QReq) (i : Nat) : State × Nat :=
  let o := q.idx - braceBase i
  let v := afterWrite s q
  if o = 1 then doCoef i 0 (q.sub - 1) s q
  else if o = 2 then doCoef i 1 (q.sub - 1) s q
  else if o = 3 ∧ q.sub = 1 then doSelect i s q
  else if o = 3 ∧ q.sub = 7 then doPreset i s q
  else if o = 3 ∧ (q.sub = 3 ∨ q.sub = 4) ∧ vwF v (q.idx) 4 < vwF v (q.idx) 3 then (s, 0x02000006)
  else putPlain s q

/-- The Position, Acquisition, Comparator and Truss domains. A channel of the response capture admits KIND 1 and 4, and KIND 0, its
default, for none (R327; DEDUCED, log 110). -/
def writeMid (s : State) (q : QReq) : State × Nat :=
  if (calChan q.idx q.sub).isSome then doCal ((calChan q.idx q.sub).getD 0) s q
  else if 0x3800 ≤ q.idx ∧ q.idx < 0x3C00 ∧ q.sub = 0x15 then doWinClear ((q.idx - 0x3800) / 0x20) s q
  else if q.idx = 0x3C20 ∧ q.sub = 9 then doInject s q
  else if q.idx = 0x3C29 ∧ q.sub = 7 then doResp s q
  else if q.idx = 0x3C28 ∧ ¬ (srcKind (qVal q) ∈ [0, 1, 4]) then (s, 0x02000006)
  else if q.idx = 0x3C29 ∧ q.sub = 4 ∧ respCap (vw (afterWrite s q) 0x3C29 1) < qVal q then (s, 0x02000006)
  else if 0x3D00 ≤ q.idx ∧ q.idx < 0x4000 then writeBrace s q ((q.idx - 0x3D00) / 4)
  else putPlain s q

/-- The function domains. -/
def writeFn (s : State) (q : QReq) : State × Nat :=
  match (if q.sub = 0 then fnCmdIdx q.idx else none) with
  | some f => doCommand f s q
  | none =>
    if q.idx = 0x4005 ∧ q.sub = 1 then doDirection .a s q
    else if q.idx = 0x4805 ∧ q.sub = 1 then doDirection .b s q
    else if q.idx = 0x5300 ∧ q.sub = 1 then doDabFsw s q
    else if q.idx = 0x5900 ∧ q.sub = 2 then doDcxFsw s q
    else if q.idx = 0x5C13 ∧ q.sub = 1 then doPark s q
    else if q.idx = 0x5C23 ∧ q.sub = 1 then doClutch s q
    else if (q.idx = 0x5D00 ∨ q.idx = 0x5D40 ∨ q.idx = 0x5D80) ∧ q.sub = 2 ∧ vw (afterWrite s q) q.idx 1 < qVal q + 5 then
      (s, 0x02000006)
    else putPlain s q

/-- The commands of the Safety domain that are no TK object (R504, R517, R520). -/
def writeSafety (s : State) (q : QReq) : State × Nat :=
  if q.idx = 0x6040 then doConnect s q
  else if q.idx = 0x6001 ∧ q.sub = 5 then doTkApprove s q
  else if q.idx = 0x6001 then doTkCommand s q
  else putPlain s q

/-- The prescaler of a phase: the smallest with 8 to 80 time quanta in a bit (R568). -/
def canQuanta (maxB r : Nat) : Option Nat :=
  ((List.range maxB).find? (fun k =>
      decide (80000 % ((k + 1) * r) = 0) && decide (8 ≤ 80000 / ((k + 1) * r)) && decide (80000 / ((k + 1) * r) ≤ 80))).map
    (fun k => 80000 / ((k + 1) * r))

/-- A rate and a sample point give a bit time (R568). -/
def canPhaseOk (maxB r smp : Nat) : Bool :=
  match canQuanta maxB r with
  | none => false
  | some n => decide (2 ≤ n - (2 * n * smp + 1000) / 2000)

/-- A nominal rate with its sample point, and a data rate, 0 for none (R568, R579). -/
def canRatesOk (nom data nomSmp dataSmp : Nat) : Bool :=
  decide (125 ≤ nom) && decide (nom ≤ 1000) && canPhaseOk 80 nom nomSmp
    && (decide (data = 0) || (decide (1000 ≤ data) && decide (data ≤ 10000) && canPhaseOk 1 data dataSmp))

/-- The objects of a CAN controller with a condition (R568 to R572, R576 to R579). -/
def writeCan (s : State) (q : QReq) (cn : Nat) : State × Nat :=
  let b := canBaseIdx cn
  let v := afterWrite s q
  let o := q.idx - b
  if o = 0 ∧ (q.sub = 2 ∨ q.sub = 3) ∧ !canRatesOk (vw v b 2) 0 (vw v b 3) 0 then (s, 0x02000006)
  else if o = 0 ∧ (q.sub = 4 ∨ q.sub = 5) ∧ !canRatesOk 500 (vw v b 4) 800 (vw v b 5) then (s, 0x02000006)
  else if o = 0 ∧ (q.sub = 6 ∨ q.sub = 7) ∧ !canRatesOk 500 (vw v b 6) 800 (vw v b 7) then (s, 0x02000006)
  else if o = 0 ∧ q.sub = 9 ∧ qVal q = 1 ∧ bootOb s b 6 = 0 then (s, 0x02000006)
  else if o = 0 ∧ q.sub = 0xA ∧ Nat.land (qVal q) 0xFF0000FF ≠ 0 then (s, 0x02000006)
  else if o = 1 ∧ q.sub = 1 ∧ qVal q = 1 ∧ ob s 0x6C40 1 = 2 + cn then (s, 0x03000005)
  else if o = 1 ∧ q.sub = 1 ∧ qVal q = 1 ∧ ob s (b + 1) 1 = 0 then
    let per := ob s (b + 1) 3 * 1000000
    ((putPlain (setCan s cn { canOf s cn with refSent := false, refDue := (now s / per + 1) * per }) q).1, 0)
  else if o = 1 ∧ q.sub = 2 then writeId s q 128
  else if o = 2 ∧ q.sub ≤ 8 ∧ qVal q ≠ 0
      ∧ (8000 < bits (qVal q) 15 0 ∨ !canRatesOk (bits (qVal q) 31 16) (bits (qVal q) 15 0) (vw v b 3) (vw v b 5)) then
    (s, 0x02000006)
  else if o = 3 ∧ (bit (qVal q) 61 ∨ bits (qVal q) 31 29 ≠ 0) then (s, 0x02000006)
  else putPlain s q

/-- The objects of the MAC with a condition (R550, R553 to R555, R559). -/
def writeEth (s : State) (q : QReq) : State × Nat :=
  let v := qVal q
  if q.sub = 2 ∧ bit v 40 then (s, 0x02000006)
  else if q.sub = 4 ∧ Nat.land (2 ^ 32 - 1 - v) (2 ^ 32 - v) ≠ 0 then (s, 0x02000006)
  else if q.sub = 8 ∧ Nat.land v 0x8888 ≠ 0 then (s, 0x02000006)
  else if q.sub = 0xC ∧ (bits v 30 29 ≠ 0 ∨ bits v 7 5 ≠ 0 ∨ (!bit v 31 ∧ (31 < bits v 23 8 ∨ bits v 28 24 ≠ 0))) then
    (s, 0x02000006)
  else putPlain s q

/-- The Network domain. A generic write of an MDIO read takes a free value for the PHY's answer (DESIGN CHOICE, log 4); the gPTP state
follows what it is formed from (R566). -/
def writeNet (s : State) (q : QReq) : State × Nat :=
  if q.idx = 0x6C00 then writeEth s q
  else if q.idx = 0x6C03 then doMdio (some (some (freshWord s).1.toNat)) (freshWord s).2 q
  else if q.idx = 0x6C40 ∧ q.sub = 1 then doTimeSource s q
  else if q.idx = 0x6C41 then (putPtp (putPlain s q).1, 0)
  else if 0x6D00 ≤ q.idx ∧ q.idx < 0x6D80 then writeCan s q 0
  else if 0x6D80 ≤ q.idx ∧ q.idx < 0x6E00 then writeCan s q 1
  else putPlain s q

/-- The Tally, Thermal and Outrider domains (R532, R540, R586). -/
def writeHigh (s : State) (q : QReq) : State × Nat :=
  let v := afterWrite s q
  if q.idx = 0x6810 then doAck s q
  else if q.idx = 0x6811 then (refreshErr (putPlain s q).1, 0)
  else if q.idx = 0x7000 ∧ vwF v 0x7000 2 ≤ vwF v 0x7000 1 then (s, 0x02000006)
  else if 0x7040 ≤ q.idx ∧ q.idx < 0x7100 ∧ vwF v q.idx 3 ≤ vwF v q.idx 2 then (s, 0x02000006)
  else putPlain s q

/-- A write inside the twin-key transaction: the staging of a group, or a value that joins the pending set and the list
(R511, R517, R520). Waybill's port differs from the Ledger's, a profile with code 0 is not enabled, and its identifiers
are its own (R507, R508, R570). -/
def writeTk (s : State) (q : QReq) : State × Nat :=
  let v := fun a => if a = qAddr q then cellOf (qVal q) else tkView s a
  let p := (q.idx - 0x6080) / 8
  let wb := decide (0x6080 ≤ q.idx) && decide (q.idx < 0x6180)
  if q.idx = 0x6202 then doStage (q.sub - 1) s q
  else if q.idx = 0x6040 ∧ q.sub = 2 ∧ qVal q = ob s 0x1030 1 then (s, 0x02000006)
  else if wb ∧ vw v (wbIdx p) 1 = 1 ∧ vw v (wbIdx p) 4 = 0 then (s, 0x02000006)
  else if wb ∧ q.sub ≤ 3 ∧ idClash s v (64 + p) then (s, 0x02000006)
  else ({ s with saf := { s.saf with
    tkPend := tabPut s.saf.tkPend (qAddr q) (cellOf (qVal q)), tkList := tkNote s.saf.tkList (qAddr q) } }, 0)

/-- The effect of a WRITE that has passed checks 1 to 7 of R105: the state after it, and 0, the code of check 8 or the
deferral. -/
def objEffect (s : State) (q : QReq) : State × Nat :=
  match rowOf q.idx q.sub with
  | none => (s, 0x02000007)
  | some r =>
    if accAt s (qAddr q) r = .tk then writeTk s q
    else if writeCond s q.idx q.sub ≠ 0 then (s, writeCond s q.idx q.sub)
    else if q.idx < 0x2000 then writeDevice s q
    else if q.idx = 0x2001 then stateRequest s (leNat q.data)
    else if q.idx = 0x2200 ∧ q.sub = 1 then doCampEnter s q
    else if 0x2800 ≤ q.idx ∧ q.idx < 0x3000 then writeRod s q
    else if 0x3000 ≤ q.idx ∧ q.idx < 0x4000 then writeMid s q
    else if 0x4000 ≤ q.idx ∧ q.idx < 0x6000 then writeFn s q
    else if 0x6000 ≤ q.idx ∧ q.idx < 0x6800 then writeSafety s q
    else if 0x6C00 ≤ q.idx ∧ q.idx < 0x7000 then writeNet s q
    else if 0x6800 ≤ q.idx then writeHigh s q
    else putPlain s q

/-- Check a WRITE-type request, run its effect and answer it. -/
def writeRequest (s : State) (q : QReq) : State :=
  let ty := match rowOf q.idx q.sub with | none => 0 | some w => w.ty
  let c := checkWrite s q
  if c ≠ 0 then refuse s q c
  else
    let e := objEffect s q
    conclude e.1 q ty e.2

/-- WRITE: a request is admitted, checked, carried out and answered (R105, R106, R111). -/
def execWrite (r : Req) (idx sub : Nat) (s : State) : Host.Outcome State Fault Refusal :=
  .next (serveWrite s r idx sub objEffect)

end Sys2Proof.Machine
end

