-- ==== Sys2Proof/Machine/HostPort.lean ====
section
/-! DEFINITION. The local host port: frames, registers, the mailbox, notifications, window slots and the interrupt (R597 to
R612). -/

namespace Sys2Proof.Machine

/-- The slot of the open host-port session (R103, R120). -/
def hostSession (s : State) : Option Nat :=
  (List.range 8).find? (fun n => decide ((sess s n).st = 2) && decide ((sess s n).tr = .host))

/-- A window slot. -/
def slotAt (s : State) (w : Nat) : Slot := tabGet {} s.host.slots w

/-- Write a window slot. -/
def setSlot (s : State) (w : Nat) (x : Slot) : State :=
  { s with host := { s.host with slots := tabSet {} s.host.slots w x } }

/-- A 32-bit word of message bytes, little-endian (R604). -/
def bytesWord (l : List Byte) (k : Nat) : Nat := leNat ((l.drop (4 * k)).take 4)

/-- The words of a message (R604). -/
def bytesWords (l : List Byte) : Tab Nat :=
  (List.range 64).foldl (fun t k => tabSet 0 t k (bytesWord l k)) []

/-- The bytes of MBOX_REQ (R604). -/
def reqBytes (s : State) (len : Nat) : List Byte :=
  ((List.range 64).flatMap (fun k => leBytes 4 (tabGet 0 s.host.req k))).take len

/-- Submit a mailbox message: refused while BUSY; an OPEN waits for its own step; without a session it is answered
0x0100_0005 (R103, R120, R605). The second component is RESULT. -/
def doMbox (s : State) (data : Nat) : State × Nat :=
  let len := bits data 8 0
  if s.host.busy then (s, 5)
  else if len = 0 ∨ 256 < len then (s, 4)
  else
    let p := reqBytes s len
    let s1 := { s with host := { s.host with busy := true, ready := false, answer := none } }
    let q : QReq := { ses := 8, reqid := p.getD 1 0, stamp := now s, svc := 0, idx := leNat ((p.drop 2).take 2),
                      sub := leNat ((p.drop 4).take 1), ty := 0, data := [], xl := false }
    if (p.getD 0 0).toNat = 8 then (s1, 0)
    else match hostSession s1 with
      | some n => (enqueue s1 n (now s) false 0 p, 0)
      | none =>
        ({ s1 with host := { s1.host with
            answer := some (msgHead 0xFF q.reqid.toNat q.idx q.sub 0 ++ leBytes 4 0x01000005) } }, 0)

/-- The code that refuses a binding, 0 where it is accepted (R105, R607). -/
def bindCode (s : State) (n idx sub : Nat) : Nat :=
  match rowOf idx sub with
  | none => 0x02000007
  | some r =>
    if !hasRole s n 1 then 0x04000002
    else if r.ty = 11 ∨ r.ty = 12 then 0x02000005
    else 0

/-- Bind or unbind a window slot (R607). -/
def doBind (s : State) (w data : Nat) : State × Nat :=
  match hostSession s with
  | none => (s, 7)
  | some n =>
    if !bit data 0 then (setSlot s w {}, 0)
    else
      let c := bindCode s n (bits data 31 16) (bits data 15 8)
      let s1 := { s with host := { s.host with winAbort := c, winSlot := w } }
      if c ≠ 0 then (setSlot s1 w {}, 0)
      else (setSlot s1 w { ({} : Slot) with
              sel := bits data 31 8 * 256 + 1,
              ty := match rowOf (bits data 31 16) (bits data 15 8) with | none => 0 | some r => r.ty }, 0)

/-- Commit a slot's value as a Ledger WRITE (R609): PEND is set until its response; a value outside the object's size is
out of range. It takes its place among the requests in the order of their stamps, and is one of the eight a session may have
unanswered (R111). -/
def doCommit (s : State) (n w v : Nat) : State :=
  let x := slotAt s w
  let idx := bits x.sel 31 16
  let sub := bits x.sel 15 8
  let size := tySize x.ty
  let q : QReq := { ses := n, reqid := BitVec.ofNat 8 (0xF0 + w), stamp := now s, svc := 2, idx := idx, sub := sub,
                    ty := BitVec.ofNat 8 x.ty, data := leBytes size v, xl := false, win := some w }
  let s1 := setSlot s w { x with pend := true }
  if 2 ^ (8 * size) ≤ v then refuse s1 q 0x02000006
  else if 8 ≤ unanswered s n then refuse s1 q 0x0300000A
  else if reqHeld s1 q || s1.led.queue.any (fun e => reqBefore s1 e q && !reqHeld s1 e) || wbWaiting s1 q.stamp then
    { s1 with led := { s1.led with queue := s1.led.queue ++ [q] } }
  else writeRequest s1 q

/-- A write to VAL: the low word commits an object of up to 4 bytes and stages one of 8; the high word commits the
latter (R609). -/
def doVal (s : State) (w : Nat) (high : Bool) (data : Nat) : State × Nat :=
  let x := slotAt s w
  match hostSession s with
  | none => (s, 7)
  | some n =>
    if x.pend then (s, 5)
    else if !bit x.sel 0 then (s, 0)
    else if tySize x.ty = 8 then
      if high then (doCommit s n w (x.staged + data * 2 ^ 32), 0) else (setSlot s w { x with staged := data }, 0)
    else if high then (s, 0)
    else (doCommit s n w data, 0)

/-- Refresh a bound slot's copy (R129, R608); an object that takes no read has no copy. -/
def doRefresh (s : State) (w : Nat) : State :=
  let x := slotAt s w
  if bit x.sel 0 ∧ (rowOf (bits x.sel 31 16) (bits x.sel 15 8)).any (fun r => decide (r.acc ≠ .wo)) then
    let a := oaddr (bits x.sel 31 16) (bits x.sel 15 8)
    let c := cellRead s a
    let ridge := (rowAt a).any (fun r => r.ridge)
    setSlot s w { x with
      valid := true, side := if ridge then bits c.toNat 35 32 else 0,
      val := if ridge then BitVec.ofNat 64 (c.toNat % 2 ^ 32) else c }
  else s

/-- Remove the oldest notification (R606). -/
def doPop (s : State) : State := { s with host := { s.host with notes := s.host.notes.drop 1 } }

/-- Write 1 to clear pending events (R610). -/
def doIrqClear (s : State) (data : Nat) : State :=
  { s with host := { s.host with irqPend := s.host.irqPend - Nat.land s.host.irqPend data } }

/-- Store a register without behaviour of its own; RESULT 3 where no register is, 4 where it takes no write (R603). -/
def doStoreReg (s : State) (addr data : Nat) : State × Nat :=
  if addr = 6 then ({ s with host := { s.host with irqEn := data % 2 ^ 13 } }, 0)
  else if 0x40 ≤ addr ∧ addr < 0x80 then
    ({ s with host := { s.host with req := tabSet 0 s.host.req (addr - 0x40) data } }, 0)
  else if addr < 9 ∨ addr = 9 ∨ addr = 0x11 ∨ addr = 0x12 ∨ (0x80 ≤ addr ∧ addr < 0xC8)
      ∨ (0x100 ≤ addr ∧ addr < 0x140 ∧ addr % 4 = 1) then (s, 4)
  else (s, 3)

/-- A write of a register (R603, R605 to R610). -/
def hostWrite (s : State) (addr data : Nat) : State × Nat :=
  if addr = 5 then (doIrqClear s data, 0)
  else if addr = 0x10 then doMbox s data
  else if addr = 0x13 then (doPop s, 0)
  else if 0x100 ≤ addr ∧ addr < 0x140 ∧ addr % 4 = 0 then doBind s ((addr - 0x100) / 4) data
  else if 0x100 ≤ addr ∧ addr < 0x140 ∧ addr % 4 = 2 then doVal s ((addr - 0x100) / 4) false data
  else if 0x100 ≤ addr ∧ addr < 0x140 ∧ addr % 4 = 3 then doVal s ((addr - 0x100) / 4) true data
  else doStoreReg s addr data

/-- WSTAT of a slot (R608). -/
def slotStat (x : Slot) : Nat := bitAt x.pend 31 + bitAt x.valid 30 + x.ty * 65536 + x.side

/-- The value of a register as it stands, none where no register is or it takes no read: RESULT 3 or 4. The registers from
0x0010 on are readable with a session alone, RESULT 7 without one (R603). -/
def regVal (s : State) (addr : Nat) : Nat × Nat :=
  if addr = 0 then (ob s 0x1000 0, 0)
  else if addr = 1 then
    (devCode s.dev + (match hostSession s with | none => 0 | some n => (sess s n).st) * 256, 0)
  else if addr = 2 then (now s % 2 ^ 32, 0)
  else if addr = 3 then (now s / 2 ^ 32 % 2 ^ 32, 0)
  else if addr = 4 then (summary s, 0)
  else if addr = 5 then (s.host.irqPend, 0)
  else if addr = 6 then (s.host.irqEn, 0)
  else if addr = 7 then (s.host.framing * 65536 + s.host.crcErrs, 0)
  else if addr = 8 then (s.host.winAbort, 0)
  else if addr = 9 then (s.host.winSlot, 0)
  else if addr = 0x10 ∨ addr = 0x13 then (0, 4)
  else if (hostSession s).isNone ∧ (addr < 0x13 ∨ 0x40 ≤ addr ∧ addr < 0xC8 ∨ 0x100 ≤ addr ∧ addr < 0x140) ∧ 0x10 < addr then (0, 7)
  else if addr = 0x11 then (bitAt s.host.busy 31 + bitAt s.host.ready 30 + s.host.rspLen, 0)
  else if addr = 0x12 then (s.host.notes.length + s.host.notesLost * 65536, 0)
  else if 0x40 ≤ addr ∧ addr < 0x80 then (tabGet 0 s.host.req (addr - 0x40), 0)
  else if 0x80 ≤ addr ∧ addr < 0xC0 then (tabGet 0 s.host.rsp (addr - 0x80), 0)
  else if 0xC0 ≤ addr ∧ addr < 0xC8 then (bytesWord ((s.host.notes.head?).getD []) (addr - 0xC0), 0)
  else if 0x100 ≤ addr ∧ addr < 0x140 then
      let x := slotAt s ((addr - 0x100) / 4)
      (if addr % 4 = 0 then x.sel else if addr % 4 = 1 then slotStat x
       else if addr % 4 = 2 then x.val.toNat % 2 ^ 32 else x.val.toNat / 2 ^ 32, 0)
  else (0, 3)

/-- A register address is the low word of a 64-bit register (R603, R612). -/
def isLowWord (addr : Nat) : Bool := decide (addr = 2) || (decide (0x100 ≤ addr ∧ addr < 0x140) && decide (addr % 4 = 2))

/-- A register address is the high word of a 64-bit register. -/
def isHighWord (addr : Nat) : Bool := decide (addr = 3) || (decide (0x100 ≤ addr ∧ addr < 0x140) && decide (addr % 4 = 3))

/-- The read of a low word latches the register's high word into the shadow (R612). -/
def latchHigh (s : State) (addr : Nat) : State :=
  if isLowWord addr then { s with host := { s.host with shadow := some (addr, (regVal s (addr + 1)).1) } } else s

/-- A read of a register: the state after it, RESULT and the value (R603, R612). -/
def hostRead (s : State) (addr : Nat) : State × Nat × Nat :=
  let v := regVal s addr
  if v.2 ≠ 0 then (s, v.2, 0)
  else if isHighWord addr then
    match s.host.shadow with
    | some (a, h) => if a + 1 = addr then ({ s with host := { s.host with shadow := none } }, 0, h) else (s, 0, v.1)
    | none => (s, 0, v.1)
  else (latchHigh s addr, 0, v.1)


/-- A frame with a valid CRC counts as an accepted frame of the host-port session (R605). -/
def touchHost (s : State) : State :=
  match hostSession s with
  | none => s
  | some n => setSess s n { sess s n with lastRx := now s }

/-- The bytes that the CRC of a frame covers: bits [31:8] of the command word and the data word, most significant first
(R600). -/
def crcBytes (cmd data : Nat) : List Byte := (leBytes 3 (cmd / 256)).reverse ++ (leBytes 4 data).reverse

/-- The reply word and the reply data word of a frame, with their CRC (R599, R600). -/
def replyBits (op addr res data : Nat) : BitVec 64 :=
  let w := op * 2 ^ 30 + addr * 2 ^ 16 + res * 2 ^ 8
  BitVec.ofNat 64 ((w + crc8 (crcBytes w data)) * 2 ^ 32 + data)

/-- Set the reply that the next frame shifts out (R599). -/
def setReply (s : State) (op addr res data : Nat) : State :=
  { s with host := { s.host with
    repOp := op, repAddr := addr, repRes := res, repData := data, miso := replyBits op addr res data } }

/-- SPI_FRAME: a frame of 64 SCK cycles ends; its CRC is checked and its operation executes (R597 to R603). An OP that is
reserved executes nothing, and its RESULT is a free value (DESIGN CHOICE, log 4). -/
def execSpiFrame (mosi : BitVec 64) (s : State) : Host.Outcome State Fault Refusal :=
  let cmd := mosi.toNat / 2 ^ 32
  let data := mosi.toNat % 2 ^ 32
  let op := bits cmd 31 30
  let addr := bits cmd 29 16
  .next (if !running s then s
    else if crc8 (crcBytes cmd data) ≠ cmd % 256 then
      setReply { s with host := { s.host with crcErrs := (s.host.crcErrs + 1) % 65536 } } op addr 1 0
    else
      let s0 := touchHost s
      if !serving s0 ∧ !(op = 1 ∧ addr ≤ 1) then setReply s0 op addr 6 0
      else if op = 0 then setReply s0 op addr 0 0
      else if op = 1 then
        let r := hostRead s0 addr
        setReply r.1 op addr r.2.1 r.2.2
      else if op = 2 then
        let r := hostWrite s0 addr data
        setReply r.1 op addr r.2 0
      else
        let f := freshWord s0
        setReply f.2 op addr (f.1.toNat % 256) 0)

/-- SPI_FRAME_DISCARD: a low period of SPI_CS_N without 64 SCK cycles is a framing error (R601). -/
def execSpiFrameDiscard (s : State) : Host.Outcome State Fault Refusal :=
  .next (if running s then
      setReply { s with host := { s.host with framing := (s.host.framing + 1) % 65536 } } 0 0 2 0
    else s)

/-- REGISTER_WRITE: a write to a register without behaviour of its own (R603). -/
def execRegisterWrite (addr : Nat) (data : Word) (s : State) : Host.Outcome State Fault Refusal :=
  .next (if serving s then (doStoreReg s addr data.toNat).1 else s)

/-- MBOX_SUBMIT: a write of a length to MBOX_CTRL (R605). -/
def execMboxSubmit (data : Word) (s : State) : Host.Outcome State Fault Refusal :=
  .next (if serving s then (doMbox s data.toNat).1 else s)

/-- MBOX_RESPONSE: the response is placed in MBOX_RSP, BUSY clears and READY is set (R605, R610). -/
def execMboxResponse (s : State) : Host.Outcome State Fault Refusal :=
  .next (match s.host.answer with
    | none => s
    | some p =>
      irq { s with host := { s.host with
        rsp := bytesWords p, rspLen := p.length, busy := false, ready := true, answer := none } } 2)

/-- NOTE_POP: a write to NOTE_POP removes the oldest notification (R606). -/
def execNotePop (_data : Word) (s : State) : Host.Outcome State Fault Refusal :=
  .next (if serving s then doPop s else s)

/-- IRQ_PEND_CLEAR: a write of 1 to bits of IRQ_PEND clears them (R610). -/
def execIrqPendClear (data : Word) (s : State) : Host.Outcome State Fault Refusal :=
  .next (if serving s then doIrqClear s data.toNat else s)

/-- WINDOW_BIND: a write to SEL binds or unbinds a slot (R607). -/
def execWindowBind (w : Nat) (data : Word) (s : State) : Host.Outcome State Fault Refusal :=
  .next (if serving s then (doBind s w data.toNat).1 else s)

/-- WINDOW_VAL_WRITE: a write to a word of VAL stages or commits a value (R609). -/
def execWindowValWrite (w : Nat) (high : Bool) (data : Word) (s : State) : Host.Outcome State Fault Refusal :=
  .next (if serving s then (doVal s w high data.toNat).1 else s)

/-- WINDOW_REFRESH: a bound slot refreshes its copy (R608). -/
def execWindowRefresh (w : Nat) (s : State) : Host.Outcome State Fault Refusal :=
  .next (if serving s then doRefresh s w else s)

/-- LOW_WORD_READ: a read of the low word of a 64-bit register latches its high word (R612). -/
def execLowWordRead (addr : Nat) (s : State) : Host.Outcome State Fault Refusal :=
  .next (if serving s then latchHigh s addr else s)

end Sys2Proof.Machine
end

