-- ==== Sys2Proof/Machine/Protect.lean ====
section
/-! DEFINITION. The commands of power-stage protection and the link guard (R363 to R389). -/

namespace Sys2Proof.Machine

/-- Detector number of fault input k (R365). -/
def fltDet (k : Nat) : Nat := 0x220000 + k

/-- The detail word of a fault input (R538). -/
def fltDetail (k : Nat) : Nat := 0x2104 * 65536 + (k + 1) * 256

/-- The bank in which a fault input's suspect lies: the low bank for ROLE 1, the high bank for ROLE 2 (R373). -/
def suspectHigh (s : State) (l : Nat) : Bool := decide (bits (laneSeal s l) 9 8 = 2)

/-- A short is latched on a drive: two banks freewheel, one bank takes its ASC after the OFF level. ONEBANK holds beside a later
TWOBANK until the choice returns to none (R366, R367, R373, R388). -/
def latchShort (s : State) (x : Drv) (two high : Bool) : State :=
  freewheel s x (if two then none else some (if high then .ascHigh else .ascLow))
    (fun y => { y with twoBank := two, oneBank := y.oneBank || !two, highBank := high, byRule := false, collecting := false })

/-- The time of an accepted edge: that of its first low sample, Prot.FltFilter ticks back (R372). -/
def fltStamp (s : State) (x : Drv) : Nat := now s - 5 * ob s (drvBase x + 0x700) 6

/-- An accepted fault input of a drive: collection opens, with the earliest ASC counted from it, or while a choice on a short is held
the input is resolved at once (R373, R374). -/
def drvFault (s : State) (x : Drv) (l : Nat) : State :=
  let y := selOf s x
  let hi := suspectHigh s l
  if s.dev = .lockout then s
  else if y.collecting then setSel s x { y with susLow := y.susLow || !hi, susHigh := y.susHigh || hi }
  else if y.twoBank then s
  else if y.oneBank then
    if y.highBank = hi then s else latchShort s x true hi
  else
    freewheel s x none (fun z => { z with
      offAt := s.dt, byRule := false, collecting := true, openedAt := now s, firstAt := fltStamp s x, susLow := !hi, susHigh := hi })

/-- A low fault input keeps the cause of its drive's SC fault uncleared (R365). -/
def fltHolds (s : State) (x : Drv) (k : Nat) : State :=
  let kn := keyNo .sc (fnCode (drvFn x))
  let y := keyAt s kn
  if y.active && !y.srcs.contains (fltDet k) then publishKey (setKey s kn { y with srcs := y.srcs ++ [fltDet k] }) kn else s

/-- FAULT_INPUT_EDGE: an accepted low edge on FLTk_N (R372 to R374). A drive's legs turn off and collection opens; a
Charger or Converter input raises SC at L4 at once: no object gives it a filter (DEDUCED, log 123). -/
def execFaultInputEdge (k : Nat) (s : State) : Host.Outcome State Fault Refusal :=
  .next (if !running s then s
    else
      let s1 := { s with link := { s.link with fltLow := tabSet false s.link.fltLow k true } }
      match fltLane s1 k with
      | none => incOb s1 0x2104 (k + 1)
      | some l =>
        let s2 := incOb s1 0x2104 (k + 1)
        match fnOf (sealFunc s2 l) with
        | none => s2
        | some f =>
          match fnDrv f with
          | some d => fltHolds (drvFault s2 d l) d k
          | none => raise s2 .sc 4 (fnCode f) 1 (fltDetail k) (fltDet k))

/-- FAULT_INPUT_RISE: FLTk_N is high again: the cause of its SC fault clears (R365, R375). A drive's cause clears once every
one of its inputs is high. -/
def execFaultInputRise (k : Nat) (s : State) : Host.Outcome State Fault Refusal :=
  .next (if !running s then s
    else
      let s1 := { s with link := { s.link with fltLow := tabSet false s.link.fltLow k false } }
      match fltLane s1 k with
      | none => s1
      | some l =>
        match fnOf (sealFunc s1 l) with
        | none => s1
        | some f =>
          if (fnDrv f).isSome then
            if fltLowOf s1 f then s1
            else (List.range 24).foldl (fun t j =>
              match fltLane t j with
              | none => t
              | some m => if fnOf (sealFunc t m) = some f then clearDet t (fltDet j) else t) s1
          else clearDet s1 (fltDet k))

/-- The first enabled fault input of a drive that reads low, or the first that is sealed to it. -/
def firstFlt (s : State) (f : Fn) : Nat :=
  let mine := (List.range 24).filter (fun k => match fltLane s k with
    | none => false
    | some l => decide (fnOf (sealFunc s l) = some f))
  (mine.find? (fun k => tabGet false s.link.fltLow k)).getD (mine.headD 0)

/-- COLLECT_CLOSE: Prot.Collect has passed: a one-bank or a two-bank short is latched, and SC at L4 is raised with the
stamp of the accepted edge (R373). Where every input has risen by then, the fault stands on an event. -/
def execCollectClose (d : Drv) (s : State) : Host.Outcome State Fault Refusal :=
  let y := selOf s d
  let f := drvFn d
  .next (if running s ∧ s.dev ≠ .lockout ∧ y.collecting ∧ y.openedAt + ob s (drvBase d + 0x700) 5 ≤ now s then
      let s1 := latchShort s d (y.susLow && y.susHigh) y.susHigh
      let k := firstFlt s1 f
      raiseAt s1 .sc 4 (fnCode f) y.firstAt 1 (fltDetail k) (if fltLowOf s1 f then fltDet k else 0)
    else s)

/-- ASC_APPLY: Prot.AscDelay has passed since the drive's leg lanes left a live command: the bank reaches its ASC level
(R366). -/
def execAscApply (d : Drv) (s : State) : Host.Outcome State Fault Refusal :=
  let y := selOf s d
  .next (match y.ascDue with
    | none => s
    | some c =>
      if running s ∧ s.dev ≠ .lockout ∧ y.choice = .freewheel ∧ y.offAt + nsTime (ob s (drvBase d + 0x700) 4) ≤ s.dt then
        setSel s d { y with choice := c, ascDue := none }
      else s)

/-- The link leaves OV1: the dump command and the Axle arbiter's ramp end and its cause clears (R382, R383, R443). -/
def leaveOv1 (s : State) : State :=
  clearDet (setLink { s with axle := { s.axle with ramp := 0 } } (fun y => { y with ov1 := false, dumpOn := false, dumpBarred := false }))
    (0x2100 * 16 + 1)

/-- The link enters OV1; the Axle arbiter's ramp starts anew (R382, R443). -/
def enterOv1 (s : State) : State :=
  raiseAll (dumpStart (setLink { s with axle := { s.axle with ramp := 0 } } (fun y => { y with ov1 := true, pulse := y.pulse.map (fun p => (p.1, true)) }))) [.driveA, .driveB] .ov 1 7 linkDetail (0x2100 * 16 + 1)

/-- The link enters OV2: the dump path's state decides (R385). -/
def enterOv2 (s : State) : State :=
  let s1 := setLink s (fun y => { y with ov2 := true, ov2Done := false })
  if dumpFaulty s1 then ov2React s1
  else if s1.link.dumpSeen then s1
  else if s1.link.dumpOn then setLink s1 (fun y => { y with ov2Wait := true })
  else ov2React s1

/-- The link leaves OV2. -/
def leaveOv2 (s : State) : State :=
  clearDet (setLink s (fun y => { y with ov2 := false, ov2Wait := false, ov2Done := false })) (0x2100 * 16 + 2)

/-- What Plumb follows of the link for SF3: since when every word lies below 60 V without STL or INV; a rise while DIS is
held commands the dump again, and after SF3FAIL the dump ends below 60 V (R493). -/
def linkLow (s : State) (good : Bool) (v : Rat) : State :=
  let y := s.saf
  let z := s.link
  if good && decide (v < 60) then
    { s with saf := { y with lowSince := if y.lowSince = 0 then now s + 1 else y.lowSince },
             link := { z with plumbDump := z.plumbDump && !y.sf3Fail } }
  else
    let up := good && decide (y.disAt ≠ 0)
    let s1 := if up then plumbStart s else s
    { s1 with saf := { y with lowSince := 0, discharged := y.discharged && !up } }

/-- The link guard compares one word (R380 to R385). -/
def linkWord (s : State) (w : Nat) : State :=
  let x := f32Val w
  let ov1 := obF s 0x2100 2
  let ov2 := obF s 0x2100 3
  let hy := obF s 0x2100 4
  let s1 := putOb s 0x2102 0 w
  let s2 := { s1 with link := { s1.link with wordAt := now s, stale := false } }
  let s3 := if s.link.stale then clearDet s2 0x21000 else s2
  let s4 := if ov1 < x ∧ !s3.link.ov1 then enterOv1 s3 else if x < ov1 - hy ∧ s3.link.ov1 then leaveOv1 s3 else s3
  if ov2 < x ∧ !s4.link.ov2 then enterOv2 s4 else if x < ov2 - hy ∧ s4.link.ov2 then leaveOv2 s4 else s4

/-- LINK_WORD: a word of the link channel is readable: Plumb follows it for SF3, and the guard compares it unless it
carries STL or INV (R380, R493). -/
def execLinkWord (s : State) : Host.Outcome State Fault Refusal :=
  let ch := ob s 0x2100 1
  .next (if running s ∧ ch ≠ 0xFFFF then
      let s1 := linkLow s (chanGood s ch) (chanVal s ch)
      if guardRuns s1 ∧ chanGood s1 ch then linkWord s1 (chanWord s1 ch).1 else s1
    else s)

/-- LINK_STALE_TIMEOUT: no compared word for Link.Timeout (R380). -/
def execLinkStaleTimeout (s : State) : Host.Outcome State Fault Refusal :=
  .next (if guardRuns s ∧ !s.link.stale ∧ s.link.wordAt + ob s 0x2100 5 * 1000 ≤ now s then
      condAll (setLink s (fun y => { y with stale := true })) [.driveA, .driveB, .charger] .acq 3 7 linkDetail 0x21000
    else s)

/-- DMP at L3 without a function, unless the dump path is known faulty already (R383). -/
def dumpFault (s : State) : State := if dumpFaulty s then s else raiseEv s .dmp 3 0 7 linkDetail

/-- DUMP_OBSERVE_TIMEOUT: no dump current has been seen 50 µs after the command of the guard or of Plumb; an OV2 decision that waited is made
(R383, R385). -/
def execDumpObserveTimeout (s : State) : Host.Outcome State Fault Refusal :=
  .next (if running s ∧ dumpCmd s ∧ !s.link.dumpSeen ∧ s.link.dumpAt + nsTime 50000 ≤ s.dt then
      let s1 := dumpFault s
      if s.link.ov2 ∧ s.link.ov2Wait then ov2React s1 else s1
    else s)

/-- DUMP_MAXON_TIMEOUT: the guard ends a dump command that has lasted Link.DumpMaxOn (R383). -/
def execDumpMaxonTimeout (s : State) : Host.Outcome State Fault Refusal :=
  .next (if guardRuns s ∧ s.link.dumpOn ∧ s.link.guardAt + nsTime (ob s 0x2100 8 * 1000000) ≤ s.dt then
      dumpFault (setLink s (fun y => { y with dumpOn := false, dumpBarred := true }))
    else s)

/-- The dump channel's converters, and the input that its step names. -/
def dumpConvs (s : State) : List Nat := seqConvs s (ob s 0x2100 6 / 16)

/-- Detector of a failed dump test (R387). -/
def dumpDet : Nat := 0x74180000

/-- A dump test can start a pulse: the Outrider runs its coverage cycle and has not tested the path in it, the path is fitted and its
block not shored, its lane's command inactive, the link high enough and a converter's channel named (R387, R592, R595). -/
def dumpReady (s : State) : Bool :=
  let ch := ob s 0x2100 6
  running s && (decide (s.dev = .preop) || decide (s.dev = .operational)) && decide (s.outr.startAt ≠ 0) && !s.link.testDone
    && !isShored s 0x2100 && dumpFitted s && !dumpCmd s && !pulseOn s && decide (ch < 512) && decide (obF s 0x2100 10 ≤ obF s 0x2102 0)

/-- The result of a dump test from the code of its conversion (R387). -/
def dumpResult (s : State) (code : Nat) : State :=
  if f32Val (scaleCode s (ob s 0x2100 6) code).1 < obF s 0x2100 7 then
    let s1 := if dumpFaulty s then s else raise s .dmp 3 0 7 linkDetail dumpDet
    setLink s1 (fun y => { y with testFail := true, testDone := true })
  else clearDet (setLink s (fun y => { y with testFail := false, testDone := true })) dumpDet

/-- DUMP_TEST: the Outrider's pulse starts; within it the input of the dump channel is converted in a gap that ends 500 ns before the
pulse does, and decides. An entry into OV1 or a DIS request ends the test without a result, as does a pulse without a gap (R387,
R595). -/
def execDumpTest (src : AdcIn) (uv : Int) (s : State) : Host.Outcome State Fault Refusal :=
  let ch := ob s 0x2100 6
  let q := ch / 16
  .next (match s.link.pulse with
    | some (t, false) =>
      if !running s ∨ !pulseOn s ∨ isShored s 0x2100 then setLink s (fun y => { y with pulse := some (t, true) })
      else if muxInput (ob s (seqBase q) 1) (ob s (seqBase q + 1) (ch % 16 + 1)) ≠ some src then s
      else
        let cs := dumpConvs s
        let o := if !outDone s 3 0 cs
            && decide (t + nsTime (ob s 0x2100 9) < s.dt + nsTime 625) then (s, false) else outConv s 3 0 cs 1
        if o.2 then dumpResult (setLink o.1 (fun y => { y with pulse := some (t, true) })) (sampleCode s (muxVolt s src uv)) else o.1
    | _ => if dumpReady s then setLink s (fun y => { y with pulse := some (s.dt, false) }) else s)

end Sys2Proof.Machine
end

