-- ==== Sys2Proof/Machine/Outrider.lean ====
section
/-! DEFINITION. The commands of the Outrider: coverage cycles and element tests (R591 to R596). -/

namespace Sys2Proof.Machine

/-- The elements of a test (R593). Test 5: units 0 to 27, then the reference units of Drive A, Drive B, the Charger and the
Converter. Test 6: Ridge as one element, since the spec gives its ports no number. Test 7: Truss state memory, Ridge tables,
processor memory, MRAM configuration area. -/
def testElems (s : State) (t : Nat) : List Nat :=
  if t = 0 then (List.range 32).filter (fun w => decide (ob s (winBase w) 1 = 1))
  else if t = 1 ∨ t = 4 ∨ t = 9 then List.range 8
  else if t = 2 then List.range 16
  else if t = 3 then List.range 114
  else if t = 5 then List.range 32
  else if t = 7 then List.range 4
  else [0]

/-- The block of a test's element is shored (R595). -/
def elemShored (s : State) (t e : Nat) : Bool :=
  if t = 0 then isShored s (winBase e)
  else if t = 1 ∨ t = 2 then isShored s 0x3400
  else if t = 5 ∧ e < 28 then isShored s (xfBase e)
  else if t = 8 then isShored s 0x2100
  else false

/-- The elements not yet tested in the cycle, in ascending order from the element the test began with. -/
def testLeft (s : State) (t : Nat) : List Nat :=
  let x := testOf s t
  let es := testElems s t
  (es.filter (fun e => decide (x.first ≤ e)) ++ es.filter (fun e => decide (e < x.first))).filter (fun e => !x.tested.contains e)

/-- The functions whose blocks claim a loop. -/
def loopFns (s : State) : List Fn := fnAll.filter (fun f => s.owned.any (fun e => decide (fnOfBlock e.2 = some f)))

/-- A scope as a list of functions. -/
def scopeFns (k : Nat) : List Fn := match fnOf k with | none => [] | some f => [f]

/-- The functions that use an element of a test (R594). -/
def elemFns (s : State) (t e : Nat) : List Fn :=
  if t = 0 then scopeFns (winScope s e)
  else if t = 1 then pairUsers s e
  else if t = 2 then convUsers s e
  else if t = 3 then scopeFns (sealFunc s e)
  else if t = 4 then loopFns s
  else if t = 5 then
    (if e < 28 then scopeFns (memberScope s (0x100 + e))
     else [if e = 28 then Fn.driveA else if e = 29 then Fn.driveB else if e = 30 then Fn.charger else Fn.converter])
  else if t = 8 then fnAll.filter (fun f => fnConsumes s f 0x2100)
  else fnAll

/-- Detector of a test's element. -/
def elemDet (t e : Nat) : Nat := 0x74000000 + t * 0x1000 + e + 16

/-- The functions that own or consume a block. -/
def blockFns (s : State) (b : Nat) : List Fn := fnAll.filter (fun f => decide (fnOfBlock b = some f) || fnConsumes s f b)

/-- The brace whose state memory a block names, if it is one. -/
def blockBrace (b : Nat) : Option Nat := if 0x3D00 ≤ b ∧ b < 0x4000 then some ((b - 0x3D00) / 4) else none

/-- An uncorrectable error in a brace's state memory: its history is cleared, and its next evaluation's output carries INV with ECC
set (R320). -/
def braceEcc (s : State) (b : Nat) : State :=
  match blockBrace b with
  | none => s
  | some i =>
    let s1 := setBrc (incOb s 0x3C00 6) i { brcOf s i with e1 := 0, e2 := 0, e3 := 0, y1 := 0, y2 := 0, y3 := 0, err := true }
    raiseEv s1 .trs 3 (memberScope s1 i) 7 (braceBase i * 65536 + 256)

/-- What a failed element test does (R246, R280, R320, R387, R593). The checks of tests 1 and 8 are PAIR_CHECK and
DUMP_TEST, which act on their own results. -/
def testFail (s : State) (t e blk : Nat) : State :=
  let d := 0x74100000 + t * 65536 + 256
  let fs := elemFns s t e
  if t = 0 then (if (winOf s e).chkFail then s else winCheckFail s e)
  else if t = 2 then
    condAllOr { s with tieFail := tabSet false s.tieFail e true } fs .acq 3 7 d (elemDet t e)
  else if t = 3 then condAllOr s fs .lan 3 1 (0x29000000 + (e + 1) * 256) (elemDet t e)
  else if t = 4 then condAllOr (putOb s 0x3C00 1 (ob s 0x3C00 1 - (if bit (ob s 0x3C00 1) e then 2 ^ e else 0))) fs .trs 4 7 d (elemDet t e)
  else if t = 5 then condAllOr s fs .trs 4 7 d (elemDet t e)
  else if t = 6 then condAllOr s fs .rdg 4 7 d (elemDet t e)
  else if t = 7 then
    if e = 0 then braceEcc s blk
    else if e = 3 then raiseAllOr s (blockFns s blk) .mem 3 7 d 0
    else raiseAllOr s fs .mem 4 7 d 0
  else if t = 9 then condAllOr s fs .tst 2 7 d (elemDet t e)
  else s

/-- What a passed element test ends (R593). -/
def testPass (s : State) (t e : Nat) : State :=
  let s1 := if t = 2 then { s with tieFail := tabSet false s.tieFail e false } else s
  if t = 4 then s1 else clearDet s1 (elemDet t e)

/-- Corrected words of the memory scrub: MEM at L0, and for Truss state memory the count and TRS at L0 as well, against the function
of the brace whose memory `blk` names (R320, R593). -/
def scrubbed (s : State) (e mended blk : Nat) : State :=
  if mended = 0 then s
  else
    let s1 := raiseEv s .mem 0 0 7 (0x7417 * 65536 + 256)
    if e = 0 then raiseEv (putOb s1 0x3C00 5 ((ob s1 0x3C00 5 + mended) % 2 ^ 32)) .trs 0 (match blockBrace blk with | none => 0 | some i => memberScope s1 i) 7 0x3C000500 else s1

/-- The Outrider runs: PREOP or OPERATIONAL, outside a reset (R592). -/
def outrRuns (s : State) : Bool := running s && (decide (s.dev = .preop) || decide (s.dev = .operational))

/-- A tie test's two conversions have ended in a gap that nothing before it in the order of R585 needs (R234, R593); every other test
has its resource. -/
def tieTaken (s : State) (t e : Nat) : State × Bool :=
  if t ≠ 2 then (s, true)
  else if !outDone s 2 e [e] ∧ (thermDue s e ∨ pairDue s (e / 2)) then (s, false)
  else outConv s 2 e [e] 2

/-- OUTRIDER_TEST: the next untested element of a test passes or fails. For the memory scrub, `mended` is the number of
corrected words and `blk` the brace or configuration block of an uncorrectable one. The dump path passes or fails as DUMP_TEST found
in this cycle (R387, R593, R595, R596). -/
def execOutriderTest (t elem : Nat) (pass : Bool) (mended blk : Nat) (s : State) : Host.Outcome State Fault Refusal :=
  .next (if !outrRuns s ∨ s.outr.startAt = 0 ∨ elemShored s t elem
      ∨ (t = 8 ∧ (s.link.testDone = false ∨ pass = s.link.testFail))
      ∨ ((testLeft s t).filter (fun e => !elemShored s t e)).head? ≠ some elem then s
    else
      let b := 0x7410 + t
      let o := tieTaken s t elem
      if !o.2 then o.1
      else
      let s1 := if t = 7 then scrubbed o.1 elem mended blk else if t = 4 then macTest o.1 elem else o.1
      let s2 := if pass then testPass (incOb s1 b 2) t elem else testFail (incOb s1 b 3) t elem blk
      let x := testOf s2 t
      let y := { x with tested := x.tested ++ [elem], failedNow := x.failedNow || !pass }
      let s3 := setTest s2 t y
      if (testLeft s3 t).isEmpty then
        let s4 := setTest s3 t { y with done := true, failed := y.failedNow }
        clearDet (clearDet (putOb (putOb s4 b 5 0) b 6 (now s % 2 ^ 64)) (0x74000000 + 2 * t)) (0x74000001 + 2 * t)
      else s3)

/-- A test ends its cycle without having covered every element, and counts as starved (R594). -/
def testStarved (s : State) (t : Nat) : Bool :=
  let x := testOf s t
  if t = 1 then x.early || (List.range 8).any (pairLate s)
  else if t = 8 then
    dumpFitted s && decide (obF s 0x2100 10 ≤ obF s 0x2102 0) && !(testLeft s t).isEmpty
  else !(testLeft s t).isEmpty

/-- The end of a test's cycle and the start of its next (R594). -/
def testCycle (s : State) (t : Nat) : State :=
  let b := 0x7410 + t
  let x := testOf s t
  let left := testLeft s t
  let next : TestRun := { first := left.headD 0, failed := x.failed, starved := testStarved s t }
  let s1 := setTest s t next
  if !next.starved then (if left.isEmpty then putOb s1 b 5 0 else s1)
  else if x.early then s1
  else testStarve s1 t ((if t = 1 then (List.range 8).filter (pairLate s) else left).flatMap (elemFns s t)).eraseDups

/-- The next start of a coverage cycle: the first multiple of Outrider.Cycle at or after the end of the one under way
(R592). -/
def outrDue (s : State) : Nat :=
  let c := max 1 (ob s 0x7400 1) * 1000000
  if s.outr.startAt = 0 then now s / c * c else (s.outr.startAt - 1 + s.outr.cycle * 1000000 + (c - 1)) / c * c

/-- OUTRIDER_CYCLE: a coverage cycle starts; the starved tests of the one that ends are reported (R592, R594). -/
def execOutriderCycle (s : State) : Host.Outcome State Fault Refusal :=
  .next (if !outrRuns s ∨ now s < outrDue s then s
    else
      let s1 := if s.outr.startAt = 0 then s else incOb ((List.range 10).foldl testCycle s) 0x7401 0
      { s1 with outr := { s1.outr with cycle := ob s1 0x7400 1, startAt := outrDue s + 1 }, link := { s1.link with testDone := false } })

end Sys2Proof.Machine
end

