-- ==== Sys2Proof/Machine/Position.lean ====
section
/-! DEFINITION. The commands of the Position domain (R198 to R220): each measurement updates its interface and sends the
rod that it feeds an update, which ROD_SOURCE_UPDATE delivers. Rates are counts per lane tick with 32 fractional bits. -/

namespace Sys2Proof.Machine

/-- A Position block runs: PREOP or OPERATIONAL, enabled, not shored (R201). -/
def posRuns (s : State) (b : Nat) : Bool :=
  running s && (decide (s.dev = .preop) || decide (s.dev = .operational)) && decide (ob s b 1 = 1) && !isShored s b

/-- Send an update to the rod that a source feeds (R152, R202). -/
def sendUpd (s : State) (c : Nat) (u : RodUpd) : State :=
  match rodFed s c with
  | none => s
  | some r => { s with sent := s.sent ++ [(r, u)] }

/-- The words of the rod that a source feeds carry INV (R203). -/
def rodInvalid (s : State) (c : Nat) : State :=
  match rodFed s c with
  | none => s
  | some r => setRod s r { rodAt s r with inv := true }

/-- The functions against which an interface's faults are raised: those that consume the rod it feeds, and for Hall triplets 1 and 2
the Park lock and the Clutch (R205). -/
def ifaceUsers (s : State) (b : Nat) : List Fn :=
  let us := match rodFed s (posSource b) with
    | some r => rodUsers s r
    | none => []
  let own : List Fn := if b = 0x3220 then [.parkLock] else if b = 0x3240 then [.clutch] else []
  us.filter (fun f => !own.contains f) ++ own

/-- Level of a fault bit of an interface, none where the bit raises nothing (R205). -/
def ifaceLevel (b k : Nat) : Option Nat :=
  let c := posSource b
  if c ≤ 2 then (if k = 7 ∨ k = 3 ∨ k = 4 then some 4 else if k = 6 ∨ k = 5 then some 3 else none)
  else if c ≤ 4 then (if k = 2 ∨ k = 1 ∨ k = 0 then some 3 else none)
  else if c = 5 then (if k = 7 ∨ k = 0 then some 0 else none)
  else if k = 2 ∨ k = 7 then some 3 else none

/-- Address of the fault counter of an interface. -/
def ifaceCounter (b : Nat) : Nat :=
  let c := posSource b
  if c ≤ 2 then 5 else if c ≤ 4 then 3 else if c = 5 then 5 else 3

/-- One fault bit of an interface changed: counted and raised where confirmed, cleared where gone (R204, R205). Where no function
consumes the interface's rod it is raised without a function (DESIGN CHOICE, log 112). -/
def ifaceBit (b old new : Nat) (s : State) (k : Nat) : State :=
  if bit old k = bit new k then s
  else if bit new k then
    let s1 := incOb s (b + 1) (ifaceCounter b)
    match ifaceLevel b k with
    | none => s1
    | some l => condAllOr s1 (ifaceUsers s1 b) .pos l 7 (b * 65536 + 256) (b * 16 + k)
  else clearDet s (b * 16 + k)

/-- Publish an interface's status and raise what changed in its fault bits. -/
def ifaceDone (s : State) (b old : Nat) (io : Iface) : State :=
  (List.range 8).foldl (ifaceBit b old io.faults) (putIface s b io)

/-- Counts per tick (2^-32) to Hz. -/
def rateHz (r : Int) : Rat := mkRat (r * 200000000) (2 ^ 64)

/-- MOTION of a resolver or an encoder (R220): between half the threshold and the threshold it keeps its value. -/
def motionOf (io : Iface) (thr : Nat) (hz : Rat) : Nat :=
  let t := mkRat thr 10
  if !io.lock then 3 else if t < rabs hz then (if 0 < hz then 1 else 2) else if rabs hz < t / 2 then 0 else io.motion

/-- Difference of two angles of 64 bits, signed. -/
def angDiff (a b : Nat) : Int := toInt 64 (((a : Int) - b) % (2 ^ 64 : Nat)).toNat

/-- Half an excitation period in ticks (R202). -/
def halfTicks (s : State) (i : Nat) : Rat := mkRat 100000000 (max 1 (ob s (resBase i) 2))

/-- What the DAC of a resolver puts out now, in mV: its amplitude times the point of its table (R206, R213). -/
def dacMv (s : State) (i : Nat) : Rat := (ob s (resBase i) 3 : Nat) * sin32 (tabGet ({} : Resolver) s.res i).point

/-- Envelope of a secondary in 2^-16 LSB: 16 samples of a half period, each clipped to its converter's 16 bits, correlated with the
table or, shifted by a quarter, with its quadrature; the second half lies where the table is negated (R208; DEDUCED, log 55). -/
def envelope (xs : List Int) (second quad : Bool) : Int :=
  let at0 := (if second then 16 else 0) + (if quad then 8 else 0)
  rround (((List.range 16).foldl (fun a k => a + (iclamp (-32768) 32767 (xs.getD k 0) : Rat) * sin32 (at0 + k)) 0) * 8192)

/-- The envelopes S, C, S_q and C_q of a half period (R208). -/
structure ResEnv where
  s : Int
  c : Int
  sq : Int
  cq : Int
deriving DecidableEq, Repr

/-- The envelopes from the samples of a half period (R208). -/
def envelopes (m : ResMeas) (second : Bool) : ResEnv :=
  { s := envelope m.sin second false, c := envelope m.cos second false, sq := envelope m.sin second true, cq := envelope m.cos second true }

/-- Amplitude A in 2^-16 LSB (R208). -/
def envAmp (m : ResEnv) : Nat := Nat.sqrt (m.s.natAbs ^ 2 + m.c.natAbs ^ 2)

/-- Phase error in 0.01 degree, signed by the sense of the quadrature (R208). -/
def envPhase (m : ResEnv) : Int :=
  let p := rround (atan2T (Nat.sqrt (m.sq.natAbs ^ 2 + m.cq.natAbs ^ 2) : Nat) (envAmp m : Nat) * 36000)
  if m.s * m.sq + m.c * m.cq < 0 then -p else p

/-- The measured angle in 2^-64 turns (R208). -/
def envAngle (m : ResEnv) : Nat := ((atan2T m.s m.c * (2 ^ 64 : Nat)).floor % (2 ^ 64 : Nat)).toNat

/-- The angle that the observer predicts for a half period: that of its state after the half period, once it has a rate (R210). -/
def observed (s : State) (i : Nat) (x : Resolver) : Nat :=
  if x.half < 2 then x.theta else trackAhead (x.theta, x.rate, x.accel) (halfTicks s i)

/-- The observer takes a half period: angle and rate of a start from its first two half periods, then the third-order loop on the
error S·cos θ̂ − C·sin θ̂ over A (R209, R210). -/
def observe (s : State) (i : Nat) (x : Resolver) (m : ResEnv) : Resolver :=
  let ang := envAngle m
  if x.half = 0 then { x with theta := ang, first := ang, rate := 0, accel := 0, half := 1, near := 0 }
  else if x.half = 1 then
    { x with theta := ang, rate := ((angDiff ang x.first : Rat) / halfTicks s i).floor, accel := 0, half := 2 }
  else
    let th := mkRat (observed s i x) (2 ^ 64)
    let e := ((m.s : Rat) * cosT th - (m.c : Rat) * sinT th) / ((max 1 (envAmp m) : Nat) : Rat) / (2 * piR)
    let r := trackStep (ob s (resBase i) 0xB) (halfTicks s i) (x.theta, x.rate, x.accel) e
    { x with theta := r.1, rate := r.2.1, accel := r.2.2 }

/-- The stamp of a half period: the centre of its 16 samples, each Resolver.SampleDelay after its strobe instance (R202, R208,
R213). -/
def resStamp (s : State) (i : Nat) (m : ResMeas) : Nat :=
  m.t0 + ob s (resBase i) 4 + (mkRat (15 * 1000000000) (64 * max 1 (ob s (resBase i) 2))).floor.toNat

/-- Ratio with the sign of Invert (R211, R220). -/
def resRatio (s : State) (i : Nat) : Int :=
  let n : Int := ob s (resBase i) 9
  if ob s (resBase i) 0xA = 1 then -n else n

/-- The rod update that a resolver's observer gives (R211). -/
def resUpdate (s : State) (i : Nat) (x : Resolver) (ts : Nat) : RodUpd :=
  let n := resRatio s i
  { ts := ts, pos := some (BitVec.ofInt 64 (n * x.theta + (ob s (resBase i) 0x10 : Int) * 2 ^ 32)), rate := n * x.rate,
    accel := n * x.accel }

/-- The fault bits of a resolver after a half period (R212, and TRACK of R210). -/
def resFaults (s : State) (i : Nat) (m : ResMeas) (amp : Nat) (ph : Int) (diff : Nat) (rate : Int) (io0 : Iface) : Iface :=
  let b := resBase i
  let n := ob s b 0xD
  let nom := ob s b 5
  let exc := ob s b 3
  let maxR := match rodFed s (1 + i) with | none => 2 ^ 60 | some r => maxRateOf (viewNow s) r * 2 ^ 28
  let io1 := confirmBit n 7 (decide (amp * 100 < ob s b 6 * nom * 65536)) io0
  let io2 := confirmBit n 6 (decide (ob s b 7 * nom * 65536 < amp * 100)) io1
  let io3 := confirmBit n 5 (decide (ob s b 8 * 100 < ph.natAbs)) io2
  let io4 := confirmBit n 3 (decide (exc < 5 * ((m.excMv - exc) + (exc - m.excMv))) || m.strobeMissing) io3
  let io5 := confirmBit n 0 (decide (maxR < rate.natAbs)) io4
  confirmBit n 4 (io0.lock && decide (ob s b 0xC * 2 ^ 32 < diff)) io5

/-- RESOLVER_UPDATE: the samples of one half excitation period: envelopes, the conditions of R212, the observer, and the update
(R203, R208 to R212, R220). -/
def execResolverUpdate (i : Nat) (m : ResMeas) (s : State) : Host.Outcome State Fault Refusal :=
  let b := resBase i
  let x := tabGet ({} : Resolver) s.res i
  .next (if !posRuns s b then s
    else
      let v := envelopes m x.second
      let ph := envPhase v
      let diff := (angDiff (envAngle v) (observed s i x)).natAbs
      let x1 := observe s i x v
      let io0 := x.io
      let near := if x.half = 2 ∧ diff * 360 < 2 ^ 64 then x.near + 1 else 0
      let io6 := resFaults s i m (envAmp v) ph diff (resRatio s i * x1.rate) io0
      let again := (bit io6.faults 4 && !bit io0.faults 4) || (bit io0.faults 7 && !bit io6.faults 7)
      let lock := !again && (io0.lock || decide (4 ≤ near))
      let io7 := { io6 with lock := lock }
      let io8 := { io7 with motion := motionOf io7 (ob s b 0xE) (rateHz (resRatio s i * x1.rate)) }
      let x2 := { x1 with io := io8, near := near, half := if again then 0 else x1.half, second := !x.second }
      let s1 := putOb (putOb (putOb { s with res := tabSet {} s.res i x2 } (b + 1) 2 (min 65535 (envAmp v / 65536))) (b + 1) 3 (ofInt 16 ph))
                  (b + 1) 4 (x2.theta / 2 ^ 32)
      let s2 := ifaceDone s1 b io0.faults io8
      if lock ∧ io8.faults = 0 then sendUpd s2 (1 + i) (resUpdate s2 i x2 (resStamp s i m)) else rodInvalid s2 (1 + i))

/-- Counts of the rod for one encoder count, as a rational in 2^-32 counts (R214). -/
def encScale (s : State) (e : Nat) : Rat := mkRat (2 ^ 64 * ob s (encBase e) 3 : Nat) (4 * max 1 (ob s (encBase e) 2))

/-- The encoder's step between two states of A and B: forward runs 00, 10, 11, 01 (PRESUMED, log 20); none for an illegal one. -/
def quadStep (p q : Bool × Bool) : Option Int :=
  let ix (x : Bool × Bool) : Nat := match x with | (false, false) => 0 | (true, false) => 1 | (true, true) => 2 | (false, true) => 3
  let d := (ix q + 4 - ix p) % 4
  if d = 1 then some 1 else if d = 3 then some (-1) else if d = 0 then some 0 else none

/-- Write an encoder. -/
def setEnc (s : State) (e : Nat) (x : Encoder) : State := { s with enc := tabSet {} s.enc e x }

/-- A count of an encoder at a time: its rate against its limits, and a missing index (R214, R215). SEQ, and RATE of a count in time,
clear at the next legal edge (DESIGN CHOICE, log 112). -/
def encCount (s : State) (e : Nat) (x : Encoder) (d : Int) (t : Nat) : Encoder :=
  let bb := encBase e
  let dt := t - x.lastAt
  let lim := match rodFed s (3 + e) with
    | none => (20000000 : Rat)
    | some r => rmin 20000000 (rodMaxHz (viewNow s) r * (2 ^ 64 : Nat) / encScale s e)
  let fast := decide (x.lastAt ≠ 0) && decide (lim * (dt : Rat) < mkRat (1000000000 * 2 ^ 32) 1)
  let cnt := x.count + d
  let n := x.passed + 1
  let noIdx := decide (ob s bb 6 = 0) && decide (5 * ob s bb 2 ≤ n)
  let f := (x.io.faults - (if bit x.io.faults 2 then 4 else 0) - (if bit x.io.faults 0 then 1 else 0))
  { x with
    count := cnt, sign := d, lastAt := t, passed := n, edges := x.edges + 1,
    io := { x.io with faults := Nat.lor (Nat.lor f (bitAt fast 0)) (bitAt noIdx 1) },
    firstCount := if x.edges = 0 then cnt else x.firstCount, firstAt := if x.edges = 0 then t else x.firstAt }

/-- ENCODER_EDGE: an edge that has held for Encoder.Filter ticks, with the levels of A and B before and after it; its time is that
of its first sample (R214, R215). It is counted, or confirms SEQ where both levels changed. -/
def execEncoderEdge (e : Nat) (was lv : Bool × Bool) (s : State) : Host.Outcome State Fault Refusal :=
  let bb := encBase e
  let x := tabGet ({} : Encoder) s.enc e
  let y := { x with ab := some lv }
  .next (if !posRuns s bb then s
    else match quadStep (x.ab.getD was) lv with
      | none =>
        let io := { x.io with faults := Nat.lor x.io.faults 4 }
        rodInvalid (ifaceDone (setEnc s e { y with io := io }) bb x.io.faults io) (3 + e)
      | some d0 =>
        if d0 = 0 then setEnc s e y
        else
          let x1 := encCount s e y (if ob s bb 4 = 1 then -d0 else d0) (s.dt - nsTime (5 * ob s bb 5))
          let s1 := ifaceDone (putOb (setEnc s e x1) (bb + 1) 2 (ofInt 32 x1.count)) bb x.io.faults x1.io
          if x1.io.faults = 0 then s1 else rodInvalid s1 (3 + e))

/-- ENCODER_INDEX: the first index sets c_Z and LOCK, and ends an INDEX that counts without an index confirmed; a later one is checked against it (R214, R215). -/
def execEncoderIndex (e : Nat) (s : State) : Host.Outcome State Fault Refusal :=
  let bb := encBase e
  let x := tabGet ({} : Encoder) s.enc e
  .next (if !posRuns s bb ∨ ob s bb 6 ≠ 0 then s
    else match x.cz with
    | none =>
      let io := { x.io with lock := true, faults := x.io.faults - (if bit x.io.faults 1 then 2 else 0) }
      ifaceDone (setEnc s e { x with cz := some x.count, idxAt := x.count, passed := 0, io := io }) bb x.io.faults io
    | some cz =>
      let l4 : Int := 4 * ob s bb 2
      let m := (x.count - cz) % l4
      let off := min m (l4 - m)
      let bad := decide ((ob s bb 7 : Int) < off)
      let io := { x.io with faults := if bad then Nat.lor x.io.faults 2 else x.io.faults - (if bit x.io.faults 1 then 2 else 0) }
      let s1 := ifaceDone (setEnc s e { x with idxAt := x.count, passed := 0, io := io }) bb x.io.faults io
      if bad then rodInvalid s1 (3 + e) else s1)

/-- The rate over an encoder's interval (R215), in 2^-32 counts per tick. -/
def encRate (s : State) (e : Nat) (x : Encoder) : Int :=
  let k := encScale s e * (5 * 2 ^ 32 : Nat)
  let since := s.dt - x.lastAt
  if 2 ≤ x.edges ∧ x.firstAt < x.lastAt then (k * ((x.count - x.firstCount : Int) : Rat) / ((x.lastAt - x.firstAt : Nat) : Rat)).floor
  else if x.lastAt = 0 ∨ nsTime (ob s (encBase e) 9 * 1000000) < since ∨ since = 0 then 0
  else (k * (x.sign : Rat) / (since : Rat)).floor

/-- ENCODER_UPDATE: at the end of Encoder.UpdatePeriod the position, rate and acceleration are sent (R202, R203, R214,
R215). -/
def execEncoderUpdate (e : Nat) (s : State) : Host.Outcome State Fault Refusal :=
  let bb := encBase e
  let x := tabGet ({} : Encoder) s.enc e
  .next (if !posRuns s bb ∨ now s < x.updAt + ob s bb 8 * 1000 then s
    else
      let r := encRate s e x
      let acc := ((r - x.rate : Int) : Rat) / mkRat (ob s bb 8 * 1000) 5
      let io := { x.io with motion := motionOf x.io (ob s bb 0xA) (rateHz r) }
      let x1 := { x with rate := r, edges := 0, updAt := now s, io := io }
      let s1 := putIface (setEnc s e x1) bb io
      match x.cz with
      | none => rodInvalid s1 (3 + e)
      | some cz =>
        let m := (x.count - cz) % (4 * (ob s bb 2 : Int))
        let p := ((m : Rat) * encScale s e).floor + (ob s bb 0x10 : Int) * 2 ^ 32
        let ts := if x.edges = 0 then now s else x.lastAt / 2 ^ 32
        if io.lock ∧ io.faults = 0 then
          sendUpd s1 (3 + e) { ts := ts, pos := some (BitVec.ofInt 64 p), rate := r, accel := acc.floor }
        else rodInvalid s1 (3 + e))

/-- The sector of a Hall code (R216); none for an illegal code. -/
def hallSector (inv : Bool) (code : Nat) : Option Nat :=
  let k := if code = 1 then some 0 else if code = 3 then some 1 else if code = 2 then some 2 else if code = 6 then some 3
           else if code = 4 then some 4 else if code = 5 then some 5 else none
  k.map (fun x => if inv then 5 - x else x)

/-- Write a Hall interface. -/
def setHall (s : State) (h : Nat) (x : Hall) : State := { s with hall := tabSet {} s.hall h x }

/-- 60 degrees over a time in units of device time, as a rate. -/
def hallRate (dir : Int) (t : Rat) : Int := if t ≤ 0 then 0 else ((dir : Rat) * mkRat (2 ^ 64) 6 * (5 * 2 ^ 32 : Nat) / t).floor

/-- The rate of the last sector transits, at most Hall.Average of them (R217). -/
def hallMean (s : State) (h : Nat) (dir : Int) (ts : List Nat) : Int :=
  let l := ts.take (ob s (hallBase h) 4)
  hallRate dir (((l.foldl (· + ·) 0 : Nat) : Rat) / ((max 1 l.length : Nat) : Rat))

/-- The update of a Hall interface at an edge: the boundary crossed, the time of the edge's first sample and the rate (R217). -/
def hallUpd (s : State) (h boundary t : Nat) (rate : Int) : RodUpd :=
  { ts := t / 2 ^ 32, pos := some (BitVec.ofInt 64 (((boundary * 2 ^ 64 / 6 : Nat) : Int) + (ob s (hallBase h) 6 : Int) * 2 ^ 32)),
    rate := rate, accel := 0 }

/-- HALL_EDGE: a code that has held for Hall.Filter; the time of the edge is that of its first sample (R202, R216, R217, R220). The rate of an edge before which no transit in its direction
has ended is a free value (DESIGN CHOICE, log 4), and so is the boundary of a change from an illegal code to a legal one, which has no
direction. SEQ clears at the next legal edge (DESIGN CHOICE, log 112). -/
def execHallEdge (h code : Nat) (s : State) : Host.Outcome State Fault Refusal :=
  let b := hallBase h
  let x := tabGet ({} : Hall) s.hall h
  let t := s.dt - nsTime (ob s b 2)
  .next (if !posRuns s b then s
    else match hallSector (decide (ob s b 3 = 1)) code with
    | none =>
      let io := { x.io with lock := false, motion := 3,
                            faults := Nat.lor (x.io.faults - (if bit x.io.faults 7 then 128 else 0)) 4 }
      let x1 := { x with io := io, sector := none, transits := [], dir := 0, edgeAt := if code = x.code then x.edgeAt else t, code := code }
      rodInvalid (ifaceDone (putOb (setHall s h x1) (b + 1) 2 0xFF) b x.io.faults io) (6 + h)
    | some k =>
      match x.sector with
      | none =>
        let io := { x.io with lock := true, faults := x.io.faults - (if bit x.io.faults 2 then 4 else 0) - (if bit x.io.faults 7 then 128 else 0) }
        let x1 := { x with io := io, sector := some k, edgeAt := t, dir := 0, code := code }
        if bit x.io.faults 2 then
          let side := freshWord s
          let fr := freshWord side.2
          let s1 := ifaceDone (putOb (setHall fr.2 h { x1 with rate := fr.1.toInt, sentAt := now s }) (b + 1) 2 k) b x.io.faults io
          if io.faults = 0 then
            sendUpd s1 (6 + h) (hallUpd s h ((k + side.1.toNat % 2) % 6) t fr.1.toInt)
          else rodInvalid s1 (6 + h)
        else ifaceDone (putOb (setHall s h x1) (b + 1) 2 k) b x.io.faults io
      | some k0 =>
        if k = k0 then s
        else
        let fwd := decide (k = (k0 + 1) % 6)
        let rev := decide (k = (k0 + 5) % 6)
        let dir : Int := if fwd then 1 else if rev then -1 else 0
        let same := decide (dir ≠ 0) && decide (dir = x.dir)
        let ts := if same then (t - x.edgeAt) :: x.transits.take 11 else []
        let fr := freshWord s
        let rate := if ts.isEmpty then fr.1.toInt else hallMean s h dir ts
        let s0 := if ts.isEmpty then fr.2 else s
        let quick := decide (t - x.edgeAt ≤ nsTime (ob s b 5 * 1000000))
        let f := if dir = 0 then Nat.lor x.io.faults 4
                 else x.io.faults - (if bit x.io.faults 2 then 4 else 0) - (if bit x.io.faults 7 then 128 else 0)
        let io := { x.io with lock := true, faults := f, motion := if same && quick then (if dir = 1 then 1 else 2) else x.io.motion }
        let x1 := { x with io := io, sector := some k, dir := dir, edgeAt := t, transits := ts, rate := rate, sentAt := now s, code := code }
        let s1 := ifaceDone (putOb (setHall s0 h x1) (b + 1) 2 k) b x.io.faults io
        if f = 0 then sendUpd s1 (6 + h) (hallUpd s h (if fwd then k else (k + 1) % 6) t rate)
        else rodInvalid s1 (6 + h))

/-- The rate that a Hall interface sends between edges (R217). -/
def hallBetween (s : State) (h : Nat) (x : Hall) : Int :=
  let t := s.dt - x.edgeAt
  if nsTime (ob s (hallBase h) 5 * 1000000) < t then 0
  else match x.transits with
  | [] => x.rate
  | last :: _ => if t ≤ last then x.rate else hallRate x.dir (t : Rat)

/-- HALL_RATE_UPDATE: every 100 µs between edges a rate-only update; standstill after Hall.StallTime, and LOS
while the triplet's actuator has commanded motion for that long too (R202, R204, R217, R220, R465). -/
def execHallRateUpdate (h : Nat) (s : State) : Host.Outcome State Fault Refusal :=
  let b := hallBase h
  let x := tabGet ({} : Hall) s.hall h
  .next (if !posRuns s b ∨ now s < x.sentAt + 100000 then s
    else
      let still := decide (nsTime (ob s b 5 * 1000000) < s.dt - x.edgeAt)
      let los := still && (match hallDriven s h with
        | none => false
        | some t => decide (nsTime (ob s b 5 * 1000000) < s.dt - t))
      let io := { x.io with
        faults := Nat.lor (x.io.faults - (if bit x.io.faults 7 then 128 else 0)) (bitAt los 7),
        motion := if x.io.lock && still then 0 else x.io.motion }
      let s1 := ifaceDone (setHall s h { x with io := io, sentAt := now s }) b x.io.faults io
      if io.lock ∧ io.faults = 0 then
        sendUpd s1 (6 + h) { ts := now s, pos := none, rate := hallBetween s1 h x, accel := 0 }
      else rodInvalid s1 (6 + h))
where
  /-- Since when the actuator drive of a triplet has driven its motor (R217, R462). -/
  hallDriven (s : State) (h : Nat) : Option Nat :=
    let a := tabGet ({} : Act) s.act h
    if a.drivenAt = 0 then none else some (a.drivenAt - 1)

/-- Channel value k of the PLL: phase U, V or W in volts. -/
def gridVolt (s : State) (k : Nat) : Rat := chanVal s (ob s 0x3300 (3 + k))

/-- One step of the second-order generalised integrator of gain √2, tuned to the PLL frequency held within 45 Hz to 65 Hz, over some
seconds (R218; DESIGN CHOICE, log 7). -/
def sogiStep (x : Rat × Rat) (v hz dt : Rat) : Rat × Rat :=
  let w := 2 * piR * rclamp 45 65 hz * dt
  let a := r64 (x.1 + w * (mkRat 141421356237309504880 (10 ^ 20) * (v - x.1) - x.2))
  (a, r64 (x.2 + w * a))

/-- The Clarke transform of the three phase voltages, α and β (R218). -/
def gridClarke (s : State) : Rat × Rat :=
  ((gridVolt s 0 - gridVolt s 1 / 2 - gridVolt s 2 / 2) * mkRat 2 3, (gridVolt s 1 - gridVolt s 2) / sqrt3)

/-- The voltage vector of a step, α and β: the Clarke transform of three phases, or the output and quadrature of the integrator
(R218). -/
def gridVector (s : State) (y : Rat × Rat) : Rat × Rat := if ob s 0x3300 2 = 1 then y else gridClarke s

/-- Grid.Unbalance in percent: negative over positive sequence, which the integrators of α and of β part with their quadratures; 0 for
a single phase, whose vector has no negative sequence, and a free value for a positive sequence of 0 (R218; DESIGN CHOICE, log 7). -/
def gridUnbalance (s : State) (a b : Rat × Rat) : Rat × State :=
  let neg := rsqrt ((a.1 + b.2) * (a.1 + b.2) + (b.1 - a.2) * (b.1 - a.2))
  let pos := rsqrt ((a.1 - b.2) * (a.1 - b.2) + (b.1 + a.2) * (b.1 + a.2))
  if ob s 0x3300 2 = 1 then (0, s)
  else if pos = 0 then
    let fr := freshWord s
    (f32Val (f32Finite (fr.1.toNat % 2 ^ 32)), fr.2)
  else (100 * neg / pos, s)

/-- The Park transform at an angle in turns whose 0 is the positive-going zero crossing of phase U: d along the vector, and q, which
the loop drives to zero (R218). -/
def gridPark (v : Rat × Rat) (th : Rat) : Rat × Rat :=
  (v.1 * sinT th - v.2 * cosT th, v.1 * cosT th + v.2 * sinT th)

/-- An input of the PLL carries STL or INV (R218). -/
def gridBad (s : State) : Bool :=
  (List.range (if ob s 0x3300 2 = 1 then 1 else 3)).any (fun k => !chanGood s (ob s 0x3300 (3 + k)))

/-- GRID_PLL_STEP: the PLL is stepped every Grid.UpdatePeriod and sends rod 3 an update (R202, R203, R218). LOCK clears at the first
step at which a condition of it fails (DESIGN CHOICE, log 112). In mode 1 the
phase runs at V2l.Frequency from the device's own oscillator, and the PLL holds LOCK (R424). -/
def execGridPllStep (s : State) : Host.Outcome State Fault Refusal :=
  let g := s.grid
  let per := ob s 0x3300 7
  .next (if !posRuns s 0x3300 ∨ now s < g.stepAt + per * 1000 then s
    else if ob s 0x3300 9 = 1 then
      let hz := s.formHz
      let rate := (f32Val hz * (2 ^ 64 : Nat) / 200000000).floor
      let g1 := { g with phase := ((g.phase : Int) + rate * (per * 200 : Nat)).toNat % 2 ^ 64, rate := rate, accel := 0,
                         stepAt := now s, io := { g.io with lock := true, faults := 0 } }
      let s1 := ifaceDone { putOb s 0x3301 2 hz with grid := g1 } 0x3300 g.io.faults g1.io
      sendUpd s1 5 { ts := now s, pos := some (BitVec.ofNat 64 g1.phase), rate := rate, accel := 0 }
    else
      let bad := gridBad s
      let ticks : Rat := (per * 200 : Nat)
      let one := decide (ob s 0x3300 2 = 1)
      let y := if bad then g.sogi
               else sogiStep g.sogi (if one then gridVolt s 0 else (gridClarke s).1) (rateHz g.rate) (mkRat per 1000000)
      let yb := if bad ∨ one then g.sogiB else sogiStep g.sogiB (gridClarke s).2 (rateHz g.rate) (mkRat per 1000000)
      let un := gridUnbalance s y yb
      let v := gridVector s y
      let th := mkRat (trackAhead (g.phase, g.rate, g.accel) ticks) (2 ^ 64)
      let dq := gridPark v th
      let amp := rsqrt (v.1 * v.1 + v.2 * v.2)
      let e := if bad ∨ amp = 0 then 0 else dq.2 / amp / (2 * piR)
      let r := trackStep (ob s 0x3300 6) ticks (g.phase, g.rate, g.accel) e
      let hz := rateHz r.2.1
      let inHz := decide (45 ≤ hz) && decide (hz ≤ 65)
      let err := atan2T dq.2 dq.1 * 360
      let good := inHz && decide (rabs err < 2)
      let since := if good then (if g.goodSince = 0 then now s + 1 else g.goodSince) else 0
      let io1 := confirmBit 2 0 (!inHz) g.io
      let low := decide (amp < (ob s 0x3300 8 : Nat))
      let io2 := if bad then { io1 with faults := Nat.lor io1.faults 128 } else confirmBit 2 7 low io1
      let lock := good && decide (since + 40000000 ≤ now s + 1)
      let io3 := { io2 with lock := lock && !bad }
      let g1 := { g with phase := r.1, rate := r.2.1, accel := r.2.2, stepAt := now s, goodSince := since, sogi := y, sogiB := yb, io := io3 }
      let s1 := putOb (putOb (putOb { un.2 with grid := g1 } 0x3301 2 (f32Of hz)) 0x3301 3 (f32Of amp)) 0x3301 4
                  (f32Of un.1)
      let s2 := ifaceDone s1 0x3300 g.io.faults io3
      if io3.lock ∧ io3.faults = 0 then
        sendUpd s2 5 { ts := now s, pos := some (BitVec.ofNat 64 g1.phase), rate := g1.rate, accel := g1.accel }
      else rodInvalid s2 5)

end Sys2Proof.Machine
end

