-- ==== Sys2Proof/Machine/Thermal.lean ====
section
/-! DEFINITION. The commands of the Thermal domain: adaptive sampling, limits, trims and shutdown (R581 to R590). -/

namespace Sys2Proof.Machine

/-- A sensor: 0 to 7 on the dies, 8 to 19 the NTC slots. -/
def sensOf (s : State) (p : Nat) : Sensor := tabGet {} s.therm.sensors p

/-- Thermal.Die.Status and Thermal.Ntc.Status (R590). -/
def sensWord (x : Sensor) : Nat := x.iv * 8 + bitAt x.invalid 2 + bitAt x.upper 1 + bitAt x.warn 0

/-- First index of an NTC slot (R590). -/
def ntcBase (n : Nat) : Nat := 0x7040 + 8 * n

/-- Write a sensor and its status word. -/
def setSens (s : State) (p : Nat) (x : Sensor) : State :=
  let s1 := { s with therm := { s.therm with sensors := tabSet {} s.therm.sensors p x } }
  if p < 8 then putOb s1 0x7003 (p + 1) (sensWord x) else putOb s1 (ntcBase (p - 8) + 1) 2 (sensWord x)

/-- Interval of a row of R584 in ns. -/
def ivNs (iv : Nat) : Nat := if iv = 0 then 100000 else if iv = 1 then 1000000 else 10000000

/-- The row of R584 after a sample at a distance, from the row in force: shorter at once, longer past the present row's
bound by more than 2 K. -/
def nextIv (cur : Nat) (d : Rat) : Nat :=
  let row := if d ≤ 5 then 0 else if d ≤ 15 then 1 else 2
  if row ≤ cur then row
  else if (if cur = 0 then 7 else 17) < d then row else cur

/-- The median of three readings. -/
def median3 (a b c : Rat) : Rat := rmax (rmin a b) (rmin (rmax a b) c)

/-- Number of a sensor's detector: 0 the first limit, 1 the second, 2 INVALID. -/
def sensDet (p k : Nat) : Nat := 0x70000000 + 4 * p + k

/-- A limit of a sensor after a sample (R586): the bit, with its hysteresis. -/
def limitBit (s : State) (was : Bool) (t lim : Rat) : Bool := if was then decide (lim - obF s 0x7000 3 ≤ t) else decide (lim ≤ t)

/-- A thermal fault appears or clears against functions, or without one. -/
def thermCond (s : State) (on : Bool) (fs : List Fn) (c : Cls) (lvl detail det : Nat) : State :=
  if on then condAllOr s fs c lvl 7 detail det else clearDet s det

/-- The sample of a sensor comes late: counted past one interval, TST at L1 past two, once per sensor until acknowledged
(R585). -/
def lateSample (s : State) (p : Nat) (detail : Nat) : State :=
  let x := sensOf s p
  let k := sensDet p 3
  if !x.seen ∨ now s ≤ x.due + ivNs x.iv then s
  else
    let s1 := incOb s 0x7004 0
    if now s ≤ x.due + 2 * ivNs x.iv ∨ (tabGet false s.once k && (keyAt s (keyNo .tst 0)).unack) then s1
    else raiseEv { s1 with once := tabSet false s1.once k true } .tst 1 0 7 detail

/-- The valid sensors of a die that have been sampled. -/
def dieValid (s : State) (die : Nat) : List Nat :=
  ((List.range 4).map (fun k => 4 * die + k)).filter (fun p => (sensOf s p).seen && !(sensOf s p).invalid)

/-- Thermal.Die.Max of a die; a die without a valid sensor keeps its reading (R582). -/
def dieMax (s : State) (die : Nat) : State :=
  match dieValid s die with
  | [] => s
  | p :: ps => putOb s 0x7002 (die + 1) (f32Of (ps.foldl (fun a q => rmax a (obF s 0x7001 (q + 1))) (obF s 0x7001 (p + 1))))

/-- The trims after a sample of the control die: each moves by at most one step toward its table (R589). -/
def trims (s : State) : State :=
  (List.range 3).foldl (fun t k =>
    let c := obI16 t 0x7005 (k + 1)
    let w := Config.trimTable k (obF t 0x7002 1)
    putOb t 0x7005 (k + 1) (ofInt 16 (if c < w then c + 1 else if w < c then c - 1 else c))) s

/-- Both dies have been read at or below Thermal.ReleaseTemp since BOOT (R588). -/
def thermRelease (s : State) : State :=
  let ok (die : Nat) : Bool :=
    !(dieValid s die).isEmpty && decide (obF s 0x7002 (die + 1) ≤ obF s 0x7000 5)
  if ok 0 && ok 1 then { s with therm := { s.therm with released := true } } else s

/-- A sample of die sensor p at a temperature (R582, R584 to R589). A die limit is one condition of its die: it appears with the
first of its sensors that reaches it, and has gone when none of them holds it (R586; DEDUCED, log 84). -/
def dieSample (s0 : State) (p : Nat) (t : Rat) : State :=
  let detail := 0x70010000 + (p + 1) * 256
  let s := lateSample s0 p detail
  let die := p / 4
  let x := sensOf s p
  let others := ((List.range 4).map (fun k => 4 * die + k)).filter (fun q => decide (q ≠ p))
  let rd (q : Nat) := obF s 0x7001 (q + 1)
  let cmp := others.all (fun q => (sensOf s q).seen)
  let off := cmp && (match others with
    | [a, b, c] => decide (obF s 0x7000 4 < rabs (t - median3 (rd a) (rd b) (rd c)))
    | _ => false)
  let good := if off then 0 else x.good + 1
  let inv := if off then true else x.invalid && decide (good < 3)
  let warn := if inv then x.warn else limitBit s x.warn t (obF s 0x7000 1)
  let upper := if inv then x.upper else limitBit s x.upper t (obF s 0x7000 2)
  let d := rmin (rabs (t - obF s 0x7000 1)) (rmin (rabs (t - obF s 0x7000 2)) (rabs (t - 165)))
  let iv := nextIv x.iv d
  let s1 := setSens (putOb s 0x7001 (p + 1) (f32Of t)) p
    { seen := true, invalid := inv, good := good, warn := warn, upper := upper, iv := iv, due := now s + ivNs iv }
  let s2 := thermCond (dieMax s1 die) inv [] .acq 1 detail (sensDet p 2)
  let few := decide ((dieValid s2 die).length < 2) && ((List.range 4).all (fun k => (sensOf s2 (4 * die + k)).seen))
  let s3 := thermCond s2 few fnAll .ot 3 (0x70020000 + (die + 1) * 256) (sensDet 20 die)
  let dies := (List.range 4).map (fun k => sensOf s3 (4 * die + k))
  let s4 := thermCond (thermCond s3 (dies.any (fun y => y.warn)) [] .ot 1 detail (sensDet (21 + die) 0)) (dies.any (fun y => y.upper))
    fnAll .ot 2 detail (sensDet (21 + die) 1)
  let hot := if inv then tabGet 0 s4.therm.hot die else if 165 ≤ t then tabGet 0 s4.therm.hot die + 1 else 0
  let s5 := { s4 with therm := { s4.therm with hot := tabSet 0 s4.therm.hot die hot } }
  let s6 := if hot = 2 ∧ !inv then raiseEv s5 .ot 5 0 7 (detail + 2) else s5
  thermRelease (if die = 0 then trims s6 else s6)

/-- The functions of an NTC slot (R586). -/
def ntcFns (s : State) (n : Nat) : List Fn := fnAll.filter (fun f => bit (ob s (ntcBase n) 4) (fnCode f - 1))

/-- A sample of NTC slot n: one instance of its channel's sequence has ended (R583 to R586). -/
def ntcSample (s : State) (n : Nat) (m : AdcMeas) : State :=
  let b := ntcBase n
  let ch := ob s b 1
  let q := ch / 16
  let p := n + 8
  let detail := (b + 1) * 65536 + 256
  let s1 := lateSample s p detail
  let s4 := stepWords (setSeq s1 q { seqOf s1 q with hold := s1.dt - nsTime 125 }) q 0 m (chanLims s1 ch)
  let t := chanVal s4 ch
  let inv := decide (Nat.land (chanWord s4 ch).2 6 ≠ 0)
  let x := sensOf s4 p
  let warn := if inv then x.warn else limitBit s4 x.warn t (obF s4 b 2)
  let upper := if inv then x.upper else limitBit s4 x.upper t (obF s4 b 3)
  let iv := nextIv x.iv (rmin (rabs (t - obF s4 b 2)) (rabs (t - obF s4 b 3)))
  let s5 := setSens (putOb s4 (b + 1) 1 (chanWord s4 ch).1) p
    { seen := true, invalid := inv, good := 0, warn := warn, upper := upper, iv := iv, due := now s + ivNs iv }
  let fs := ntcFns s5 n
  let s6 := thermCond s5 inv fs .acq 1 detail (sensDet p 2)
  thermCond (thermCond s6 warn fs .ot 1 detail (sensDet p 0)) upper fs .ot 3 detail (sensDet p 1)

/-- The slot's channel can be sampled: a sequence's, with neither block shored (R583). -/
def ntcRuns (s : State) (n : Nat) : Bool :=
  let ch := ob s (ntcBase n) 1
  !isShored s 0x7040 && decide (ch < 512) && !isShored s (seqBase (ch / 16))

/-- The converters of a sensor's sample: of a die sensor one converter of its pair, the even one unless only the odd one is in a gap
(R581), of a slot those of its sequence (R583). -/
def sensConvs (s : State) (p : Nat) : List Nat :=
  let mine (c : Nat) : Bool := match tabGet none s.outc c with
    | none => false
    | some x => decide (x.job = 0)
  let idle (c : Nat) : Bool := outFree s c s.dt && gapFree s c
  let odd := mine (2 * p + 1) || (!mine (2 * p) && !idle (2 * p) && idle (2 * p + 1))
  if p < 8 then [if odd then 2 * p + 1 else 2 * p] else seqConvs s (ob s (ntcBase (p - 8)) 1 / 16)

/-- The input of a sensor's sample. -/
def sensInput (s : State) (p : Nat) : Option AdcIn :=
  let q := ob s (ntcBase (p - 8)) 1 / 16
  if p < 8 then some (.die p) else muxInput (ob s (seqBase q) 1) (ob s (seqBase q + 1) 1)

/-- No other sensor of these converters has been due for longer (R585). -/
def sensOldest (s : State) (p : Nat) : Bool :=
  (List.range 20).all (fun r => decide (r = p) || !(sensOf s r).seen || decide (now s < (sensOf s r).due) || (decide (8 ≤ r) && !ntcRuns s (r - 8))
    || decide ((sensOf s p).due ≤ (sensOf s r).due) || !(sensConvs s r).any (fun c => (sensConvs s p).contains c))

/-- THERMAL_SAMPLE: a sample that has fallen due is taken in a converter gap: die sensors 0 to 7, NTC slots 8 to 19 (R234, R581 to
R589). A die sensor's code is converted with its stored gain and offset. -/
def execThermalSample (sensor : Nat) (m : AdcMeas) (s : State) : Host.Outcome State Fault Refusal :=
  .next (if !running s ∨ ((sensOf s sensor).seen ∧ now s < (sensOf s sensor).due) ∨ (8 ≤ sensor ∧ !ntcRuns s (sensor - 8))
      ∨ sensInput s sensor ≠ some m.src then s
    else
      let cs := sensConvs s sensor
      let o := if !outDone s 0 sensor cs && !sensOldest s sensor then (s, false) else outConv s 0 sensor cs 1
      if !o.2 then o.1
      else if sensor < 8 then
        let v : Rat := mkRat (sampleCode s (muxVolt s m.src m.uv) * s.power.refUv : Nat) 65536
        let t := (v - 700000) / 3000
        dieSample o.1 sensor (f32Val (f32Of (Config.dieGain sensor * t + Config.dieOffset sensor)))
      else ntcSample o.1 (sensor - 8) m)

/-- SHUTDOWN_COMPARATOR: a shutdown comparator has stayed tripped for its filter time: OT at L5, rank 7 (R587). -/
def execShutdownComparator (sensor : Nat) (s : State) : Host.Outcome State Fault Refusal :=
  .next (if running s ∧ sensor < 8 then raiseEv s .ot 5 0 7 (0x70010000 + (sensor + 1) * 256 + 1) else s)

end Sys2Proof.Machine
end

