-- ==== Sys2Proof/Machine/WriteCmd.lean ====
section
/-! DEFINITION. The services that apply a whole value through WRITE: BLOCK_WRITE, and consumption manifests (R104, R108,
R126 to R128). -/

namespace Sys2Proof.Machine

/-- Checks 1 to 5 of R105 of a BLOCK_WRITE segment. -/
def checkBlock (s : State) (q : QReq) : Nat :=
  match rowOf q.idx q.sub with
  | none => 0x02000007
  | some r =>
    let acc := accAt s (oaddr q.idx q.sub) r
    if !hasRole s q.ses (writeRole acc q.idx q.sub 0) then 0x04000002
    else if accessCode s q acc ≠ 0 then accessCode s q acc
    else if q.idx = 0x6007 then 0x05000004
    else if stateCode s q acc ≠ 0 then stateCode s q acc
    else if q.ty.toNat ≠ r.ty then 0x02000005
    else 0

/-- The whole value of a block transfer is in: it is written as a WRITE would write it (R105, R108). -/
def applyBlock (s : State) (q : QReq) (bytes : List Byte) : State :=
  let v := { q with data := bytes }
  let c := checkWrite s v
  if c ≠ 0 then refuse s q c
  else
    let e := objEffect s v
    conclude e.1 q q.ty.toNat e.2

/-- The start of a transfer: offset 0xFFFF_FFFF and the total size; one of size 0 is whole at once (R104, R108). -/
def startBlock (s : State) (q : QReq) : State :=
  let total := leNat (q.data.drop 4)
  let size := match rowOf q.idx q.sub with | none => 0 | some r => tySize r.ty
  if leNat (q.data.take 4) ≠ 0xFFFFFFFF then refuse s q 0x01000003
  else if q.data.length ≠ 8 ∨ (size ≠ 0 ∧ total ≠ size) then refuse s q 0x01000002
  else if total = 0 then applyBlock s q []
  else
    reply (setXfer s q.ses (some { write := true, idx := q.idx, sub := q.sub, total := total, bytes := [],
                                   lastAt := q.stamp, timedOut := false })) q q.ty.toNat []

/-- A further segment: in sequence it is taken, and the one that reaches the total size applies the value (R108). -/
def nextBlock (s : State) (q : QReq) (x : Xfer) : State :=
  let off := leNat (q.data.take 4)
  let part := q.data.drop 4
  if x.timedOut then refuse (setXfer s q.ses none) q 0x01000004
  else if off = 0xFFFFFFFF ∨ !x.write ∨ x.idx ≠ q.idx ∨ x.sub ≠ q.sub then refuse s q 0x0300000B
  else if off ≠ x.bytes.length ∨ x.total < off + part.length then refuse (setXfer s q.ses none) q 0x01000003
  else if off + part.length = x.total then applyBlock (setXfer s q.ses none) q (x.bytes ++ part)
  else reply (setXfer s q.ses (some { x with bytes := x.bytes ++ part, lastAt := q.stamp })) q q.ty.toNat []

/-- BLOCK_WRITE: a segment is checked and taken (R104, R108). -/
def execBlockWrite (r : Req) (idx sub : Nat) (s : State) : Host.Outcome State Fault Refusal :=
  .next (match admitted s r 4 idx sub with
    | (s1, none) => s1
    | (s1, some q) =>
      let c := checkBlock s1 q
      if c ≠ 0 then refuse s1 q c
      else if q.data.length < 4 then refuse s1 q 0x01000002
      else match liveXfer s1 q.ses (decide (leNat (q.data.take 4) = 0xFFFFFFFF)) with
      | none => startBlock s1 q
      | some x => nextBlock s1 q x)

/-- The value of one entry as the WRITE of the bound session (R122, R126, R636); one that a WRITE would refuse is skipped. -/
def manWrite (n : Nat) (stamp : Nat) (s : State) (e : Nat × List Byte) : State :=
  let a := entAddr e.1
  match rowAt a with
  | none => s
  | some r =>
    let q : QReq := { ses := n, reqid := 0, stamp := stamp, svc := 2, idx := a / 256, sub := a % 256,
                      ty := BitVec.ofNat 8 r.ty, data := e.2, xl := false, mac := 0 }
    if checkWrite s q ≠ 0 then s
    else
      let w := objEffect s q
      if w.2 = 0 then w.1 else s

/-- The entries of a manifest with their bytes of a payload's DATA (R123). -/
def manSplit : List Nat → List Byte → List (Nat × List Byte)
  | [], _ => []
  | e :: es, d => (e, d.take (e % 256)) :: manSplit es (d.drop (e % 256))

/-- The entries of a manifest that are Ridge-backed. -/
def manRidge (s : State) (m : Nat) : List Nat :=
  ((manEntries s m).map entAddr).filter (fun a => (rowAt a).any (fun r => r.ridge))

/-- Detail of a manifest's faults, and its detector. -/
def manDetail (m : Nat) : Nat := (0x1400 + m) * 65536

/-- The window of a manifest ended with a frame: its values are written, but in LOCKOUT the frame is only counted
(R126 to R128). -/
def manApply (s : State) (m : Nat) (data : List Byte) : State :=
  let s1 := incOb s (0x1500 + m) 1
  if s.dev = .lockout then s1
  else
    let s2 := (manRidge s1 m).foldl (fun t a => clrSide t (a / 256) (a % 256) 1) s1
    let s3 := (manSplit (manEntries s2 m) data).foldl (manWrite (ob s (0x1400 + m) 4) (manOf s m).heldAt) s2
    clearDet (putOb s3 (0x1500 + m) 3 0) (0x1400 + m)

/-- The window of a manifest ended without a frame: a miss (R127). -/
def manMiss (s : State) (m : Nat) : State :=
  let k := min 255 (ob s (0x1500 + m) 3 + 1)
  let s1 := putOb (incOb s (0x1500 + m) 2) (0x1500 + m) 3 k
  let s2 := (manRidge s1 m).foldl (fun t a => orSide t (a / 256) (a % 256) 1) s1
  if k = ob s (0x1400 + m) 8 then
    condAllOr s2 (manFns s2 m) .com (ob s (0x1400 + m) 9) 7 (manDetail m) (0x1400 + m)
  else s2

/-- A session that accepted its last freshness value in a consumption frame closes once no frame of its manifests waits
to be applied (R116). -/
def manEnding (s : State) (n : Nat) : State :=
  if (sess s n).ending
      && !(s.led.manRx.any (fun e => decide (e.1 = n)))
      && !((List.range 32).any (fun k => decide (ob s (0x1400 + k) 4 = n) && (manOf s k).held.isSome)) then closeSession s n
  else s

/-- MANIFEST_CONSUME_APPLY: at the end of a window the latest of its frames is applied, or the window is a miss
(R125 to R128); the last frame of a session ends it (R116). -/
def execManifestConsumeApply (m : Nat) (s : State) : Host.Outcome State Fault Refusal :=
  .next (if !serving s ∨ ob s (0x1400 + m) 1 ≠ 1 ∨ ob s (0x1400 + m) 2 ≠ 1 ∨ now s < (manOf s m).due then s
    else
      let s1 := (manWaiting s m).foldl (fun t e => manTake t m e) s
      let x := manOf s1 m
      let s2 := match x.held with
        | none => manMiss s1 m
        | some d => manApply s1 m d
      manEnding (setMan s2 m { manOf s2 m with held := none, due := x.due + manCycle s2 m }) (ob s (0x1400 + m) 4))

end Sys2Proof.Machine
end

