-- ==== Sys2Proof/Machine/Dispatch.lean ====
section
/-! DEFINITION. The dispatch of a command to its meaning: one arm for each constructor of Instr. -/

namespace Sys2Proof.Machine

/-- The effect of a command on everything but the queue. -/
def exec (i : Instr) (s : State) : Host.Outcome State Fault Refusal :=
  match i with
  | .vbatRise => Sys2Proof.Machine.execVbatRise s
  | .vbatFall => Sys2Proof.Machine.execVbatFall s
  | .porstNLow => Sys2Proof.Machine.execPorstNLow s
  | .porstNRelease => Sys2Proof.Machine.execPorstNRelease s
  | .pmicPgLoss => Sys2Proof.Machine.execPmicPgLoss s
  | .pmicPgRise => Sys2Proof.Machine.execPmicPgRise s
  | .vddRefSample mv => Sys2Proof.Machine.execVddRefSample mv s
  | .crystalQualified => Sys2Proof.Machine.execCrystalQualified s
  | .pllLock us => Sys2Proof.Machine.execPllLock us s
  | .powerUpAttemptFail => Sys2Proof.Machine.execPowerUpAttemptFail s
  | .powerUpRetry => Sys2Proof.Machine.execPowerUpRetry s
  | .wakeRestart => Sys2Proof.Machine.execWakeRestart s
  | .sealFuseLoad => Sys2Proof.Machine.execSealFuseLoad s
  | .firmwareVerified => Sys2Proof.Machine.execFirmwareVerified s
  | .checkComplete x => Sys2Proof.Machine.execCheckComplete x s
  | .srstNAccept => Sys2Proof.Machine.execSrstNAccept s
  | .srstNRelease => Sys2Proof.Machine.execSrstNRelease s
  | .x32Qualified => Sys2Proof.Machine.execX32Qualified s
  | .x32Timeout => Sys2Proof.Machine.execX32Timeout s
  | .x32Loss => Sys2Proof.Machine.execX32Loss s
  | .clockSupervisionFault => Sys2Proof.Machine.execClockSupervisionFault s
  | .ledgerFrameRx x => Sys2Proof.Machine.execLedgerFrameRx x s
  | .read r idx sub => Sys2Proof.Machine.execRead r idx sub s
  | .write r idx sub => Sys2Proof.Machine.execWrite r idx sub s
  | .blockRead r idx sub => Sys2Proof.Machine.execBlockRead r idx sub s
  | .blockWrite r idx sub => Sys2Proof.Machine.execBlockWrite r idx sub s
  | .blockTransferTimeout ses => Sys2Proof.Machine.execBlockTransferTimeout ses s
  | .subscribe r idx sub => Sys2Proof.Machine.execSubscribe r idx sub s
  | .unsubscribe r => Sys2Proof.Machine.execUnsubscribe r s
  | .subscriptionSample ses n => Sys2Proof.Machine.execSubscriptionSample ses n s
  | .time r => Sys2Proof.Machine.execTime r s
  | .open x => Sys2Proof.Machine.execOpen x s
  | .pendingSessionTimeout ses => Sys2Proof.Machine.execPendingSessionTimeout ses s
  | .close r => Sys2Proof.Machine.execClose r s
  | .sessionTimeout ses => Sys2Proof.Machine.execSessionTimeout ses s
  | .stateRequest r => Sys2Proof.Machine.execStateRequest r s
  | .arm r f => Sys2Proof.Machine.execArm r f s
  | .run r f => Sys2Proof.Machine.execRun r f s
  | .stop r f => Sys2Proof.Machine.execStop r f s
  | .disarm r f => Sys2Proof.Machine.execDisarm r f s
  | .shore r => Sys2Proof.Machine.execShore r s
  | .shoreComplete blk => Sys2Proof.Machine.execShoreComplete blk s
  | .strike r => Sys2Proof.Machine.execStrike r s
  | .strikeRelease => Sys2Proof.Machine.execStrikeRelease s
  | .strikePersist => Sys2Proof.Machine.execStrikePersist s
  | .abandon r => Sys2Proof.Machine.execAbandon r s
  | .store r => Sys2Proof.Machine.execStore r s
  | .restore r => Sys2Proof.Machine.execRestore r s
  | .manifestEnable r m => Sys2Proof.Machine.execManifestEnable r m s
  | .manifestDisable r m => Sys2Proof.Machine.execManifestDisable r m s
  | .manifestPublish m => Sys2Proof.Machine.execManifestPublish m s
  | .manifestConsumeFrame m => Sys2Proof.Machine.execManifestConsumeFrame m s
  | .manifestConsumeApply m => Sys2Proof.Machine.execManifestConsumeApply m s
  | .markFire k j => Sys2Proof.Machine.execMarkFire k j s
  | .oneshotEnd l => Sys2Proof.Machine.execOneshotEnd l s
  | .gateTimeout l => Sys2Proof.Machine.execGateTimeout l s
  | .rodSourceUpdate rod => Sys2Proof.Machine.execRodSourceUpdate rod s
  | .rodTimeout rod => Sys2Proof.Machine.execRodTimeout rod s
  | .carrierWrapApply rod => Sys2Proof.Machine.execCarrierWrapApply rod s
  | .laneReadbackCompare x => Sys2Proof.Machine.execLaneReadbackCompare x s
  | .captureEdge u rising phase => Sys2Proof.Machine.execCaptureEdge u rising phase s
  | .captureNextRead r u => Sys2Proof.Machine.execCaptureNextRead r u s
  | .resolverUpdate n x => Sys2Proof.Machine.execResolverUpdate n x s
  | .encoderEdge e was lv => Sys2Proof.Machine.execEncoderEdge e was lv s
  | .encoderIndex e => Sys2Proof.Machine.execEncoderIndex e s
  | .encoderUpdate e => Sys2Proof.Machine.execEncoderUpdate e s
  | .hallEdge h code => Sys2Proof.Machine.execHallEdge h code s
  | .hallRateUpdate h => Sys2Proof.Machine.execHallRateUpdate h s
  | .gridPllStep => Sys2Proof.Machine.execGridPllStep s
  | .frequencyWordUpdate rod => Sys2Proof.Machine.execFrequencyWordUpdate rod s
  | .seqTrigger q => Sys2Proof.Machine.execSeqTrigger q s
  | .converterFree cv => Sys2Proof.Machine.execConverterFree cv s
  | .seqWaitDrop q => Sys2Proof.Machine.execSeqWaitDrop q s
  | .conversionComplete q k src uv => Sys2Proof.Machine.execConversionComplete q k src uv s
  | .calCaptureLow r ch => Sys2Proof.Machine.execCalCaptureLow r ch s
  | .calCaptureHigh r ch => Sys2Proof.Machine.execCalCaptureHigh r ch s
  | .calCompute r ch => Sys2Proof.Machine.execCalCompute r ch s
  | .calClear r ch => Sys2Proof.Machine.execCalClear r ch s
  | .calAbandon r ch => Sys2Proof.Machine.execCalAbandon r ch s
  | .calCaptureDone ch => Sys2Proof.Machine.execCalCaptureDone ch s
  | .calCaptureTimeout ch => Sys2Proof.Machine.execCalCaptureTimeout ch s
  | .pairCheck p src uv => Sys2Proof.Machine.execPairCheck p src uv s
  | .sdOutput dm rise fall => Sys2Proof.Machine.execSdOutput dm rise fall s
  | .sdcFault x => Sys2Proof.Machine.execSdcFault x s
  | .sdStuck dm => Sys2Proof.Machine.execSdStuck dm s
  | .statBoundary u => Sys2Proof.Machine.execStatBoundary u s
  | .statTimeout u => Sys2Proof.Machine.execStatTimeout u s
  | .windowCrossing w uv phase => Sys2Proof.Machine.execWindowCrossing w uv phase s
  | .blankMaxTimeout w => Sys2Proof.Machine.execBlankMaxTimeout w s
  | .blankTimeEnd w => Sys2Proof.Machine.execBlankTimeEnd w s
  | .winClear r w => Sys2Proof.Machine.execWinClear r w s
  | .winPeriodClear w => Sys2Proof.Machine.execWinPeriodClear w s
  | .windowCheck w agree => Sys2Proof.Machine.execWindowCheck w agree s
  | .windowCheckReadback w codeL codeH => Sys2Proof.Machine.execWindowCheckReadback w codeL codeH s
  | .windowCheckEnd w agree => Sys2Proof.Machine.execWindowCheckEnd w agree s
  | .loopTrigger lp => Sys2Proof.Machine.execLoopTrigger lp s
  | .braceCoefWrite r n bank k => Sys2Proof.Machine.execBraceCoefWrite r n bank k s
  | .braceSelect r n => Sys2Proof.Machine.execBraceSelect r n s
  | .bracePreset r n => Sys2Proof.Machine.execBracePreset r n s
  | .injectStart r => Sys2Proof.Machine.execInjectStart r s
  | .injectStop r => Sys2Proof.Machine.execInjectStop r s
  | .injectDone => Sys2Proof.Machine.execInjectDone s
  | .respArm r => Sys2Proof.Machine.execRespArm r s
  | .respTrigger r => Sys2Proof.Machine.execRespTrigger r s
  | .respStop r => Sys2Proof.Machine.execRespStop r s
  | .respFull => Sys2Proof.Machine.execRespFull s
  | .driveRelease d => Sys2Proof.Machine.execDriveRelease d s
  | .driveSettleEnd d => Sys2Proof.Machine.execDriveSettleEnd d s
  | .driveStopComplete d => Sys2Proof.Machine.execDriveStopComplete d s
  | .driveFaultRampEnd d => Sys2Proof.Machine.execDriveFaultRampEnd d s
  | .directionSelect r d => Sys2Proof.Machine.execDirectionSelect r d s
  | .derateUpdate f => Sys2Proof.Machine.execDerateUpdate f s
  | .faultInputEdge k => Sys2Proof.Machine.execFaultInputEdge k s
  | .collectClose d => Sys2Proof.Machine.execCollectClose d s
  | .ascApply d => Sys2Proof.Machine.execAscApply d s
  | .linkWord => Sys2Proof.Machine.execLinkWord s
  | .linkStaleTimeout => Sys2Proof.Machine.execLinkStaleTimeout s
  | .dumpObserveTimeout => Sys2Proof.Machine.execDumpObserveTimeout s
  | .dumpMaxonTimeout => Sys2Proof.Machine.execDumpMaxonTimeout s
  | .dumpTest src uv => Sys2Proof.Machine.execDumpTest src uv s
  | .pilotEval => Sys2Proof.Machine.execPilotEval s
  | .proximityEval => Sys2Proof.Machine.execProximityEval s
  | .sessionPilotReady => Sys2Proof.Machine.execSessionPilotReady s
  | .sessionGridReady => Sys2Proof.Machine.execSessionGridReady s
  | .sessionAcTimeout => Sys2Proof.Machine.execSessionAcTimeout s
  | .sessionPrechargeDone => Sys2Proof.Machine.execSessionPrechargeDone s
  | .sessionPrechargeTimeout => Sys2Proof.Machine.execSessionPrechargeTimeout s
  | .sessionPfcLive => Sys2Proof.Machine.execSessionPfcLive s
  | .sessionBusReady => Sys2Proof.Machine.execSessionBusReady s
  | .chargerLimitStage => Sys2Proof.Machine.execChargerLimitStage s
  | .sessionPause => Sys2Proof.Machine.execSessionPause s
  | .sessionResume => Sys2Proof.Machine.execSessionResume s
  | .sessionComplete => Sys2Proof.Machine.execSessionComplete s
  | .safetyTimerTick => Sys2Proof.Machine.execSafetyTimerTick s
  | .sessionDabOff => Sys2Proof.Machine.execSessionDabOff s
  | .pfcZeroCrossOff ph => Sys2Proof.Machine.execPfcZeroCrossOff ph s
  | .sessionEnd => Sys2Proof.Machine.execSessionEnd s
  | .gridRidethroughTimeout => Sys2Proof.Machine.execGridRidethroughTimeout s
  | .dabFswWrite r => Sys2Proof.Machine.execDabFswWrite r s
  | .v2lBackfeedCheck => Sys2Proof.Machine.execV2lBackfeedCheck s
  | .v2lRampEnd => Sys2Proof.Machine.execV2lRampEnd s
  | .v2lOverload => Sys2Proof.Machine.execV2lOverload s
  | .converterLimitStage => Sys2Proof.Machine.execConverterLimitStage s
  | .dcxSoftstartStep => Sys2Proof.Machine.execDcxSoftstartStep s
  | .dcxSoftstartEnd => Sys2Proof.Machine.execDcxSoftstartEnd s
  | .buckLive => Sys2Proof.Machine.execBuckLive s
  | .prechargeReached => Sys2Proof.Machine.execPrechargeReached s
  | .prechargeHoldEnd => Sys2Proof.Machine.execPrechargeHoldEnd s
  | .prechargeTimeout => Sys2Proof.Machine.execPrechargeTimeout s
  | .converterStopDone => Sys2Proof.Machine.execConverterStopDone s
  | .dcxFswWrite r => Sys2Proof.Machine.execDcxFswWrite r s
  | .axleEval => Sys2Proof.Machine.execAxleEval s
  | .hvilCurrentLoss => Sys2Proof.Machine.execHvilCurrentLoss s
  | .campEnter r => Sys2Proof.Machine.execCampEnter r s
  | .campLinkLow => Sys2Proof.Machine.execCampLinkLow s
  | .campLinkTimeout => Sys2Proof.Machine.execCampLinkTimeout s
  | .campEntryComplete rcps => Sys2Proof.Machine.execCampEntryComplete rcps s
  | .campWake x => Sys2Proof.Machine.execCampWake x s
  | .actPeriodStart n => Sys2Proof.Machine.execActPeriodStart n s
  | .actIlimit x => Sys2Proof.Machine.execActIlimit x s
  | .actItrip x => Sys2Proof.Machine.execActItrip x s
  | .actRefresh n leg => Sys2Proof.Machine.execActRefresh n leg s
  | .vgdLockout => Sys2Proof.Machine.execVgdLockout s
  | .vgdLockoutRelease => Sys2Proof.Machine.execVgdLockoutRelease s
  | .pumpEval => Sys2Proof.Machine.execPumpEval s
  | .pumpStart => Sys2Proof.Machine.execPumpStart s
  | .pumpBrakeEnd => Sys2Proof.Machine.execPumpBrakeEnd s
  | .pumpBrakeTimeout => Sys2Proof.Machine.execPumpBrakeTimeout s
  | .parklockReport => Sys2Proof.Machine.execParklockReport s
  | .parklockEngage r => Sys2Proof.Machine.execParklockEngage r s
  | .parklockRelease r => Sys2Proof.Machine.execParklockRelease r s
  | .parklockTargetReached => Sys2Proof.Machine.execParklockTargetReached s
  | .parklockTravelTimeout => Sys2Proof.Machine.execParklockTravelTimeout s
  | .parklockInterlock => Sys2Proof.Machine.execParklockInterlock s
  | .clutchClose r => Sys2Proof.Machine.execClutchClose r s
  | .clutchTorqueUpdate => Sys2Proof.Machine.execClutchTorqueUpdate s
  | .clutchMatch => Sys2Proof.Machine.execClutchMatch s
  | .clutchClosed => Sys2Proof.Machine.execClutchClosed s
  | .clutchRetry => Sys2Proof.Machine.execClutchRetry s
  | .clutchSyncTimeout => Sys2Proof.Machine.execClutchSyncTimeout s
  | .clutchTravelTimeout => Sys2Proof.Machine.execClutchTravelTimeout s
  | .clutchOpen r => Sys2Proof.Machine.execClutchOpen r s
  | .clutchUnload => Sys2Proof.Machine.execClutchUnload s
  | .lockstepFault => Sys2Proof.Machine.execLockstepFault s
  | .watchdogWindow proc x => Sys2Proof.Machine.execWatchdogWindow proc x s
  | .waybillCommand x => Sys2Proof.Machine.execWaybillCommand x s
  | .waybillStatusTimer p => Sys2Proof.Machine.execWaybillStatusTimer p s
  | .waybillWatchdog p => Sys2Proof.Machine.execWaybillWatchdog p s
  | .waybillConnect r => Sys2Proof.Machine.execWaybillConnect r s
  | .dischargeDone => Sys2Proof.Machine.execDischargeDone s
  | .dischargeTimeout => Sys2Proof.Machine.execDischargeTimeout s
  | .lockoutResetWrite r => Sys2Proof.Machine.execLockoutResetWrite r s
  | .tkOpen r => Sys2Proof.Machine.execTkOpen r s
  | .tkPropose r => Sys2Proof.Machine.execTkPropose r s
  | .tkApprove r => Sys2Proof.Machine.execTkApprove r s
  | .tkCommit r => Sys2Proof.Machine.execTkCommit r s
  | .tkCommitDone readOk => Sys2Proof.Machine.execTkCommitDone readOk s
  | .tkAbort r => Sys2Proof.Machine.execTkAbort r s
  | .tkTimeout => Sys2Proof.Machine.execTkTimeout s
  | .sealStageWrite r g => Sys2Proof.Machine.execSealStageWrite r g s
  | .checkValueRecompute => Sys2Proof.Machine.execCheckValueRecompute s
  | .faultRaise cls lvl scope rank detail => Sys2Proof.Machine.execFaultRaise cls lvl scope rank detail s
  | .faultCommit => Sys2Proof.Machine.execFaultCommit s
  | .tallyAck r => Sys2Proof.Machine.execTallyAck r s
  | .ethFrameRx x => Sys2Proof.Machine.execEthFrameRx x s
  | .ethLinkPoll x => Sys2Proof.Machine.execEthLinkPoll x s
  | .mdioRead r answer => Sys2Proof.Machine.execMdioRead r answer s
  | .mdioWrite r answered => Sys2Proof.Machine.execMdioWrite r answered s
  | .arpRx x => Sys2Proof.Machine.execArpRx x s
  | .arpRetry ip => Sys2Proof.Machine.execArpRetry ip s
  | .icmpEcho ip mac msg => Sys2Proof.Machine.execIcmpEcho ip mac msg s
  | .ptpSync x => Sys2Proof.Machine.execPtpSync x s
  | .ptpFollowUp x => Sys2Proof.Machine.execPtpFollowUp x s
  | .ptpAnnounce x => Sys2Proof.Machine.execPtpAnnounce x s
  | .ptpPdelayTimer t1 => Sys2Proof.Machine.execPtpPdelayTimer t1 s
  | .ptpPdelayReqRx x => Sys2Proof.Machine.execPtpPdelayReqRx x s
  | .ptpPdelayRespRx x => Sys2Proof.Machine.execPtpPdelayRespRx x s
  | .ptpReceiptTimeout announce => Sys2Proof.Machine.execPtpReceiptTimeout announce s
  | .timeSourceLost => Sys2Proof.Machine.execTimeSourceLost s
  | .timeSourceWrite r => Sys2Proof.Machine.execTimeSourceWrite r s
  | .canFrameRx cn x => Sys2Proof.Machine.execCanFrameRx cn x s
  | .canRefMessage cn x sof => Sys2Proof.Machine.execCanRefMessage cn x sof s
  | .canTxAttemptDone cn x sof => Sys2Proof.Machine.execCanTxAttemptDone cn x sof s
  | .canBusOff cn => Sys2Proof.Machine.execCanBusOff cn s
  | .canBusOffRecovery cn => Sys2Proof.Machine.execCanBusOffRecovery cn s
  | .canDetectAccept cn brs => Sys2Proof.Machine.execCanDetectAccept cn brs s
  | .canDetectDwell cn error => Sys2Proof.Machine.execCanDetectDwell cn error s
  | .canDetectTimeout cn => Sys2Proof.Machine.execCanDetectTimeout cn s
  | .canRefCycle cn => Sys2Proof.Machine.execCanRefCycle cn s
  | .thermalSample sensor x => Sys2Proof.Machine.execThermalSample sensor x s
  | .shutdownComparator sensor => Sys2Proof.Machine.execShutdownComparator sensor s
  | .outriderCycle => Sys2Proof.Machine.execOutriderCycle s
  | .outriderTest t elem pass mended blk => Sys2Proof.Machine.execOutriderTest t elem pass mended blk s
  | .spiFrame mosi => Sys2Proof.Machine.execSpiFrame mosi s
  | .spiFrameDiscard => Sys2Proof.Machine.execSpiFrameDiscard s
  | .registerWrite addr data => Sys2Proof.Machine.execRegisterWrite addr data s
  | .mboxSubmit data => Sys2Proof.Machine.execMboxSubmit data s
  | .mboxResponse => Sys2Proof.Machine.execMboxResponse s
  | .notePop data => Sys2Proof.Machine.execNotePop data s
  | .irqPendClear data => Sys2Proof.Machine.execIrqPendClear data s
  | .windowBind w data => Sys2Proof.Machine.execWindowBind w data s
  | .windowValWrite w high data => Sys2Proof.Machine.execWindowValWrite w high data s
  | .windowRefresh w => Sys2Proof.Machine.execWindowRefresh w s
  | .lowWordRead addr => Sys2Proof.Machine.execLowWordRead addr s
  | .laneTick => Sys2Proof.Machine.execLaneTick s
  | .faultInputRise k => Sys2Proof.Machine.execFaultInputRise k s
  | .clutchReport => Sys2Proof.Machine.execClutchReport s
  | .canBusIntegration cn => Sys2Proof.Machine.execCanBusIntegration cn s
  | .canReceiveError cn => Sys2Proof.Machine.execCanReceiveError cn s
  | .ethTxDone => Sys2Proof.Machine.execEthTxDone s
  | .sdcClockReturn k => Sys2Proof.Machine.execSdcClockReturn k s
  | .hvilCurrentReturn => Sys2Proof.Machine.execHvilCurrentReturn s
  | .arpEntryExpiry ip => Sys2Proof.Machine.execArpEntryExpiry ip s

end Sys2Proof.Machine
end

