-- ==== Sys2Proof/Safety.lean ====
section
/-! DEFINITION. What the statements speak of: a request that is served, canonical tables, and what a command leaves alone. -/

namespace Sys2Proof.Machine

/-- A WRITE-type request is admitted and passes checks 1 to 7 of R105: the state in which its effect begins, and the request
as the queue held it. -/
def served (s : State) (r : Req) (idx sub : Nat) : Option (State × QReq) :=
  match admitted s r 2 idx sub with
  | (s1, some q) => if checkWrite s1 q = 0 then some (s1, q) else none
  | _ => none

/-- The tables of function states, of the values in effect and of the persisted values are in canonical form: keys strictly
rising, and no entry equal to what an unlisted key reads as. -/
def canonical (s : State) : Prop :=
  tabWf (fun _ => FnSt.idle) s.fns = true ∧ tabWf dfltAt s.objs = true ∧ tabWf dfltAt s.mram = true

/-- Everything a power cycle or a reset leaves as it was: the fuses as blown, the MRAM, the key slots, the LOCKOUT record and
its log, the confirmed check value and the queue, with what a twin-key commit under way put into effect (R45, R93, R118, R519,
R542). -/
def survives (s t : State) : Prop :=
  t.fuse.words = s.fuse.words ∧ t.fuse.crc = s.fuse.crc ∧ t.mram = (commitKept s).mram ∧ t.led.keySlots = s.led.keySlots
    ∧ t.tally.lockRec = s.tally.lockRec ∧ t.tally.log = s.tally.log ∧ t.saf.confirmed = (commitKept s).saf.confirmed
    ∧ t.pending = s.pending

/-- Every session slot is free, no block is shored, and every function is IDLE. -/
def cleared (s : State) : Prop := (∀ n, (sess s n).st = 0) ∧ s.led.shored = [] ∧ ∀ f, fnState s f = .idle

end Sys2Proof.Machine
end

