-- ==== Sys2Proof/Certificates/Slice0/Obligations.lean ====
section
/-! DEFINITION. The statements about the model, for the provers. -/

open Sys2Proof Sys2Proof.Machine

/-- For every command c and state s, step of s with c put at the front of its queue is exec of c on s with the queue as it was: the queue is first in, first out, and a step takes exactly one command. On an empty queue a step answers next with the state unchanged, which is the model's choice of log 3. -/
def Obligations.StepRunsFront : Prop :=
  ∀ (c : Instr) (s : State), step { s with pending := c :: s.pending } = exec c s ∧ (s.pending = [] → step s = .next s)

/-- State.reset is the device in OFF with its power-up controller idle: every function is IDLE, every session slot is free, no block is shored, every key of the Tally is inactive, the MRAM and the object store list nothing, and the queue is empty. OFF itself, the values of registers the spec gives no reset value and the controller's start are the model's choices of log entries 1 and 10. -/
def Obligations.ResetState : Prop :=
  State.reset.dev = .off ∧ State.reset.power.ctl = .idle ∧ cleared State.reset ∧ (∀ k, keyAt State.reset k = {})
    ∧ State.reset.mram = [] ∧ State.reset.objs = [] ∧ State.reset.pending = []

/-- The canonical form of the function table, of the object store and of the MRAM holds at State.reset. The canonical form is the model's own (its tables), not the spec's. -/
def Obligations.CanonicalAtReset : Prop :=
  canonical State.reset

/-- For every state whose function table, object store and MRAM are in canonical form (keys strictly rising, no entry equal to what an unlisted key reads as), the next state of a step is so too. Equal contents are then equal data, whatever commands led to them. -/
def Obligations.CanonicalKept : Prop :=
  ∀ s t : State, canonical s → step s = .next t → canonical t

/-- For every command c and state s, when exec of c on s answers next t, the queue of t is the queue of s: what a command does, it does on everything but the queue. -/
def Obligations.QueueKept : Prop :=
  ∀ (c : Instr) (s t : State), exec c s = .next t → t.pending = s.pending

/-- For every command and every state, exec answers a next state: no command of the table stops the model. Where the spec gives a command no effect in a state, the next state is the one before it. -/
def Obligations.EveryCommandAnswersNext : Prop :=
  ∀ (c : Instr) (s : State), ∃ t, exec c s = .next t

/-- For every command but TK_COMMIT_DONE and every state, the seal words as blown and their blown CRC words are the same after the command. Seal fuses are blown at the end of a twin-key commit and nowhere else. -/
def Obligations.FusesOnlyByCommit : Prop :=
  ∀ (c : Instr) (s t : State), (∀ b, c ≠ .tkCommitDone b) → exec c s = .next t →
    t.fuse.words = s.fuse.words ∧ t.fuse.crc = s.fuse.crc

/-- For every command and every state, the key slots (their state, their roles and their key identifiers) are the same after the command: the Ledger has no service that installs or removes a key. -/
def Obligations.KeySlotsNeverChange : Prop :=
  ∀ (c : Instr) (s t : State), exec c s = .next t → t.led.keySlots = s.led.keySlots

/-- (1) VBAT_RISE in OFF with the controller idle and PORST_N high starts power-up: VBAT is noted, PMIC_EN goes high, ERR_N is held low and the controller waits for PMIC_PG; while PORST_N is low it notes VBAT, and in OFF holds ERR_N low. (2) PORST_N_RELEASE in OFF with the controller idle and VBAT noted starts it in the same way. (3) PMIC_PG_RISE moves on to the crystal, (4) CRYSTAL_QUALIFIED to the PLLs. (5) POWER_UP_RETRY after the wait, and (6) WAKE_RESTART after three failures, start again at step 2. (7) POWER_UP_ATTEMPT_FAIL drops PMIC_EN, forgets the reference sample and the crystal and counts the failure; at the third consecutive failure the controller is parked. Each conclusion gives the whole next state. -/
def Obligations.PowerUpSequence : Prop :=
  ∀ s : State,
    (s.dev = .off → s.power.ctl = .idle → s.power.porstLow = false →
      exec .vbatRise s = .next { s with power := { s.power with
        vbat := true, ctl := .waitPg, pmicEn := true, pmicPg := false, errnHeld := true } })
    ∧ (s.power.porstLow = true → exec .vbatRise s = .next { s with power := { s.power with
        vbat := true, errnHeld := s.power.errnHeld || decide (s.dev = .off) } })
    ∧ (s.dev = .off → s.power.ctl = .idle → s.power.vbat = true →
      exec .porstNRelease s = .next { s with power := { s.power with
        porstLow := false, ctl := .waitPg, pmicEn := true, pmicPg := false, errnHeld := true } })
    ∧ (s.power.ctl = .waitPg → exec .pmicPgRise s = .next { s with power := { s.power with ctl := .waitXtal, pmicPg := true } })
    ∧ (s.power.ctl = .waitXtal →
      exec .crystalQualified s = .next { s with power := { s.power with ctl := .waitPll, xtalOk := true } })
    ∧ (s.power.ctl = .retryWait →
      exec .powerUpRetry s = .next { s with power := { s.power with
        ctl := .waitPg, pmicEn := true, pmicPg := false, errnHeld := true } })
    ∧ (s.power.ctl = .parked →
      exec .wakeRestart s = .next { s with power := { s.power with
        attempts := 0, ctl := .waitPg, pmicEn := true, pmicPg := false, errnHeld := true } })
    ∧ (s.power.ctl = .waitPg ∨ s.power.ctl = .waitXtal ∨ s.power.ctl = .waitPll →
      exec .powerUpAttemptFail s = .next { s with power := { s.power with
        ctl := if s.power.attempts < 2 then .retryWait else .parked, attempts := s.power.attempts + 1,
        failures := min 255 (s.power.failures + 1), pmicEn := false, pmicPg := false, refSampled := false,
        refExternal := false, xtalOk := false } })

/-- VBAT_FALL, PORST_N_LOW, and PMIC_PG_LOSS in a state other than OFF and CAMP answer toOff of the state (with VBAT noted low, or PORST_N noted low and ERR_N held low unless the device was in OFF already). toOff puts any state into OFF: the controller is idle, PMIC_EN is low, the lanes stand in the state of R64, device time is 0, every session slot is free, no block is shored, every function is IDLE, and the fuses, MRAM, key slots, the LOCKOUT record and its log, the confirmed check value and the queue are as they were, MRAM and the check value with what a twin-key commit past its commit instant put into effect (commitKept: R519, log 124; no such commit, nothing). PMIC_PG_LOSS in OFF only notes the level (log 96). -/
def Obligations.PowerLossEntersOff : Prop :=
  ∀ s : State,
    (let t := toOff s 1;
      exec .vbatFall s = .next { t with power := { t.power with vbat := false } })
    ∧ (let t := toOff s (if s.dev = .off ∧ s.power.ctl = .idle then s.power.cause else 2);
      exec .porstNLow s = .next { t with power := { t.power with
        porstLow := true, errnHeld := s.power.errnHeld || decide (s.dev ≠ .off) } })
    ∧ (s.dev ≠ .off → s.dev ≠ .camp → exec .pmicPgLoss s = .next (toOff s 3))
    ∧ (s.dev = .off → exec .pmicPgLoss s = .next { s with power := { s.power with pmicPg := false } })
    ∧ (∀ c, (toOff s c).dev = .off ∧ (toOff s c).power.ctl = .idle ∧ (toOff s c).power.pmicEn = false
      ∧ (toOff s c).power.laneR64 = true ∧ (toOff s c).dt = 0 ∧ cleared (toOff s c) ∧ survives s (toOff s c))
    ∧ (s.saf.committing = none → commitKept s = s)

/-- PLL_LOCK while the controller waits for it answers enterBoot with the noted cause, after a camp wake with device time loaded first (campLoad), and raises CLK at L1 after a camp wake that lost the crystal. SRST_N_RELEASE after an accepted reset answers enterBoot with cause 4 (and, where a crystal was lost meanwhile, the CLK that lostCrystal raises); out of LOCKOUT, leaveLockout clears the current LOCKOUT record first. enterBoot puts any state into BOOT: the controller runs, no reset is held, the lanes stand in the state of R64, ERR_N is held low, System.Boot.Cause holds the cause, device time is 0 (after a camp wake, cause 6, it goes on), every session slot is free, no block is shored, every function is IDLE, and the fuses, MRAM, key slots, the LOCKOUT record and its log, the confirmed check value and the queue are as they were, MRAM and the check value with what a twin-key commit past its commit instant put into effect (commitKept: R519, log 124; no such commit, nothing). SRST_N_ACCEPT while the device runs notes the held reset, the lanes' state and the held ERR_N and nothing else; while it does not run it changes nothing. -/
def Obligations.ResetAndPllLockEnterBoot : Prop :=
  ∀ (s : State) (us : Nat),
    (s.power.ctl = .waitPll →
      let a := if s.power.cause = 6 then campLoad s us else s
      let b := enterBoot { a with power := { a.power with pllLock := true } } s.power.cause us
      exec (.pllLock us) s = .next (if s.power.cause = 6 ∧ s.camp.lost = true then
        raiseEv { b with camp := { b.camp with lost := false } } .clk 1 0 7 0x22000C00 else b))
    ∧ (s.power.srstHeld = true → s.dev ≠ .lockout → exec .srstNRelease s = .next (lostCrystal (enterBoot s 4 0)))
    ∧ (s.power.srstHeld = true → s.dev = .lockout →
      exec .srstNRelease s = .next (lostCrystal (enterBoot (leaveLockout s 1) 4 0)))
    ∧ (leaveLockout s 1).tally.lockRec = none
    ∧ (s.power.x32Lost = false → lostCrystal s = s)
    ∧ (running s = true →
      exec .srstNAccept s = .next { s with power := { s.power with srstHeld := true, laneR64 := true, errnHeld := true } })
    ∧ (running s = false → exec .srstNAccept s = .next s)
    ∧ (∀ c, let b := enterBoot s c us
      b.dev = .boot ∧ b.power.ctl = .running ∧ b.power.srstHeld = false ∧ b.power.laneR64 = true ∧ b.power.errnHeld = true
      ∧ b.dt = (if c = 6 then s.dt else 0) ∧ (c < 256 → ob b 0x2020 1 = c) ∧ cleared b ∧ survives s b)
    ∧ (s.saf.committing = none → commitKept s = s)

/-- SEAL_FUSE_LOAD in BOOT loads the seals and ends the state of R64. FIRMWARE_VERIFIED in BOOT with the seals loaded enters CHECK with the valid bank that bankChoice names, notes whether it is the other bank than the selected one and writes System.Boot.Bank and .Version; when neither is valid it changes nothing. VDD_REF_SAMPLE, once per power-up, at or above 2.0 V takes VDD_REF as the reference and below takes the internal driver, and shows the choice in System.Boot once the device runs. X32_QUALIFIED outside OFF switches AON to the crystal, noted where it comes in CAMP, and X32_TIMEOUT leaves it on the RC, the first of them in a power-up. X32_LOSS in a running device switches back and raises CLK at L1; while a reset holds the device it switches back and notes the loss. -/
def Obligations.StartUpToCheck : Prop :=
  ∀ (s : State) (mv : Nat),
    (s.dev = .boot → s.power.laneR64 = true → s.power.srstHeld = false →
      exec .sealFuseLoad s = .next { s with fuse := loadSeals s.fuse, power := { s.power with laneR64 := false } })
    ∧ (∀ b, s.dev = .boot → s.power.laneR64 = false → s.power.srstHeld = false → bankChoice s = some b →
      exec .firmwareVerified s = .next (setDev (putOb (putOb { s with fw := { s.fw with
        running := some b, fallback := decide (b ≠ s.fw.selector % 2) } } 0x2020 2 b) 0x2020 3 (Config.fwVersion b).toNat) .check))
    ∧ (bankChoice s = none → exec .firmwareVerified s = .next s)
    ∧ (s.power.pmicPg = true → s.power.refSampled = false →
      let u := { s with power := { s.power with
        refSampled := true, refExternal := decide (2000 ≤ mv), refUv := if 2000 ≤ mv then mv * 1000 else 2500000 } }
      (running s = false → exec (.vddRefSample mv) s = .next u)
      ∧ (running s = true → exec (.vddRefSample mv) s = .next (putOb u 0x2020 8 (if 2000 ≤ mv then 1 else 0))))
    ∧ (s.dev ≠ .off → s.power.x32Given = false →
      exec .x32Qualified s = .next (putOb { s with
        power := { s.power with x32On := true, x32Given := true },
        camp := { s.camp with qual := s.camp.qual || decide (s.dev = .camp) } } 0x2020 7 0)
      ∧ exec .x32Timeout s = .next { s with power := { s.power with x32Given := true } })
    ∧ (running s = true → s.power.x32On = true →
      exec .x32Loss s = .next (raiseEv (putOb { s with power := { s.power with x32On := false } } 0x2020 7 1) .clk 1 0 7 0x20200700))
    ∧ (running s = false → s.power.srstHeld = true → s.power.x32On = true →
      exec .x32Loss s = .next (putOb { s with power := { s.power with x32On := false, x32Lost := true } } 0x2020 7 1))

/-- CHECK_COMPLETE in CHECK without a held reset. Blocks with an unreadable configuration area are forgotten first. Where a check of R78 ends in LOCKOUT (checkLockout names the first with its bit and fault, other than a LOCKOUT record), System.Boot.Check takes its bit, its fault is raised at L5, then the faults of unreadable blocks and corrected words, and ERR_N is released to the Tally; with an empty Tally the device is then in LOCKOUT. Where none does, the persisted values are restored, the check value of Plumb is computed, System.Boot.Check takes its bits, PREOP is entered by enterPreop and checkFaults raises the faults of the remaining checks. In another state CHECK_COMPLETE changes nothing. CLOCK_SUPERVISION_FAULT in a running device outside LOCKOUT sets Plumb's override and raises CLK at L5 without a function; otherwise it changes nothing. -/
def Obligations.CheckEndsInLockoutOrPreop : Prop :=
  ∀ (s : State) (x : CheckFind),
    let s0 := x.cfgUncorr.foldl forgetBlock s
    let done (t : State) : State :=
      let u := mramCorrected (cfgFaults t x.cfgUncorr) x.corrected
      { u with power := { u.power with errnHeld := false } }
    (s.dev = .check → s.power.srstHeld = false →
      (∀ b c scope rank, checkLockout s0 x = some (b, c, scope, rank) → b ≠ 15 →
        exec (.checkComplete x) s = .next (done (raiseEv (putCheck s0 (2 ^ b)) c 5 scope rank 0))
        ∧ (s.tally.raised = [] → s.tally.keys = [] → (raiseEv (putCheck s0 (2 ^ b)) c 5 scope rank 0).dev = .lockout))
      ∧ (checkLockout s0 x = none →
        let u := restoreCfg s0
        let v := { u with saf := { u.saf with computed := checkValue u } }
        let blank := (List.range 11).any (fun g => decide (groupState s0 g = 0))
        let standby := match s0.fw.running with | none => true | some b => !bankValid s0 (1 - b)
        let w := putCheck v (checkBits s + bitAt blank 10 + bitAt standby 9 + bitAt (!x.cfgUncorr.isEmpty) 8
          + bitAt (!chkOk v) 6 + bitAt (!x.selfTest.isEmpty) 5)
        exec (.checkComplete x) s = .next (checkFaults (enterPreop w) x blank standby (!chkOk v))))
    ∧ (s.dev ≠ .check → exec (.checkComplete x) s = .next s)
    ∧ (running s = true → s.dev ≠ .lockout →
      exec .clockSupervisionFault s = .next (raiseEv { s with power := { s.power with override := true } } .clk 5 0 0 0))
    ∧ (running s = false ∨ s.dev = .lockout → exec .clockSupervisionFault s = .next s)

/-- A frame that belongs to an open or pending session in a serving device, whose bytes are ready (rxReady): with a wrong tag, or with a FRESH not above the latest accepted, it is dropped and counted (dropFrame: Session.Rejected, and the eighth in a row closes the session). With the right tag and a higher FRESH, a request frame takes the session's FRESH and receive stamp, opens a pending session, and puts its message into the queue, marked where its FRESH is the last. A frame that belongs to no session, or is not ready, changes nothing. -/
def Obligations.FrameAcceptedOrDropped : Prop :=
  ∀ (s : State) (x : LFrame),
    let n := x.session.toNat
    let bytes := frameBody x ++ (leBytes 8 x.tag.toNat).reverse
    let s1 := (takeRx s x.tr bytes).2
    let rx := (takeRx s x.tr bytes).1
    ((serving s = false ∨ framePathOk s x = false ∨ rxReady s x.tr bytes = false) → exec (.ledgerFrameRx x) s = .next s)
    ∧ (serving s = true → framePathOk s x = true → rxReady s x.tr bytes = true →
        (Config.cmac (sess s n).key (frameBody x) ≠ x.tag ∨ x.fresh.toNat ≤ (sess s n).rxFresh) →
        exec (.ledgerFrameRx x) s = .next (dropFrame s1 n))
    ∧ (serving s = true → framePathOk s x = true → rxReady s x.tr bytes = true →
        Config.cmac (sess s n).key (frameBody x) = x.tag → (sess s n).rxFresh < x.fresh.toNat → x.vk.toNat % 16 = 1 →
        exec (.ledgerFrameRx x) s = .next (enqueue (setSess s1 n { sess s n with
          rxFresh := x.fresh.toNat, drops := 0, lastRx := rx, mac := x.mac, ending := false, st := 2 }) n rx x.xl x.mac x.payload
          (decide (x.fresh = 0xFFFFFFFF))))

/-- A READ that is admitted: checks 1 to 5 of R105 (checkRead), then the length of its DATA, then the object's own condition are applied in that order and the first that fails gives the abort; a value longer than the transport's largest DATA is refused with 0x0100_0006; else the response carries the object's type and value. A BLOCK_READ at offset 0 with no transfer running snapshots the value and sends its first segment, and one at a later offset in the running transfer of its object sends the segment there, unless the object's own condition refuses it. -/
def Obligations.ReadAnswersValue : Prop :=
  ∀ (s s1 : State) (r : Req) (idx sub : Nat) (q : QReq),
    (admitted s r 1 idx sub = (s1, some q) →
      (checkRead s1 q ≠ 0 → exec (.read r idx sub) s = .next (refuse s1 q (checkRead s1 q)))
      ∧ (checkRead s1 q = 0 → q.data ≠ [] → exec (.read r idx sub) s = .next (refuse s1 q 0x01000002))
      ∧ (checkRead s1 q = 0 → q.data = [] → readCond s1 idx sub ≠ 0 →
          exec (.read r idx sub) s = .next (refuse s1 q (readCond s1 idx sub)))
      ∧ (∀ w, checkRead s1 q = 0 → q.data = [] → readCond s1 idx sub = 0 → rowOf idx sub = some w →
          let v := valueBytes s1 (oaddr idx sub) w
          exec (.read r idx sub) s = .next (if maxData (sess s1 q.ses).tr q.xl < v.length then refuse s1 q 0x01000006
            else readTake (reply s1 q (tyAt s1 (oaddr idx sub) w.ty) v) idx sub)))
    ∧ (∀ w, admitted s r 3 idx sub = (s1, some q) → checkRead s1 q = 0 → q.data.length = 6 → leNat (q.data.take 4) = 0 →
        xferOf s1 q.ses = none → readCond s1 idx sub = 0 → rowOf idx sub = some w →
        let v := valueBytes s1 (oaddr idx sub) w
        exec (.blockRead r idx sub) s = .next (sendSegment (if idx = 0x6801 then readTake s1 idx sub else s1) q
          { write := false, idx := idx, sub := sub, total := v.length, bytes := v, lastAt := now s1, timedOut := false } 0
          (leNat (q.data.drop 4))))
    ∧ (∀ w x, admitted s r 3 idx sub = (s1, some q) → checkRead s1 q = 0 → q.data.length = 6 → leNat (q.data.take 4) ≠ 0 →
        xferOf s1 q.ses = some x → x.timedOut = false → x.write = false → x.idx = idx → x.sub = sub →
        leNat (q.data.take 4) < x.total → rowOf idx sub = some w →
        exec (.blockRead r idx sub) s = .next (if readCond s1 idx sub ≠ 0 then refuse s1 q (readCond s1 idx sub)
          else sendSegment s1 q x (leNat (q.data.take 4)) (leNat (q.data.drop 4))))

/-- A WRITE that is admitted and fails one of checks 1 to 7 of R105 is answered with that check's code and changes nothing else; one that passes them has its object's effect (objEffect), whose own condition, check 8, gives the code of the response: the response is sent from the state in which the value is already in place. One plain RW object, System.Hvil.Close, while its block is unshored: it then holds the written value, every other object reads as before, and nothing but the object store changes. -/
def Obligations.WriteTakesEffectAndAnswers : Prop :=
  ∀ (s s1 : State) (r : Req) (idx sub : Nat) (q : QReq),
    (admitted s r 2 idx sub = (s1, some q) → checkWrite s1 q ≠ 0 →
      exec (.write r idx sub) s = .next (refuse s1 q (checkWrite s1 q)))
    ∧ (∀ w, served s r idx sub = some (s1, q) → rowOf idx sub = some w →
      exec (.write r idx sub) s = .next (conclude (objEffect s1 q).1 q w.ty (objEffect s1 q).2))
    ∧ (∀ v, canonical s → isShored s 0x2200 = false → q.idx = 0x2201 → q.sub = 1 → q.ty = 1 →
      q.data = [BitVec.ofNat 8 v] → v ≤ 1 →
      let e := objEffect s q
      e.2 = 0 ∧ ob e.1 0x2201 1 = v ∧ (∀ a, a ≠ oaddr 0x2201 1 → cellAt e.1 a = cellAt s a) ∧ e.1 = { s with objs := e.1.objs })

/-- A BLOCK_WRITE segment admitted with its checks passed: with no transfer running it is a start (startBlock); in the running transfer of the same object, the segment at the next offset is taken, and the one that reaches the total applies the whole value at once; a segment out of sequence ends the transfer with 0x0100_0003; one for another object is refused with 0x0300_000B. BLOCK_TRANSFER_TIMEOUT after a gap of more than 1 s ends the transfer: its next segment, other than a new start, is answered 0x0100_0004. -/
def Obligations.BlockWriteAppliesWhole : Prop :=
  ∀ (s s1 : State) (r : Req) (idx sub : Nat) (q : QReq),
    (admitted s r 4 idx sub = (s1, some q) → checkBlock s1 q = 0 → 4 ≤ q.data.length →
      (xferOf s1 q.ses = none → exec (.blockWrite r idx sub) s = .next (startBlock s1 q))
      ∧ (∀ x, xferOf s1 q.ses = some x → x.timedOut = false → x.write = true → x.idx = q.idx → x.sub = q.sub →
          leNat (q.data.take 4) ≠ 0xFFFFFFFF →
          let part := q.data.drop 4
          (leNat (q.data.take 4) = x.bytes.length → x.bytes.length + part.length = x.total →
            exec (.blockWrite r idx sub) s = .next (applyBlock (setXfer s1 q.ses none) q (x.bytes ++ part)))
          ∧ (leNat (q.data.take 4) = x.bytes.length → x.bytes.length + part.length < x.total →
            exec (.blockWrite r idx sub) s = .next (reply (setXfer s1 q.ses (some { x with
              bytes := x.bytes ++ part, lastAt := q.stamp })) q q.ty.toNat []))
          ∧ (leNat (q.data.take 4) ≠ x.bytes.length →
            exec (.blockWrite r idx sub) s = .next (refuse (setXfer s1 q.ses none) q 0x01000003)))
      ∧ (∀ x, xferOf s1 q.ses = some x → x.timedOut = false → x.idx ≠ q.idx →
          exec (.blockWrite r idx sub) s = .next (refuse s1 q 0x0300000B))
      ∧ (∀ x, xferOf s1 q.ses = some x → x.timedOut = true → leNat (q.data.take 4) ≠ 0xFFFFFFFF →
          exec (.blockWrite r idx sub) s = .next (refuse (setXfer s1 q.ses none) q 0x01000004)))
    ∧ (∀ n x, xferOf s n = some x → x.lastAt + 1000000000 < now s →
      exec (.blockTransferTimeout n) s = .next (setXfer s n (some { x with timedOut := true, bytes := [] })))

/-- A SUBSCRIBE that passes the checks of a READ, with a valid mode and interval, an object of fixed size and room under both limits, takes the lowest number its session does not hold, is answered with it and notifies at once. An UNSUBSCRIBE of a held number ends it; of another it is refused with 0x0200_0006. At the end of an interval a periodic subscription notifies; an on-change one notifies when the value or its sideband differs from the last notified. TIME answers the receive stamp and the transmit stamp. -/
def Obligations.SubscriptionsNotify : Prop :=
  ∀ (s s1 : State) (r : Req) (idx sub : Nat) (q : QReq),
    (∀ w, admitted s r 5 idx sub = (s1, some q) → checkRead s1 q = 0 → q.data.length = 4 →
        leNat ((q.data.drop 1).take 1) = 0 → leNat (q.data.take 1) ≤ 1 → 10 ≤ leNat (q.data.drop 2) →
        leNat (q.data.drop 2) ≤ 60000 → rowOf idx sub = some w → w.ty ≠ 11 → w.ty ≠ 12 →
        (s1.led.subs.filter (fun u => decide (u.ses = q.ses))).length < 16 → s1.led.subs.length < 64 →
        let u : Sub := {
          ses := q.ses, num := freeSubNum s1 q.ses, idx := idx, sub := sub,
          periodic := decide (leNat (q.data.take 1) = 1), interval := leNat (q.data.drop 2),
          last := cellRead s1 (oaddr idx sub), due := now s1 + leNat (q.data.drop 2) * 1000000 }
        let s2 := { s1 with led := { s1.led with subs := s1.led.subs ++ [u] } }
        exec (.subscribe r idx sub) s = .next (notify (reply s2 q (tyAt s2 (oaddr idx sub) w.ty) (leBytes 1 u.num)) u))
    ∧ (admitted s r 6 0 0 = (s1, some q) → q.data.length = 1 →
        exec (.unsubscribe r) s = .next (
          if s1.led.subs.any (fun u => decide (u.ses = q.ses) && decide (u.num = leNat q.data)) then
            reply { s1 with led := { s1.led with
              subs := s1.led.subs.filter (fun u => !(decide (u.ses = q.ses) && decide (u.num = leNat q.data))) } } q 0 []
          else refuse s1 q 0x02000006))
    ∧ (∀ n k u, s.led.subs.find? (fun e => decide (e.ses = n) && decide (e.num = k)) = some u → serving s = true →
        u.due ≤ now s →
        let v := cellRead s (oaddr u.idx u.sub)
        let u' := { u with due := u.due + u.interval * 1000000, last := v }
        let t := { s with led := { s.led with subs := s.led.subs.map (fun e => if e = u then u' else e) } }
        exec (.subscriptionSample n k) s = .next (if u.periodic || decide (v ≠ u.last) then notify t u' else t))
    ∧ (admitted s r 7 0 0 = (s1, some q) → hasRole s1 q.ses 1 = true → q.data = [] →
        exec (.time r) s = .next (reply s1 q 0 (leBytes 8 q.stamp ++ leBytes 8 (now s1))))

/-- A well-formed OPEN that reaches its service over a network, with a loaded key slot and its tag, takes the lowest free slot as a pending session and is answered; with every slot in use it is refused with 0x0300_0003 and counted; with a wrong tag it is refused with 0x0400_0001 and counted; with key slot 0 or an empty one with 0x0400_0003. One on the host port with key slot 0xFF takes an open session without a key while none is open there, and is refused with 0x0300_0003 otherwise. A malformed one is refused with 0x0100_0002, and one that does not reach its service changes nothing. CLOSE without DATA is answered and the session closes. A session without an accepted frame for its timeout closes, and a pending one after 100 ms. -/
def Obligations.SessionsOpenAndClose : Prop :=
  ∀ (s s1 : State) (r : Req) (x : OpenReq) (q : QReq) (n : Nat),
    let k := openSlotNo x
    let okMsg := msgHead 0x88 (openReqid x) 0 0 0 ++ openData s x n
    (serving s = true → openPathOk s x = true →
      (openBad x = true → exec (.open x) s = .next (refuseOpen s x none 0x01000002))
      ∧ (openBad x = false → x.frame.tr ≠ .host →
        (k = 0 ∨ (tabGet ({} : KeySlot) s.led.keySlots k).state ≠ 1 →
          exec (.open x) s = .next (refuseOpen s x none 0x04000003))
        ∧ (k ≠ 0 → k ≤ 15 → (tabGet ({} : KeySlot) s.led.keySlots k).state = 1 →
          (Config.cmac (Config.slotKey k) (frameBody x.frame) ≠ x.frame.tag → exec (.open x) s = .next
            (refuseOpen { s with led := { s.led with authFails := (s.led.authFails + 1) % 2 ^ 32 } } x none 0x04000001))
          ∧ (Config.cmac (Config.slotKey k) (frameBody x.frame) = x.frame.tag → freeSession s = none → exec (.open x) s = .next
            (refuseOpen { s with led := { s.led with noSlot := (s.led.noSlot + 1) % 2 ^ 32 } } x (some (Config.slotKey k))
              0x03000003))
          ∧ (Config.cmac (Config.slotKey k) (frameBody x.frame) = x.frame.tag → freeSession s = some n →
            exec (.open x) s = .next (sendOpen (openSlot s x n) x n (some (Config.slotKey k)) okMsg))))
      ∧ (openBad x = false → x.frame.tr = .host → k = 0xFF →
        (hostOpen s = true → exec (.open x) s = .next (refuseOpen s x none 0x03000003))
        ∧ (hostOpen s = false → freeSession s = some n →
          exec (.open x) s = .next (sendOpen (openSlot s x n) x n none okMsg))))
    ∧ (serving s = false ∨ openPathOk s x = false → exec (.open x) s = .next s)
    ∧ (admitted s r 9 0 0 = (s1, some q) → q.data = [] → exec (.close r) s = .next (closeSession (reply s1 q 0 []) q.ses))
    ∧ ((sess s n).st ≠ 0 → (sess s n).lastRx + (sess s n).timeout * 1000000 ≤ now s →
      exec (.sessionTimeout n) s = .next (closeSession s n))
    ∧ ((sess s n).st = 1 → (sess s n).opened + 100000000 ≤ now s →
      exec (.pendingSessionTimeout n) s = .next (closeSession s n))

/-- A write to System.StateRequest that passes its checks: a request for the state the device is in is accepted and changes nothing; OPERATIONAL is refused with 0x0300_0005 while block 0x6000 is shored, then with 0x0500_0001 while the computed and the confirmed check value differ, and else entered; PREOP is refused with 0x0300_0001 while a function is in ARMED or RUN, and else entered (showFailures, R74, hostRestore, R636, ascCheck, R378, and wbInitiate, R504). -/
def Obligations.StateRequestDecides : Prop :=
  ∀ (s s1 : State) (r : Req) (q : QReq), served s r 0x2001 0 = some (s1, q) →
    let v := leNat q.data
    (v = devCode s1.dev → exec (.stateRequest r) s = .next (reply s1 q 2 []))
    ∧ (v = 5 → v ≠ devCode s1.dev → isShored s1 0x6000 = true → exec (.stateRequest r) s = .next (refuse s1 q 0x03000005))
    ∧ (v = 5 → v ≠ devCode s1.dev → isShored s1 0x6000 = false → s1.saf.computed ≠ s1.saf.confirmed →
        exec (.stateRequest r) s = .next (refuse s1 q 0x05000001))
    ∧ (v = 5 → v ≠ devCode s1.dev → isShored s1 0x6000 = false → s1.saf.computed = s1.saf.confirmed →
        exec (.stateRequest r) s = .next (reply (setDev s1 .operational) q 2 []))
    ∧ (v = 4 → v ≠ devCode s1.dev → fnAll.any (fnLive s1) = true → exec (.stateRequest r) s = .next (refuse s1 q 0x03000001))
    ∧ (v = 4 → v ≠ devCode s1.dev → fnAll.any (fnLive s1) = false →
        exec (.stateRequest r) s = .next (reply (wbInitiate (ascCheck (ascCheck (hostRestore (showFailures (setDev s1 .preop))) .a) .b)) q 2 []))

/-- A write to a function's command object that passes its checks. ARM where armOk holds has its effect (armEffect), puts the function into ARMED and is answered; where not it is refused with 0x0300_0005 and changes nothing else. RUN where runOk holds puts the function into RUN and starts it: a drive its release, the Charger a session, the Converter its start, the Pump its start run, the Park lock and the Clutch nothing more; where not it is refused with 0x0300_0005. STOP outside RUN is answered and changes nothing; in RUN a drive begins its controlled stop, the Charger and the Converter their stop towards ARMED, an actuator function enters ARMED with its commutator going off. DISARM in ARMED enters IDLE; in RUN it stops as STOP does, towards IDLE; elsewhere it is answered and changes nothing. armOk needs IDLE, OPERATIONAL, no fault of the function at L3 or above, no shored block and the interlocks (armInterlock); runOk needs ARMED. -/
def Obligations.FunctionCommandsDecide : Prop :=
  ∀ (s s1 : State) (r : Req) (f : Fn) (q : QReq),
    (armOk s f = true → fnState s f = .idle ∧ s.dev = .operational ∧ fnFaulted s f = false ∧ fnHeld s f = false
      ∧ armInterlock s f = true)
    ∧ (runOk s f = true → fnState s f = .armed)
    ∧ (served s (byteReq r 2 1) (cmdIdx f) 0 = some (s1, q) →
      (armOk s1 f = true → exec (.arm r f) s = .next (reply (setFn (armEffect s1 f) f .armed) q 2 []))
      ∧ (armOk s1 f = false → exec (.arm r f) s = .next (refuse s1 q 0x03000005)))
    ∧ (served s (byteReq r 2 2) (cmdIdx f) 0 = some (s1, q) →
      let u := setFn s1 f .run
      (runOk s1 f = true →
        (∀ d, f = drvFn d → exec (.run r f) s = .next (reply (drvStart u d) q 2 []))
        ∧ (f = .charger → exec (.run r f) s
          = .next (reply (startSession (sessionOver (chgOff u)) (decide (ob u 0x5003 1 = 1))) q 2 []))
        ∧ (f = .converter → exec (.run r f) s = .next (reply (cnvStart u) q 2 []))
        ∧ (f = .pump → exec (.run r f) s = .next (reply { u with pump := { u.pump with start := u.pump.on } } q 2 []))
        ∧ (f = .parkLock ∨ f = .clutch → exec (.run r f) s = .next (reply u q 2 [])))
      ∧ (runOk s1 f = false → exec (.run r f) s = .next (refuse s1 q 0x03000005)))
    ∧ (served s (byteReq r 2 3) (cmdIdx f) 0 = some (s1, q) →
      (fnState s1 f ≠ .run → exec (.stop r f) s = .next (reply s1 q 2 []))
      ∧ (fnState s1 f = .run →
        (∀ d, f = drvFn d → exec (.stop r f) s = .next (reply (drvStop s1 d false) q 2 []))
        ∧ (f = .charger → exec (.stop r f) s = .next (reply (chgStop s1 2 .armed) q 2 []))
        ∧ (f = .converter → exec (.stop r f) s = .next (reply (cnvStop s1 .armed) q 2 []))
        ∧ (∀ n, n < 3 → f = actFn n → exec (.stop r f) s = .next (reply (actStop s1 n .armed) q 2 []))))
    ∧ (served s (byteReq r 2 4) (cmdIdx f) 0 = some (s1, q) →
      (fnState s1 f = .armed → exec (.disarm r f) s = .next (reply (setFn s1 f .idle) q 2 []))
      ∧ (fnState s1 f ≠ .armed → fnState s1 f ≠ .run → exec (.disarm r f) s = .next (reply s1 q 2 []))
      ∧ (fnState s1 f = .run →
        (∀ d, f = drvFn d → exec (.disarm r f) s = .next (reply (drvStop s1 d true) q 2 []))
        ∧ (f = .charger → exec (.disarm r f) s
          = .next (reply (setChg (chgStop s1 2 .idle) (fun x => { x with after := .idle })) q 2 []))
        ∧ (f = .converter → exec (.disarm r f) s
          = .next (reply (setCnv (cnvStop s1 .idle) (fun x => { x with after := .idle })) q 2 []))
        ∧ (∀ n, n < 3 → f = actFn n → exec (.disarm r f) s = .next (reply (actStop s1 n .idle) q 2 []))))

/-- A write to Ledger.Shore: a value that names no block is refused with 0x0200_0006 outside LOCKOUT. One that passes its checks: one that a condition of R135 forbids (shoreCode) with that condition's code; else the block is entered as shored for the session with its answer waiting, a conversion instance of it that has not held its first step ends (stopUnheld), and its function goes from IDLE to SHORED; the Park lock's report is then unknown (parkLeft). SHORE_COMPLETE in a running device for a block none of whose conversion sequences runs answers completeShore, which for a block that is not shored is no change, and which marks the shore done and sends its answer; with a sequence of the block running it changes nothing. -/
def Obligations.ShoreAndComplete : Prop :=
  ∀ (s s1 : State) (r : Req) (q : QReq) (b : Nat),
    (admitted s r 2 0x1010 0 = (s1, some q) → s1.dev ≠ .lockout → shoreNoBlock q = true → exec (.shore r) s = .next (refuse s1 q 0x02000006))
    ∧ (served s r 0x1010 0 = some (s1, q) →
      let b := leNat q.data
      let s0 := stopUnheld s1 b
      let s2 := { s0 with led := { s0.led with
        shored := s0.led.shored ++ [{ blk := b, owner := some q.ses, done := false, stamp := now s1, req := some q }] } }
      (isBlock b = true → shoreCode s1 b ≠ 0 → exec (.shore r) s = .next (refuse s1 q (shoreCode s1 b)))
      ∧ (isBlock b = true → shoreCode s1 b = 0 → fnOfBlock b = none → exec (.shore r) s = .next s2)
      ∧ (∀ f, isBlock b = true → shoreCode s1 b = 0 → fnOfBlock b = some f →
          let u := if fnState s2 f = .idle then setFn s2 f .shored else s2
          exec (.shore r) s = .next (if f = .parkLock then
            parkLeft (parkReport s1) { u with plock := { u.plock with report := 0, inRel := 0, inEng := 0 } } else u)))
    ∧ (running s = true → shoreOf s b = none → exec (.shoreComplete b) s = .next s)
    ∧ (running s = true → seqRunning s b = false → exec (.shoreComplete b) s = .next (completeShore s b))
    ∧ (running s = false ∨ seqRunning s b = true → exec (.shoreComplete b) s = .next s)
    ∧ (∀ e, shoreOf s b = some e → e.done = false →
        ∃ u, completeShore s b = (match e.req with | none => u | some q => reply u q 3 [])
          ∧ ∀ x ∈ u.led.shored, x.blk = b → x.done = true)

/-- A write to Ledger.Strike or Ledger.Abandon that passes its checks: a value that is neither 0xFFFF nor a block is refused with 0x0200_0006; blocks that are not shored, or belong to another session (opBlocks), give that code, which Ledger.StrikeResult then holds; claimed elements that the operation would tear give 0x0300_0005; else the operation joins the end of the queue, and the operations at the head are checked (startOps). STRIKE_RELEASE in a running device, from the release instant of the checked operation at the head on (releaseAt: 4 ms, and 0.5 ms for each further block, rounded up to 25 ns) and with the shores of its blocks answered (log 117), releases it (releaseOp); before, and with none, it changes nothing. STRIKE_PERSIST at the instant that a release notes takes its entry off the list and persists the values that it noted (persistStruck). -/
def Obligations.StrikeAndAbandon : Prop :=
  ∀ (s s1 : State) (r : Req) (q : QReq) (ab : Bool),
    (served s r (if ab then 0x1012 else 0x1011) 0 = some (s1, q) →
      let v := leNat q.data
      let e := if ab then exec (.abandon r) s else exec (.strike r) s
      let bs := (opBlocks s1 q.ses v).1
      let s3 := { s1 with led := { s1.led with strikes := s1.led.strikes ++
        [{ req := q, live := true, from_ := q.stamp, blocks := bs, abandon := ab, built := false }] } }
      (v ≠ 0xFFFF → isBlock v = false → e = .next (refuse s1 q 0x02000006))
      ∧ ((v = 0xFFFF ∨ isBlock v = true) → (opBlocks s1 q.ses v).2 ≠ 0 →
          e = .next (refuse (putResult s1 (opBlocks s1 q.ses v).2) q (opBlocks s1 q.ses v).2))
      ∧ ((v = 0xFFFF ∨ isBlock v = true) → (opBlocks s1 q.ses v).2 = 0 → tornFamily s1 bs = true →
          e = .next (refuse (putResult s1 0x03000005) q 0x03000005))
      ∧ ((v = 0xFFFF ∨ isBlock v = true) → (opBlocks s1 q.ses v).2 = 0 → tornFamily s1 bs = false →
          e = .next (startOps s3.led.strikes.length s3)))
    ∧ (s.led.strikes = [] → exec .strikeRelease s = .next s)
    ∧ (∀ o l, s.led.strikes = o :: l → o.built = true → running s = true → releaseAt o ≤ now s →
        (∀ b ∈ o.blocks, shoreDone s b = true) → exec .strikeRelease s = .next (releaseOp s o l))
    ∧ (∀ o l, s.led.strikes = o :: l → (now s < releaseAt o ∨ ∃ b ∈ o.blocks, shoreDone s b = false) →
        exec .strikeRelease s = .next s)
    ∧ (∀ p l, s.led.persist = p :: l → p.1 ≤ now s →
        exec .strikePersist s = .next (persistStruck { s with led := { s.led with persist := l } } p.2))

/-- A Store of a block (or of 0x1000, the device-level objects) that was not persisted in the last 10 s persists its RW values in effect; within 10 s it is refused with 0x0300_0009; a value that names neither is refused with 0x0200_0006. A Restore of a block shored by the session puts the default of each of its SH and RW objects that differs into the pending set, and changes nothing in effect; of an unshored block it is refused with 0x0200_0003, of another's with 0x0300_0006. -/
def Obligations.StoreAndRestore : Prop :=
  ∀ (s s1 : State) (r : Req) (q : QReq),
    (served s r 0x1013 0 = some (s1, q) →
      let b := leNat q.data
      let t := tabGet 0 s1.led.stored b
      (b ≠ 0x1000 → isBlock b = false → exec (.store r) s = .next (refuse s1 q 0x02000006))
      ∧ ((b = 0x1000 ∨ isBlock b = true) → t ≠ 0 → now s1 < t - 1 + 10000000000 →
          exec (.store r) s = .next (refuse s1 q 0x03000009))
      ∧ (b = 0x1000 → (t = 0 ∨ t - 1 + 10000000000 ≤ now s1) → exec (.store r) s = .next (reply (persistDevice s1) q 3 []))
      ∧ (b ≠ 0x1000 → isBlock b = true → (t = 0 ∨ t - 1 + 10000000000 ≤ now s1) →
          exec (.store r) s = .next (reply (persistBlock [.rw] s1 b) q 3 [])))
    ∧ (served s r 0x1014 0 = some (s1, q) →
      let b := leNat q.data
      (isBlock b = true → shoreOf s1 b = none → exec (.restore r) s = .next (refuse s1 q 0x02000003))
      ∧ (∀ e, isBlock b = true → shoreOf s1 b = some e → e.owner ≠ some q.ses →
          exec (.restore r) s = .next (refuse s1 q 0x03000006))
      ∧ (∀ e, isBlock b = true → shoreOf s1 b = some e → e.owner = some q.ses →
          ∃ p, exec (.restore r) s = .next (reply { s1 with pend := p } q 3 [])
            ∧ (∀ a, blockAt a ≠ some b → tabFind p a = tabFind s1.pend a)
            ∧ (∀ a, blockAt a = some b → accOf s1 a = .sh ∨ accOf s1 a = .rw →
                (tabFind p a).getD (cellAt s1 a) = dfltAt a)))

/-- A write to Manifest.Enable that passes its checks: 0 stops the manifest; 1 to one that does not run and that no condition of R124 refuses (manCode is 0) starts it with Consecutive 0 and its first cycle instant; 1 to a running one is answered and changes nothing; a condition refuses it with its code, and 0x0300_0002 sets System.Load.Failed. MANIFEST_PUBLISH of an enabled publication at or after its cycle instant hands one frame with the session's next FRESH to its transport (manSend) and moves to the next cycle; under the last FRESH the session then closes; before the instant it changes nothing. MANIFEST_CONSUME_FRAME takes up (manTake) the oldest waiting frame of a manifest. MANIFEST_CONSUME_APPLY at the end of a window with no frame waiting applies the frame that was taken up, or counts a miss, and moves to the next window; manEnding then closes the session where its end waits for that; before the end it changes nothing. -/
def Obligations.ManifestsRun : Prop :=
  ∀ (s s1 : State) (r : Req) (m : Nat) (q : QReq), m < 32 →
    (served s (byteReq r 1 0) (0x1400 + m) 1 = some (s1, q) →
      exec (.manifestDisable r m) s = .next (reply (manFresh (putOb s1 (0x1400 + m) 1 0) m {}) q 1 []))
    ∧ (served s (byteReq r 1 1) (0x1400 + m) 1 = some (s1, q) →
      (ob s1 (0x1400 + m) 1 = 1 → exec (.manifestEnable r m) s = .next (reply s1 q 1 []))
      ∧ (ob s1 (0x1400 + m) 1 ≠ 1 → manCode s1 m = 0 → exec (.manifestEnable r m) s = .next (reply
          (manFresh (putOb (putOb s1 (0x1400 + m) 1 1) (0x1500 + m) 3 0) m { due := manNext s1 m (now s1) }) q 1 []))
      ∧ (ob s1 (0x1400 + m) 1 ≠ 1 → manCode s1 m = 0x03000002 →
          exec (.manifestEnable r m) s = .next (refuse (putOb s1 0x2012 0 2) q 0x03000002))
      ∧ (∀ c, c ∈ [0x02000007, 0x02000005, 0x03000008, 0x03000005, 0x04000002] → ob s1 (0x1400 + m) 1 ≠ 1 → manCode s1 m = c →
          exec (.manifestEnable r m) s = .next (refuse s1 q c)))
    ∧ (serving s = true → ob s (0x1400 + m) 1 = 1 → ob s (0x1400 + m) 2 = 0 → (manOf s m).due ≤ now s →
      let n := ob s (0x1400 + m) 4
      let y := { sess s n with txFresh := (sess s n).txFresh + 1 }
      let u := manSend (setMan (setSess s n y) m { manOf s m with
            cyc := ((manOf s m).cyc + 1) % 65536, due := (manOf s m).due + manCycle s m })
          m y (frameOf y.key 0x14 n y.txFresh (manPayload s m))
      (y.txFresh ≠ 0xFFFFFFFF → exec (.manifestPublish m) s = .next u)
      ∧ (y.txFresh = 0xFFFFFFFF → exec (.manifestPublish m) s = .next (closeSession u n)))
    ∧ (now s < (manOf s m).due → exec (.manifestPublish m) s = .next s)
    ∧ (manWaiting s m = [] → exec (.manifestConsumeFrame m) s = .next s)
    ∧ (∀ e l, manWaiting s m = e :: l → serving s = true → exec (.manifestConsumeFrame m) s = .next (manTake s m e))
    ∧ (serving s = true → ob s (0x1400 + m) 1 = 1 → ob s (0x1400 + m) 2 = 1 → (manOf s m).due ≤ now s → manWaiting s m = [] →
      (∀ d, (manOf s m).held = some d →
        let u := manApply s m d
        exec (.manifestConsumeApply m) s
          = .next (manEnding (setMan u m { manOf u m with held := none, due := (manOf s m).due + manCycle u m })
            (ob s (0x1400 + m) 4)))
      ∧ ((manOf s m).held = none →
        let u := manMiss s m
        exec (.manifestConsumeApply m) s
          = .next (manEnding (setMan u m { manOf u m with held := none, due := (manOf s m).due + manCycle u m })
            (ob s (0x1400 + m) 4))))
    ∧ (now s < (manOf s m).due → exec (.manifestConsumeApply m) s = .next s)

/-- LANE_TICK in a running device first closes the tick before (tickEnd: the generators and the windows), then advances device time, the rods, the live mark positions, the commutators, the relay marks, the edge words, the output stage of all lanes, the windows' lane blanking, the watched rods, the statistic units and the speed rules, in this order. The tick count rises by one and device time advances by 5 ns with the correction of its discipline. A rod whose block is not shored takes in its tick the correction c, its residual clamped to lim, the greater of K × |rate| (K is Rod.SlewLimit / 256, truncated) and SlewFloor; its position rises by rate + c, its residual falls by c, and its rate rises by its acceleration within MaxRate. A rod whose block is shored does not move. A device that does not run is left as it is. -/
def Obligations.LaneTickAdvancesRods : Prop :=
  ∀ s : State,
    (running s = false → exec .laneTick s = .next s)
    ∧ (running s = true → exec .laneTick s = .next (
        let s1 := livePos ((List.range 7).foldl (fun t r => rodTick t (r + 1))
          (rodZero ((List.range 8).foldl logMove (timeTick (tickEnd s)))))
        let s2 := (s1.claims.map (fun e => e.1)).foldl edgeTick (relayTick ((List.range 3).foldl actTick s1))
        let s3 := (List.range 32).foldl statTick ((List.range 32).foldl rodSnoop ((List.range 32).foldl winTick (outTick s2)))
        speedTrack (speedTrack s3 .a) .b))
    ∧ (running s = true → ∃ t, exec .laneTick s = .next t ∧ t.tick = s.tick + 1
        ∧ t.dt = (s.dt + (5 * 2 ^ 32 + 5 * (tickEnd s).net.corr / 256).toNat) % 2 ^ 96)
    ∧ (∀ r, isShored s (0x2800 + 0x10 * r) = false →
        let x := rodAt s r
        let lim : Int := max (ob s (0x2801 + 0x10 * r) 3 * x.rate.natAbs / 256 : Nat) (ob s (0x2801 + 0x10 * r) 4 * 2 ^ 32 : Nat)
        let c : Int := max (-lim) (min lim x.resid)
        let mx : Int := maxRate32 s r
        ∃ y above, rodTick s r = rodHold (setRod s r y) r above
          ∧ y.pos = x.pos + BitVec.ofInt 64 (x.rate + c) ∧ y.resid = x.resid - c
          ∧ y.rate = max (-mx) (min mx (x.rate + x.accel)) ∧ y.accel = x.accel ∧ above = decide (mx < (x.rate + x.accel).natAbs))
    ∧ (∀ r, isShored s (0x2800 + 0x10 * r) = true →
        ∃ y, rodTick s r = setRod s r y ∧ y.pos = (rodAt s r).pos ∧ y.resid = (rodAt s r).resid ∧ y.rate = (rodAt s r).rate)

/-- A position lies in (P, P'] of a forward advance, or in [P', P) of a reverse one, exactly where passDist gives its distance d from P; the phase of the passage is 32 d / |advance| with halves rounded up. An instance fires in the latest tick (fireDist) where its source passed it in it in an admitted direction, its block is not shored, its source runs and it is armed there. MARK_FIRE of an instance that fires, in a running device and with no instance left that comes before it by phase, source and mark number (firesBefore), disarms the instance and does what the mark's action says (fireMark) at that phase: an action of 0 to 3 is a lane action, except on an actuator drive's lanes (R457), 5 and 6 reach their window where it runs, 7 is a capture. Of one that does not fire, or before its turn, it changes nothing. -/
def Obligations.MarksFireInTheInterval : Prop :=
  ∀ (s : State) (k j : Nat),
    (∀ (prev d x : Nat) (moved : Int), prev < 2 ^ 64 → x < 2 ^ 64 → 0 ≤ moved → moved < 2 ^ 63 →
      (passDist prev moved x = some d ↔ 0 < d ∧ (d : Int) ≤ moved ∧ (prev + d) % 2 ^ 64 = x))
    ∧ (∀ (prev d x : Nat) (moved : Int), prev < 2 ^ 64 → x < 2 ^ 64 → moved < 0 → - 2 ^ 63 < moved →
      (passDist prev moved x = some d ↔ 0 < d ∧ (d : Int) ≤ - moved ∧ (x + d) % 2 ^ 64 = prev))
    ∧ (∀ (d : Nat) (moved : Int), 0 < d → d ≤ moved.natAbs → passPhase moved d ≤ 32
      ∧ 2 * moved.natAbs * passPhase moved d ≤ 64 * d + moved.natAbs
      ∧ 64 * d + moved.natAbs < 2 * moved.natAbs * (passPhase moved d + 1))
    ∧ (∀ m d, fireDist s k m j = some d ↔ srcPass s m.src (instPos m j) = some d ∧ j < m.reps ∧ isShored s m.blk = false
      ∧ srcRuns s m.src = true ∧ (m.dir = 2 ∨ (m.dir = 1 ↔ (srcMove s m.src).2 < 0)) ∧ staysOff s k m j d = false)
    ∧ (∀ m, s.marks[k]? = some m →
      (∀ d, fireDist s k m j = some d → running s = true → firesBefore s (fireKey s k m d) = false →
        exec (.markFire k j) s = .next (fireMark { s with
          disarmed := tabSet none s.disarmed (256 * k + j) (some { tick := s.tick, again := false }) } k m (instPos m j) d))
      ∧ (∀ d, fireDist s k m j = some d → firesBefore s (fireKey s k m d) = true → exec (.markFire k j) s = .next s)
      ∧ (fireDist s k m j = none → exec (.markFire k j) s = .next s))
    ∧ (∀ m x d, let t := (s.tick - 1) * 32 + passPhase (srcMove s m.src).2 d
      (m.action ≤ 3 → fireMark s k m x d = if actLaneOf s m.target then s else laneAction s m.action m.target t)
      ∧ (m.action = 5 ∨ m.action = 6 → winRuns s m.target = true →
        fireMark s k m x d = winMark s m.target (decide (m.action = 5)) t)
      ∧ (m.action = 7 → fireMark s k m x d = capture s m.target 0 t))

/-- ONESHOT_END of a ONESHOT lane whose pulse has reached its end makes the command inactive (laneCmd) at that end. GATE_TIMEOUT of a GATE lane that has been open for its longest time does the same and counts it in object 0x2905 under the lane's sealed function. Before the end, or in another mode, both change nothing. -/
def Obligations.LanePulsesEnd : Prop :=
  ∀ (s : State) (l : Nat),
    (running s = true → laneMode s l = 3 → (laneAt s l).cmd = true → (laneAt s l).endAt ≠ 0 → (laneAt s l).endAt ≤ phases s →
      exec (.oneshotEnd l) s = .next (laneCmd (setLane s l { laneAt s l with endAt := 0 }) l false (laneAt s l).endAt))
    ∧ (running s = true → laneMode s l = 4 → (laneAt s l).cmd = true → (laneAt s l).endAt ≠ 0 → (laneAt s l).endAt ≤ phases s →
      exec (.gateTimeout l) s = .next (incOb (laneCmd (setLane s l { laneAt s l with endAt := 0 }) l false (laneAt s l).endAt)
        0x2905 (funcSub (sealFunc s l))))
    ∧ (phases s < (laneAt s l).endAt ∨ (laneAt s l).cmd = false →
      exec (.oneshotEnd l) s = .next s ∧ exec (.gateTimeout l) s = .next s)
    ∧ (laneMode s l ≠ 3 → exec (.oneshotEnd l) s = .next s) ∧ (laneMode s l ≠ 4 → exec (.gateTimeout l) s = .next s)

/-- ROD_SOURCE_UPDATE takes the oldest update under way to rod 1 to 7: an unshored rod takes it in (applyUpd), a shored one keeps a position update for its restart and drops a frequency word. Of a position update (updPos) the rate is the source's and its acceleration, where enabled, times the age, the position is left to the residual, and STL and INV clear. ROD_TIMEOUT when none has come for Rod.Timeout sets the acceleration to zero and STL, and changes nothing else. CARRIER_WRAP_APPLY where a written setting waits and the carrier's phase wrapped in the latest tick puts the setting in force (carrierTake) with the anchor at the rod position of the wrap, and the carrier's phase where the rest of the tick brings it. -/
def Obligations.RodSourcesAndCarriers : Prop :=
  ∀ (s s1 : State) (rod : Nat),
    (∀ u, takeUpd s rod = some (u, s1) → running s = true → 0 < rod → rod < 8 →
      (isShored s1 (rodBase rod) = false → exec (.rodSourceUpdate rod) s = .next (applyUpd s1 rod u))
      ∧ (isShored s1 (rodBase rod) = true → u.pos.isSome = true →
          exec (.rodSourceUpdate rod) s = .next (setRod s1 rod { rodAt s1 rod with last := some u }))
      ∧ (isShored s1 (rodBase rod) = true → u.pos = none → exec (.rodSourceUpdate rod) s = .next s1))
    ∧ (∀ u p, u.pos = some p →
      let y := updPos s rod (rodAt s rod) u p
      y.rate = u.rate + ((if ob s (rodBase rod + 1) 6 = 1 then iclamp (-2147483648) 2147483647 u.accel else 0 : Int)
          * mkRat ((s.dt : Int) - (nsTime u.ts : Nat)) (5 * 2 ^ 32)).floor
      ∧ y.stl = false ∧ y.inv = false ∧ y.updAt = now s ∧ y.pos = (rodAt s rod).pos ∧ y.last = some u)
    ∧ (running s = true → 0 < rod → rod < 8 → isShored s (rodBase rod) = false →
      (rodAt s rod).updAt + ob s (rodBase rod + 1) 7 * 1000 ≤ now s →
      exec (.rodTimeout rod) s = .next (setRod s rod { rodAt s rod with accel := 0, stl := true }))
    ∧ (∀ d, passDist (rodAt s rod).cprev.toNat (rodAt s rod).cmoved 0 = some d → running s = true → rod < 8 →
      (rodAt s rod).cpend = true → (rod = 0 ∨ isShored s (rodBase rod) = false) →
      let x := rodAt s rod
      let full : Int := max 1 x.cmoved.natAbs
      let a := BitVec.ofInt 64 (x.prev.toNat + x.moved * d / full)
      let y := rodAt (carrierTake s rod a) rod
      let z : BitVec 64 := if y.cmode = 0 then 0
        else if y.cmode = 1 then BitVec.ofInt 64 (((y.crate * 2 ^ 28 : Nat) : Int) * (full - d) / full)
        else BitVec.ofNat 64 (y.cratio * (y.pos - a).toNat)
      exec (.carrierWrapApply rod) s = .next (setRod (carrierTake s rod a) rod { y with
        cpos := z, cprev := x.cprev, cmoved := (if x.cmoved < 0 then -(d : Int) else d) + z.toInt }))

/-- A comparison that falls due (readbackDue) of a driven lane and sees the level driven clears its mismatches and the lane's cause; a first and a second mismatch count; the third counts in Lane.ReadbackFaults and raises LAN at L3 against the lane's sealed function. A lane at high impedance, or a comparison that is not due, changes nothing. CAPTURE_EDGE at a unit whose input is a ball is an edge at its phase of the output stage's latest tick (capEdge); at a unit of an internal code it changes nothing. With no edge waiting, one of the selected polarity at a running unit waits for Capture.Filter ticks with its record; with a filter of 0 it is recorded. A record (capture) is taken while fewer than 16 are held and else counted as lost. CAPTURE_NEXT_READ is the READ of Capture.Next: of unit 0 to 15, admitted and passing its checks, with a value that fits the transport, it answers the value, and the unit then holds no record; while its block is shored the records stay. One that fails a check is answered with its code. -/
def Obligations.ReadbackAndCapture : Prop :=
  ∀ (s : State) (x : Readback) (u ph : Nat) (rising : Bool) (r : Req),
    (running s = true → x.lane < 114 → laneLevel s x.lane ≠ .hiZ → readbackDue s x.lane = true →
      let y : Lane := { laneAt s x.lane with seenAt := s.tick + 1 }
      (decide (laneLevel s x.lane = .high) = x.seen → exec (.laneReadbackCompare x) s = .next
        (clearDet (setLane s x.lane { y with miss := 0 }) (0x290000 + x.lane)))
      ∧ (decide (laneLevel s x.lane = .high) ≠ x.seen → y.miss < 2 →
        exec (.laneReadbackCompare x) s = .next (setLane s x.lane { y with miss := y.miss + 1 }))
      ∧ (decide (laneLevel s x.lane = .high) ≠ x.seen → y.miss = 2 → exec (.laneReadbackCompare x) s = .next
        (condRaise (incOb (setLane s x.lane { y with miss := 3 }) 0x2903 2) .lan 3 (sealFunc s x.lane) 1
          (0x29000000 + (x.lane + 1) * 256) (0x290000 + x.lane))))
    ∧ (laneLevel s x.lane = .hiZ ∨ readbackDue s x.lane = false → exec (.laneReadbackCompare x) s = .next s)
    ∧ (ob s (0x2A00 + u) 1 ≤ 0x86 → exec (.captureEdge u rising ph) s = .next (capEdge s u rising (outNow s - 32 + ph)))
    ∧ (0x86 < ob s (0x2A00 + u) 1 → exec (.captureEdge u rising ph) s = .next s)
    ∧ (∀ t, let e := ob s (0x2A00 + u) 2
        let w : CapWait := { due := t + 32 * ob s (0x2A00 + u) 3, rcd := capRec s u (if rising then 1 else 2) t }
        let c := tabSet none s.capWait u (some w)
        tabGet none s.capWait u = none → capRuns s u = true → e = 3 ∨ e = (if rising then 1 else 2) → tabGet none c u = some w →
          (ob s (0x2A00 + u) 3 ≠ 0 → capEdge s u rising t = { s with capWait := c })
          ∧ (ob s (0x2A00 + u) 3 = 0 → capEdge s u rising t = capPut { s with capWait := tabSet none c u none } u w.rcd))
    ∧ (∀ e t, capRuns s u = true → u ≠ ob s 0x5100 3 →
      (16 ≤ (tabGet [] s.caps u).length → capture s u e t = incOb s (0x2A00 + u) 7)
      ∧ ((tabGet [] s.caps u).length < 16 →
        let n : CapRec := {
          stamp := tickTime s t / 2 ^ 32, phase := t % 32, edge := e, pos := posAtTime s (ob s (0x2A00 + u) 4) t }
        let old (x : CapRec) := decide ([x.stamp, x.phase] ≤ [n.stamp, n.phase])
        let l := (tabGet [] s.caps u).takeWhile old ++ n :: (tabGet [] s.caps u).dropWhile old
        capture s u e t = { s with caps := tabSet [] s.caps u l }))
    ∧ exec (.captureNextRead r u) s = exec (.read r (0x2A00 + u) 8) s
    ∧ (∀ (s1 : State) (q : QReq) (w : Row),
        let i := 0x2A00 + u
        u < 16 → admitted s r 1 i 8 = (s1, some q) →
        (checkRead s1 q ≠ 0 → exec (.captureNextRead r u) s = .next (refuse s1 q (checkRead s1 q)))
        ∧ (checkRead s1 q = 0 → q.data = [] → readCond s1 i 8 = 0 → rowOf i 8 = some w →
          (valueBytes s1 (oaddr i 8) w).length ≤ maxData (sess s1 q.ses).tr q.xl →
          let t := reply s1 q (tyAt s1 (oaddr i 8) w.ty) (valueBytes s1 (oaddr i 8) w)
          (addrDone t (oaddr i 8) = false → exec (.captureNextRead r u) s = .next { t with caps := tabSet [] t.caps u [] })
          ∧ (addrDone t (oaddr i 8) = true → exec (.captureNextRead r u) s = .next t)))

/-- A half excitation period of a running resolver interface, given by the samples of its two secondaries: Resolver.Amplitude takes sqrt(S² + C²) in LSB held at 65535, Resolver.Phase the phase error, Resolver.Angle the observer's angle. The fault bits are those of resFaults; a confirmed TRACK bit, or a LOS bit that ends, takes LOCK away and starts the observer again; else LOCK stays, or comes with the fourth half period in a row within 1 degree. MOTION follows. With LOCK and no fault bit the rod it feeds is sent the update of R211, else that rod's words carry INV. The next half period is the table's other half. The first half period after a start takes the measured angle as the observer's. A disabled or shored interface, or one outside PREOP and OPERATIONAL, changes nothing. The envelopes' scale, the observer's discretisation and the stamp's window are the model's choices (log 7, 55). -/
def Obligations.ResolverMeasures : Prop :=
  ∀ (s : State) (i : Nat) (m : ResMeas),
    let b := resBase i
    let x := tabGet ({} : Resolver) s.res i
    let v := envelopes m x.second
    let diff := (angDiff (envAngle v) (observed s i x)).natAbs
    let x1 := observe s i x v
    let near := if x.half = 2 ∧ diff * 360 < 2 ^ 64 then x.near + 1 else 0
    let io := resFaults s i m (envAmp v) (envPhase v) diff (resRatio s i * x1.rate) x.io
    let again := (bit io.faults 4 && !bit x.io.faults 4) || (bit x.io.faults 7 && !bit io.faults 7)
    let lock := !again && (x.io.lock || decide (4 ≤ near))
    let io7 := { io with lock := lock }
    let io8 := { io7 with motion := motionOf io7 (ob s b 0xE) (rateHz (resRatio s i * x1.rate)) }
    let y := { x1 with io := io8, near := near, half := if again then 0 else x1.half, second := !x.second }
    let s1 := putOb (putOb (putOb { s with res := tabSet {} s.res i y } (b + 1) 2 (min 65535 (envAmp v / 65536))) (b + 1) 3
      (ofInt 16 (envPhase v))) (b + 1) 4 (y.theta / 2 ^ 32)
    let s2 := ifaceDone s1 b x.io.faults io8
    (posRuns s b = false → exec (.resolverUpdate i m) s = .next s)
    ∧ (posRuns s b = true → exec (.resolverUpdate i m) s =
        .next (if lock ∧ io8.faults = 0 then sendUpd s2 (1 + i) (resUpdate s2 i y (resStamp s i m)) else rodInvalid s2 (1 + i)))
    ∧ (x.half = 0 → y.theta = envAngle v)

/-- An edge of a running encoder is held against the levels it last knew, or, at the first, against those the edge names: no quadrature step sets SEQ and marks the rod INV; the same levels count nothing; a step counts one, reversed where Encoder.Invert is set, at the edge's first sample Encoder.Filter ticks ago, clears SEQ, sets RATE where it is too fast and the index fault at five revolutions without one, publishes the count, and a fault marks the rod INV. With an index, the first sets c_Z and LOCK and clears the index fault; a later one further than IndexWindow from c_Z sets the index fault and INV, one within it clears that fault. At the end of Encoder.UpdatePeriod the rod is sent position, rate and acceleration with c_Z, LOCK and no fault, else INV. Not running, without an index input, or before the period's end, nothing changes. The quadrature order forward is the model's (log 20). -/
def Obligations.EncoderFollowsItsEdges : Prop :=
  ∀ (s : State) (e : Nat) (was lv : Bool × Bool),
    let bb := encBase e
    let x := tabGet ({} : Encoder) s.enc e
    let y := { x with ab := some lv }
    let p := x.ab.getD was
    (posRuns s bb = false → exec (.encoderEdge e was lv) s = .next s ∧ exec (.encoderIndex e) s = .next s ∧ exec (.encoderUpdate e) s = .next s)
    ∧ (posRuns s bb = true →
      (quadStep p lv = none →
          let io := { x.io with faults := Nat.lor x.io.faults 4 }
          exec (.encoderEdge e was lv) s = .next (rodInvalid (ifaceDone (setEnc s e { y with io := io }) bb x.io.faults io) (3 + e)))
      ∧ (quadStep p lv = some 0 → exec (.encoderEdge e was lv) s = .next (setEnc s e y))
      ∧ (∀ d, quadStep p lv = some d → d ≠ 0 →
          let t := s.dt - nsTime (5 * ob s bb 5)
          let lim := match rodFed s (3 + e) with
            | none => (20000000 : Rat)
            | some r => rmin 20000000 (rodMaxHz (viewNow s) r * (2 ^ 64 : Nat) / encScale s e)
          let fast := decide (x.lastAt ≠ 0) && decide (lim * ((t - x.lastAt : Nat) : Rat) < mkRat (1000000000 * 2 ^ 32) 1)
          let noIdx := decide (ob s bb 6 = 0) && decide (5 * ob s bb 2 ≤ x.passed + 1)
          let f := x.io.faults - (if bit x.io.faults 2 then 4 else 0) - (if bit x.io.faults 0 then 1 else 0)
          let cnt := x.count + (if ob s bb 4 = 1 then -d else d)
          let z := { y with
            count := cnt, sign := (if ob s bb 4 = 1 then -d else d), lastAt := t, passed := x.passed + 1, edges := x.edges + 1,
            io := { x.io with faults := Nat.lor (Nat.lor f (bitAt fast 0)) (bitAt noIdx 1) },
            firstCount := if x.edges = 0 then cnt else x.firstCount, firstAt := if x.edges = 0 then t else x.firstAt }
          let s1 := ifaceDone (putOb (setEnc s e z) (bb + 1) 2 (ofInt 32 cnt)) bb x.io.faults z.io
          exec (.encoderEdge e was lv) s = .next (if z.io.faults = 0 then s1 else rodInvalid s1 (3 + e)))
      ∧ (ob s bb 6 ≠ 0 → exec (.encoderIndex e) s = .next s)
      ∧ (ob s bb 6 = 0 → x.cz = none → exec (.encoderIndex e) s = .next (ifaceDone (setEnc s e { x with
          cz := some x.count, idxAt := x.count, passed := 0,
          io := { x.io with lock := true, faults := x.io.faults - (if bit x.io.faults 1 then 2 else 0) } }) bb x.io.faults
          { x.io with lock := true, faults := x.io.faults - (if bit x.io.faults 1 then 2 else 0) }))
      ∧ (∀ cz, ob s bb 6 = 0 → x.cz = some cz →
          let l4 : Int := 4 * ob s bb 2
          let off := min ((x.count - cz) % l4) (l4 - (x.count - cz) % l4)
          (off ≤ ob s bb 7 →
            let io := { x.io with faults := x.io.faults - (if bit x.io.faults 1 then 2 else 0) }
            exec (.encoderIndex e) s
              = .next (ifaceDone (setEnc s e { x with idxAt := x.count, passed := 0, io := io }) bb x.io.faults io))
          ∧ ((ob s bb 7 : Int) < off →
            let io := { x.io with faults := Nat.lor x.io.faults 2 }
            exec (.encoderIndex e) s = .next (rodInvalid (ifaceDone (setEnc s e { x with
              idxAt := x.count, passed := 0, io := io }) bb x.io.faults io) (3 + e))))
      ∧ (x.updAt + ob s bb 8 * 1000 ≤ now s →
          let r := encRate s e x
          let io := { x.io with motion := motionOf x.io (ob s bb 0xA) (rateHz r) }
          let s1 := putIface (setEnc s e { x with rate := r, edges := 0, updAt := now s, io := io }) bb io
          (x.cz = none ∨ io.lock = false ∨ io.faults ≠ 0 → exec (.encoderUpdate e) s = .next (rodInvalid s1 (3 + e)))
          ∧ (∀ cz, x.cz = some cz → io.lock = true → io.faults = 0 → exec (.encoderUpdate e) s = .next (sendUpd s1 (3 + e) {
              ts := if x.edges = 0 then now s else x.lastAt / 2 ^ 32,
              pos := some (BitVec.ofInt 64 ((((x.count - cz) % (4 * (ob s bb 2 : Int)) : Int) * encScale s e).floor
                + (ob s bb 0x10 : Int) * 2 ^ 32)),
              rate := r, accel := (((r - x.rate : Int) : Rat) / mkRat (ob s bb 8 * 1000) 5).floor })))
      ∧ (now s < x.updAt + ob s bb 8 * 1000 → exec (.encoderUpdate e) s = .next s))

/-- A Hall code without a sector clears LOCK, LOS and the sector, sets SEQ, dates a change of code, and marks the rod INV; a legal one after it, or the first, sets LOCK and the sector and clears SEQ and LOS; after an illegal code it sends an update whose side of the sector and rate are free values, and the first sends nothing; the same sector changes nothing; another takes the new sector at the time of its first sample and sends the rod the edge's position with the mean rate of the transits in its direction, or a free rate word where none has ended (log 4); a skipped sector sets SEQ and marks the rod INV. Between edges, 100 µs after the last update, LOS is LOS only while commanded motion has lasted StallTime too, and with LOCK and no fault a rate-only update is sent, else INV. GRID_PLL_STEP after Grid.UpdatePeriod: in mode 1 the phase runs at V2l.Frequency with LOCK held and rod 3 is sent the phase; in mode 0 the loop takes the vector's error, publishes frequency, amplitude and unbalance (gridUnbalance), and rod 3 is sent the phase with LOCK and no fault, else INV. FREQUENCY_WORD_UPDATE in PREOP or OPERATIONAL at least 100 µs after the last sends the rod its source's rate word. Each changes nothing before its time or while it does not run. The loop's discretisation is the model's (log 7); LOCK clears at once (log 112). -/
def Obligations.HallGridAndFrequency : Prop :=
  ∀ (s : State) (h code rod : Nat),
    let b := hallBase h
    let x := tabGet ({} : Hall) s.hall h
    let inv := decide (ob s b 3 = 1)
    let e := s.dt - nsTime (ob s b 2)
    let kept := x.io.faults - (if bit x.io.faults 2 then 4 else 0) - (if bit x.io.faults 7 then 128 else 0)
    let g := s.grid
    let per := ob s 0x3300 7
    (posRuns s b = false → exec (.hallEdge h code) s = .next s ∧ exec (.hallRateUpdate h) s = .next s)
    ∧ (posRuns s b = true →
      (hallSector inv code = none →
        let io := { x.io with
          lock := false, motion := 3, faults := Nat.lor (x.io.faults - (if bit x.io.faults 7 then 128 else 0)) 4 }
        exec (.hallEdge h code) s = .next (rodInvalid (ifaceDone (putOb (setHall s h { x with
          io := io, sector := none, transits := [], dir := 0, edgeAt := if code = x.code then x.edgeAt else e, code := code })
          (b + 1) 2 0xFF) b x.io.faults io) (6 + h)))
      ∧ (∀ k, hallSector inv code = some k → x.sector = none → bit x.io.faults 2 = false →
        let io := { x.io with lock := true, faults := kept }
        exec (.hallEdge h code) s = .next (ifaceDone (putOb (setHall s h { x with
          io := io, sector := some k, edgeAt := e, dir := 0, code := code }) (b + 1) 2 k) b x.io.faults io))
      ∧ (∀ k, hallSector inv code = some k → x.sector = none → bit x.io.faults 2 = true →
        let io := { x.io with lock := true, faults := kept }
        let side := (Config.freeWord s.free).toNat % 2
        let rate := (Config.freeWord (s.free + 1)).toInt
        let s1 := ifaceDone (putOb (setHall { s with free := s.free + 2 } h { x with
          io := io, sector := some k, edgeAt := e, dir := 0, code := code, rate := rate, sentAt := now s }) (b + 1) 2 k)
          b x.io.faults io
        exec (.hallEdge h code) s = .next (if kept = 0 then sendUpd s1 (6 + h) {
            ts := e / 2 ^ 32,
            pos := some (BitVec.ofInt 64 ((((k + side) % 6 * 2 ^ 64 / 6 : Nat) : Int) + (ob s b 6 : Int) * 2 ^ 32)),
            rate := rate, accel := 0 }
          else rodInvalid s1 (6 + h)))
      ∧ (∀ k, hallSector inv code = some k → x.sector = some k → exec (.hallEdge h code) s = .next s)
      ∧ (∀ k k0, hallSector inv code = some k → x.sector = some k0 → k ≠ k0 →
        let fwd := decide (k = (k0 + 1) % 6)
        let dir : Int := if fwd then 1 else if k = (k0 + 5) % 6 then -1 else 0
        let same := decide (dir ≠ 0) && decide (dir = x.dir)
        let ts := if same then (e - x.edgeAt) :: x.transits.take 11 else []
        let rate := if ts.isEmpty then (Config.freeWord s.free).toInt else hallMean s h dir ts
        let quick := decide (e - x.edgeAt ≤ nsTime (ob s b 5 * 1000000))
        let io := { x.io with
          lock := true, faults := if dir = 0 then Nat.lor x.io.faults 4 else kept,
          motion := if same && quick then (if dir = 1 then 1 else 2) else x.io.motion }
        let s0 := if ts.isEmpty then { s with free := s.free + 1 } else s
        let s1 := ifaceDone (putOb (setHall s0 h { x with
          io := io, sector := some k, dir := dir, edgeAt := e, transits := ts, rate := rate, sentAt := now s,
          code := code }) (b + 1) 2 k)
          b x.io.faults io
        exec (.hallEdge h code) s = .next (if io.faults = 0 then sendUpd s1 (6 + h) {
            ts := e / 2 ^ 32,
            pos := some (BitVec.ofInt 64 ((((if fwd then k else (k + 1) % 6) * 2 ^ 64 / 6 : Nat) : Int) + (ob s b 6 : Int) * 2 ^ 32)),
            rate := rate, accel := 0 }
          else rodInvalid s1 (6 + h)))
      ∧ (x.sentAt + 100000 ≤ now s →
        let still := decide (nsTime (ob s b 5 * 1000000) < s.dt - x.edgeAt)
        let drivenAt := (tabGet ({} : Act) s.act h).drivenAt
        let los := still && decide (drivenAt ≠ 0) && decide (nsTime (ob s b 5 * 1000000) < s.dt - (drivenAt - 1))
        let io := { x.io with
          faults := Nat.lor (x.io.faults - (if bit x.io.faults 7 then 128 else 0)) (bitAt los 7),
          motion := if x.io.lock && still then 0 else x.io.motion }
        let s1 := ifaceDone (setHall s h { x with io := io, sentAt := now s }) b x.io.faults io
        exec (.hallRateUpdate h) s = .next (if io.lock ∧ io.faults = 0 then
            sendUpd s1 (6 + h) { ts := now s, pos := none, rate := hallBetween s1 h x, accel := 0 }
          else rodInvalid s1 (6 + h)))
      ∧ (now s < x.sentAt + 100000 → exec (.hallRateUpdate h) s = .next s))
    ∧ (posRuns s 0x3300 = false ∨ now s < g.stepAt + per * 1000 → exec .gridPllStep s = .next s)
    ∧ (posRuns s 0x3300 = true → g.stepAt + per * 1000 ≤ now s → ob s 0x3300 9 = 1 →
      let rate := (f32Val s.formHz * (2 ^ 64 : Nat) / 200000000).floor
      let g1 := { g with
        phase := ((g.phase : Int) + rate * (per * 200 : Nat)).toNat % 2 ^ 64, rate := rate, accel := 0, stepAt := now s,
        io := { g.io with lock := true, faults := 0 } }
      exec .gridPllStep s = .next (sendUpd (ifaceDone { putOb s 0x3301 2 s.formHz with grid := g1 } 0x3300 g.io.faults g1.io) 5
          { ts := now s, pos := some (BitVec.ofNat 64 g1.phase), rate := rate, accel := 0 }))
    ∧ (posRuns s 0x3300 = true → g.stepAt + per * 1000 ≤ now s → ob s 0x3300 9 ≠ 1 →
      let bad := gridBad s
      let ticks : Rat := (per * 200 : Nat)
      let one := decide (ob s 0x3300 2 = 1)
      let y := if bad then g.sogi
        else sogiStep g.sogi (if one then gridVolt s 0 else (gridClarke s).1) (rateHz g.rate) (mkRat per 1000000)
      let yb := if bad ∨ one then g.sogiB else sogiStep g.sogiB (gridClarke s).2 (rateHz g.rate) (mkRat per 1000000)
      let un := gridUnbalance s y yb
      let v := gridVector s y
      let th := mkRat (trackAhead (g.phase, g.rate, g.accel) ticks) (2 ^ 64)
      let dq := gridPark v th
      let amp := rsqrt (v.1 * v.1 + v.2 * v.2)
      let r := trackStep (ob s 0x3300 6) ticks (g.phase, g.rate, g.accel)
        (if bad ∨ amp = 0 then 0 else dq.2 / amp / (2 * piR))
      let hz := rateHz r.2.1
      let inHz := decide (45 ≤ hz) && decide (hz ≤ 65)
      let good := inHz && decide (rabs (atan2T dq.2 dq.1 * 360) < 2)
      let since := if good then (if g.goodSince = 0 then now s + 1 else g.goodSince) else 0
      let io1 := confirmBit 2 0 (!inHz) g.io
      let io2 := if bad then { io1 with faults := Nat.lor io1.faults 128 }
        else confirmBit 2 7 (decide (amp < (ob s 0x3300 8 : Nat))) io1
      let io3 := { io2 with lock := (good && decide (since + 40000000 ≤ now s + 1)) && !bad }
      let g1 := { g with phase := r.1, rate := r.2.1, accel := r.2.2, stepAt := now s, goodSince := since, sogi := y, sogiB := yb, io := io3 }
      let s1 := putOb (putOb (putOb { un.2 with grid := g1 } 0x3301 2 (f32Of hz)) 0x3301 3 (f32Of amp)) 0x3301 4
        (f32Of un.1)
      let s2 := ifaceDone s1 0x3300 g.io.faults io3
      exec .gridPllStep s = .next (if io3.lock ∧ io3.faults = 0 then
          sendUpd s2 5 { ts := now s, pos := some (BitVec.ofNat 64 r.1), rate := r.2.1, accel := r.2.2 }
        else rodInvalid s2 5))
    ∧ (let runs := running s = true ∧ (s.dev = .preop ∨ s.dev = .operational) ∧ 9 ≤ rodSource s rod ∧ rodSource s rod ≤ 11
          ∧ tabGet 0 s.freqAt rod + 100000 ≤ now s
      (runs → exec (.frequencyWordUpdate rod) s = .next { s with
        sent := s.sent ++ [(rod, {
          ts := now s, pos := none, rate := freqWord s (rodSource s rod) * 2 ^ 28, accel := 0 })],
        freqAt := tabSet 0 s.freqAt rod (now s) })
      ∧ (¬ runs → exec (.frequencyWordUpdate rod) s = .next s))

/-- SEQ_TRIGGER takes the sequence's first event on its way unless an earlier one, URGENT first at one instant, waits for a converter of it; then nothing changes. In a sequence that does not run the event is only taken. In one that runs, conversions of the Outrider on its converters are aborted and counted; while the instance is busy the event is a counted overrun; with its converters free it starts with its first hold 20 ns after the event, or 50 ns where it aborted a conversion; with a converter busy it waits, or, URGENT, is dropped and counted and its channels miss their update. CONVERTER_FREE starts the lowest-numbered waiting instance whose converters are all free, at the instant they became free and, where its trigger aborted a conversion, not before 50 ns after it, unless Seq.MaxWait had passed by then or its block is shored; else nothing changes. An instance that has waited Seq.MaxWait and whose converters were not free by then is dropped and counted, and its channels miss; else nothing changes. A voltage of 0 or below converts to 0, others to 65536 V / V_REF held at 65535. -/
def Obligations.SequencesConvert : Prop :=
  ∀ (s s1 : State) (q cv : Nat) (ev : TrigEv),
    (takeTrig s 0 q = none → exec (.seqTrigger q) s = .next s)
    ∧ (takeTrig s 0 q = some (ev, s1) →
      (trigFirst s ev = false → exec (.seqTrigger q) s = .next s)
      ∧ (trigFirst s ev = true → seqRuns s1 q = false → exec (.seqTrigger q) s = .next s1)
      ∧ (trigFirst s ev = true → seqRuns s1 q = true →
        let a := abortOut s1 (seqConvs s1 q) (trigTime ev)
        let w := setSeq a q { seqOf a q with lims := seqLims a q }
        let h := trigTime ev + nsTime 20
        let h1 := if (seqConvs s1 q).any (fun c => !outFree s1 c (trigTime ev)) then trigTime ev + nsTime 50 else h
        (seqBusy a q = true → exec (.seqTrigger q) s = .next (incOb a (seqBase q + 15) 1))
        ∧ (seqBusy a q = false → convBusy a q = false → exec (.seqTrigger q) s = .next (startSeq w q h h1))
        ∧ (seqBusy a q = false → convBusy a q = true → ob a (seqBase q) 4 ≠ 1 → exec (.seqTrigger q) s
            = .next (setSeq a q { seqOf a q with st := 1, due := h, step := 0, lims := seqLims a q, after := h1 }))
        ∧ (seqBusy a q = false → convBusy a q = true → ob a (seqBase q) 4 = 1 →
            exec (.seqTrigger q) s = .next (missSeq (incOb a 0x3400 (ob a (seqBase q) 1 + 1)) q))))
    ∧ (let found := (List.range 32).find? (fun q => decide ((seqOf s q).st = 1) && seqUses (viewNow s) q cv && convFree s q)
      (found = none → exec (.converterFree cv) s = .next s)
      ∧ (∀ p, found = some p →
        let may := running s = true ∧ isShored s (seqBase p) = false ∧ freeAt s p ≤ (seqOf s p).due + nsTime (ob s (seqBase p) 5)
        (may → exec (.converterFree cv) s = .next (startSeq s p (seqOf s p).due (max (freeAt s p) (seqOf s p).after)))
        ∧ (¬ may → exec (.converterFree cv) s = .next s)))
    ∧ (let due := running s = true ∧ (seqOf s q).st = 1 ∧ (seqOf s q).due + nsTime (ob s (seqBase q) 5) ≤ s.dt
        ∧ ¬ (convFree s q = true ∧ freeAt s q ≤ (seqOf s q).due + nsTime (ob s (seqBase q) 5))
      (due → exec (.seqWaitDrop q) s = .next (missSeq (incOb (setSeq s q { seqOf s q with st := 0 }) (seqBase q + 15) 2) q))
      ∧ (¬ due → exec (.seqWaitDrop q) s = .next s))
    ∧ (∀ uv : Rat, sampleCode s uv = if uv ≤ 0 then 0 else min (65536 * uv / (max 1 s.power.refUv : Nat)).floor.toNat 65535)

/-- The conversion of the running instance's next step, 125 ns for each step after its hold, of the input that its mux code selects, advances the instance and writes the raw sample where Seq.Raw asks for it and the channel by its scaling, within the limits that its trigger found, with SAT for a code at either end and INV for a converter whose pair has a confirmed fault; DUPLEX compares the pair's two codes and adds INV where they differ by more than Pair.Limit; and a running calibration capture takes the code. Any other conversion changes nothing. PAIR_CHECK, when due and of Pair.CheckInput: once its conversion in a gap has ended, the codes' difference is published and confirmed against Pair.Limit; else a conversion begins where there is a gap, and a check without one in twice the period is starved. Where thermal samples are due, or the check is not due, it changes nothing else. -/
def Obligations.ConversionWritesItsChannel : Prop :=
  ∀ (s : State) (q k p : Nat) (src : AdcIn) (uv : Int × Int),
    let x := seqOf s q
    let c := ob s (seqBase q) 1
    let next := running s = true ∧ x.st = 2 ∧ x.step = k ∧ x.hold + nsTime (125 * k) ≤ s.dt
      ∧ muxInput c (ob s (seqBase q + 1) (k + 1)) = some src
    let check := running s = true ∧ isShored s 0x3400 = false ∧ pairDue s p = true ∧ muxInput (2 * p) (ob s 0x3403 (p + 1)) = some src
    let cs := [2 * p, 2 * p + 1]
    let wait := !outDone s 1 p cs && cs.any (thermDue s)
    let o := outConv s 1 p cs 1
    (¬ next → exec (.conversionComplete q k src uv) s = .next s)
    ∧ (next →
      let a := setSeq s q { x with step := k + 1, st := if ob s (seqBase q) 3 ≤ k + 1 then 3 else 2 }
      let code := sampleCode a (muxVolt a src uv.1)
      let code2 := sampleCode a (muxVolt a src uv.2)
      let cv := ob a (seqBase q) 1
      let duplex := decide (ob a (seqBase q) 4 = 2)
      let differ := duplex && decide (ob a 0x3404 (cv / 2 + 1) < (code - code2) + (code2 - code))
      let bad := convBad a cv || (duplex && convBad a (Nat.xor cv 1))
      let sat := decide (code = 0) || decide (code = 65535)
      let s1 := if duplex then duplexCheck a q differ else a
      let s2 := if ob a (seqBase q + 2) (k + 1) = 1 then ridgeOut s1 (seqBase q + 14) (k + 1) code (bitAt bad 2 + bitAt sat 1)
        else putRidge s1 (seqBase q + 14) (k + 1) code 0
      exec (.conversionComplete q k src uv) s = .next (calSample
        (writeChan s2 (16 * q + k) code sat (bad || differ) (x.lims.getD k (chanLims s (16 * q + k)))) (16 * q + k) code
        (sat || bad || differ)))
    ∧ (¬ check → exec (.pairCheck p src uv) s = .next s)
    ∧ (check → wait = false → o.2 = true →
      let d : Int := (sampleCode s (muxVolt s src uv.1) : Int) - sampleCode s (muxVolt s src uv.2)
      exec (.pairCheck p src uv) s
        = .next (pairResult (putOb o.1 0x3408 (p + 1) (ofInt 32 d)) p (decide (ob s 0x3404 (p + 1) < d.natAbs))))
    ∧ (check → wait = true ∨ o.2 = false →
      let s1 := if wait then s else o.1
      exec (.pairCheck p src uv) s = .next (if pairLate s p = true ∧ cs.any (fun c => outFree s1 c s.dt) = true then pairStarve s1 else s1))

/-- A calibration command that is served is refused with 0x0300_0005 while the channel's block is shored, else with 0x0300_0001 while a function that consumes the channel is in ARMED or RUN, else with 0x0200_0006 in a table mode, else with 0x0300_0005 while a capture of another step runs. Else command 1 or 2 starts a capture; 3 without both captures of this step held (Cal.State 4) is refused with 0x0300_0005, and within 10 s of the block's last persist with 0x0300_0009; it fails with Cal.State 5 and 0x0200_0006 where the codes differ by less than 1024 or the true values are equal, and else puts gain and offset in place, formed in binary64, and drops the captures; 4 clears the coefficients; any other discards the captures. CAL_CAPTURE_DONE at 256 conversions holds their sum as the low or high point; CAL_CAPTURE_TIMEOUT ends a capture short of them 10 s after its start with Cal.State 5; else each changes nothing. -/
def Obligations.CalibrationCaptures : Prop :=
  ∀ (s s1 : State) (r : Req) (ch : Nat) (q : QReq) (w : Row) (c : Instr),
    let y := calOf s ch
    (c ∈ [Instr.calCaptureLow r ch, .calCaptureHigh r ch, .calCompute r ch, .calClear r ch, .calAbandon r ch] →
      served s r (calCmdAt ch).1 (calCmdAt ch).2 = some (s1, q) → rowOf (calCmdAt ch).1 (calCmdAt ch).2 = some w →
      let st := calState s1 ch
      let x := calOf s1 ch
      let v := leNat q.data
      let t := tabGet 0 s1.led.stored (chanBlock ch)
      (isShored s1 (chanBlock ch) = true → exec c s = .next (refuse s1 q 0x03000005))
      ∧ (isShored s1 (chanBlock ch) = false → (chanUsers s1 ch).any (fnLive s1) = true → exec c s = .next (refuse s1 q 0x03000001))
      ∧ (isShored s1 (chanBlock ch) = false → (chanUsers s1 ch).any (fnLive s1) = false →
        (chanMode s1 ch ≠ 0 → exec c s = .next (refuse s1 q 0x02000006))
        ∧ (chanMode s1 ch = 0 → ((st = 1 ∨ st = 3) ∧ x.taking ≠ 0 ∧ x.step ≠ ch % 16) → exec c s = .next (refuse s1 q 0x03000005))
        ∧ (chanMode s1 ch = 0 → ¬ ((st = 1 ∨ st = 3) ∧ x.taking ≠ 0 ∧ x.step ≠ ch % 16) →
          (v = 1 ∨ v = 2 → exec c s = .next (reply (calStart s1 ch v) q w.ty []))
          ∧ (v = 3 → (st ≠ 4 ∨ x.step ≠ ch % 16) → exec c s = .next (refuse s1 q 0x03000005))
          ∧ (v = 3 → st = 4 → x.step = ch % 16 →
            (t ≠ 0 ∧ now s1 < t - 1 + 10000000000 → exec c s = .next (refuse s1 q 0x03000009))
            ∧ (∀ l h, ¬ (t ≠ 0 ∧ now s1 < t - 1 + 10000000000) → x.low = some l → x.high = some h →
              let d := mkRat h 256 - mkRat l 256
              let g := r64 (r64 (chanF s1 ch 8 - chanF s1 ch 7) / d)
              let bad := rabs d < 1024 ∨ chanF s1 ch 7 = chanF s1 ch 8
              (bad → exec c s = .next (refuse (putCalState s1 ch 5) q 0x02000006))
              ∧ (¬ bad → exec c s = .next (reply (putCalState (setCal (calPut s1 ch (f32Of g)
                  (f32Of (r64 (chanF s1 ch 7 - r64 (g * mkRat l 256))))) ch {}) ch 0) q w.ty []))))
          ∧ (v = 4 → exec c s = .next (reply (calPut s1 ch 0 0) q w.ty []))
          ∧ (v = 0 ∨ 5 ≤ v → exec c s = .next (reply (putCalState (setCal s1 ch {}) ch 0) q w.ty [])))))
    ∧ (let full := running s = true ∧ y.step = ch % 16 ∧ 256 ≤ y.n
      (full → y.taking = 1 → exec (.calCaptureDone ch) s = .next
        (putCalState (setCal s ch { y with low := some y.sum, taking := 0 }) ch (if y.high.isSome then 4 else 2)))
      ∧ (full → 2 ≤ y.taking → exec (.calCaptureDone ch) s = .next
        (putCalState (setCal s ch { y with high := some y.sum, taking := 0 }) ch (if y.low.isSome then 4 else 3)))
      ∧ (¬ full ∨ y.taking = 0 → exec (.calCaptureDone ch) s = .next s))
    ∧ (let late := running s = true ∧ y.taking ≠ 0 ∧ y.step = ch % 16 ∧ y.n < 256 ∧ y.startAt + 10000000000 ≤ now s
      (late → exec (.calCaptureTimeout ch) s = .next (putCalState (setCal s ch { y with taking := 0 }) ch 5))
      ∧ (¬ late → exec (.calCaptureTimeout ch) s = .next s))

/-- SD_OUTPUT takes the modulator clocks up to now into the demodulator's filters (sdClocksIn), and in TRIG its first trigger event on the way then gives an output (sdOutput); while CLK is confirmed or the modulator clocks are shored no bit comes, and a scheduled or triggered output is missed. Clocks that have not come yet, or a demodulator that does not run, change nothing. SD_STUCK confirms STUCK with ACQ at L3 once SDDd has not changed for StuckLimit clocks. SDC_FAULT counts missing and extra edges; at the fourth CLK is confirmed on each running demodulator of the clock and its channel misses. SDC_CLOCK_RETURN ends CLK of each demodulator that has seen correct edges for StuckLimit clocks, and of the clock with the last. A statistic unit's boundary takes effect 5 ns after it: it latches the period, or starts the first. STAT_TIMEOUT ends a period that has lasted MaxPeriod, by a boundary that came by then or with TIMEOUT. Else each changes nothing. Filter rounding is the model's (log 21). -/
def Obligations.DemodulatorsAndStatistics : Prop :=
  ∀ (s : State) (dm k miss extra u : Nat) (rise fall : List Bool),
    let bs := List.zipWith SdBit.mk rise fall
    let x := sdOf s dm
    let trig := ob s (sdBase dm) 4 = 1
    let z := tabGet ({} : SdcRead) s.sdc k
    let y := statOf s u
    let e := y.start + ob s (statBase u) 6 * 1000000
    let ns5 := nsTime 5
    (sdOn s dm = false → exec (.sdOutput dm rise fall) s = .next s)
    ∧ (sdRuns s dm = false → exec (.sdStuck dm) s = .next s)
    ∧ (sdOn s dm = true → x.clk = true ∨ isShored s 0x3700 = true →
      (trig → takeTrig s 2 dm = none → exec (.sdOutput dm rise fall) s = .next s)
      ∧ (∀ p, trig → takeTrig s 2 dm = some p → exec (.sdOutput dm rise fall) s = .next (missChan p.2 (512 + dm)))
      ∧ (¬ trig → x.lastAt + sdClocks s dm (ob s (sdBase dm) 3) ≤ now s →
        exec (.sdOutput dm rise fall) s = .next (missChan (setSd s dm { x with lastAt := now s }) (512 + dm)))
      ∧ (¬ trig → now s < x.lastAt + sdClocks s dm (ob s (sdBase dm) 3) → exec (.sdOutput dm rise fall) s = .next s))
    ∧ (sdRuns s dm = true → x.clk = false →
      (now s < x.startAt + sdClocks s dm (x.clocks + bs.length) → exec (.sdOutput dm rise fall) s = .next s)
      ∧ (x.startAt + sdClocks s dm (x.clocks + bs.length) ≤ now s →
        let s1 := sdClocksIn dm (4 * sdcDivider (viewNow s) dm) (outNow s) bs s
        let s2 := setSd s1 dm { sdOf s1 dm with lastAt := now s }
        (ob s (sdBase dm) 4 ≠ 1 ∨ takeTrig s2 2 dm = none → exec (.sdOutput dm rise fall) s = .next s2)
        ∧ (∀ p, trig → takeTrig s2 2 dm = some p → exec (.sdOutput dm rise fall) s = .next (sdOutput p.2 dm))))
    ∧ (let stuck := sdRuns s dm = true ∧ x.stuck = false ∧ x.clk = false ∧ ob s (sdBase dm) 7 ≤ x.same
      (stuck → exec (.sdStuck dm) s = .next (sdFault (setSd s dm { x with stuck := true }) dm 2))
      ∧ (¬ stuck → exec (.sdStuck dm) s = .next s))
    ∧ (let reads := running s = true ∧ ob s 0x3700 (k + 1) ≠ 0 ∧ isShored s 0x3700 = false ∧ miss + extra ≠ 0
      let s1 := { s with sdc := tabSet {} s.sdc k { bad := z.bad + miss + extra, badAt := now s } }
      (¬ reads → exec (.sdcFault ⟨k, miss, extra⟩) s = .next s)
      ∧ (reads → z.bad + miss + extra < 4 → exec (.sdcFault ⟨k, miss, extra⟩) s = .next s1)
      ∧ (reads → 4 ≤ z.bad + miss + extra → exec (.sdcFault ⟨k, miss, extra⟩) s = .next ((List.range 24).foldl (fun t d =>
        if sdRuns t d = true ∧ ob t (sdBase d) 2 = k ∧ (!(sdOf t d).clk) = true then
          missChan (sdFault (setSd t d { sdOf t d with clk := true, lastAt := now t }) d 3) (512 + d)
        else t) (putOb s1 0x3701 (k + 1) 2))))
    ∧ (let ours (d : Nat) : Bool := decide (ob s (sdBase d) 2 = k)
      let s1 := (List.range 24).foldl (fun t d =>
        if (sdOf t d).clk = true ∧ ours d = true ∧ z.badAt + sdClocks t d (ob t (sdBase d) 7) ≤ now t then
          clearDet (setSd t d { sdOf t d with clk := false }) (sdBase d * 16 + 3)
        else t) s
      let still := (List.range 24).any (fun d => (sdOf s1 d).clk && ours d)
      (running s = false ∨ ob s 0x3701 (k + 1) ≠ 2 → exec (.sdcClockReturn k) s = .next s)
      ∧ (running s = true → ob s 0x3701 (k + 1) = 2 → still = true → exec (.sdcClockReturn k) s = .next s1)
      ∧ (running s = true → ob s 0x3701 (k + 1) = 2 → still = false →
          exec (.sdcClockReturn k) s = .next (putOb { s1 with sdc := tabSet {} s1.sdc k {} } 0x3701 (k + 1) 1)))
    ∧ (statRuns s u = false → exec (.statBoundary u) s = .next s ∧ exec (.statTimeout u) s = .next s)
    ∧ (statRuns s u = true →
      (y.due = none → exec (.statBoundary u) s = .next s)
      ∧ (∀ t, y.due = some t → s.dt < t + ns5 → exec (.statBoundary u) s = .next s)
      ∧ (∀ t, y.due = some t → t + ns5 ≤ s.dt → y.on = true → exec (.statBoundary u) s = .next (statLatch s u (t / 2 ^ 32) false))
      ∧ (∀ t, y.due = some t → t + ns5 ≤ s.dt → y.on = false →
          exec (.statBoundary u) s = .next (setStat s u { ({} : Stat) with on := true, start := t / 2 ^ 32, armed := y.armed }))
      ∧ (y.on = true → e ≤ now s → y.due = none ∨ (∃ t, y.due = some t ∧ nsTime e < t) →
          exec (.statTimeout u) s = .next (statLatch s u e true))
      ∧ (∀ t, y.on = true → e ≤ now s → y.due = some t → t ≤ nsTime e → exec (.statTimeout u) s = exec (.statBoundary u) s)
      ∧ (y.on = false ∨ now s < e → exec (.statTimeout u) s = .next s))

/-- WINDOW_CROSSING on a running analogue window with a source compares the input with both thresholds, L and then H (winSample); in any other case it changes nothing. A comparator that does not change changes nothing; a change first brings the window's logic to its time (winAdvance), then starts its wait, or ends one where it falls back to the raw output; a wait of Win.Filter ticks reaches the logic with the time and blanking of its first sample. There a raw output that asserts asserts the output unless it stands or, for L, blanking was open then; one that deasserts deasserts it only with Win.Clear FOLLOW. BLANK_MAX_TIMEOUT and BLANK_TIME_END close a blanking at its time, and L asserts there where its raw output still stands. A served WIN_CLEAR clears L with bit 0 and H with bit 1 in HOST, and nothing otherwise (log 75). WIN_PERIOD_CLEAR clears both at the phase where the armed clear source passes its position. An output that asserted in the same tick stays; a cleared output whose raw output stands asserts again at once. -/
def Obligations.WindowsAssertAndClear : Prop :=
  ∀ (s s1 : State) (w phase t : Nat) (uv : Int) (isH raw cmp blank : Bool) (r : Req) (q : QReq),
    let b := winBase w
    let x := winOf s w
    let t0 := outNow s - 32 + phase
    let pol := ob s b 5
    let hy := winCodes s w (ob s b 6)
    let v := winInput s w uv
    let reads := winRuns s w = true ∧ ob s b 2 ≠ 0xFF ∧ winDemod (ob s b 2) = false
    (reads → exec (.windowCrossing w uv phase) s = .next (
      winSide (winSide s w false (winCompare (bit pol 0) x.cmpL v (winThreshold s w (ob s b 3)) hy) t0) w true
        (winCompare (bit pol 1) x.cmpH v (winThreshold s w (ob s b 4)) hy) t0))
    ∧ (¬ reads → exec (.windowCrossing w uv phase) s = .next s)
    ∧ (cmp = (if isH then x.cmpH else x.cmpL) → winSide s w isH cmp t = s)
    ∧ (cmp ≠ (if isH then x.cmpH else x.cmpL) →
      let u := winAdvance s w t
      let y := winOf u w
      let wait := if cmp = (if isH then y.rawH else y.rawL) then none else some (t, winBlank u w t)
      winSide s w isH cmp t
        = winFilter (setWin u w (if isH then { y with cmpH := cmp, waitH := wait } else { y with cmpL := cmp, waitL := wait })) w isH t)
    ∧ (∀ u bl, (if isH then x.waitH else x.waitL) = some (u, bl) →
      (u + 32 * ob s b 7 ≤ t → winFilter s w isH t = winRaw (setWin s w (if isH then { x with waitH := none }
          else { x with waitL := none })) w isH (if isH then x.cmpH else x.cmpL) bl u)
      ∧ (t < u + 32 * ob s b 7 → winFilter s w isH t = s))
    ∧ (let s2 := setWin s w (if isH then { x with rawH := raw } else { x with rawL := raw })
      (raw = (if isH then x.rawH else x.rawL) → winRaw s w isH raw blank t = s)
      ∧ (raw ≠ (if isH then x.rawH else x.rawL) →
        (raw = true → (if isH then x.outH else x.outL) = true → winRaw s w isH raw blank t = s2)
        ∧ (raw = true → (if isH then x.outH else x.outL) = false → (isH = true ∨ blank = false) →
            winRaw s w isH raw blank t = winAssert s2 w isH t)
        ∧ (raw = false → winRaw s w isH raw blank t
            = if (if isH then x.outH else x.outL) = true ∧ ob s b 0xB = 0 then winRelease s2 w isH t else s2)))
    ∧ (x.markOpen = none → exec (.blankMaxTimeout w) s = .next s)
    ∧ (∀ u, x.markOpen = some u →
      let c := u + nsPhases (ob s b 0xA)
      (winRuns s w = true ∧ c ≤ outNow s → exec (.blankMaxTimeout w) s
        = .next (winUnblank (incOb (setWin s w { x with markOpen := none, closedAt := max x.closedAt c }) b 0x19) w c))
      ∧ (¬ (winRuns s w = true ∧ c ≤ outNow s) → exec (.blankMaxTimeout w) s = .next s))
    ∧ (∀ u, x.laneOpen = some u → winRuns s w = true → u + ob s b 9 ≤ outNow s → exec (.blankTimeEnd w) s
        = .next (winUnblank (setWin s w { x with laneOpen := none, closedAt := max x.closedAt (u + ob s b 9) }) w (u + ob s b 9)))
    ∧ (winRuns s w = false ∨ x.laneOpen = none ∨ (∃ u, x.laneOpen = some u ∧ outNow s < u + ob s b 9) →
        exec (.blankTimeEnd w) s = .next s)
    ∧ (∀ row, served s r b 0x15 = some (s1, q) → rowOf b 0x15 = some row →
      (ob s1 b 0xB = 1 → exec (.winClear r w) s = .next (
        let u := if bit (leNat q.data) 0 then winClearOut s1 w false (outNow s1) else s1
        reply (if bit (leNat q.data) 1 then winClearOut u w true (outNow s1) else u) q row.ty []))
      ∧ (ob s1 b 0xB ≠ 1 → exec (.winClear r w) s = .next (reply s1 q row.ty [])))
    ∧ (let p := outPass s (ob s b 0xC) (ob s b 0xD * 2 ^ 32)
      let armed := winRuns s w = true ∧ ob s b 0xB = 2 ∧ x.armed = true
      (p = none ∨ ¬ armed → exec (.winPeriodClear w) s = .next s)
      ∧ (∀ d, p = some d → armed →
        let u := outNow s - 32 + passPhase (moveAt s (ob s b 0xC) (outNow s - 1)).2 d
        let v := winAdvance s w u
        exec (.winPeriodClear w) s
          = .next (winClearOut (winClearOut (setWin v w { winOf v w with armed := false }) w false u) w true u)))
    ∧ ((if isH then x.asH else x.asL) = s.tick + 1 → winClearOut s w isH t = s)
    ∧ (x.outH = true → x.asH ≠ s.tick + 1 → x.rawH = true → winClearOut s w true t = winAssert (setWin s w { x with outH := false }) w true t)
    ∧ (x.outL = true → x.asL ≠ s.tick + 1 → x.rawL = true → winClearOut s w false t = winAssert (setWin s w { x with outL := false }) w false t)
    ∧ (∀ rawNow, rawNow = (if isH then x.rawH else x.rawL) → rawNow = false → (if isH then x.outH else x.outL) = true →
        (if isH then x.asH else x.asL) ≠ s.tick + 1 →
        winClearOut s w isH t = winRelease s w isH t)

/-- WINDOW_CHECK on a running window with no check under way: disagreement fails the check; agreement changes nothing where the relief comparator of its kind is taken, and else relieves the window and waits for the readback (an analogue window) or the reconnection (a demodulator window). WINDOW_CHECK_READBACK in a converter's gap goes on with both codes within 256 of their thresholds, and else fails. WINDOW_CHECK_END with agreement returns the window to its own comparator, clears the check's cause and lets the lowest waiting failed window of the kind take the relief comparator; else it fails. A failure counts in Win.CheckFails, relieves the window where no other of its kind holds the relief comparator, and raises CMP at L3. Out of turn each changes nothing. WINDOW_CROSSING on a running analogue window with a source takes its sample at its phase of the output stage's latest tick (winSample). BLANK_MAX_TIMEOUT on a running window ends a blanking by marks that has lasted Win.BlankMax (winMaxEnd), and BLANK_TIME_END one by the lane that has lasted Win.BlankTime (winLaneEnd); where no such blanking is open, each changes nothing. A served WIN_CLEAR in HOST that names L and H clears both outputs (winClearOut) and is answered. WIN_PERIOD_CLEAR on a running window with Win.Latch PERIOD, armed, in a tick in which its source passes Win.ClearPosition clears both outputs and disarms it. -/
def Obligations.WindowChecksMoveToRelief : Prop :=
  ∀ (s : State) (w codeL codeH : Nat) (agree : Bool),
    let x := winOf s w
    let fail := condRaise (incOb (setWin s w { x with chkFail := true, relief := !reliefTaken s w, chk := 0, chkBad := false })
        (winBase w) 0x1C) .cmp 3 (winScope s w) 1 (winBase w * 65536 + 256) (winBase w * 16 + 3)
    let gap := (List.range 16).any (gapFree s)
    (winRuns s w = true → x.chk = 0 →
      (agree = false → exec (.windowCheck w agree) s = .next fail)
      ∧ (agree = true → reliefTaken s w = true → exec (.windowCheck w agree) s = .next s)
      ∧ (agree = true → reliefTaken s w = false → exec (.windowCheck w agree) s = .next (setWin s w { x with
          relief := true, chk := if winDemod (ob s (winBase w) 2) then 2 else 1 })))
    ∧ (winRuns s w = false ∨ x.chk ≠ 0 → exec (.windowCheck w agree) s = .next s)
    ∧ (winRuns s w = true → x.chk = 1 → gap = true →
      exec (.windowCheckReadback w codeL codeH) s = .next (
        if readbackOk s w (ob s (winBase w) 3) codeL && readbackOk s w (ob s (winBase w) 4) codeH then setWin s w { x with chk := 2 }
        else fail))
    ∧ (winRuns s w = false ∨ x.chk ≠ 1 ∨ gap = false → exec (.windowCheckReadback w codeL codeH) s = .next s)
    ∧ (winRuns s w = true → x.chk = 2 →
      (agree = true → exec (.windowCheckEnd w agree) s = .next (reliefFreed (clearDet (setWin s w { x with
          chk := 0, relief := false, chkFail := false }) (winBase w * 16 + 3)) w))
      ∧ (agree = false → exec (.windowCheckEnd w agree) s = .next fail))
    ∧ (winRuns s w = false ∨ x.chk ≠ 2 → exec (.windowCheckEnd w agree) s = .next s)
    ∧ (∀ (s1 : State) (phase : Nat) (uv : Int) (r : Req) (q : QReq) (row : Row) (d : Nat),
        let b := winBase w
        (winRuns s w = true → ob s b 2 ≠ 0xFF → winDemod (ob s b 2) = false →
          exec (.windowCrossing w uv phase) s = .next (winSample s w uv (outNow s - 32 + phase)))
        ∧ (winRuns s w = true → exec (.blankMaxTimeout w) s = .next (winMaxEnd s w (outNow s)))
        ∧ ((winOf s w).markOpen = none → winMaxEnd s w (outNow s) = s)
        ∧ (winRuns s w = true → exec (.blankTimeEnd w) s = .next (winLaneEnd s w (outNow s)))
        ∧ ((winOf s w).laneOpen = none → winLaneEnd s w (outNow s) = s)
        ∧ (served s r b 0x15 = some (s1, q) → rowOf b 0x15 = some row → ob s1 b 0xB = 1 → leNat q.data = 3 →
          exec (.winClear r w) s = .next (reply (winClearOut (winClearOut s1 w false (outNow s1)) w true (outNow s1)) q row.ty []))
        ∧ (winRuns s w = true → ob s b 0xB = 2 → (winOf s w).armed = true → outPass s (ob s b 0xC) (ob s b 0xD * 2 ^ 32) = some d →
          let u := outNow s - 32 + passPhase (moveAt s (ob s b 0xC) (outNow s - 1)).2 d
          let v := winAdvance s w u
          exec (.winPeriodClear w) s
            = .next (winClearOut (winClearOut (setWin v w { winOf v w with armed := false }) w false u) w true u)))

/-- The first trigger event under way to a loop is taken Loop.Delay and 10 ns after it, unless an event of an active loop starts before it; sooner, out of its order, or without an event, nothing changes. Of a loop that is not active (no claiming block, a shored one, or its function in none of ARMED, RUN, STOPPED and SAFE) the event is only taken. Of an active loop, a drive's reference unit and bands first run on it; then an event before the end of the running evaluation is dropped: it is counted in the loop's drops, and of the loop and of each due nested loop the outputs miss their update and the fourth drop in a row raises TRS at L3 against its function; else the evaluation starts on the MAC lanes, the runs of drops and the causes of TRS end, and the due nested loops and the loop are evaluated. The values stand at the start of the evaluation while its end comes from the lanes' schedule: the model's choice (log 66). -/
def Obligations.LoopsEvaluateOnTheirTrigger : Prop :=
  ∀ (s : State) (l : Nat),
    (s.trigs.find? (fun e => decide (e.kind = 1) && decide (e.num = l)) = none → exec (.loopTrigger l) s = .next s)
    ∧ (∀ e, s.trigs.find? (fun e => decide (e.kind = 1) && decide (e.num = l)) = some e →
      let early := s.dt < evTime e + nsTime (ob s (loopBase l) 2 + 10) ∨ (loopActive s l = true ∧ loopFirst s e = false)
      let s1 := { s with trigs := s.trigs.erase e }
      let s2 := match loopDrv s1 l with | none => s1 | some x => drvBefore s1 x (evTime e)
      let d := dueLoops 3 s2 l
      let x := loopAt d.1 l
      let s3 := (d.2 ++ [l]).foldl (fun t k => setLoop (clearDet t (loopBase k * 16)) k { loopAt t k with drops := 0 }) d.1
      (early → exec (.loopTrigger l) s = .next s)
      ∧ (¬ early → loopActive s1 l = false → exec (.loopTrigger l) s = .next s1)
      ∧ (¬ early → loopActive s1 l = true → evTime e < x.busyUntil →
        exec (.loopTrigger l) s = .next (incOb ((d.2 ++ [l]).foldl (fun t k =>
            let y := loopAt t k
            let t1 := loopMiss (setLoop t k { y with drops := y.drops + 1 }) k
            if y.drops = 3 then
              condRaise t1 .trs 3 (match fnOfBlock (loopOwner t.owned k) with | none => 0 | some f => fnCode f) 7
                (loopBase k * 65536 + 256) (loopBase k * 16)
            else t1) d.1) (loopBase l + 2) 4))
      ∧ (¬ early → loopActive s1 l = true → x.busyUntil ≤ evTime e →
        exec (.loopTrigger l) s = .next ((d.2 ++ [l]).foldl (loopEval (evTime e))
          (macStart (setLoop s3 l { loopAt s3 l with trigAt := evTime e }) {
            loop := l, trig := evTime e, start := evTime e + nsTime (ob s2 (loopBase l) 2 + 10), items := evalItems s2 l d.2 }))))

/-- A served coefficient is put in place (pending while shored; in effect the brace's coefficients are checked again). Brace.Select 1 without Brace.Shadow is refused with 0x0200_0006; else the bank is put in place, and with Brace.SelectPreset a change in effect presets the history with the latest output. A Preset of a brace waits for the next evaluation. INJECT_START without the CONFIG role is refused with 0x0400_0002, while the generator runs with 0x0300_0005, for a brace in no claimed loop or a sine above half the brace's rate with 0x0200_0006; else it starts the generator. INJECT_STOP ends a running one; INJECT_DONE ends it at Inject.Length. RESP_ARM without the CONFIG role is refused with 0x0400_0002, with an unclaimed loop, a source that does not pass or above 100 MB/s with 0x0200_0006, while armed or recording with 0x0300_0005; else it arms. RESP_TRIGGER starts an armed capture; RESP_STOP ends an armed or recording one, and RESP_FULL a recording one whose rows leave no room in 256 KiB for another. Else the last five change nothing but the answer. -/
def Obligations.BenchAndBraceWrites : Prop :=
  ∀ (s s1 : State) (r : Req) (i bank k : Nat) (q : QReq) (w : Row),
    (served s r (braceBase i + 1 + bank) (k + 1) = some (s1, q) → rowOf (braceBase i + 1 + bank) (k + 1) = some w →
      let a := oaddr (braceBase i + 1 + bank) (k + 1)
      exec (.braceCoefWrite r i bank k) s = .next (reply (
        if addrShored s1 a then { s1 with pend := tabPut s1.pend a (cellOf (leNat q.data)) }
        else coefCheck (setCell s1 a (cellOf (leNat q.data))) i) q w.ty []))
    ∧ (served s r (braceBase i + 3) 1 = some (s1, q) → rowOf (braceBase i + 3) 1 = some w →
      let v := leNat q.data
      let none_ := v = 1 ∧ vw (viewOf s1 [braceBase i]) (braceBase i) 9 = 0
      let plain := isShored s1 (braceBase i) = true ∨ v = ob s1 (braceBase i + 3) 1 ∨ ob s1 (braceBase i + 3) 2 = 0
      let s2 := putValue s1 (oaddr (braceBase i + 3) 1) v
      (none_ → exec (.braceSelect r i) s = .next (refuse s1 q 0x02000006))
      ∧ (¬ none_ → plain → exec (.braceSelect r i) s = .next (reply s2 q w.ty []))
      ∧ (¬ none_ → ¬ plain → exec (.braceSelect r i) s
          = .next (reply (presetBrace s2 i (f32Of (ofMant (braceEd s1 i) (brcOf s1 i).u))) q w.ty [])))
    ∧ (served s r (braceBase i + 3) 7 = some (s1, q) → rowOf (braceBase i + 3) 7 = some w → i < 192 →
      exec (.bracePreset r i) s
        = .next (reply (setBrc s1 i { brcOf s1 i with preset := some (storedOf 9 q.data) }) q w.ty []))
    ∧ (served s (byteReq r 2 1) 0x3C20 9 = some (s1, q) →
      let m := if ob s1 0x3C20 1 < 192 then memberLoop (viewNow s1) s1.owned (ob s1 0x3C20 1) else none
      let fast := ob s1 0x3C20 3 = 3 ∧ (ob s1 (braceBase (ob s1 0x3C20 1) + 3) 11 : Rat) ≤ 2 * obF s1 0x3C20 5
      (hasRole s1 q.ses 4 = false → exec (.injectStart r) s = .next (refuse s1 q 0x04000002))
      ∧ (hasRole s1 q.ses 4 = true → s1.inj.st = 1 → exec (.injectStart r) s = .next (refuse s1 q 0x03000005))
      ∧ (hasRole s1 q.ses 4 = true → s1.inj.st ≠ 1 → m = none → exec (.injectStart r) s = .next (refuse s1 q 0x02000006))
      ∧ (∀ l, hasRole s1 q.ses 4 = true → s1.inj.st ≠ 1 → m = some l →
          (fast → exec (.injectStart r) s = .next (refuse s1 q 0x02000006))
          ∧ (¬ fast → exec (.injectStart r) s = .next (reply { s1 with inj := {
              st := 1, brace := ob s1 0x3C20 1, fn := fnOfBlock (loopOwner s1.owned l) } } q 2 []))))
    ∧ (served s (byteReq r 2 2) 0x3C20 9 = some (s1, q) → exec (.injectStop r) s
        = .next (reply (if s1.inj.st = 1 then { s1 with inj := { s1.inj with st := 3 } } else s1) q 2 []))
    ∧ (s.inj.st = 1 → ob s 0x3C20 8 ≤ s.inj.n → exec .injectDone s = .next { s with inj := { s.inj with st := 2 } })
    ∧ (s.inj.st ≠ 1 ∨ s.inj.n < ob s 0x3C20 8 → exec .injectDone s = .next s)
    ∧ (served s (byteReq r 2 1) 0x3C29 7 = some (s1, q) →
      let bad := loopOwner s1.owned (ob s1 0x3C29 2) = 0 ∨ (respSrc s1).all (respSrcOk s1) = false
        ∨ 100000000 < mkRat (ob s1 (loopBase (ob s1 0x3C29 2) + 2) 1) (max 1 (ob s1 0x3C29 3)) * (8 + 4 * ob s1 0x3C29 1 : Nat)
      let busy := s1.resp.st = 1 ∨ s1.resp.st = 2
      (hasRole s1 q.ses 4 = false → exec (.respArm r) s = .next (refuse s1 q 0x04000002))
      ∧ (hasRole s1 q.ses 4 = true → bad → exec (.respArm r) s = .next (refuse s1 q 0x02000006))
      ∧ (hasRole s1 q.ses 4 = true → ¬ bad → busy → exec (.respArm r) s = .next (refuse s1 q 0x03000005))
      ∧ (hasRole s1 q.ses 4 = true → ¬ bad → ¬ busy → exec (.respArm r) s = .next (reply { s1 with resp := { st := 1 } } q 2 [])))
    ∧ (served s (byteReq r 2 2) 0x3C29 7 = some (s1, q) → exec (.respTrigger r) s
        = .next (reply (if s1.resp.st = 1 then { s1 with resp := { s1.resp with st := 2 } } else s1) q 2 []))
    ∧ (served s (byteReq r 2 3) 0x3C29 7 = some (s1, q) → exec (.respStop r) s
        = .next (reply (if s1.resp.st = 1 ∨ s1.resp.st = 2 then { s1 with resp := { s1.resp with st := 3 } } else s1) q 2 []))
    ∧ (let full := 262144 < s.resp.rows.foldl (fun a x => a + rowBytes x.vals.length) 0 + rowBytes (max 1 (ob s 0x3C29 1))
      (s.resp.st = 2 → full → exec .respFull s = .next { s with resp := { s.resp with st := 3 } })
      ∧ (s.resp.st ≠ 2 ∨ ¬ full → exec .respFull s = .next s))

/-- DRIVE_RELEASE two latches after the presets in RUN lets the drive's lanes follow their commands; DRIVE_SETTLE_END ends Start.Settle after it. DRIVE_STOP_COMPLETE in RUN, stopping with T_ref 0 and the EMF ratio below Stop.EmfLimit, and DRIVE_FAULT_RAMP_END with T_ref 0 or after Stop.FaultRamp, have the lanes take their OFF level at the next latch, when the drive's state ends (drvEnd, in LANE_TICK). A direction against a rotor faster than Direction.Threshold is refused with 0x0300_0005 and else put in place. DERATE_UPDATE of a drive or the Charger at least 1 ms after the last evaluates the derating where its derating block is not shored, and a drive watches its inputs. Each changes nothing else; out of turn, or for another function, nothing. -/
def Obligations.DriveSequencerSteps : Prop :=
  ∀ (s s1 : State) (d : Drv) (r : Req) (q : QReq) (f : Fn),
    let y := drvOf s d
    let run := running s = true ∧ fnState s (drvFn d) = .run
    let rel := run ∧ y.rel = 2 ∧ y.latches + 2 ≤ tabGet 0 s.fired (drvLatch s d)
    let settle := run ∧ y.rel = 3 ∧ y.relAt + ob s (drvBase d + 6) 1 * 1000 ≤ now s
    let stop := run ∧ y.stopping = true ∧ y.tref = 0 ∧ emfRatio s d < obF s (drvBase d + 6) 2
    let due (t : Nat) : Prop := running s = true ∧ t + 1000000 ≤ now s
    (rel → exec (.driveRelease d) s = .next (setDrv (setLive s (drvLanes s d) true) d { y with rel := 3, relAt := now s }))
    ∧ (¬ rel → exec (.driveRelease d) s = .next s)
    ∧ (settle → exec (.driveSettleEnd d) s = .next (setDrv s d { y with rel := 4 }))
    ∧ (¬ settle → exec (.driveSettleEnd d) s = .next s)
    ∧ (stop → exec (.driveStopComplete d) s = .next (setDrv s d { y with ending := 1 }))
    ∧ (¬ stop → exec (.driveStopComplete d) s = .next s)
    ∧ (∀ t x, y.ramp = some (t, x) →
      let past := running s = true ∧ (y.tref = 0 ∨ t + ob s (drvBase d + 6) 3 * 1000000 ≤ now s)
      (past → exec (.driveFaultRampEnd d) s = .next (setDrv s d { y with ending := 2 }))
      ∧ (¬ past → exec (.driveFaultRampEnd d) s = .next s))
    ∧ (y.ramp = none → exec (.driveFaultRampEnd d) s = .next s)
    ∧ (served s r (drvBase d + 5) 1 = some (s1, q) →
      let k : Rat := if leNat q.data = 1 then 1 else if leNat q.data = 2 then -1 else 0
      let sg := if ob s1 (drvBase d + 5) 2 = 1 then -k else k
      let against := (ob s1 (drvBase d + 5) 3 : Rat) < rabs (drvRpm s1 d) ∧ sg * drvRpm s1 d < 0
      (against → exec (.directionSelect r d) s = .next (refuse s1 q 0x03000005))
      ∧ (¬ against →
        exec (.directionSelect r d) s = .next (reply (putValue s1 (oaddr (drvBase d + 5) 1) (leNat q.data)) q 2 [])))
    ∧ (∀ x, f = drvFn x →
      let b := if x = .a then 0x4400 else 0x4C00
      (due (drvOf s x).derAt → isShored s b = false → exec (.derateUpdate f) s
        = .next (drvWatch (derateEval (setDrv s x { drvOf s x with derAt := now s }) f b) x))
      ∧ (due (drvOf s x).derAt → isShored s b = true →
        exec (.derateUpdate f) s = .next (drvWatch (setDrv s x { drvOf s x with derAt := now s }) x))
      ∧ (¬ due (drvOf s x).derAt → exec (.derateUpdate f) s = .next s))
    ∧ (due s.chg.derAt → isShored s 0x5000 = false → exec (.derateUpdate .charger) s
        = .next (derateEval (setChg s (fun y => { y with derAt := now s })) .charger 0x5010))
    ∧ (¬ due s.chg.derAt ∨ isShored s 0x5000 = true → exec (.derateUpdate .charger) s = .next s)
    ∧ (f ≠ .driveA → f ≠ .driveB → f ≠ .charger → exec (.derateUpdate f) s = .next s)

/-- FAULT_INPUT_EDGE counts the edge and notes the input low; sealed to no function it does no more, sealed to the Charger, the Converter or another function without a selector it raises SC at L4 against it, sealed to a drive it goes to the drive's selector (drvFault) and joins the detectors that hold the drive's active SC fault. In the selector it changes nothing in LOCKOUT or on a two-bank short; collection open, its suspect is added; on a one-bank short the same bank changes nothing and the other makes it two banks; else the legs freewheel, the earliest ASC counts from now, and collection opens with the suspect's bank and the time of the first low sample. FAULT_INPUT_RISE notes it high; for a function that is no drive its cause clears, for a drive the causes of its inputs once all are high. COLLECT_CLOSE after Prot.Collect latches a one-bank or a two-bank short and raises SC at L4 with the first edge's time. ASC_APPLY after Prot.AscDelay moves a freewheeling drive to its due ASC choice. Else, or in a device that does not run, each changes nothing. -/
def Obligations.FaultInputsCollectAndLatch : Prop :=
  ∀ (s : State) (k : Nat) (d : Drv),
    let s1 := incOb { s with link := { s.link with fltLow := tabSet false s.link.fltLow k true } } 0x2104 (k + 1)
    let s0 := { s with link := { s.link with fltLow := tabSet false s.link.fltLow k false } }
    let y := selOf s d
    let close := running s = true ∧ s.dev ≠ .lockout ∧ y.collecting = true ∧ y.openedAt + ob s (drvBase d + 0x700) 5 ≤ now s
    (running s = false → exec (.faultInputEdge k) s = .next s ∧ exec (.faultInputRise k) s = .next s)
    ∧ (running s = true →
      (fltLane s k = none → exec (.faultInputEdge k) s = .next s1 ∧ exec (.faultInputRise k) s = .next s0)
      ∧ (∀ l, fltLane s k = some l →
        (fnOf (sealFunc s l) = none → exec (.faultInputEdge k) s = .next s1 ∧ exec (.faultInputRise k) s = .next s0)
        ∧ (∀ f, fnOf (sealFunc s l) = some f → fnDrv f = none →
          exec (.faultInputEdge k) s = .next (raise s1 .sc 4 (fnCode f) 1 (fltDetail k) (fltDet k))
          ∧ exec (.faultInputRise k) s = .next (clearDet s0 (fltDet k)))
        ∧ (∀ f, fnOf (sealFunc s l) = some f → fnDrv f = some d →
          (let t := drvFault s1 d l
            let z := keyAt t (keyNo .sc (fnCode (drvFn d)))
            exec (.faultInputEdge k) s = .next (if z.active ∧ z.srcs.contains (fltDet k) = false then
              publishKey (setKey t (keyNo .sc (fnCode (drvFn d))) { z with srcs := z.srcs ++ [fltDet k] })
                (keyNo .sc (fnCode (drvFn d))) else t))
          ∧ exec (.faultInputRise k) s = .next (if fltLowOf s0 f then s0
            else (List.range 24).foldl (fun t j => match fltLane t j with
              | none => t
              | some m => if fnOf (sealFunc t m) = some f then clearDet t (fltDet j) else t) s0))))
    ∧ (∀ l, let hi := suspectHigh s l
      (s.dev = .lockout → drvFault s d l = s)
      ∧ (s.dev ≠ .lockout →
        (y.collecting = true →
          drvFault s d l = setSel s d { y with susLow := y.susLow || !hi, susHigh := y.susHigh || hi })
        ∧ (y.collecting = false → y.twoBank = true → drvFault s d l = s)
        ∧ (y.collecting = false → y.twoBank = false → y.oneBank = true → y.highBank = hi → drvFault s d l = s)
        ∧ (y.collecting = false → y.twoBank = false → y.oneBank = true → y.highBank ≠ hi → drvFault s d l
            = latchShort s d true hi)
        ∧ (y.collecting = false → y.twoBank = false → y.oneBank = false →
          drvFault s d l = freewheel s d none (fun z => { z with
            offAt := s.dt, byRule := false, collecting := true, openedAt := now s, firstAt := fltStamp s d, susLow := !hi, susHigh := hi }))))
    ∧ (let t := latchShort s d (y.susLow && y.susHigh) y.susHigh
      let j := firstFlt t (drvFn d)
      (close → exec (.collectClose d) s = .next (raiseAt t .sc 4 (fnCode (drvFn d)) y.firstAt 1 (fltDetail j)
        (if fltLowOf t (drvFn d) then fltDet j else 0)))
      ∧ (¬ close → exec (.collectClose d) s = .next s))
    ∧ (∀ c, y.ascDue = some c →
      let apply := running s = true ∧ s.dev ≠ .lockout ∧ y.choice = .freewheel ∧ y.offAt + nsTime (ob s (drvBase d + 0x700) 4) ≤ s.dt
      (apply → exec (.ascApply d) s = .next (setSel s d { y with choice := c, ascDue := none }))
      ∧ (¬ apply → exec (.ascApply d) s = .next s))
    ∧ (y.ascDue = none → exec (.ascApply d) s = .next s)

/-- LINK_WORD in a running device with a link channel passes the word to Plumb's SF3 watch and, where the guard runs and the word carries neither STL nor INV, to the guard (linkWord), which publishes it, ends staleness and enters and leaves OV1 and OV2 with their hysteresis. LINK_STALE_TIMEOUT raises ACQ at L3 against both drives and the Charger when no word came for Link.Timeout. DUMP_OBSERVE_TIMEOUT with no dump current 50 µs after the command, the guard's or Plumb's, raises DMP at L3 and makes an OV2 decision that waits for it; DUMP_MAXON_TIMEOUT ends a command of the guard that lasts Link.DumpMaxOn and bars the next. DUMP_TEST, ready and with no pulse open, starts one; in a pulse, of the dump channel's input, its conversion in a gap that ends 500 ns before the pulse does decides: below DumpMin it fails the path, raising DMP at L3 unless known, else it clears the failure; a pulse that is over, a shored guard, or a device that does not run, ends the test without a result. Else each changes nothing. -/
def Obligations.LinkGuardWatchesTheLink : Prop :=
  ∀ (s : State) (src : AdcIn) (uv : Int) (w code : Nat),
    let ch := ob s 0x2100 1
    let dch := ob s 0x2100 6
    let cs := dumpConvs s
    let stale := guardRuns s = true ∧ s.link.stale = false ∧ s.link.wordAt + ob s 0x2100 5 * 1000 ≤ now s
    let blind := running s = true ∧ dumpCmd s = true ∧ s.link.dumpSeen = false ∧ s.link.dumpAt + nsTime 50000 ≤ s.dt
    let long := guardRuns s = true ∧ s.link.dumpOn = true ∧ s.link.guardAt + nsTime (ob s 0x2100 8 * 1000000) ≤ s.dt
    let fault (t : State) : State := if dumpFaulty t then t else raiseEv t .dmp 3 0 7 linkDetail
    let l1 := linkLow s (chanGood s ch) (chanVal s ch)
    let ended (t : State) (x : Option (Nat × Bool)) : State := setLink t (fun y => { y with pulse := x })
    (running s = true → ch ≠ 0xFFFF → exec .linkWord s = .next (if guardRuns l1 ∧ chanGood l1 ch then linkWord l1 (chanWord l1 ch).1 else l1))
    ∧ (running s = false ∨ ch = 0xFFFF → exec .linkWord s = .next s)
    ∧ (let a := { putOb s 0x2102 0 w with link := { (putOb s 0x2102 0 w).link with wordAt := now s, stale := false } }
      let b := if s.link.stale then clearDet a 0x21000 else a
      let x := f32Val w
      let o1 := obF s 0x2100 2
      let o2 := obF s 0x2100 3
      let hy := obF s 0x2100 4
      let c := if o1 < x ∧ (!b.link.ov1) = true then enterOv1 b else if x < o1 - hy ∧ b.link.ov1 = true then leaveOv1 b else b
      linkWord s w
        = if o2 < x ∧ (!c.link.ov2) = true then enterOv2 c else if x < o2 - hy ∧ c.link.ov2 = true then leaveOv2 c else c)
    ∧ (stale → exec .linkStaleTimeout s = .next (condAll (setLink s (fun y => { y with stale := true })) [.driveA, .driveB, .charger]
        .acq 3 7 linkDetail 0x21000))
    ∧ (¬ stale → exec .linkStaleTimeout s = .next s)
    ∧ (blind → exec .dumpObserveTimeout s
        = .next (if s.link.ov2 ∧ s.link.ov2Wait then ov2React (fault s) else fault s))
    ∧ (¬ blind → exec .dumpObserveTimeout s = .next s)
    ∧ (long → exec .dumpMaxonTimeout s = .next (fault (setLink s (fun y => { y with dumpOn := false, dumpBarred := true }))))
    ∧ (¬ long → exec .dumpMaxonTimeout s = .next s)
    ∧ (s.link.pulse = none ∨ (∃ t, s.link.pulse = some (t, true)) →
      exec (.dumpTest src uv) s = .next (if dumpReady s then ended s (some (s.dt, false)) else s))
    ∧ (∀ t, s.link.pulse = some (t, false) →
      let want := muxInput (ob s (seqBase (dch / 16)) 1) (ob s (seqBase (dch / 16) + 1) (dch % 16 + 1))
      let late := (!outDone s 3 0 cs && decide (t + nsTime (ob s 0x2100 9) < s.dt + nsTime 625)) = true
      let o := if late then (s, false) else outConv s 3 0 cs 1
      (running s = false ∨ pulseOn s = false ∨ isShored s 0x2100 = true → exec (.dumpTest src uv) s = .next (ended s (some (t, true))))
      ∧ (running s = true → pulseOn s = true → isShored s 0x2100 = false → want ≠ some src → exec (.dumpTest src uv) s = .next s)
      ∧ (running s = true → pulseOn s = true → isShored s 0x2100 = false → want = some src → exec (.dumpTest src uv) s = .next (
          if o.2 then dumpResult (ended o.1 (some (t, true))) (sampleCode s (muxVolt s src uv)) else o.1)))
    ∧ (f32Val (scaleCode s dch code).1 < obF s 0x2100 7 → dumpResult s code
        = setLink (if dumpFaulty s then s else raise s .dmp 3 0 7 linkDetail 0x74180000) (fun y => { y with testFail := true, testDone := true }))
    ∧ (¬ (f32Val (scaleCode s dch code).1 < obF s 0x2100 7) → dumpResult s code
        = clearDet (setLink s (fun y => { y with testFail := false, testDone := true })) 0x74180000)

/-- SESSION_PILOT_READY in step 1, with state B or C, valid PWM, at least 6 A (and Hlc.Ready at 3 % to 7 % duty), closes S2 and starts the safety timer at 0 (phase 2). SESSION_GRID_READY in step 2, locked with every phase in its limits, has the precharge relay close (phase 3); SESSION_AC_TIMEOUT ends with NO_POWER. SESSION_PRECHARGE_DONE in step 3 has the main relay close (phase 4); SESSION_PRECHARGE_TIMEOUT after 500 ms ends with PRECHARGE. With no grid loss, SESSION_PFC_LIVE 20 ms after the main relay opens the precharge relay and puts the PFC legs live. SESSION_BUS_READY, with the bus within 2 % of Pfc.BusRef, puts the DAB legs live (phase 5), or in vehicle-to-load has the main relay close. A command that meets another step or condition changes nothing. Relays are commanded by marks placed one tick ahead: the model's choice (log 28). -/
def Obligations.ChargingSessionSteps : Prop :=
  ∀ (s : State),
    let x := s.chg
    let at_ (k : Nat) : State := setChg s (fun y => { y with step := k, t0 := now s })
    let ready := atStep s 1 = true ∧ (ob s 0x5101 1 = 2 ∨ ob s 0x5101 1 = 3) ∧ x.pwm = true ∧ 6 ≤ obF s 0x5101 5
      ∧ (ob s 0x5101 2 < 30 ∨ 70 < ob s 0x5101 2 ∨ ob s 0x5102 2 = 1)
    let grid := atStep s 2 = true ∧ gridReady s = true
    let noAc := atStep s 2 = true ∧ (!gridReady s) = true ∧ x.t0 + ob s 0x5003 3 * 1000000 ≤ now s
    let full := atStep s 3 = true ∧ busPrecharged s = true
    let empty := atStep s 3 = true ∧ (!busPrecharged s) = true ∧ x.t0 + 500000000 ≤ now s
    let live := (atStep s 4 = true ∨ atStep s 23 = true) ∧ x.gridSince = 0 ∧ x.t0 + 20000000 ≤ now s
    let bus := atStep s 5 = true ∧ x.gridSince = 0 ∧ busAtRef s = true
    let v2lBus := atStep s 22 = true ∧ busAtRef s = true
    (ready → exec .sessionPilotReady s = .next (putOb (putPhase (putS2 (setChg s (fun y => { y with
      step := 2, t0 := now s, timerOn := true, timerLim := ob s 0x5006 1 * 3600, timer := 0, timerAt := now s, iSum := 0, iNum := 0 }))
      true) 2) 0x5006 2 0))
    ∧ (¬ ready → exec .sessionPilotReady s = .next s)
    ∧ (grid → exec .sessionGridReady s = .next (putPhase (relayPre (at_ 3) true) 3))
    ∧ (¬ grid → exec .sessionGridReady s = .next s)
    ∧ (noAc → exec .sessionAcTimeout s = .next (chgL1 s 10))
    ∧ (¬ noAc → exec .sessionAcTimeout s = .next s)
    ∧ (full → exec .sessionPrechargeDone s = .next (putPhase (relayMain (at_ 4) true) 4))
    ∧ (¬ full → exec .sessionPrechargeDone s = .next s)
    ∧ (empty → exec .sessionPrechargeTimeout s = .next (chgL3 s 11))
    ∧ (¬ empty → exec .sessionPrechargeTimeout s = .next s)
    ∧ (live → exec .sessionPfcLive s = .next (pfcGoLive s))
    ∧ (¬ live → exec .sessionPfcLive s = .next s)
    ∧ (bus → exec .sessionBusReady s = .next (
        putPhase (dabPut (setChg s (fun y => { y with step := 6, t0 := now s, zeroSince := 0, endSince := 0 })) true) 5))
    ∧ (¬ bus → v2lBus → exec .sessionBusReady s = .next (relayMain (at_ 23) true))
    ∧ (¬ bus → ¬ v2lBus → exec .sessionBusReady s = .next s)

/-- After 1 s with ilim 0 SESSION_PAUSE has the DAB turn off at its next latch and the PFC at its zero crossings, and reads phase 7; after 1 s above 0, with the grid there, SESSION_RESUME goes on from step 5. SESSION_COMPLETE after Profile.EndTime stops with COMPLETE. SAFETY_TIMER_TICK each second adds the rate and at Timer.Limit ends with TIMER at L3. SESSION_DAB_OFF with Ref.Idc 0 and less than 0.5 A, or after 100 ms, ends the legs: the DAB at its next latch, the PFC at its zero crossings, step 9. PFC_ZERO_CROSS_OFF turns a phase off as rod 3 passes its zero crossing, or after BATTERY_LOST while rod 3 is stale; in vehicle-to-load the last one has the DAB follow. SESSION_END after the last leg clears every output and the session, and a Charger in RUN enters ARMED, or IDLE after DISARM. GRID_RIDETHROUGH_TIMEOUT ends with GRID_FAULT. Else each changes nothing. The first reason of a stop is kept at another device time. -/
def Obligations.ChargingSessionPausesAndEnds : Prop :=
  ∀ (s : State) (ph : Nat),
    let x := s.chg
    let r : Rat := if x.bind ≠ 8 ∨ x.icmd = 0 ∨ x.iNum = 0 then 1 else rmax (mkRat 1 4) (rmin 1 (x.iSum / (x.iNum : Nat) / x.icmd))
    let t := x.timer + r
    let timed := putOb (putOb (setChg s (fun y => { y with timer := t, timerAt := x.timerAt + 1000000000, iSum := 0, iNum := 0 }))
      0x5006 2 (t.floor.toNat % 2 ^ 32)) 0x5006 3 (f32Of r)
    let u := pfcPut s ph false
    let e := sessionOver (sessionOff s)
    let pause := atStep s 6 = true ∧ x.zeroSince ≠ 0 ∧ x.zeroSince - 1 + 1000000000 ≤ now s
    let resume := atStep s 7 = true ∧ x.gridSince = 0 ∧ x.posSince ≠ 0 ∧ x.posSince - 1 + 1000000000 ≤ now s
    let done := atStep s 6 = true ∧ x.endSince ≠ 0 ∧ x.endSince - 1 + ob s 0x5004 4 * 1000000000 ≤ now s
    let tick := running s = true ∧ x.timerOn = true ∧ x.timerAt + 1000000000 ≤ now s
    let dabOff := running s = true ∧ x.step = 8
      ∧ ((obF s 0x5005 8 = 0 ∧ chanVal s (ob s 0x5301 2) < mkRat 1 2) ∨ x.t0 + 100000000 ≤ now s)
    let cross := running s = true ∧ x.pfcEnd = true ∧ bit x.pfc ph = true
      ∧ ((zeroCrossings ph).any (fun z => (srcPass s 3 (z * 2 ^ 32)).isSome) = true ∨ (x.cut = true ∧ rodStale s 3 = true))
    let past := running s = true ∧ x.step = 9 ∧ x.pfc = 0 ∧ ((!x.v2l) = true ∨ (!x.dab) = true)
    let gridOut := running s = true ∧ fnState s .charger = .run ∧ 4 ≤ x.step ∧ x.step ≤ 7 ∧ x.gridSince ≠ 0
      ∧ x.gridSince - 1 + ob s 0x5203 3 * 1000000 ≤ now s
    (pause → exec .sessionPause s = .next (putPhase (setChg (dabStop s) (fun y => { y with step := 7, pfcEnd := true, posSince := 0 })) 7))
    ∧ (¬ pause → exec .sessionPause s = .next s)
    ∧ (resume → exec .sessionResume s = .next (pfcGoLive s))
    ∧ (¬ resume → exec .sessionResume s = .next s)
    ∧ (done → exec .sessionComplete s = .next (chgStop s 1 .armed))
    ∧ (¬ done → exec .sessionComplete s = .next s)
    ∧ (tick → exec .safetyTimerTick s = .next (if (x.timerLim : Rat) ≤ t ∧ x.timer < x.timerLim then chgL3 timed 3 else timed))
    ∧ (¬ tick → exec .safetyTimerTick s = .next s)
    ∧ (dabOff → exec .sessionDabOff s = .next (legsEnd s))
    ∧ (¬ dabOff → exec .sessionDabOff s = .next s)
    ∧ (cross → exec (.pfcZeroCrossOff ph) s = .next (if u.chg.v2l ∧ u.chg.pfc = 0 ∧ u.chg.step = 9 then dabStop u else u))
    ∧ (¬ cross → exec (.pfcZeroCrossOff ph) s = .next s)
    ∧ (past → exec .sessionEnd s = .next (if fnState e .charger = .run then setFn e .charger x.after else e))
    ∧ (¬ past → exec .sessionEnd s = .next s)
    ∧ (gridOut → exec .gridRidethroughTimeout s = .next (chgL1 s 9))
    ∧ (¬ gridOut → exec .gridRidethroughTimeout s = .next s)
    ∧ (∀ c, x.step ≠ 0 → x.reason = 0 → (noteReason s c).chg.reason = c)
    ∧ (∀ c, x.reason ≠ 0 → x.reasonAt ≠ now s → noteReason s c = s)
    ∧ legsEnd s = setChg (putPhase (setChg s (fun y => { y with dabEnd := y.dab })) 8) (fun y => { y with step := 9, pfcEnd := true })

/-- PILOT_EVAL and PROXIMITY_EVAL act each 10 ms while block 0x5100 measures and is not shored, and else change nothing. A pilot class is accepted by its third window in a row; the current it allows is 0 outside states B to D and 0.6 A per percent from 10 % to 85 %. A proximity code is accepted after Pp.Debounce; where V_PP stands at its supply the resistance is a free word, one of which each evaluation takes (log 30). CHARGER_LIMIT_STAGE acts each 50 µs while none of its blocks is shored. A served Dab.Fsw above Rod.MaxRate of rod 4, or above 2 MHz of samples, is refused with 0x0200_0006; shored it is pending; else it is put in place and sent to rod 4. V2L_BACKFEED_CHECK after 100 ms raises CHG at L3 with BACKFEED, or puts the DAB live with the bus set point at the measured voltage. V2L_RAMP_END after V2l.RampTime begins phase 10, or at the end of a stop's ramp has the PFC turn off. V2L_OVERLOAD after V2l.OverloadTime of clipping or of excess power ends with OVERLOAD. Out of step each changes nothing. -/
def Obligations.InletLimitsAndVehicleToLoad : Prop :=
  ∀ (s s1 : State) (r : Req) (q : QReq),
    let x := s.chg
    let w := pilotForm s
    let a := pilotAccept w.1 w.2
    let pp := ppCode s
    let since := if pp.2 = x.ppCand then x.ppSince else now s
    let p1 := putOb (setChg { s with free := s.free + 1 } (fun y => { y with ppAt := now s, ppCand := pp.2, ppSince := since })) 0x5101 7
      (f32Of pp.1)
    let past (z : Nat) : Bool := decide (z ≠ 0) && decide (z - 1 + ob s 0x5400 7 * 1000000 ≤ now s)
    let f := f32Val (storedOf 9 q.data)
    let pilot := inletRuns s = true ∧ x.pilotAt + 10000000 ≤ now s
    let prox := inletRuns s = true ∧ x.ppAt + 10000000 ≤ now s
    let lim := running s = true ∧ (!isShored s 0x5000) = true ∧ (!isShored s 0x5200) = true ∧ (!isShored s 0x5300) = true
      ∧ (!isShored s 0x5400) = true ∧ x.limAt + 50000 ≤ now s
    let back := atStep s 21 = true ∧ x.t0 + 100000000 ≤ now s
    let heavy := (atStep s 24 = true ∨ atStep s 25 = true) ∧ (past x.overSince = true ∨ past x.overPow = true)
    let ramped := x.t0 + ob s 0x5400 6 * 1000000 ≤ now s
    (pilot → exec .pilotEval s = .next (plugWatch (pilotSession (putPilotCurrent a.1) a.2)))
    ∧ (¬ pilot → exec .pilotEval s = .next s)
    ∧ (prox → exec .proximityEval s = .next (plugWatch (if since + ob p1 0x5100 7 * 1000000 ≤ now p1 then ppAccept p1 pp.2 else p1)))
    ∧ (¬ prox → exec .proximityEval s = .next s)
    ∧ (lim → exec .chargerLimitStage s = .next (chgLimitStage s))
    ∧ (¬ lim → exec .chargerLimitStage s = .next s)
    ∧ (back → exec .v2lBackfeedCheck s = .next (if x.backfeed then chgL3 s 14
      else dabPut (setChg s (fun y => { y with step := 22, t0 := now s, busNow := some (f32Of (busVolt s)) })) true))
    ∧ (¬ back → exec .v2lBackfeedCheck s = .next s)
    ∧ (heavy → exec .v2lOverload s = .next (chgL1 s 13))
    ∧ (¬ heavy → exec .v2lOverload s = .next s)
    ∧ (∀ c, (c ≠ x.pilotCand ∨ x.pilotRun < 2) →
      pilotAccept s c = (setChg s (fun y => { y with pilotCand := c, pilotRun := if c = x.pilotCand then x.pilotRun + 1 else 1 }), false))
    ∧ (∀ c, 2 ≤ x.pilotRun → c = x.pilotCand → pilotAccept s c
        = (putOb (setChg s (fun y => { y with pilotRun := 3 })) 0x5101 1 c, decide (c = 1) && decide (ob s 0x5101 1 ≠ 1)))
    ∧ (∀ st d, st < 2 ∨ 4 < st → pilotCurrent s st d true = 0)
    ∧ (∀ st d, 2 ≤ st → st ≤ 4 → 100 ≤ d → d ≤ 850 → pilotCurrent s st d true = mkRat d 10 * mkRat 6 10)
    ∧ (served s r 0x5300 1 = some (s1, q) →
      let bad := rodMaxHz (viewNow s1) 4 < f ∨ 2000000 < f * (ob s1 0x5300 5 : Nat)
      let s2 := putValue s1 (oaddr 0x5300 1) (storedOf 9 q.data)
      (isShored s1 0x5300 = true → exec (.dabFswWrite r) s = .next (reply s2 q 9 []))
      ∧ (isShored s1 0x5300 = false → bad → exec (.dabFswWrite r) s = .next (refuse s1 q 0x02000006))
      ∧ (isShored s1 0x5300 = false → ¬ bad → exec (.dabFswWrite r) s = .next (reply (sendFreqAll s2 9) q 9 [])))
    ∧ (atStep s 24 = true → ramped → exec .v2lRampEnd s = .next (putPhase (setChg s (fun y => { y with step := 25, t0 := now s })) 10))
    ∧ (atStep s 24 = false → atStep s 26 = true → ramped →
        exec .v2lRampEnd s = .next (setChg s (fun y => { y with step := 9, pfcEnd := true })))
    ∧ (¬ ramped ∨ (atStep s 24 = false ∧ atStep s 26 = false) → exec .v2lRampEnd s = .next s)

/-- CONVERTER_LIMIT_STAGE acts each 50 µs while neither of its blocks is shored. DCX_SOFTSTART_STEP each 100 µs moves the frequency linearly toward Dcx.Fsw and sends it; DCX_SOFTSTART_END sends Dcx.Fsw and, with the bus at the link voltage, presets the braces, else raises CNV at L3. BUCK_LIVE two latches after the presets puts the buck-boost live, in a forward start or a precharge. PRECHARGE_REACHED with the link within 2 % of Pre.Target holds it; PRECHARGE_HOLD_END after Pre.HoldTime stops into ARMED; PRECHARGE_TIMEOUT raises CNV at L3. CONVERTER_STOP_DONE in a stop, below 2 % of Limit.Current or after 10 ms, has the limits at 0 and the buck-boost turn off at its next latch; once it has, at rod 5's next passage everything turns off and a Converter in RUN enters ARMED or IDLE. A served Dcx.Fsw above Rod.MaxRate of rod 5 is refused with 0x0200_0006; shored it is pending; else it is put in place and sent. Else each changes nothing. -/
def Obligations.ConverterStartsAndStops : Prop :=
  ∀ (s s1 : State) (r : Req) (q : QReq),
    let x := s.cnv
    let fires := tabGet 0 s.fired (latchIndex s.marks 0x5900 (ob s 0x5901 8))
    let f := rmin 1 (mkRat (now s - x.t0 : Nat) (max 1 (ob s 0x5900 4) * 1000000))
    let e := sendFreqAll (setCnv s (fun y => { y with fsw := none })) 10
    let lv := chanVal e (ob e 0x5903 1)
    let lim := running s = true ∧ (!isShored s 0x5800) = true ∧ (!isShored s 0x5900) = true ∧ x.limAt + 50000 ≤ now s
    let step := cnvStep s 1 = true ∧ x.softAt + 100000 ≤ now s
    let softEnd := cnvStep s 1 = true ∧ x.t0 + ob s 0x5900 4 * 1000000 ≤ now s
    let buck := (cnvStep s 2 = true ∨ cnvStep s 11 = true) ∧ x.latch + 2 ≤ fires
    let reached := cnvStep s 12 = true ∧ linkAtTarget s = true
    let held := cnvStep s 13 = true ∧ x.t0 + ob s 0x5804 5 * 1000000 ≤ now s
    let late := (cnvStep s 11 = true ∨ cnvStep s 12 = true) ∧ x.runAt + ob s 0x5804 4 * 1000000 ≤ now s
    let low := rabs (chanVal s (ob s 0x5903 2)) < mkRat 2 100 * obF s 0x5803 4 ∨ x.t0 + 10000000 ≤ now s
    let passed := x.step = 21 ∧ (!x.buckEnd) = true ∧ (srcPass s 5 0).isSome = true
    (lim → exec .converterLimitStage s = .next (cnvWatch (cnvRefs (cnvLimits (cnvRamp (setCnv s (fun y => { y with limAt := now s })))))))
    ∧ (¬ lim → exec .converterLimitStage s = .next s)
    ∧ (step → exec .dcxSoftstartStep s = .next (sendFreqAll (setCnv s (fun y => { y with
      softAt := now s, fsw := if f = 1 then none else some (f32Of (obF s 0x5900 3 + (obF s 0x5900 2 - obF s 0x5900 3) * f)) })) 10))
    ∧ (¬ step → exec .dcxSoftstartStep s = .next s)
    ∧ (softEnd → exec .dcxSoftstartEnd s = .next (if busAtLink e then
      setCnv (presetBrace (presetBrace e (ob e 0x5902 5) 0) (ob e 0x5902 4) (f32Of lv)) (fun y => { y with
        step := 2, t0 := now s, tgt := lv, latch := fires })
      else cnvL3 e))
    ∧ (¬ softEnd → exec .dcxSoftstartEnd s = .next s)
    ∧ (buck → exec .buckLive s = .next (setCnv (buckPut s true) (fun y => { y with
      step := if y.fwd then 3 else 12, live := y.fwd, t0 := now s })))
    ∧ (¬ buck → exec .buckLive s = .next s)
    ∧ (reached → exec .prechargeReached s = .next (setCnv s (fun y => { y with step := 13, t0 := now s, precharged := true })))
    ∧ (¬ reached → exec .prechargeReached s = .next s)
    ∧ (held → exec .prechargeHoldEnd s = .next (cnvStop s .armed))
    ∧ (¬ held → exec .prechargeHoldEnd s = .next s)
    ∧ (late → exec .prechargeTimeout s = .next (cnvL3 s))
    ∧ (¬ late → exec .prechargeTimeout s = .next s)
    ∧ (running s = true →
      (x.step = 20 → low → exec .converterStopDone s
        = .next (setCnv s (fun y => { y with
          step := 21, buckEnd := y.buck, live := false, hold := none, imax := 0, imin := 0 })))
      ∧ (passed → exec .converterStopDone s
        = .next (if fnState (cnvOff s) .converter = .run then setFn (cnvOff s) .converter x.after else cnvOff s)))
    ∧ (running s = false ∨ (x.step = 20 ∧ ¬ low) ∨ (x.step ≠ 20 ∧ ¬ passed) → exec .converterStopDone s = .next s)
    ∧ (cnvStop s .armed = if x.step = 0 ∨ 20 ≤ x.step then s
        else setCnv s (fun y => { y with step := 20, t0 := now s, after := .armed, imax := 0, imin := 0 }))
    ∧ (served s r 0x5900 2 = some (s1, q) →
      let w := storedOf 9 q.data
      let s2 := putValue s1 (oaddr 0x5900 2) w
      (isShored s1 0x5900 = true → exec (.dcxFswWrite r) s = .next (reply s2 q 9 []))
      ∧ (isShored s1 0x5900 = false → rodMaxHz (viewNow s1) 5 < f32Val w → exec (.dcxFswWrite r) s = .next (refuse s1 q 0x02000006))
      ∧ (isShored s1 0x5900 = false → f32Val w ≤ rodMaxHz (viewNow s1) 5 →
        exec (.dcxFswWrite r) s = .next (reply (sendFreqAll s2 10) q 9 [])))

/-- AXLE_EVAL acts each 1 ms, and at once on entry into OV1; its two shares of a sufficient available power sum to that power while both drives are live. HVIL_CURRENT_LOSS with the switch closed raises COM at L1, HVIL_CURRENT_RETURN clears the cause. In PREOP or OPERATIONAL a served CAMP_ENTER is refused with 0x0300_0001 while a function is live; else it starts the entry, or lets a running one go on. CAMP_LINK_LOW with a low link goes to step 2, and 1 ms later, sent again, closes the sessions, releases every shored block and goes to step 3; CAMP_LINK_TIMEOUT abandons the entry with result 3. CAMP_ENTRY_COMPLETE in step 3 enters CAMP, and a latched wake acts at once. CAMP_WAKE by an admitted code abandons the entry before step 3 with result 4, is latched in step 3, and in CAMP starts the power-up (a timer wake once its time has come). Else, or in a device that does not run, each changes nothing. -/
def Obligations.AxleHvilAndCamp : Prop :=
  ∀ (s s1 : State) (r : Req) (q : QReq) (n : Nat) (w : WakeEv),
    let aband (k : Nat) : State := raiseEv (setCamp s (fun x => { x with step := 0, result := k })) .cnv 1 0 7 0x22000100
    let eval := running s = true ∧ (s.axle.t0 + 1000000 ≤ now s ∨ (s.link.ov1 = true ∧ s.axle.ramp = 0))
    let loss := running s = true
    let back := running s = true
    let late := running s = true ∧ s.camp.step = 1 ∧ (!campLinkOk s) = true ∧ s.camp.t0 + ob s 0x2200 3 * 1000000 ≤ now s
    let low := running s = true ∧ s.camp.step = 1 ∧ campLinkOk s = true
    let low2 := running s = true ∧ s.camp.step = 2 ∧ s.camp.t0 + 1000000 ≤ now s
    let done := running s = true ∧ s.camp.step = 3
    let cs := wakeCodes s w
    let woke := s.power.ctl = .idle ∧ cs ≠ [] ∧ (cs ≠ [8] ∨ (s.camp.timer * 1000000000 : Nat) ≤ campTime s w)
    let wakes := running s = true ∧ wakeCodes (campArm s) w ≠ []
    (eval → exec .axleEval s = .next (axleEval s))
    ∧ (¬ eval → exec .axleEval s = .next s)
    ∧ (loss → exec .hvilCurrentLoss s = .next (if hvilClosed s then condRaise { s with hvilCurrent := false } .com 1 0 7 0x22010100 0x220100
      else { s with hvilCurrent := false }))
    ∧ (¬ loss → exec .hvilCurrentLoss s = .next s)
    ∧ (back → exec .hvilCurrentReturn s = .next (clearDet { s with hvilCurrent := true } 0x220100))
    ∧ (¬ back → exec .hvilCurrentReturn s = .next s)
    ∧ (late → exec .campLinkTimeout s = .next (aband 3))
    ∧ (¬ late → exec .campLinkTimeout s = .next s)
    ∧ (∀ a b v : Rat, fnLive s .driveA = true → fnLive s .driveB = true → a + b ≤ v →
      (share s a b v).1 + (share s a b v).2.1 = v ∧ (share s a b v).2.2 = true)
    ∧ (served s r 0x2200 1 = some (s1, q) →
      let open_ := s1.dev = .preop ∨ s1.dev = .operational
      let live := fnAll.any (fnLive s1)
      (open_ → live = true → exec (.campEnter r) s = .next (refuse s1 q 0x03000001))
      ∧ (open_ → live = false → s1.camp.step ≠ 0 → exec (.campEnter r) s = .next (reply s1 q 2 []))
      ∧ (open_ → live = false → s1.camp.step = 0 → exec (.campEnter r) s
          = .next (reply (setCamp s1 (fun x => { x with step := 1, t0 := now s1, woken := none, result := 1 })) q 2 [])))
    ∧ (low → exec .campLinkLow s = .next (setCamp s (fun x => { x with step := 2, t0 := now s })))
    ∧ (low2 → exec .campLinkLow s = .next (setCamp (campClose s) (fun x => { x with step := 3, t0 := now s })))
    ∧ (¬ low → ¬ low2 → exec .campLinkLow s = .next s)
    ∧ (done → s.camp.woken = none → exec (.campEntryComplete n) s = .next (toCamp s n))
    ∧ (∀ v, done → s.camp.woken = some v → exec (.campEntryComplete n) s = .next (campWakeUp (toCamp s n) v))
    ∧ (¬ done → exec (.campEntryComplete n) s = .next s)
    ∧ ((toCamp s n).dev = .camp ∧ (toCamp s n).camp.entered = now s ∧ (toCamp s n).power.ctl = .idle)
    ∧ (s.dev = .camp → (woke → exec (.campWake w) s = .next (campWakeUp s w)) ∧ (¬ woke → exec (.campWake w) s = .next s))
    ∧ (s.dev ≠ .camp →
      (wakes → s.camp.step = 1 ∨ s.camp.step = 2 → exec (.campWake w) s = .next (aband 4))
      ∧ (wakes → s.camp.step = 3 → exec (.campWake w) s = .next (setCamp s (fun x => { x with woken := some w })))
      ∧ (¬ wakes ∨ s.camp.step = 0 ∨ 3 < s.camp.step → exec (.campWake w) s = .next s))

/-- ACT_PERIOD_START at a period start that the latest tick holds and has not yet acted on, the drive's block not shored, takes the duty word (0 with STL or INV), writes it, enters the mode that waits (from a DRIVE of the Park lock its travel time counts), and has the period lane rise at the phase of the start. ACT_ILIMIT while the PWM leg's high side is on, at or above Act.ILimit and past the blanking, ends the high side and counts. ACT_ITRIP at or above Act.ITrip turns the drive off and raises OC at L3. ACT_REFRESH after Act.RefreshInterval inserts and counts a pulse. VGD_LOCKOUT counts, stamps, turns the three commutators off and raises BST at L3 where a function is live; VGD_LOCKOUT_RELEASE clears. PUMP_EVAL, each 10 ms in ARMED and RUN, takes the demand by temperature with its hysteresis and the boost, writes the speed, raises ACQ at L1 for a bad oil channel, and turns the motor off where the demand ends. PUMP_START brakes a motor whose MOTION reads 2 and else drives at the rate of rod 6 over the highest; PUMP_BRAKE_END at standstill drives; PUMP_BRAKE_TIMEOUT raises ACT at L2 and drives. Out of turn each changes nothing. -/
def Obligations.CommutatorsAndPump : Prop :=
  ∀ (s : State) (n leg : Nat) (uv : Int),
    let x := actOf s n
    let h := tabGet ({} : ActLeg) x.legs leg
    let m := (tabGet ({} : Hall) s.hall 0).io.motion
    let w := dutyWord s n
    let d : Rat := if Nat.land w.2 5 ≠ 0 then 0 else rclamp (-1) 1 (f32Val w.1)
    let l := ob s (actBase n) 12
    let ended (t : Nat) : State := ridgeOut (setAct s n { x with startAt := t, duty := f32Of d, ilim := false, refreshed := false })
      (actBase n + 1) 2 (f32Of d) w.2
    let entered (t : Nat) : State := match x.next with
      | [] => ended t
      | c :: rest =>
        let u := setAct (actEnter (ended t) n c) n { actOf (actEnter (ended t) n c) n with next := rest }
        if n = 1 ∧ c = .drive then { u with plock := { u.plock with t0 := now (ended t) } } else u
    let ticked (t : Nat) : State := parkPlumb (actTick (entered t) n)
    let locked := (List.range 3).foldl actOff (putOb (incOb (putOb s 0x5E00 1 1) 0x5E00 2) 0x5E00 3 (now s % 2 ^ 64))
    let eval := running s = true ∧ fnLive s .pump = true ∧ s.pump.evalAt + 10000000 ≤ now s
    let good := chanGood s (ob s 0x5C03 2)
    let temp := chanVal s (ob s 0x5C03 2)
    let boost := obF s 0x5C03 6
    let on := if !good then true
      else if s.pump.on then !(decide (temp < obF s 0x5C03 3 - obF s 0x5C03 4) && decide (boost = 0))
      else decide (obF s 0x5C03 3 ≤ temp) || decide (0 < boost)
    let base := if good then interp (ob s 0x5C03 12) (fun k => obF s 0x5C04 (k + 1)) (fun k => obF s 0x5C05 (k + 1)) (obF s 0x5C05 1) temp
      else obF s 0x5C03 7
    let least := rmax base (obF s 0x5C03 5)
    let speed := ridgeOut { s with pump := { s.pump with
      on := on, boost := on && decide (least < boost), evalAt := now s,
      start := s.pump.start || (on && !s.pump.on && decide (fnState s .pump = .run)) } }
      0x5C06 0 (ofInt 32 (pumpRate s (if on then rmin (obF s 0x5C03 8) (rmax least boost) else 0))) 8
    let told := if good then clearDet speed 0x5C000 else condRaise speed .acq 1 (fnCode .pump) 7 0x5C000000 0x5C000
    let go := running s = true ∧ fnState s .pump = .run ∧ s.pump.start = true ∧ m ≠ 3
    let quiet (u : State) : State := { u with pump := { u.pump with start := false, brake := false } }
    let trip := running s = true ∧ n < 3 ∧ actAbove s n 8 uv = true ∧ (!isShored s (actBase n)) = true
    let refresh := running s = true ∧ h.hi = true ∧ (!h.ref) = true ∧ h.hiAt + phasesOf (ob s (actBase n) 10 * 1000) ≤ phases s
    let release := running s = true ∧ ob s 0x5E00 1 = 1
    let still := running s = true ∧ s.pump.brake = true ∧ m = 0
    let late := running s = true ∧ s.pump.brake = true ∧ m ≠ 0 ∧ s.pump.brakeAt + ob s 0x5C03 9 * 1000000 ≤ now s
    (∀ t, periodStart s n = some t →
      (running s = false ∨ isShored s (actBase n) = true ∨ x.startAt = t → exec (.actPeriodStart n) s = .next s)
      ∧ (running s = true → isShored s (actBase n) = false → x.startAt ≠ t → exec (.actPeriodStart n) s
          = .next (if 116 ≤ l ∧ l ≤ 127 then laneAction (setLive (ticked t) [l] true) 3 l
            ((s.tick - 1) * 32 + (t + 2 ^ 96 - s.dtPrev) % 2 ^ 96 / 671088640) else ticked t)))
    ∧ (periodStart s n = none → exec (.actPeriodStart n) s = .next s)
    ∧ (∀ g, pwmOn s n = some g →
      let ilim := running s = true ∧ actAbove s n 7 uv = true ∧ (!x.ilim) = true ∧ g.hiAt + phasesOf (ob s (actBase n) 9) ≤ phases s
      (ilim → exec (.actIlimit ⟨n, uv⟩) s = .next (actTick (incOb (setAct s n { x with ilim := true }) (actBase n + 1) 4) n))
      ∧ (¬ ilim → exec (.actIlimit ⟨n, uv⟩) s = .next s))
    ∧ (pwmOn s n = none → exec (.actIlimit ⟨n, uv⟩) s = .next s)
    ∧ (trip → exec (.actItrip ⟨n, uv⟩) s = .next (raiseEv (actOff (setAct s n { x with itrip := true }) n) .oc 3 (fnCode (actFn n)) 1 (actBase n * 65536 + 256)))
    ∧ (¬ trip → exec (.actItrip ⟨n, uv⟩) s = .next s)
    ∧ (refresh → exec (.actRefresh n leg) s = .next (actTick (incOb (setAct s n { x with
        legs := tabSet {} x.legs leg { h with ref := true }, refreshed := true }) (actBase n + 1) 3) n))
    ∧ (¬ refresh → exec (.actRefresh n leg) s = .next s)
    ∧ (release → exec .vgdLockoutRelease s = .next (clearDet (putOb s 0x5E00 1 0) 0x5E000))
    ∧ (¬ release → exec .vgdLockoutRelease s = .next s)
    ∧ (still → exec .pumpBrakeEnd s = .next (pumpDrive s 0))
    ∧ (¬ still → exec .pumpBrakeEnd s = .next s)
    ∧ (late → exec .pumpBrakeTimeout s = .next (pumpDrive (raiseEv s .act 2 (fnCode .pump) 1 0x5C000000) 0))
    ∧ (¬ late → exec .pumpBrakeTimeout s = .next s)
    ∧ (running s = true → ob s 0x5E00 1 ≠ 1 →
      exec .vgdLockout s = .next (if [Fn.pump, .parkLock, .clutch].any (fnLive s)
        then raiseAll locked [.pump, .parkLock, .clutch] .bst 3 1 0x5E000100 0x5E000 else locked))
    ∧ (running s = false ∨ ob s 0x5E00 1 = 1 → exec .vgdLockout s = .next s)
    ∧ (eval → exec .pumpEval s = .next (if s.pump.on = true ∧ (!on) = true then actOffNext (quiet told) 0 else told))
    ∧ (¬ eval → exec .pumpEval s = .next s)
    ∧ (go → m = 2 → exec .pumpStart s = .next (actEnter { s with pump := { s.pump with
        windmill := true, start := false, brake := true, brakeAt := now s } } 0 .brake))
    ∧ (go → m ≠ 2 → exec .pumpStart s = .next (pumpDrive { s with pump := { s.pump with windmill := false } }
        (let hi := pumpRate s (obF s 0x5C03 8); if hi = 0 then 0 else (rodRate (rodAt s 6) : Rat) / (hi : Rat))))
    ∧ (¬ go → exec .pumpStart s = .next s)
    ∧ (∀ (u : State) (v : Rat), pumpDrive u v = actEnter (presetBrace (quiet u) (ob u 0x5C03 10) (f32Of v)) 0 .drive)

/-- Served out of RUN, PARKLOCK_ENGAGE and PARKLOCK_RELEASE are refused with 0x0300_0005; an engage with a drive in RUN with 0x0300_0001, with the interlock holding with 0x0300_0005; a release with the Charger in ARMED or RUN with 0x0300_0001; for the reported position, or while a sequence drives there, they do nothing, else they start one. PARKLOCK_TARGET_REACHED in the target band ends it, OFF at the next period start. PARKLOCK_TRAVEL_TIMEOUT outside it after the travel time ends it at once: an engage whose good position stands at or above ToothLevel sets TOOTH and raises ACT at L0, any other raises ACT at L3. PARKLOCK_REPORT each 1 ms outside SHORED and LOCKOUT counts the readings in each band, names the report and writes the vehicle speed. PARKLOCK_INTERLOCK has Plumb hold or free the lanes; against an engage it sets SF4, raises ACT at L1 and starts a release. Else each changes nothing. A report names a band after three readings in it, and neither with a bad channel. -/
def Obligations.ParkLockSequence : Prop :=
  ∀ (s s1 : State) (r : Req) (q : QReq),
    let y := s.plock
    let ch := ob s 0x5C13 2
    let off := actOff (parkEnd s) 1
    let a := if posIn s 0x5C13 2 3 = true then y.inRel + 1 else 0
    let b := if posIn s 0x5C13 2 5 = true then y.inEng + 1 else 0
    let u := parkPlumb s
    let reads := running s = true ∧ fnState s .parkLock ≠ .shored ∧ fnState s .parkLock ≠ .lockout ∧ y.repAt + 1000000 ≤ now s
    let there := running s = true ∧ y.seq ≠ 0 ∧ parkThere s = true
    let late := running s = true ∧ y.seq ≠ 0 ∧ (!parkThere s) = true ∧ y.t0 + ob s 0x5C13 10 * 1000000 ≤ now s
    (served s (byteReq r 2 1) 0x5C13 1 = some (s1, q) →
      (fnState s1 .parkLock ≠ .run → exec (.parklockEngage r) s = .next (refuse s1 q 0x03000005))
      ∧ (fnState s1 .parkLock = .run →
        (fnState s1 .driveA = .run ∨ fnState s1 .driveB = .run → exec (.parklockEngage r) s = .next (refuse s1 q 0x03000001))
        ∧ (fnState s1 .driveA ≠ .run → fnState s1 .driveB ≠ .run →
          (parkInterlock s1 = true → exec (.parklockEngage r) s = .next (refuse s1 q 0x03000005))
          ∧ (parkInterlock s1 = false → (parkReport s1 = 2 ∨ s1.plock.seq = 1) →
              exec (.parklockEngage r) s = .next (reply s1 q 2 []))
          ∧ (parkInterlock s1 = false → parkReport s1 ≠ 2 → s1.plock.seq ≠ 1 →
              exec (.parklockEngage r) s = .next (reply (parkStart s1 1) q 2 [])))))
    ∧ (served s (byteReq r 2 2) 0x5C13 1 = some (s1, q) →
      (fnState s1 .parkLock ≠ .run → exec (.parklockRelease r) s = .next (refuse s1 q 0x03000005))
      ∧ (fnState s1 .parkLock = .run → fnLive s1 .charger = true → exec (.parklockRelease r) s = .next (refuse s1 q 0x03000001))
      ∧ (fnState s1 .parkLock = .run → fnLive s1 .charger = false → (parkReport s1 = 1 ∨ s1.plock.seq = 2) →
          exec (.parklockRelease r) s = .next (reply s1 q 2 []))
      ∧ (fnState s1 .parkLock = .run → fnLive s1 .charger = false → parkReport s1 ≠ 1 → s1.plock.seq ≠ 2 →
          exec (.parklockRelease r) s = .next (reply (parkStart s1 2) q 2 [])))
    ∧ (∀ v, (parkStart s v).plock.seq = v ∧ (parkStart s v).plock.t0 = now s)
    ∧ (there → exec .parklockTargetReached s = .next (actOffNext (parkEnd s) 1))
    ∧ (¬ there → exec .parklockTargetReached s = .next s)
    ∧ (late → exec .parklockTravelTimeout s = .next (if y.seq = 1 ∧ chanGood s ch = true ∧ obF s 0x5C13 7 ≤ chanVal s ch
      then raiseEv { off with plock := { off.plock with tooth := true } } .act 0 (fnCode .parkLock) 1 0x5C100000
      else raiseEv off .act 3 (fnCode .parkLock) 1 0x5C100000))
    ∧ (¬ late → exec .parklockTravelTimeout s = .next s)
    ∧ (reads → exec .parklockReport s = .next (parkLeft (parkReport s) (putOb { s with plock := { y with
        report := reportOf (chanGood s ch) a b, inRel := a, inEng := b, repAt := now s,
        tooth := y.tooth && decide (reportOf (chanGood s ch) a b ≠ 2) } } 0x5C15 0 (f32Of (parkSpeed s)))))
    ∧ (¬ reads → exec .parklockReport s = .next s)
    ∧ (running s = true → exec .parklockInterlock s = .next (if parkInterlock s = true ∧ y.seq = 1
        then raiseEv (parkStart { u with plock := { u.plock with sf4 := true } } 2) .act 1 (fnCode .parkLock) 0 0x5C100000
        else u))
    ∧ (running s = false → exec .parklockInterlock s = .next s)
    ∧ (∀ k l, 3 ≤ k → reportOf true k l = 1 ∧ (l < 3 → reportOf true l k = 2) ∧ reportOf false k l = 0)

/-- Served out of RUN, CLUTCH_CLOSE and CLUTCH_OPEN are refused with 0x0300_0005, and so is a close without Drive B in RUN or with a stale rod word; a close while one runs changes nothing (DEDUCED, log 33), else starts the match at retry count 0; an open unloads Drive B where it is in RUN (target 0), else drives open at once. CLUTCH_MATCH in band for MatchTime starts the travel; CLUTCH_CLOSED in the closed band ends it; CLUTCH_RETRY beyond twice the band counts and returns, past Clutch.Retries it ends the close with ACT at L2; CLUTCH_SYNC_TIMEOUT ends it with ACT at L1; CLUTCH_TRAVEL_TIMEOUT ends any travel with ACT at L3; CLUTCH_UNLOAD at the unload torque or without Drive B in RUN drives open. CLUTCH_TORQUE_UPDATE each 1 ms of a close sets Drive B's target by R480, or ends the close with ACT at L1 where Drive B has left RUN or a rod word is stale. CLUTCH_REPORT each 1 ms outside SHORED and LOCKOUT counts and names the band; in the open band a retry matches again and a return ends. Out of step each changes nothing. -/
def Obligations.ClutchSequence : Prop :=
  ∀ (s s1 : State) (r : Req) (q : QReq),
    let y := s.clutch
    let act (k : Nat) (u : State) : State := raiseEv u .act k (fnCode .clutch) 1 0x5C200000
    let u2 := clutchGo s 2
    let again := putOb { s with clutch := { y with retries := y.retries + 1, match_ := false } } 0x5C25 2 (y.retries + 1)
    let torque := ((clutchAt s 1 || clutchAt s 2 || clutchAt s 3) = true) ∧ y.torqueAt + 1000000 ≤ now s
    let since := if (!slipIn s) = true then 0 else if y.bandSince = 0 then now s + 1 else y.bandSince
    let timed := { s with clutch := { y with torqueAt := now s, bandSince := since } }
    let reads := running s = true ∧ fnState s .clutch ≠ .shored ∧ fnState s .clutch ≠ .lockout ∧ y.repAt + 1000000 ≤ now s
    let a := if posIn s 0x5C23 2 3 = true then y.inOpen + 1 else 0
    let b := if posIn s 0x5C23 2 5 = true then y.inClosed + 1 else 0
    let inBand := clutchAt s 1 = true ∧ slipIn s = true ∧ y.bandSince ≠ 0 ∧ y.bandSince - 1 + ob s 0x5C24 4 * 1000000 ≤ now s
    let noSync := clutchAt s 1 = true ∧ y.t0 + ob s 0x5C24 9 * 1000000 ≤ now s
    let closed := clutchAt s 2 = true ∧ posIn s 0x5C23 2 5 = true
    let slips := clutchAt s 2 = true ∧ 2 * obF s 0x5C24 3 < rabs (clutchSlip s)
    let late := ((clutchAt s 2 || clutchAt s 3 || clutchAt s 4 || clutchAt s 6) = true) ∧ y.t0 + ob s 0x5C23 9 * 1000000 ≤ now s
    let unloaded := clutchAt s 5 = true ∧ (rabs (drvOf s .b).tref ≤ obF s 0x5C24 8 ∨ fnState s .driveB ≠ .run)
    (served s (byteReq r 2 1) 0x5C23 1 = some (s1, q) →
      let runs := fnState s1 .clutch = .run ∧ fnState s1 .driveB = .run ∧ clutchRodsOk s1 = true
      let busy := s1.clutch.st = 1 ∨ s1.clutch.st = 2 ∨ s1.clutch.st = 3
      (¬ runs → exec (.clutchClose r) s = .next (refuse s1 q 0x03000005))
      ∧ (runs → busy → exec (.clutchClose r) s = .next (reply s1 q 2 []))
      ∧ (runs → ¬ busy → exec (.clutchClose r) s = .next (reply (clutchMatchStart
          (putOb (actOff { s1 with clutch := { s1.clutch with retries := 0 } } 2) 0x5C25 2 0)) q 2 [])))
    ∧ (served s (byteReq r 2 2) 0x5C23 1 = some (s1, q) →
      (fnState s1 .clutch ≠ .run → exec (.clutchOpen r) s = .next (refuse s1 q 0x03000005))
      ∧ (fnState s1 .clutch = .run → fnState s1 .driveB = .run →
        let u := clutchGo (actOff s1 2) 5
        exec (.clutchOpen r) s = .next (reply (setDrv { u with clutch := { u.clutch with sync := true, match_ := false } } .b
          { drvOf u .b with clutchT := some 0 }) q 2 []))
      ∧ (fnState s1 .clutch = .run → fnState s1 .driveB ≠ .run →
        exec (.clutchOpen r) s = .next (reply (clutchGo (clutchDrive (clutchRelease s1) false) 6) q 2 [])))
    ∧ (inBand → exec .clutchMatch s = .next (clutchDrive { u2 with clutch := { u2.clutch with match_ := true } } true))
    ∧ (¬ inBand → exec .clutchMatch s = .next s)
    ∧ (noSync → exec .clutchSyncTimeout s = .next (act 1 (clutchEnd (clutchRelease s))))
    ∧ (¬ noSync → exec .clutchSyncTimeout s = .next s)
    ∧ (closed → exec .clutchClosed s = .next (clutchEnd (actOff s 2)))
    ∧ (¬ closed → exec .clutchClosed s = .next s)
    ∧ (slips → exec .clutchRetry s = .next (if ob s 0x5C24 10 < y.retries + 1
      then act 2 (clutchGo (clutchDrive (clutchRelease again) false) 4) else clutchGo (clutchDrive again false) 3))
    ∧ (¬ slips → exec .clutchRetry s = .next s)
    ∧ (late → exec .clutchTravelTimeout s = .next (act 3 (clutchEnd (actOff s 2))))
    ∧ (¬ late → exec .clutchTravelTimeout s = .next s)
    ∧ (unloaded → exec .clutchUnload s = .next (clutchGo (clutchDrive s false) 6))
    ∧ (¬ unloaded → exec .clutchUnload s = .next s)
    ∧ (torque → exec .clutchTorqueUpdate s = .next (if fnState s .driveB ≠ .run ∨ (!clutchRodsOk s) = true
        then act 1 (clutchGo (clutchDrive (clutchRelease s) false) 4)
        else setDrv timed .b { drvOf timed .b with clutchT := some (clutchAim s) }))
    ∧ (¬ torque → exec .clutchTorqueUpdate s = .next s)
    ∧ (reads → exec .clutchReport s = .next (clutchReturned { s with clutch := { y with
        report := reportOf (chanGood s (ob s 0x5C23 2)) a b, inOpen := a, inClosed := b, repAt := now s } }))
    ∧ (¬ reads → exec .clutchReport s = .next s)
    ∧ (clutchReturned s = if (y.st = 3 ∨ y.st = 4 ∨ y.st = 6) ∧ posIn s 0x5C23 2 3 = true
        then if y.st = 3 then clutchMatchStart (actOff s 2) else clutchEnd (actOff s 2)
        else s)

/-- LOCKSTEP_FAULT sets the override and raises TST at L5. WATCHDOG_WINDOW signed in its window clears the misses and the cause; another counts a miss, and the second in a row raises CLK at L4 against every function. WAYBILL_COMMAND where the device serves and its transport takes the frame: a bad form, a bad SEQ or, for an unconnected profile, no free slot counts in its own counter; else the frame is accepted in its slot or the lowest free one. WAYBILL_STATUS_TIMER after half the watchdog sends a status frame; WAYBILL_WATCHDOG after the watchdog fails the connection and raises WAY against Wb.Functions at Wb.LossLevel. WAYBILL_CONNECT of a disabled or connected profile is refused with 0x0200_0006, without a slot with 0x0300_0004, else connects. With DIS held, DISCHARGE_DONE after 100 ms below 60 V sets DISCHARGED and ends the dump; DISCHARGE_TIMEOUT sets SF3FAIL with DMP at L4 once. An admitted LOCKOUT_RESET_WRITE whose session may write is refused with 0x0500_0004. Else each changes nothing. The intervals end from 0.97 of their length on (R490's clock). -/
def Obligations.SupervisionAndWaybill : Prop :=
  ∀ (s s1 : State) (r : Req) (q : QReq) (x : WbFrame) (p : Nat),
    let w := wbOf s p
    let miss := { s with saf := { s.saf with misses := tabSet 0 s.saf.misses p (tabGet 0 s.saf.misses p + 1) } }
    let takes := serving s = true ∧ rxReady s x.tr x.bytes = true
    let rx := takeRx s x.tr x.bytes
    let k := wbField x 1 1
    let form := wbFormOk rx.2 x = true
    let seq := wbSeqOk (wbOf rx.2 k) (wbField x 2 2) = true
    let status := serving s = true ∧ (w.st = 1 ∨ w.st = 2) ∧ w.statusAt + wbWatchdog s p / 2 * 97 / 100 ≤ now s
    let lost := serving s = true ∧ (w.st = 1 ∨ w.st = 2) ∧ max w.lastRx w.since + wbWatchdog s p * 97 / 100 ≤ now s
    let empty := running s = true ∧ s.saf.disAt ≠ 0 ∧ s.saf.lowSince ≠ 0 ∧ s.saf.lowSince - 1 + 97000000 ≤ now s
    let late := running s = true ∧ s.saf.disAt ≠ 0 ∧ (!s.saf.discharged) = true ∧ (!s.saf.sf3Fail) = true
      ∧ s.saf.disAt - 1 + ob s 0x6006 1 * 970000 ≤ now s
    (running s = true →
      exec .lockstepFault s = .next (raiseEv { s with power := { s.power with override := true } } .tst 5 0 0 0)
      ∧ exec (.watchdogWindow p .inWindow) s
          = .next (clearAll { s with saf := { s.saf with misses := tabSet 0 s.saf.misses p 0 } } .clk (0x40 + p))
      ∧ (∀ z, z ≠ .inWindow → exec (.watchdogWindow p z) s
          = .next (if tabGet 0 s.saf.misses p = 1 then raiseAll miss fnAll .clk 4 0 0 (0x40 + p) else miss)))
    ∧ (running s = false → exec .lockstepFault s = .next s ∧ ∀ z, exec (.watchdogWindow p z) s = .next s)
    ∧ (¬ takes → exec (.waybillCommand x) s = .next s)
    ∧ (takes → ¬ form → exec (.waybillCommand x) s = .next (incOb rx.2 0x6040 3))
    ∧ (takes → form → ¬ seq → exec (.waybillCommand x) s = .next (incOb rx.2 0x6040 4))
    ∧ (takes → form → seq →
      (∀ n, (wbOf rx.2 k).slot = some n → exec (.waybillCommand x) s = .next (wbAccept rx.2 k n x rx.1))
      ∧ ((wbOf rx.2 k).slot = none → wbFreeSlot rx.2 = none → exec (.waybillCommand x) s = .next (incOb rx.2 0x6040 5))
      ∧ (∀ n, (wbOf rx.2 k).slot = none → wbFreeSlot rx.2 = some n →
          exec (.waybillCommand x) s = .next (wbAccept rx.2 k n x rx.1)))
    ∧ (status → exec (.waybillStatusTimer p) s = .next (wbSend s p none))
    ∧ (¬ status → exec (.waybillStatusTimer p) s = .next s)
    ∧ (lost → exec (.waybillWatchdog p) s = .next (raiseAll (setWb s p { w with st := 3 })
      (fnAll.filter (fun f => bit (ob s (wbIdx p) 6) (fnCode f - 1))) .way (ob s (wbIdx p) 7) 0 (wbIdx p * 65536) (0x2000 + p)))
    ∧ (¬ lost → exec (.waybillWatchdog p) s = .next s)
    ∧ (empty → exec .dischargeDone s = .next ({ s with
      saf := { s.saf with discharged := true }, link := { s.link with plumbDump := false } }))
    ∧ (¬ empty → exec .dischargeDone s = .next s)
    ∧ (late → exec .dischargeTimeout s = .next (raiseEv { s with saf := { s.saf with sf3Fail := true } } .dmp 4 0 0 0x60060100))
    ∧ (¬ late → exec .dischargeTimeout s = .next s)
    ∧ (served s r 0x6040 6 = some (s1, q) →
      let k := leNat q.data
      (ob s1 (wbIdx k) 1 ≠ 1 ∨ (wbOf s1 k).slot.isSome = true → exec (.waybillConnect r) s = .next (refuse s1 q 0x02000006))
      ∧ (ob s1 (wbIdx k) 1 = 1 → (wbOf s1 k).slot = none →
        (wbFreeSlot s1 = none → exec (.waybillConnect r) s = .next (refuse s1 q 0x03000004))
        ∧ (∀ n, wbFreeSlot s1 = some n → exec (.waybillConnect r) s = .next (reply (setWb s1 k { ({} : Wb) with
            st := 1, slot := some n, since := now s1, statusAt := now s1 }) q 2 []))))
    ∧ (admitted s r 2 0x6007 0 = (s1, some q) → q.idx = 0x6007 → q.sub = 0 → hasRole s1 q.ses 2 = true →
      exec (.lockoutResetWrite r) s = .next (refuse s1 q 0x05000004))

/-- Served, TK_OPEN is refused with 0x0500_0002 while a transaction is open, with 0x0300_0005 outside PREOP or where the session has not shored block 0x6000; else it opens one for its keeper. TK_PROPOSE but by the keeper of an open one is refused with 0x0500_0002, a pending set that fails its checks with 0x0200_0006; else its check value is proposed. TK_APPROVE of no proposal is refused with 0x0500_0002, by a session that is not distinct with 0x0500_0003; the proposed value approves, another aborts with 0x0200_0006. TK_COMMIT but by the keeper of an approved one is refused with 0x0500_0002; else every pending value takes effect, disabled profiles free their slots, and the answer waits. TK_COMMIT_DONE 20 ms later (and 10 ms for each staged group; 0.97 of it, R490) blows the groups, persists the values, renews 0x6003.00, takes the approved value as confirmed, ends the transaction, releases 0x6000 and answers; a differing value raises CFG at L1, a group read back wrong CFG at L5. TK_ABORT by the keeper or by a witness distinct from it and TK_TIMEOUT abort; a witness that is not distinct is refused with 0x0500_0003, any other abort with 0x0500_0002. SEAL_STAGE_WRITE of a wrong length is refused with 0x0200_0006, of group 6 or 7 or one not blank with 0x0300_0005; else it stages the group. CHECK_VALUE_RECOMPUTE in PREOP or OPERATIONAL with no commit under way clears its cause, or raises MEM at L4 against every function where the value differs. Else each changes nothing. -/
def Obligations.TwinKeyTransaction : Prop :=
  ∀ (s s1 : State) (r : Req) (q : QReq) (g : Nat) (w : Row) (ok : Bool),
    let z := s1.saf
    let checks := (s.dev = .preop ∨ s.dev = .operational) ∧ running s = true ∧ s.saf.committing = none
    let late := running s = true ∧ s.saf.tk ≠ 0 ∧ s.saf.tkOpened + ob s 0x6001 6 * 970000000 ≤ now s
    let ws := (List.range (groupLen g)).map (fun n => BitVec.ofNat 16 (leNat ((q.data.drop (2 * n)).take 2)))
    (served s (byteReq r 2 1) 0x6001 1 = some (s1, q) →
      (z.tk ≠ 0 → exec (.tkOpen r) s = .next (refuse s1 q 0x05000002))
      ∧ (z.tk = 0 → s1.dev ≠ .preop ∨ shoredBy s1 0x6000 q.ses = false →
        exec (.tkOpen r) s = .next (refuse s1 q 0x03000005))
      ∧ (z.tk = 0 → s1.dev = .preop → shoredBy s1 0x6000 q.ses = true →
        exec (.tkOpen r) s = .next (reply { s1 with saf := { z with
          tk := 1, keeper := some q.ses, witness := none, tkOpened := q.stamp, tkPend := [], tkList := [],
          staged := [] } } q 2 [])))
    ∧ (served s (byteReq r 2 2) 0x6001 1 = some (s1, q) →
      (z.tk ≠ 1 ∨ z.keeper ≠ some q.ses → exec (.tkPropose r) s = .next (refuse s1 q 0x05000002))
      ∧ (z.tk = 1 → z.keeper = some q.ses → tkCheck s1 (tkView s1) z.tkList ≠ 0 →
          exec (.tkPropose r) s = .next (refuse s1 q 0x02000006))
      ∧ (z.tk = 1 → z.keeper = some q.ses → tkCheck s1 (tkView s1) z.tkList = 0 → exec (.tkPropose r) s = .next (reply
          { s1 with saf := { z with tk := 2, proposed := (checkOf s1 (tkView s1) (stagedCrc s1)).toNat } } q 2 [])))
    ∧ (served s r 0x6001 5 = some (s1, q) →
      (z.tk ≠ 2 → exec (.tkApprove r) s = .next (refuse s1 q 0x05000002))
      ∧ (z.tk = 2 → tkDistinct s1 q.ses = false → exec (.tkApprove r) s = .next (refuse s1 q 0x05000003))
      ∧ (z.tk = 2 → tkDistinct s1 q.ses = true →
        (leNat q.data = z.proposed → exec (.tkApprove r) s
          = .next (reply { s1 with saf := { z with tk := 3, witness := some q.ses } } q 4 []))
        ∧ (leNat q.data ≠ z.proposed → exec (.tkApprove r) s = .next (refuse (abortTk s1 0x02000006) q 0x02000006))))
    ∧ (served s (byteReq r 2 3) 0x6001 1 = some (s1, q) →
      (z.tk ≠ 3 ∨ z.keeper ≠ some q.ses ∨ z.committing.isSome = true → exec (.tkCommit r) s = .next (refuse s1 q 0x05000002))
      ∧ (z.tk = 3 → z.keeper = some q.ses → z.committing = none →
        let u := z.tkPend.foldl (fun t e => setCell t e.1 e.2) s1
        let v := { u with saf := { u.saf with tkPend := [], committing := some (q, now s1) } }
        exec (.tkCommit r) s = .next (afterCommit s1 (tkRestart (v.saf.wb.foldl freeSlot v) z.tkList))))
    ∧ (s.saf.committing = none → exec (.tkCommitDone ok) s = .next s)
    ∧ (∀ m t, s.saf.committing = some (m, t) →
      (running s = false ∨ now s < t + (10 * s.saf.staged.length + 20) * 970000 → exec (.tkCommitDone ok) s = .next s)
      ∧ (running s = true → t + (10 * s.saf.staged.length + 20) * 970000 ≤ now s →
        let u := s.saf.tkList.foldl persistAt (s.saf.staged.foldl (blowGroup ok) s)
        let v := { u with saf := { u.saf with
          computed := checkValue u, confirmed := BitVec.ofNat 32 u.saf.proposed, tk := 0, keeper := none, witness := none,
          tkList := [], staged := [], committing := none, tkResult := 0 } }
        let d := reply (if isShored v 0x6000 = true then releaseBlocks true v [0x6000] else v) m 2 []
        let e := if d.saf.computed ≠ d.saf.confirmed then raiseEv d .cfg 1 0 7 0x60030000 else d
        exec (.tkCommitDone ok) s
          = .next (if ok = true ∨ s.saf.staged = [] then e else raiseEv e .cfg 5 0 7 0x62000100)))
    ∧ (served s (byteReq r 2 4) 0x6001 1 = some (s1, q) →
      (z.tk = 0 ∨ z.committing.isSome = true → exec (.tkAbort r) s = .next (refuse s1 q 0x05000002))
      ∧ (z.tk ≠ 0 → z.committing = none → exec (.tkAbort r) s
          = .next (if z.keeper = some q.ses then reply (abortTk s1 0) q 2 []
              else if hasRole s1 q.ses 16 = false then refuse s1 q 0x05000002
              else if tkDistinct s1 q.ses = false then refuse s1 q 0x05000003 else reply (abortTk s1 0) q 2 [])))
    ∧ (late → exec .tkTimeout s = .next (abortTk s 0))
    ∧ (¬ late → exec .tkTimeout s = .next s)
    ∧ (served s r 0x6202 (g + 1) = some (s1, q) → rowOf 0x6202 (g + 1) = some w →
      (q.data.length ≠ 2 * groupLen g → exec (.sealStageWrite r g) s = .next (refuse s1 q 0x02000006))
      ∧ (q.data.length = 2 * groupLen g → g = 6 ∨ g = 7 ∨ groupBlank s1.fuse g = false →
        exec (.sealStageWrite r g) s = .next (refuse s1 q 0x03000005))
      ∧ (q.data.length = 2 * groupLen g → g ≠ 6 → g ≠ 7 → groupBlank s1.fuse g = true →
        exec (.sealStageWrite r g) s = .next (reply { s1 with saf := { z with
          staged := tabPut z.staged g ws, tkList := tkNote z.tkList (oaddr 0x6202 (g + 1)) } } q w.ty [])))
    ∧ (checks → exec .checkValueRecompute s = .next (if checkValue s = s.saf.computed then clearAll s .mem 0x50
        else condAll s fnAll .mem 4 0 0x60030000 0x50))
    ∧ (¬ checks → exec .checkValueRecompute s = .next s)

/-- In a running device FAULT_RAISE with no waiting raise of the same class, scope and stamp enters the key of class and scope at its effective level (the level; on a live key no lower than its own, and on one not acknowledged one above it, at most 5), waits 1 µs for its commit and takes the reaction, at L5 with the device in LOCKOUT; with such a raise it is merged into it at the higher level, and reacts where that raises the effective level. FAULT_COMMIT commits the next raise that is due and whose reaction has ended (nextCommit, reacted) under the next sequence number (1 after 0xFFFF_FFFF). A served TALLY_ACK of a scope and class that exist acknowledges the matching keys raised before it; any other value is refused with 0x0200_0006. With no raise due, or in a device that does not run, the first two change nothing. -/
def Obligations.FaultsEscalateAndRetire : Prop :=
  ∀ (s s1 : State) (r : Req) (q : QReq) (c : Cls) (l sc rank det : Nat),
    let k := keyAt s (keyNo c sc)
    let eff := effLevel k l
    let k2 := keyRaise k l eff (now s) 0
    let x : Raise := { cls := c, lvl := l, eff := eff, scope := sc, stamp := now s, rank := rank, detail := det,
                       merged := false, count := if k2.active then k2.count else 1, seq := 0,
                       due := max (now s + 1000) (now s) }
    let u := setKey s (keyNo c sc) k2
    let v := { u with tally := { u.tally with raised := u.tally.raised ++ [x] } }
    let same := s.tally.raised.find? (fun r => decide (r.cls = c) && decide (r.scope = sc) && decide (r.stamp = now s))
    (running s = false → exec (.faultRaise c l sc rank det) s = .next s)
    ∧ (running s = true → same = none →
      exec (.faultRaise c l sc rank det) s = .next (reaction v x) ∧ (eff = 5 → (reaction v x).dev = .lockout))
    ∧ (∀ y, running s = true → same = some y →
      let e := if l ≤ y.lvl then y.eff else if y.lvl = 0 then eff else max y.eff l
      let z := { y with lvl := max y.lvl l, eff := e, merged := true }
      let m := setKey s (keyNo c sc) (if l = 0 then { k with
          srcs := (keyRaise k 0 0 (now s) 0).srcs, from_ := (keyRaise k 0 0 (now s) 0).from_ }
        else { keyRaise k l (max k.eff e) (now s) 0 with count := if k.active then k.count else 1 })
      let n := { m with tally := { m.tally with raised := m.tally.raised.map (fun r => if r = y then z else r) } }
      exec (.faultRaise c l sc rank det) s = .next (if y.eff < e then reaction n z else n))
    ∧ (1 ≤ l → l ≤ 5 → (k.active = false → eff = l) ∧ (k.active = true → k.unack = false → eff = max l k.eff)
      ∧ (k.active = true → k.unack = true → eff = min 5 (max l (k.eff + 1))))
    ∧ (∀ y, nextCommit s = some y → running s = true →
        exec .faultCommit s = .next (commitRaise s y)
        ∧ (commitRaise s y).tally.seq = (if s.tally.seq = 0xFFFFFFFF then 1 else s.tally.seq + 1))
    ∧ (nextCommit s = none ∨ running s = false → exec .faultCommit s = .next s)
    ∧ (served s r 0x6810 0 = some (s1, q) →
      let a := bits (leNat q.data) 15 8
      let b := bits (leNat q.data) 7 0
      let names := (a = 0xFF ∨ (1 ≤ a ∧ a ≤ 8)) ∧ (b = 0xFF ∨ (1 ≤ b ∧ b ≤ 24))
      (names → exec (.tallyAck r) s = .next (reply (ackKeys s1 (leNat q.data) q.stamp) q 3 []))
      ∧ (¬ names → exec (.tallyAck r) s = .next (refuse s1 q 0x02000006)))

/-- ETH_FRAME_RX of a frame of 64 to 1522 bytes counts, in this order, a bad FCS, a destination not taken, a tag not accepted, an IPv4 packet not accepted, and a UDP datagram with a bad sum or a port of neither the Ledger nor Waybill, each under its reason; a datagram that passes waits with its stamp. ETH_LINK_POLL: a link that comes up serves the Ledger, ends the cause and, with an address, asks for it; one that goes down raises COM at L1. Served, an MDIO command R551 does not admit is refused with 0x0200_0006; a read takes its data; with no answer ERROR is set, and where no data is read the data bits hold a free value (log 4). ARP_RX learns and answers a request for the device, and learns a reply it waits for. ARP_RETRY 1 s after a request repeats it, after the third drops the frame under reason 5 (a publication misses, log 100); ARP_ENTRY_EXPIRY removes an entry of 300 s. ICMP_ECHO up to 1472 bytes answers 100 in a second; a further one counts under reason 7. ETH_TX_DONE ends the frame on the wire, starts the first queue that holds one, counts, and counts a publication's frame. Otherwise each changes nothing. -/
def Obligations.EthernetFiltersAndAnswers : Prop :=
  ∀ (s s1 : State) (r : Req) (q : QReq) (x : EthFrame) (p : LinkPoll) (a : ArpMsg) (ip : Word) (mac : BitVec 48) (msg : List Byte),
    let up := incOb s 0x6C01 3
    let on := running s = true ∧ bootOb s 0x6C00 1 ≠ 0 ∧ 64 ≤ x.length ∧ x.length ≤ 1522
    let fcs := x.fcsOk = true
    let dst := ethDstOk s x = true
    let vlan := ethVlanOk s x = true
    let ipv4 := x.ethertype = 0x0800
    let ours := x.dport = bootOb s 0x1030 1 ∨ x.dport = ob s 0x6040 2
    let polls := serving s = true ∧ bootOb s 0x6C00 1 ≠ 0
    let lk := putPtp { s with net := { s.net with link := true, speed := p.speed, served := true } }
    let home := BitVec.ofNat 32 (bootOb s 0x6C00 3)
    let talks := serving s = true ∧ bootOb s 0x6C00 3 ≠ 0 ∧ bootOb s 0x6C00 1 ≠ 0
    let recent := s.net.echoes.filter (fun t => decide (now s < t + 1000000000))
    (¬ on → exec (.ethFrameRx x) s = .next s)
    ∧ (on → ¬ fcs → exec (.ethFrameRx x) s = .next (incOb s 0x6C01 5))
    ∧ (on → fcs → ¬ dst → exec (.ethFrameRx x) s = .next (incOb s 0x6C02 1))
    ∧ (on → fcs → dst → ¬ vlan → exec (.ethFrameRx x) s = .next (incOb up 0x6C02 2))
    ∧ (on → fcs → dst → vlan → ¬ ipv4 → exec (.ethFrameRx x) s = .next up)
    ∧ (on → fcs → dst → vlan → ipv4 → ipOk s x = false → exec (.ethFrameRx x) s = .next (incOb up 0x6C02 3))
    ∧ (on → fcs → dst → vlan → ipv4 → ipOk s x = true → x.proto ≠ 17 → exec (.ethFrameRx x) s = .next up)
    ∧ (on → fcs → dst → vlan → ipv4 → ipOk s x = true → x.proto = 17 →
      (x.udpSumOk = false ∨ ¬ ours → exec (.ethFrameRx x) s = .next (incOb up 0x6C02 4))
      ∧ (x.udpSumOk = true → ours →
        exec (.ethFrameRx x) s = .next { up with net := { up.net with rx := up.net.rx ++ [(now s, x)] } }))
    ∧ (polls → pollUp s p = true → exec (.ethLinkPoll p) s = .next (if s.net.link = true then lk
        else if bootOb s 0x6C00 3 = 0 then clearCause lk .com 0 0x6C00 else arpAsk (clearCause lk .com 0 0x6C00) home))
    ∧ (polls → pollUp s p = false → exec (.ethLinkPoll p) s = .next (if s.net.link = true
        then condRaise (linkDown s) .com 1 0 3 0x6C010100 0x6C00 else s))
    ∧ (¬ polls → exec (.ethLinkPoll p) s = .next s)
    ∧ (talks → a.isReply = true → exec (.arpRx a) s = .next (if s.net.arpWait.any (fun e => e.1 == a.senderIp) = true
        then arpRelease (arpLearn s a.senderIp a.senderMac) a.senderIp a.senderMac else s))
    ∧ (talks → a.isReply = false → exec (.arpRx a) s = .next (if a.targetIp.toNat = bootOb s 0x6C00 3
        then ethPush (arpLearn s a.senderIp a.senderMac) 4
          { kind := 1, mac := a.senderMac, ip := a.senderIp, dport := 0, sport := 0, bytes := arpBytes s 2 a.senderMac a.senderIp }
        else s))
    ∧ (¬ talks → exec (.arpRx a) s = .next s)
    ∧ (talks → msg.length ≤ 1472 → exec (.icmpEcho ip mac msg) s = .next (if 100 ≤ recent.length then incOb s 0x6C02 7
        else ethPush { s with net := { s.net with echoes := recent ++ [now s] } } 4
          { kind := 2, mac := mac, ip := ip, dport := 0, sport := 0, bytes := msg }))
    ∧ (¬ talks ∨ 1472 < msg.length → exec (.icmpEcho ip mac msg) s = .next s)
    ∧ (served s r 0x6C03 0 = some (s1, q) → ∀ d w,
      let v := leNat q.data
      let fr := (Config.freeWord s1.free).toNat % 65536
      let f1 := { s1 with free := s1.free + 1 }
      (mdioOk v = false → exec (.mdioRead r d) s = .next (refuse s1 q 0x02000006)
        ∧ exec (.mdioWrite r w) s = .next (refuse s1 q 0x02000006))
      ∧ (mdioOk v = true →
        exec (.mdioRead r none) s = .next (reply (putOb f1 0x6C04 0 (65536 + fr)) q 5 [])
        ∧ exec (.mdioWrite r false) s = .next (reply (putOb f1 0x6C04 0 (65536 + fr)) q 5 [])
        ∧ exec (.mdioWrite r true) s = .next (reply (putOb f1 0x6C04 0 fr) q 5 [])
        ∧ (∀ n, exec (.mdioRead r (some n)) s
          = .next (if bit v 63 = true then reply (putOb f1 0x6C04 0 fr) q 5 [] else reply (putOb s1 0x6C04 0 (n % 65536)) q 5 []))))
    ∧ (s.net.arpWait.find? (fun e => e.1 == ip) = none → exec (.arpRetry ip) s = .next s)
    ∧ (∀ e, s.net.arpWait.find? (fun e => e.1 == ip) = some e →
      (now s < e.2.2.1 + 1000000000 → exec (.arpRetry ip) s = .next s)
      ∧ (e.2.2.1 + 1000000000 ≤ now s → e.2.1 < 3 → exec (.arpRetry ip) s = .next (arpAsk { s with net := { s.net with
          arpWait := s.net.arpWait.map (fun w => if w.1 = ip then (w.1, w.2.1 + 1, now s, w.2.2.2) else w) } } ip))
      ∧ (e.2.2.1 + 1000000000 ≤ now s → 3 ≤ e.2.1 → exec (.arpRetry ip) s
        = .next (dropMan (incOb { s with net := { s.net with arpWait := s.net.arpWait.filter (fun w => w.1 != ip) } } 0x6C02 5)
          e.2.2.2.2.man)))
    ∧ exec (.arpEntryExpiry ip) s = .next { s with net := { s.net with
        arp := s.net.arp.filter (fun e => !(e.1 == ip && decide (e.2.2 + 300000000000 ≤ now s))) } }
    ∧ (s.net.wire = none → exec .ethTxDone s = .next s)
    ∧ (∀ k, s.net.wire = some k →
      let u := { s with net := { s.net with q := tabSet [] s.net.q k ((tabGet [] s.net.q k).drop 1) } }
      let sent := incOb { u with net := { u.net with wire := nextWire u } } 0x6C01 4
      (((tabGet [] s.net.q k).head?).bind (fun f => f.man) = none → exec .ethTxDone s = .next sent)
      ∧ (∀ m, ((tabGet [] s.net.q k).head?).bind (fun f => f.man) = some m → exec .ethTxDone s = .next (manSent sent m)))

/-- Of the device's domain, a two-step PTP_SYNC waits for its PTP_FOLLOW_UP, a one-step one or the Follow_Up of its sequence number gives its update, and PTP_ANNOUNCE notes the grandmaster; others change nothing. With a link PTP_PDELAY_TIMER after its interval sends a request under the next sequence number and PTP_PDELAY_REQ_RX is answered two-step; without one they change nothing. PTP_PDELAY_RESP_RX of the latest sequence number is kept and with an earlier one gives the rate ratio and the link delay; of another it changes nothing. PTP_RECEIPT_TIMEOUT forgets an Announce or a Sync that is overdue. TIME_SOURCE_LOST with a source that was seen and is gone, outside holdover, enters it with the integral correction and raises COM at L1; else it changes nothing. Served, TIME_SOURCE_WRITE of a CAN source whose controller is time master is refused with 0x0300_0005; 0 ends the discipline, another value restarts it with State 1. The first update takes the offset with State 1. The messages' format follows log 14 (PRESUMED), and State 1 at the write log 91. -/
def Obligations.GptpAndDeviceTime : Prop :=
  ∀ (s s1 : State) (r : Req) (q : QReq) (x : PtpMsg) (t1 : Nat),
    let n := (s.net.pdSeq + 1) % 65536
    let iv := (1000000000 * pow2 (obI16 s 0x6C41 2)).floor.toNat
    let asks := serving s = true ∧ s.net.link = true ∧ (s.net.pdAt = 0 ∨ s.net.pdAt - 1 + iv ≤ now s)
    let linked := serving s = true ∧ s.net.link = true
    let t3 := ((x.timeNs : Int) + x.corrNs).toNat
    let t4 := x.rxNs - ob s 0x6C00 9
    let hears := serving s = true ∧ x.seq = s.net.pdSeq
    let kept (u : State) : State := putPtp { u with net := { u.net with pdPrev := some (t3, t4) } }
    let gone := serving s = true ∧ s.net.seen = true ∧ sourceGone s = true ∧ ob s 0x6C40 5 ≠ 3
    (ptpMine s x = true →
      (x.twoStep = true → exec (.ptpSync x) s = .next { s with net := { s.net with sync := some x } })
      ∧ (x.twoStep = false → exec (.ptpSync x) s = .next (ptpUpdate s x.timeNs x.corrNs x.rxNs x.logInterval))
      ∧ exec (.ptpAnnounce x) s = .next (putPtp (putOb { s with net := { s.net with
          annAt := now s + 1, annInt := x.logInterval } } 0x6C41 7 x.clock.toNat))
      ∧ (∀ y, s.net.sync = some y → x.seq = y.seq →
        exec (.ptpFollowUp x) s = .next (ptpUpdate s x.timeNs (x.corrNs + y.corrNs) y.rxNs y.logInterval))
      ∧ (∀ y, s.net.sync = some y → x.seq ≠ y.seq → exec (.ptpFollowUp x) s = .next s)
      ∧ (s.net.sync = none → exec (.ptpFollowUp x) s = .next s))
    ∧ (ptpMine s x = false → exec (.ptpSync x) s = .next s ∧ exec (.ptpAnnounce x) s = .next s
        ∧ exec (.ptpFollowUp x) s = .next s)
    ∧ (asks → exec (.ptpPdelayTimer t1) s = .next (ethPush { s with net := { s.net with
        pdSeq := n, pdT1 := t1 + ob s 0x6C00 0xA, pdAt := now s + 1 } } 0 (ptpFrame 2 n 0)))
    ∧ (¬ asks → exec (.ptpPdelayTimer t1) s = .next s)
    ∧ (linked → exec (.ptpPdelayReqRx x) s = .next (ethPush (ethPush s 0 (ptpFrame 3 x.seq (x.rxNs - ob s 0x6C00 9))) 4
        (ptpFrame 0xA x.seq (now s + ob s 0x6C00 0xA))))
    ∧ (¬ linked → exec (.ptpPdelayReqRx x) s = .next s)
    ∧ (hears → s.net.pdPrev = none → exec (.ptpPdelayRespRx x) s = .next (kept s))
    ∧ (∀ p3 p4 : Nat, hears → s.net.pdPrev = some (p3, p4) → t4 ≤ p4 → exec (.ptpPdelayRespRx x) s = .next (kept s))
    ∧ (∀ p3 p4 : Nat, hears → s.net.pdPrev = some (p3, p4) → p4 < t4 →
      let ratio : Rat := mkRat ((t3 : Int) - p3) (t4 - p4)
      let d := (mkRat ((t4 : Int) - s.net.pdT1) 1 * ratio - (x.corrNs : Rat)) / 2
      let u := putOb s 0x6C41 6 (f32Of ratio)
      exec (.ptpPdelayRespRx x) s
        = .next (kept { putOb u 0x6C41 5 (min 4294967295 (rround d).toNat) with net := { u.net with ratioOk := true } }))
    ∧ (¬ hears → exec (.ptpPdelayRespRx x) s = .next s)
    ∧ (serving s = true →
      (ptpLate s true = true →
        exec (.ptpReceiptTimeout true) s = .next (putPtp (putOb { s with net := { s.net with annAt := 0 } } 0x6C41 7 0)))
      ∧ (ptpLate s false = true →
        exec (.ptpReceiptTimeout false) s = .next (putPtp { s with net := { s.net with syncAt := 0, sync := none } })))
    ∧ (∀ b, serving s = false ∨ ptpLate s b = false → exec (.ptpReceiptTimeout b) s = .next s)
    ∧ (gone → exec .timeSourceLost s = .next (raiseEv (putOb (setCorr { s with net := { s.net with good := 0 } } s.net.integ s.net.integ) 0x6C40 5 3) .com 1 0 7 0x6C400000))
    ∧ (¬ gone → exec .timeSourceLost s = .next s)
    ∧ (served s r 0x6C40 1 = some (s1, q) →
      let v := leNat q.data
      let master := 2 ≤ v ∧ ob s1 (canBaseIdx (v - 2) + 1) 1 = 1
      let u := putOb { s1 with net := { s1.net with seen := false, good := 0 } } 0x6C40 1 v
      (master → exec (.timeSourceWrite r) s = .next (refuse s1 q 0x03000005))
      ∧ (¬ master → v ≠ 0 → exec (.timeSourceWrite r) s = .next (reply (putOb u 0x6C40 5 1) q 2 []))
      ∧ (v = 0 → exec (.timeSourceWrite r) s
          = .next (reply (putOb (putOb (setCorr u 0 0) 0x6C40 6 0) 0x6C40 5 0) q 2 [])))
    ∧ (∀ (a b : Int) (t : Rat), s.net.seen = false → timeUpdate s a b t
        = putOb (putOb { s with net := { s.net with seen := true, good := 0 } } 0x6C40 6 (ofInt 64 (a - b))) 0x6C40 5 1)

/-- CAN_FRAME_RX of a controller that is off or in bus-off, or of a CAN XL frame it does not take, changes nothing; a frame a filter matches enters its buffer; else a classical frame under a Ledger identifier is counted, a frame of no user is ignored, and a user's enters the FIFO or counts an overrun at 28. CAN_TX_ATTEMPT_DONE of the offered frame: sent, it is counted (a publication's also there); lost arbitration keeps it; an error keeps it and adds 8 to the transmit error counter. CAN_BUS_OFF counts and raises COM at L1, CAN_BUS_OFF_RECOVERY integrates again with counters 0, CAN_BUS_INTEGRATION integrates, CAN_RECEIVE_ERROR counts. Detection accepts a candidate with its frames, moves to the next on an error or its dwell, and times out with COM at L1. CAN_REF_MESSAGE takes the frame up from its buffer; a reference message to a slave records its start, and the next in sequence with VALID gives an update. CAN_REF_CYCLE of the master at its time (the first within 6 ns after a multiple) cancels and counts a pending message and queues the next. Else each changes nothing. -/
def Obligations.CanControllersAct : Prop :=
  ∀ (s : State) (cn : Nat) (x : CanFrame) (sof : Nat) (e brs : Bool) (z : TxResult),
    let c := canOf s cn
    let i := canBaseIdx cn
    let xlBad := x.xl = true ∧ (bootOb s i 6 = 0 ∨ x.sec = true ∨ x.vcid.toNat ≠ bits (ob s i 0xA) 15 8)
    let heard := running s = true ∧ c.on = true ∧ c.busOff = false ∧ ¬ xlBad
    let s1 := canErrs (setCan s cn { c with good := if c.detecting then c.good + 1 else c.good, brsSeen := c.brsSeen || x.brs })
      cn c.txErr (c.rxErr - 1)
    let match_ := (List.range 4).find? (fun k => hpfMatch (ob64 s (i + 3) (k + 1)) x)
    let old := (!x.fdf && !x.xl && !x.ide && (isLedgerId s cn x.ident || (decide (8 ≤ x.ident) && isLedgerId s cn (x.ident - 8)))) = true
    let n := (canOf s1 cn).fifo.length
    let sends := running s = true ∧ c.on = true ∧ c.listen = false ∧ c.busOff = false ∧ c.integ = true
    let v := ob s (i + 2) c.cand
    let u := putOb (putOb s i 2 (bits v 31 16)) i 4 (bits v 15 0)
    let bt := tabSetD dfltAt (tabSetD dfltAt u.led.boot (oaddr i 2) (cellOf (bits v 31 16))) (oaddr i 4) (cellOf (bits v 15 0))
    let rates := { u with led := { u.led with boot := bt } }
    let taken := canTaken s cn x
    let refs := ob taken 0x6C40 1 = 2 + cn ∧ ob taken (i + 1) 1 ≠ 1 ∧ x.ide = false ∧ x.ident = ob taken (i + 1) 2 ∧ x.data.length = 8
    let last := leNat (x.data.drop 7)
    let tc := canOf taken cn
    let used := bit last 0 && (match tc.slvCyc with | none => false | some k => decide (last / 2 = (k + 1) % 128))
    let noted := setCan taken cn { tc with
      slvCyc := some (last / 2), slvSof := sof, slvAt := if used then now taken else tc.slvAt }
    let per := ob s (i + 1) 3 * 1000000
    let due := running s = true ∧ c.on = true ∧ ob s (i + 1) 1 ≠ 0 ∧ c.refDue ≤ now s ∧ (c.refDue ≠ 0 ∨ now s % max 1 per < 6)
    let cleared_ := if c.tx.any (fun f => decide (f.use = 3)) = true
      then incOb (canCancel s cn (fun f => decide (f.use = 3))) (i + 1) 4 else s
    let cyc := (c.refCyc + 1) % 128
    let falls := running s = true ∧ c.on = true ∧ (!c.busOff) = true
    let again := running s = true ∧ c.busOff = true
    let joins := running s = true ∧ c.on = true ∧ (!c.busOff) = true
    let bad := running s = true ∧ c.on = true ∧ (!c.busOff) = true
    let found := running s = true ∧ c.detecting = true ∧ ob s (i + 2) 9 ≤ c.good
    let next_ := running s = true ∧ c.detecting = true ∧ (e = true ∨ c.dwellAt + ob s (i + 2) 0xA * 1000000 ≤ now s)
    let late := running s = true ∧ c.detecting = true ∧ c.detectAt + ob s (i + 2) 0xB * 1000000 ≤ now s
    (¬ heard → exec (.canFrameRx cn x) s = .next s)
    ∧ (∀ k, heard → match_ = some k → exec (.canFrameRx cn x) s = .next (hpfStore s1 cn k x))
    ∧ (heard → match_ = none →
      (old → exec (.canFrameRx cn x) s = .next (incOb s1 (i + 7) 0xA))
      ∧ (¬ old → isUserId s cn x = false → exec (.canFrameRx cn x) s = .next s1)
      ∧ (¬ old → isUserId s cn x = true → 28 ≤ n → exec (.canFrameRx cn x) s = .next (incOb s1 (i + 7) 7))
      ∧ (¬ old → isUserId s cn x = true → n < 28 → exec (.canFrameRx cn x) s
        = .next (incOb (setCan s1 cn { canOf s1 cn with fifo := (canOf s1 cn).fifo ++ [(now s, x)] }) (i + 7) 5)))
    ∧ (∀ f, sends → canOffer c.tx = some f →
      exec (.canTxAttemptDone cn .lostArbitration sof) s = .next s
      ∧ exec (.canTxAttemptDone cn .error sof) s = .next (canErrs s cn (c.txErr + 8) c.rxErr)
      ∧ (let c1 := { c with tx := c.tx.erase f, sent := some (f, canWire s cn f) }
        let done := canErrs (incOb (setCan s cn (if f.use = 3 then { c1 with refSof := sof, refSent := true } else c1)) (i + 7) 6)
          cn (c.txErr - 1) c.rxErr
        exec (.canTxAttemptDone cn .sent sof) s = .next (if f.use = 1 then manSent done f.num else done)))
    ∧ (¬ sends ∨ canOffer c.tx = none → exec (.canTxAttemptDone cn z sof) s = .next s)
    ∧ (falls → exec (.canBusOff cn) s = .next (condRaise (incOb (setCan s cn { c with busOff := true, integ := false }) (i + 7) 4)
      .com 1 0 (4 + cn) ((i + 7) * 65536) i))
    ∧ (¬ falls → exec (.canBusOff cn) s = .next s)
    ∧ (again → exec (.canBusOffRecovery cn) s = .next (clearCause
      (setCan s cn { c with busOff := false, integ := true, passive := false, txErr := 0, rxErr := 0 }) .com 0 i))
    ∧ (¬ again → exec (.canBusOffRecovery cn) s = .next s)
    ∧ (joins → exec (.canBusIntegration cn) s = .next (setCan s cn { c with integ := true }))
    ∧ (¬ joins → exec (.canBusIntegration cn) s = .next s)
    ∧ (bad → exec (.canReceiveError cn) s = .next (canErrs (setCan s cn { c with good := 0, brsSeen := false }) cn c.txErr (min 255 (c.rxErr + 1))))
    ∧ (¬ bad → exec (.canReceiveError cn) s = .next s)
    ∧ (found → exec (.canDetectAccept cn brs) s = .next (putOb (putOb (setCan rates cn { c with
      detecting := false, listen := decide (ob s (i + 2) 0xC = 0), integ := true })
      (i + 2) 0xD (if c.brsSeen || brs then 2 else 3)) (i + 2) 0xE c.cand))
    ∧ (¬ found → exec (.canDetectAccept cn brs) s = .next s)
    ∧ (next_ → exec (.canDetectDwell cn e) s = .next (setCan s cn { c with cand := nextCand s i c.cand, good := 0, brsSeen := false, dwellAt := now s }))
    ∧ (¬ next_ → exec (.canDetectDwell cn e) s = .next s)
    ∧ (late → exec (.canDetectTimeout cn) s = .next (raiseEv
      (putOb (setCan s cn { c with detecting := false, listen := true }) (i + 2) 0xD 4) .com 1 0 (4 + cn) ((i + 2) * 65536)))
    ∧ (¬ late → exec (.canDetectTimeout cn) s = .next s)
    ∧ (running s = true → c.on = true →
      (refs → exec (.canRefMessage cn x sof) s = .next (if used = true then
          timeUpdate noted (nearest56 (leNat (x.data.take 7)) ((tc.slvSof : Int) + toInt 64 (ob64 taken 0x6C40 6))) tc.slvSof
            (ob taken (i + 1) 3 * 1000000 : Nat)
        else noted))
      ∧ (¬ refs → exec (.canRefMessage cn x sof) s = .next taken))
    ∧ (running s = false ∨ c.on = false → exec (.canRefMessage cn x sof) s = .next s)
    ∧ (due → exec (.canRefCycle cn) s = .next (canSend (setCan cleared_ cn { canOf cleared_ cn with
          refCyc := cyc, refSent := false, refDue := (now s / per + 1) * per }) cn
        { ident := ob s (i + 1) 2, classical := true, xl := false,
          bytes := leBytes 7 c.refSof ++ leBytes 1 (cyc * 2 + bitAt c.refSent 0), use := 3, num := 0 }))
    ∧ (¬ due → exec (.canRefCycle cn) s = .next s)

/-- THERMAL_SAMPLE of a sensor that is due, of its own input (an NTC slot's with its channel runnable), waits where its converter has no gap for it or another sensor has been due longer; else a die's code is converted with its stored gain and offset and evaluated, and a slot's channel is converted and evaluated. SHUTDOWN_COMPARATOR of a die sensor raises OT at L5. OUTRIDER_CYCLE at its start in PREOP or OPERATIONAL closes every test's cycle and counts (but for the first) and takes up the cycle length. OUTRIDER_TEST of the next untested element, in a cycle and its block not shored, waits where its converter has no gap; the dump path's test asks for a DUMP_TEST in this cycle and its result; else the memory scrub reports its corrected words, a MAC lane's test takes the lane, the pass or failure is counted and acts, and the element is done; the last one ends the test with its result and time. A tie test with a converter that is not free waits. Else each changes nothing. -/
def Obligations.ThermalAndOutriderAct : Prop :=
  ∀ (s : State) (n t e mended blk : Nat) (m : AdcMeas) (pass : Bool),
    let due := running s = true ∧ ((sensOf s n).seen = false ∨ (sensOf s n).due ≤ now s) ∧ (n < 8 ∨ ntcRuns s (n - 8) = true)
      ∧ sensInput s n = some m.src
    let o := if (!outDone s 0 n (sensConvs s n) && !sensOldest s n) = true then (s, false) else outConv s 0 n (sensConvs s n) 1
    let volt : Rat := mkRat (sampleCode s (muxVolt s m.src m.uv) * s.power.refUv : Nat) 65536
    let starts := outrRuns s = true ∧ outrDue s ≤ now s
    let first := { s with outr := { s.outr with cycle := ob s 0x7400 1, startAt := outrDue s + 1 },
                            link := { s.link with testDone := false } }
    let u := incOb ((List.range 10).foldl testCycle s) 0x7401 0
    let tests := outrRuns s = true ∧ s.outr.startAt ≠ 0 ∧ elemShored s t e = false
      ∧ (t = 8 → s.link.testDone = true ∧ pass ≠ s.link.testFail)
      ∧ ((testLeft s t).filter (fun k => !elemShored s t k)).head? = some e
    let w := tieTaken s t e
    let w1 := if t = 7 then scrubbed w.1 e mended blk else if t = 4 then macTest w.1 e else w.1
    let w2 := if pass then testPass (incOb w1 (0x7410 + t) 2) t e else testFail (incOb w1 (0x7410 + t) 3) t e blk
    let y := { testOf w2 t with tested := (testOf w2 t).tested ++ [e], failedNow := (testOf w2 t).failedNow || !pass }
    let w3 := setTest w2 t y
    let w4 := setTest w3 t { y with done := true, failed := y.failedNow }
    (due → o.2 = false → exec (.thermalSample n m) s = .next o.1)
    ∧ (due → o.2 = true → n < 8 → exec (.thermalSample n m) s
        = .next (dieSample o.1 n (f32Val (f32Of (Config.dieGain n * ((volt - 700000) / 3000) + Config.dieOffset n)))))
    ∧ (due → o.2 = true → 8 ≤ n → exec (.thermalSample n m) s = .next (ntcSample o.1 (n - 8) m))
    ∧ (¬ due → exec (.thermalSample n m) s = .next s)
    ∧ (running s = true → n < 8 →
      exec (.shutdownComparator n) s = .next (raiseEv s .ot 5 0 7 (0x70010000 + (n + 1) * 256 + 1)))
    ∧ (running s = false ∨ 8 ≤ n → exec (.shutdownComparator n) s = .next s)
    ∧ (starts → s.outr.startAt = 0 → exec .outriderCycle s = .next first)
    ∧ (starts → s.outr.startAt ≠ 0 → exec .outriderCycle s
        = .next { u with outr := { u.outr with cycle := ob u 0x7400 1, startAt := outrDue s + 1 },
                         link := { u.link with testDone := false } })
    ∧ (¬ starts → exec .outriderCycle s = .next s)
    ∧ (tests → w.2 = false → exec (.outriderTest t e pass mended blk) s = .next w.1)
    ∧ (tests → w.2 = true → (testLeft w3 t).isEmpty = false → exec (.outriderTest t e pass mended blk) s = .next w3)
    ∧ (tests → w.2 = true → (testLeft w3 t).isEmpty = true → exec (.outriderTest t e pass mended blk) s
        = .next (clearDet (clearDet (putOb (putOb w4 (0x7410 + t) 5 0) (0x7410 + t) 6 (now s % 2 ^ 64)) (0x74000000 + 2 * t))
            (0x74000001 + 2 * t)))
    ∧ (¬ tests → exec (.outriderTest t e pass mended blk) s = .next s)

/-- In a running device SPI_FRAME with a wrong CRC counts and answers RESULT 1; outside serving, any operation but a read of address 0 or 1 answers 6; OP 0 answers 0, OP 1 reads, OP 2 writes, OP 3 answers a free value (log 4). SPI_FRAME_DISCARD counts and answers 2. While the device serves: REGISTER_WRITE stores IRQ_EN and MBOX_REQ words; MBOX_SUBMIT, not while BUSY and of 1 to 256 bytes, takes the message: an OPEN waits, a session's is queued, one without a session is answered 0x0100_0005; NOTE_POP removes the oldest note; IRQ_PEND_CLEAR clears the bits written 1; WINDOW_BIND with a session unbinds, or binds to an object, a refused one leaving its code; WINDOW_VAL_WRITE of a bound slot with a session, not while PEND, stages or commits; WINDOW_REFRESH copies a bound object that can be read; LOW_WORD_READ of a low word latches the high word. MBOX_RESPONSE places the waiting answer, clears BUSY and sets READY. Else each changes nothing. -/
def Obligations.HostPortAnswersFrames : Prop :=
  ∀ (s : State) (f : BitVec 64) (w addr n : Nat) (d : Word) (hi : Bool),
    let cmd := f.toNat / 2 ^ 32
    let dat := f.toNat % 2 ^ 32
    let op := bits cmd 31 30
    let ad := bits cmd 29 16
    let good := running s = true ∧ crc8 (crcBytes cmd dat) = cmd % 256
    let s0 := touchHost s
    let open_ := serving s0 = true ∨ (op = 1 ∧ ad ≤ 1)
    let v := d.toNat
    let len := bits v 8 0
    let msg := reqBytes s len
    let took := { s with host := { s.host with busy := true, ready := false, answer := none } }
    let x := slotAt s w
    let idx := bits v 31 16
    let sub := bits v 15 8
    let told (c : Nat) : State := { s with host := { s.host with winAbort := c, winSlot := w } }
    let at_ := oaddr (bits x.sel 31 16) (bits x.sel 15 8)
    let ridge := (rowAt at_).any (fun r => r.ridge)
    let reads := bit x.sel 0 = true ∧ (rowOf (bits x.sel 31 16) (bits x.sel 15 8)).any (fun r => decide (r.acc ≠ .wo)) = true
    let c := (cellRead s at_).toNat
    (running s = true → crc8 (crcBytes cmd dat) ≠ cmd % 256 → exec (.spiFrame f) s = .next (setReply
        { s with host := { s.host with crcErrs := (s.host.crcErrs + 1) % 65536 } } op ad 1 0))
    ∧ (good → ¬ open_ → exec (.spiFrame f) s = .next (setReply s0 op ad 6 0))
    ∧ (good → open_ → op = 0 → exec (.spiFrame f) s = .next (setReply s0 0 ad 0 0))
    ∧ (good → open_ → op = 1 → exec (.spiFrame f) s
        = .next (setReply (hostRead s0 ad).1 1 ad (hostRead s0 ad).2.1 (hostRead s0 ad).2.2))
    ∧ (good → open_ → op = 2 → exec (.spiFrame f) s
        = .next (setReply (hostWrite s0 ad dat).1 2 ad (hostWrite s0 ad dat).2 0))
    ∧ (good → open_ → op = 3 → exec (.spiFrame f) s
        = .next (setReply { s0 with free := s0.free + 1 } 3 ad ((Config.freeWord s0.free).toNat % 256) 0))
    ∧ (running s = true → exec .spiFrameDiscard s = .next (setReply { s with host := { s.host with
        framing := (s.host.framing + 1) % 65536 } } 0 0 2 0))
    ∧ (running s = false → exec (.spiFrame f) s = .next s ∧ exec .spiFrameDiscard s = .next s)
    ∧ (serving s = true →
      exec (.registerWrite 6 d) s = .next { s with host := { s.host with irqEn := v % 2 ^ 13 } }
      ∧ (0x40 ≤ addr → addr < 0x80 → exec (.registerWrite addr d) s
        = .next { s with host := { s.host with req := tabSet 0 s.host.req (addr - 0x40) v } })
      ∧ (addr ≠ 6 → addr < 0x40 ∨ 0x80 ≤ addr → exec (.registerWrite addr d) s = .next s)
      ∧ (s.host.busy = true ∨ len = 0 ∨ 256 < len → exec (.mboxSubmit d) s = .next s)
      ∧ (s.host.busy = false → 1 ≤ len → len ≤ 256 →
        ((msg.getD 0 0).toNat = 8 → exec (.mboxSubmit d) s = .next took)
        ∧ ((msg.getD 0 0).toNat ≠ 8 → hostSession s = some n →
          exec (.mboxSubmit d) s = .next (enqueue took n (now s) false 0 msg))
        ∧ ((msg.getD 0 0).toNat ≠ 8 → hostSession s = none → exec (.mboxSubmit d) s = .next { took with host := { took.host with
            answer := some (msgHead 0xFF (msg.getD 1 0).toNat (leNat ((msg.drop 2).take 2)) (leNat ((msg.drop 4).take 1)) 0
              ++ leBytes 4 0x01000005) } }))
      ∧ exec (.notePop d) s = .next { s with host := { s.host with notes := s.host.notes.drop 1 } }
      ∧ exec (.irqPendClear d) s = .next { s with host := { s.host with irqPend := s.host.irqPend - Nat.land s.host.irqPend v } }
      ∧ (hostSession s = some n →
        (bit v 0 = false → exec (.windowBind w d) s = .next (setSlot s w {}))
        ∧ (bit v 0 = true → bindCode s n idx sub ≠ 0 →
          exec (.windowBind w d) s = .next (setSlot (told (bindCode s n idx sub)) w {}))
        ∧ (bit v 0 = true → bindCode s n idx sub = 0 → exec (.windowBind w d) s = .next (setSlot (told 0) w { ({} : Slot) with
            sel := bits v 31 8 * 256 + 1, ty := match rowOf idx sub with | none => 0 | some r => r.ty }))
        ∧ (x.pend = true ∨ bit x.sel 0 = false → exec (.windowValWrite w hi d) s = .next s)
        ∧ (x.pend = false → bit x.sel 0 = true → tySize x.ty = 8 →
          exec (.windowValWrite w false d) s = .next (setSlot s w { x with staged := v })
          ∧ exec (.windowValWrite w true d) s = .next (doCommit s n w (x.staged + v * 2 ^ 32)))
        ∧ (x.pend = false → bit x.sel 0 = true → tySize x.ty ≠ 8 →
          exec (.windowValWrite w false d) s = .next (doCommit s n w v) ∧ exec (.windowValWrite w true d) s = .next s))
      ∧ (hostSession s = none → exec (.windowBind w d) s = .next s ∧ exec (.windowValWrite w hi d) s = .next s)
      ∧ (¬ reads → exec (.windowRefresh w) s = .next s)
      ∧ (reads → exec (.windowRefresh w) s = .next (setSlot s w { x with
          valid := true, side := if ridge = true then bits c 35 32 else 0,
          val := if ridge = true then BitVec.ofNat 64 (c % 2 ^ 32) else cellRead s at_ }))
      ∧ (isLowWord addr = true → exec (.lowWordRead addr) s
        = .next { s with host := { s.host with shadow := some (addr, (regVal s (addr + 1)).1) } })
      ∧ (isLowWord addr = false → exec (.lowWordRead addr) s = .next s)
      ∧ (regVal s 3).1 = now s / 2 ^ 32 % 2 ^ 32)
    ∧ (serving s = false → exec (.registerWrite addr d) s = .next s ∧ exec (.mboxSubmit d) s = .next s
        ∧ exec (.notePop d) s = .next s ∧ exec (.irqPendClear d) s = .next s ∧ exec (.windowBind w d) s = .next s
        ∧ exec (.windowValWrite w hi d) s = .next s ∧ exec (.windowRefresh w) s = .next s ∧ exec (.lowWordRead addr) s = .next s)
    ∧ (s.host.answer = none → exec .mboxResponse s = .next s)
    ∧ (∀ p, s.host.answer = some p → exec .mboxResponse s = .next (irq { s with host := { s.host with
        rsp := bytesWords p, rspLen := p.length, busy := false, ready := true, answer := none } } 2))
end

