-- ==== Sys2Proof/Laws/Tab.lean ====
section
/-! SUPPORT. The laws of the tables: a read after a write, and that writing keeps the canonical form. -/

namespace Sys2Proof.Machine

variable {α : Type}

/-- The key just listed is found with its value. -/
theorem tabFind_tabPut_self (t : Tab α) (q : Nat) (x : α) : tabFind (tabPut t q x) q = some x := by
  induction t with
  | nil => simp [tabPut, tabFind]
  | cons e t ih =>
    obtain ⟨k, v⟩ := e
    simp only [tabPut]
    split
    · simp [tabFind]
    · split
      · simp [tabFind]
      · rename_i h1 h2; simp [tabFind, h2, ih]

/-- Listing a key leaves every other key. -/
theorem tabFind_tabPut_other (t : Tab α) {q r : Nat} (x : α) (h : r ≠ q) : tabFind (tabPut t q x) r = tabFind t r := by
  induction t with
  | nil => simp [tabPut, tabFind, h]
  | cons e t ih =>
    obtain ⟨k, v⟩ := e
    simp only [tabPut]
    split
    · simp [tabFind, h]
    · split
      · rename_i h1 h2; subst h2; simp [tabFind, h]
      · simp [tabFind, ih]

/-- A removed key of a sorted table is not found above a bound. -/
theorem tabFind_none_of_lt (t : Tab α) (q : Nat) (h : ∀ e ∈ t, q < e.1) : tabFind t q = none := by
  induction t with
  | nil => rfl
  | cons e t ih =>
    obtain ⟨k, v⟩ := e
    have := h (k, v) (by simp)
    simp only [tabFind]
    rw [if_neg (by omega)]
    exact ih (fun e he => h e (by simp [he]))

/-- Sortedness of a table with a head. -/
theorem tabSorted_cons (k : Nat) (v : α) (t : Tab α) :
    tabSorted ((k, v) :: t) = true ↔ (∀ e ∈ t, k < e.1) ∧ tabSorted t = true := by
  induction t generalizing k v with
  | nil => simp [tabSorted]
  | cons e t ih =>
    obtain ⟨k', v'⟩ := e
    simp only [tabSorted, Bool.and_eq_true, decide_eq_true_eq]
    constructor
    · rintro ⟨h1, h2⟩
      refine ⟨?_, h2⟩
      intro e he
      rcases List.mem_cons.mp he with rfl | he
      · exact h1
      · exact Nat.lt_trans h1 (((ih k' v').mp h2).1 e he)
    · rintro ⟨h1, h2⟩
      exact ⟨h1 (k', v') (by simp), h2⟩

/-- Every entry of a table with a listed key is that entry or an old one. -/
theorem mem_tabPut {t : Tab α} {q : Nat} {x : α} {e : Nat × α} (h : e ∈ tabPut t q x) : e = (q, x) ∨ e ∈ t := by
  induction t with
  | nil => simp [tabPut] at h; exact .inl h
  | cons f t ih =>
    obtain ⟨k, v⟩ := f
    simp only [tabPut] at h
    split at h
    · rcases List.mem_cons.mp h with h | h
      · exact .inl h
      · exact .inr h
    · split at h
      · rcases List.mem_cons.mp h with h | h
        · exact .inl h
        · exact .inr (by simp [h])
      · rcases List.mem_cons.mp h with h | h
        · exact .inr (by simp [h])
        · rcases ih h with h | h
          · exact .inl h
          · exact .inr (by simp [h])

/-- Every entry that a removal leaves was there before. -/
theorem mem_tabDel {t : Tab α} {q : Nat} {e : Nat × α} (h : e ∈ tabDel t q) : e ∈ t := by
  induction t with
  | nil => simp [tabDel] at h
  | cons f t ih =>
    obtain ⟨k, v⟩ := f
    simp only [tabDel] at h
    split at h
    · simp [h]
    · rcases List.mem_cons.mp h with h | h
      · simp [h]
      · simp [ih h]

/-- Listing a key keeps the keys strictly rising. -/
theorem tabSorted_tabPut {t : Tab α} (q : Nat) (x : α) (h : tabSorted t = true) : tabSorted (tabPut t q x) = true := by
  induction t with
  | nil => rfl
  | cons f t ih =>
    obtain ⟨k, v⟩ := f
    obtain ⟨h1, h2⟩ := (tabSorted_cons k v t).mp h
    simp only [tabPut]
    split
    · rename_i hq
      rw [tabSorted_cons]
      refine ⟨?_, h⟩
      intro e he
      rcases List.mem_cons.mp he with rfl | he
      · exact hq
      · exact Nat.lt_trans hq (h1 e he)
    · split
      · rename_i h3 h4
        subst h4
        rw [tabSorted_cons]
        exact ⟨h1, h2⟩
      · rename_i h3 h4
        rw [tabSorted_cons]
        refine ⟨?_, ih h2⟩
        intro e he
        rcases mem_tabPut he with rfl | he
        · simp only; omega
        · exact h1 e he

/-- Removing a key keeps the keys strictly rising. -/
theorem tabSorted_tabDel {t : Tab α} (q : Nat) (h : tabSorted t = true) : tabSorted (tabDel t q) = true := by
  induction t with
  | nil => rfl
  | cons f t ih =>
    obtain ⟨k, v⟩ := f
    obtain ⟨h1, h2⟩ := (tabSorted_cons k v t).mp h
    simp only [tabDel]
    split
    · exact h2
    · rw [tabSorted_cons]
      exact ⟨fun e he => h1 e (mem_tabDel he), ih h2⟩

/-- A removal from sorted keys leaves the other keys. -/
theorem tabFind_tabDel_other (t : Tab α) {q r : Nat} (h : r ≠ q) : tabFind (tabDel t q) r = tabFind t r := by
  induction t with
  | nil => rfl
  | cons e t ih =>
    obtain ⟨k, v⟩ := e
    simp only [tabDel]
    split
    · rename_i h1; subst h1; simp [tabFind, h]
    · simp [tabFind, ih]

/-- A removed key of a sorted table is not found. -/
theorem tabFind_tabDel_self {t : Tab α} (q : Nat) (h : tabSorted t = true) : tabFind (tabDel t q) q = none := by
  induction t with
  | nil => rfl
  | cons e t ih =>
    obtain ⟨k, v⟩ := e
    obtain ⟨h1, h2⟩ := (tabSorted_cons k v t).mp h
    simp only [tabDel]
    split
    · rename_i h3; subst h3; exact tabFind_none_of_lt t _ h1
    · rename_i h3; simp [tabFind, h3, ih h2]

variable [DecidableEq α]

/-- Writing keeps the canonical form. -/
theorem tabWf_tabSetD {d : Nat → α} {t : Tab α} (q : Nat) (x : α) (h : tabWf d t = true) :
    tabWf d (tabSetD d t q x) = true := by
  simp only [tabWf, Bool.and_eq_true, List.all_eq_true, decide_eq_true_eq] at h ⊢
  unfold tabSetD
  split
  · exact ⟨tabSorted_tabDel q h.1, fun e he => h.2 e (mem_tabDel he)⟩
  · rename_i hx
    refine ⟨tabSorted_tabPut q x h.1, fun e he => ?_⟩
    rcases mem_tabPut he with rfl | he
    · exact hx
    · exact h.2 e he

/-- Removing a key keeps the canonical form. -/
theorem tabWf_tabDel {d : Nat → α} {t : Tab α} (q : Nat) (h : tabWf d t = true) : tabWf d (tabDel t q) = true := by
  simp only [tabWf, Bool.and_eq_true, List.all_eq_true] at h ⊢
  exact ⟨tabSorted_tabDel q h.1, fun e he => h.2 e (mem_tabDel he)⟩

/-- A read after a write of the same key gives the value written. -/
theorem tabGetD_tabSetD_self {d : Nat → α} {t : Tab α} (q : Nat) (x : α) (h : tabWf d t = true) :
    tabGetD d (tabSetD d t q x) q = x := by
  unfold tabGetD tabSetD
  split
  · rename_i hx
    rw [tabFind_tabDel_self q (by simp only [tabWf, Bool.and_eq_true] at h; exact h.1)]
    exact hx.symm
  · rw [tabFind_tabPut_self]; rfl

/-- A write leaves what every other key reads as. -/
theorem tabGetD_tabSetD_other {d : Nat → α} (t : Tab α) {q r : Nat} (x : α) (h : r ≠ q) :
    tabGetD d (tabSetD d t q x) r = tabGetD d t r := by
  unfold tabGetD tabSetD
  split
  · rw [tabFind_tabDel_other t h]
  · rw [tabFind_tabPut_other t x h]

end Sys2Proof.Machine
end

