-- ==== Sys2Proof/Laws/Functions.lean ====
section
/-! SUPPORT. What the writes of function states change. -/

namespace Sys2Proof.Machine

/-- A table whose unlisted keys read as one value: a read after a write, without regard to the order of the keys, where
the value written is not that value. -/
theorem tabGet_tabSet_ne {α : Type} [DecidableEq α] {d x : α} (t : Tab α) (q : Nat) (h : x ≠ d) :
    tabGet d (tabSet d t q x) q = x := by
  simp [tabGet, tabSet, tabGetD, tabSetD, h, tabFind_tabPut_self]

/-- A function put into a state other than IDLE is in it. -/
theorem fnState_setFn_ne (s : State) (f : Fn) (x : FnSt) (h : x ≠ .idle) : fnState (setFn s f x) f = x :=
  tabGet_tabSet_ne _ _ h

/-- A function put into a state is in it, where the table of functions is canonical. -/
theorem fnState_setFn (s : State) (f : Fn) (x : FnSt) (h : tabWf (fun _ => FnSt.idle) s.fns = true) :
    fnState (setFn s f x) f = x := tabGetD_tabSetD_self _ _ h

/-- Two functions have different codes. -/
theorem fnCode_inj {f g : Fn} (h : fnCode f = fnCode g) : f = g := by
  cases f <;> cases g <;> simp [fnCode] at h ⊢

/-- Putting a function into a state leaves the other functions. -/
theorem fnState_setFn_other (s : State) {f g : Fn} (x : FnSt) (h : g ≠ f) : fnState (setFn s f x) g = fnState s g :=
  tabGetD_tabSetD_other (d := fun _ => FnSt.idle) _ _ (fun e => h (fnCode_inj e))

end Sys2Proof.Machine
end

