-- ==== Sys2Proof/Laws/Kept.lean ====
section
/-! SUPPORT. What every shared operation keeps: the queue, the key slots, the seal fuses and their CRC words, and the canonical
form of the tables. One lemma for each operation; a lemma of a caller cites those of what it calls. -/

namespace Sys2Proof.Machine

/-- What every operation keeps of the state a where the command began. -/
def Kept (a s : State) : Prop :=
  s.pending = a.pending ∧ s.led.keySlots = a.led.keySlots ∧ s.fuse.words = a.fuse.words ∧ s.fuse.crc = a.fuse.crc ∧
    (canonical a → canonical s)

theorem Kept.refl (s : State) : Kept s s := ⟨rfl, rfl, rfl, rfl, id⟩

theorem Kept.of_eq {a s t : State} (h : Kept a s) (h1 : t.pending = s.pending) (h2 : t.led.keySlots = s.led.keySlots)
    (h3 : t.fuse.words = s.fuse.words) (h4 : t.fuse.crc = s.fuse.crc) (h5 : t.fns = s.fns) (h6 : t.objs = s.objs)
    (h7 : t.mram = s.mram) : Kept a t := by
  unfold Kept canonical at *
  rw [h1, h2, h3, h4, h5, h6, h7]; exact h

theorem Kept.of_mk {a s : State} {fuse : Fuses} {led : Ledger} {fns : Tab FnSt} {objs mram : Tab Cell} {pending : List Instr}
    {dt : Nat} {dtPrev : Nat} {tick : Nat} {dtLog : List Nat} {free : Nat} {dev : Dev} {power : Power} {fw : Firmware} {tally : Tally} {pend : Tab Cell} {man : Tab Manif} {rods : Tab Rod} {marks : List Mark} {disarmed : Tab (Option Fired)} {claims : Tab Claim} {lanes : Tab Lane} {trigs : List TrigEv} {sent : List (Nat × RodUpd)} {caps : Tab (List CapRec)} {capWait : Tab (Option CapWait)} {sel : Tab Selector} {link : Link} {saf : Safety} {net : Net} {can : Tab Can} {host : HostPort} {res : Tab Resolver} {enc : Tab Encoder} {hall : Tab Hall} {grid : GridPll} {freqAt : Tab Nat} {seq : Tab SeqInst} {cal : Tab CalCap} {pairs : Tab PairChk} {sd : Tab Demod} {stat : Tab Stat} {tieFail : Tab Bool} {sdc : Tab SdcRead} {outc : Tab (Option OutConv)} {win : Tab Window} {brc : Tab Brace} {loops : Tab Loop} {mac : List MacJob} {owned : List (Nat × Nat)} {inj : Inject} {resp : Resp} {evals : Nat} {evalsPrev : Nat} {evalMs : Nat} {drv : Tab Drive} {chg : Charger} {cnv : Converter} {axle : Axle} {camp : Camp} {hvilCurrent : Bool} {act : Tab Act} {pump : Pump} {plock : ParkLock} {clutch : Clutch} {therm : Thermal} {outr : Outrider} {plumbHeld : Tab Bool} {formHz : Nat} {fired : Tab Nat} {once : Tab Bool}
    (h : Kept a s) (h1 : pending = s.pending) (h2 : led.keySlots = s.led.keySlots)
    (h3 : fuse.words = s.fuse.words) (h4 : fuse.crc = s.fuse.crc) (h5 : fns = s.fns) (h6 : objs = s.objs) (h7 : mram = s.mram) :
    Kept a (State.mk dt dtPrev tick dtLog free dev power fw fuse tally fns objs pend mram led man rods marks disarmed claims lanes trigs sent caps capWait sel link saf net can host res enc hall grid freqAt seq cal pairs sd stat tieFail sdc outc win brc loops mac owned inj resp evals evalsPrev evalMs drv chg cnv axle camp hvilCurrent act pump plock clutch therm outr plumbHeld formHz fired once pending) :=
  Kept.of_eq h h1 h2 h3 h4 h5 h6 h7

theorem kept_ite {a x y : State} {c : Prop} [Decidable c] (h1 : Kept a x) (h2 : Kept a y) : Kept a (if c then x else y) := by
  split <;> assumption

theorem kept_ite1 {β : Type} {a : State} {x y : State × β} {c : Prop} [Decidable c] (h1 : Kept a x.1) (h2 : Kept a y.1) :
    Kept a (if c then x else y).1 := by
  split <;> assumption

theorem kept_ite2 {β : Type} {a : State} {x y : β × State} {c : Prop} [Decidable c] (h1 : Kept a x.2) (h2 : Kept a y.2) :
    Kept a (if c then x else y).2 := by
  split <;> assumption

theorem kept_foldl {β : Type} {a : State} (f : State → β → State) (l : List β) (s : State) (h : Kept a s)
    (hf : ∀ t x, Kept a t → Kept a (f t x)) : Kept a (l.foldl f s) := by
  induction l generalizing s with
  | nil => exact h
  | cons x xs ih => exact ih _ (hf _ _ h)

theorem setCell_kept {a s : State} (h : Kept a s) (i : Nat) (c : Cell) : Kept a (setCell s i c) := by
  refine ⟨h.1, h.2.1, h.2.2.1, h.2.2.2.1, fun hc => ?_⟩
  obtain ⟨h1, h2, h3⟩ := h.2.2.2.2 hc
  exact ⟨h1, tabWf_tabSetD _ _ h2, h3⟩

theorem setFn_kept {a s : State} (h : Kept a s) (f : Fn) (x : FnSt) : Kept a (setFn s f x) := by
  refine ⟨h.1, h.2.1, h.2.2.1, h.2.2.2.1, fun hc => ?_⟩
  obtain ⟨h1, h2, h3⟩ := h.2.2.2.2 hc
  exact ⟨tabWf_tabSetD _ _ h1, h2, h3⟩

/-- Dropping entries keeps the canonical form. -/
theorem tabWf_filter {α : Type} [DecidableEq α] {d : Nat → α} {t : Tab α} (p : Nat × α → Bool) (h : tabWf d t = true) :
    tabWf d (t.filter p) = true := by
  simp only [tabWf, Bool.and_eq_true, List.all_eq_true] at h ⊢
  refine ⟨?_, fun e he => h.2 e (List.mem_filter.mp he).1⟩
  replace h := h.1
  induction t with
  | nil => rfl
  | cons e t ih =>
    obtain ⟨k, v⟩ := e
    obtain ⟨h1, h2⟩ := (tabSorted_cons k v t).mp h
    simp only [List.filter]
    split
    · exact (tabSorted_cons _ _ _).mpr ⟨fun e he => h1 e (List.mem_filter.mp he).1, ih h2⟩
    · exact ih h2

theorem tabFind_mem {α : Type} {t : Tab α} {q : Nat} {x : α} (h : tabFind t q = some x) : (q, x) ∈ t := by
  induction t with
  | nil => simp [tabFind] at h
  | cons e t ih =>
    obtain ⟨k, v⟩ := e
    simp only [tabFind] at h
    split at h
    · rename_i hk; subst hk; cases h; exact List.mem_cons_self
    · exact List.mem_cons_of_mem _ (ih h)

theorem kept_fst_of_eq {β : Type} {a t : State} {b : β} {x : State × β} (h : x = (t, b)) (hx : Kept a x.1) : Kept a t := by
  rw [h] at hx; exact hx

theorem kept_snd_of_eq {β : Type} {a t : State} {b : β} {x : β × State} (h : x = (b, t)) (hx : Kept a x.2) : Kept a t := by
  rw [h] at hx; exact hx

theorem freshWord_kept {start : State} (s : State) (hk : Kept start s) : Kept start (freshWord s).2 := by
  unfold freshWord
  repeat' first
    | with_reducible assumption | with_reducible refine Kept.of_mk ?_ rfl rfl rfl rfl rfl rfl rfl

theorem putOb_kept {start : State} (s : State) (idx sub v : Nat) (hk : Kept start s) :
    Kept start (putOb s idx sub v) := by
  unfold putOb
  repeat' first
    | with_reducible assumption | with_reducible apply setCell_kept

theorem putRidge_kept {start : State} (s : State) (idx sub v side : Nat) (hk : Kept start s) :
    Kept start (putRidge s idx sub v side) := by
  unfold putRidge
  repeat' first
    | with_reducible assumption | with_reducible apply setCell_kept

theorem orSide_kept {start : State} (s : State) (idx sub m : Nat) (hk : Kept start s) :
    Kept start (orSide s idx sub m) := by
  unfold orSide
  repeat' first
    | with_reducible assumption | with_reducible apply putRidge_kept

theorem clrSide_kept {start : State} (s : State) (idx sub m : Nat) (hk : Kept start s) :
    Kept start (clrSide s idx sub m) := by
  unfold clrSide
  repeat' first
    | with_reducible assumption | with_reducible apply putRidge_kept

theorem incOb_kept {start : State} (s : State) (idx sub : Nat) (hk : Kept start s) :
    Kept start (incOb s idx sub) := by
  unfold incOb
  repeat' first
    | with_reducible assumption | with_reducible apply putOb_kept

theorem setSess_kept {start : State} (s : State) (n : Nat) (x : Session) (hk : Kept start s) :
    Kept start (setSess s n x) := by
  unfold setSess
  repeat' first
    | with_reducible assumption | with_reducible refine Kept.of_mk ?_ rfl rfl rfl rfl rfl rfl rfl

theorem setRod_kept {start : State} (s : State) (r : Nat) (x : Rod) (hk : Kept start s) :
    Kept start (setRod s r x) := by
  unfold setRod
  repeat' first
    | with_reducible assumption | with_reducible refine Kept.of_mk ?_ rfl rfl rfl rfl rfl rfl rfl

theorem setLane_kept {start : State} (s : State) (l : Nat) (x : Lane) (hk : Kept start s) :
    Kept start (setLane s l x) := by
  unfold setLane
  repeat' first
    | with_reducible assumption | with_reducible refine Kept.of_mk ?_ rfl rfl rfl rfl rfl rfl rfl

theorem setLive_kept {start : State} (s : State) (ls : List Nat) (b : Bool) (hk : Kept start s) :
    Kept start (setLive s ls b) := by
  unfold setLive
  repeat' first
    | with_reducible assumption | with_reducible apply setLane_kept
    | (with_reducible apply kept_foldl; rotate_left; intro _ _ _) | dsimp only
    | with_reducible refine Kept.of_mk ?_ rfl rfl rfl rfl rfl rfl rfl

theorem setDrv_kept {start : State} (s : State) (d : Drv) (x : Drive) (hk : Kept start s) :
    Kept start (setDrv s d x) := by
  unfold setDrv
  repeat' first
    | with_reducible assumption | with_reducible refine Kept.of_mk ?_ rfl rfl rfl rfl rfl rfl rfl

theorem setSel_kept {start : State} (s : State) (d : Drv) (x : Selector) (hk : Kept start s) :
    Kept start (setSel s d x) := by
  unfold setSel
  repeat' first
    | with_reducible assumption | with_reducible refine Kept.of_mk ?_ rfl rfl rfl rfl rfl rfl rfl

theorem setWb_kept {start : State} (s : State) (p : Nat) (x : Wb) (hk : Kept start s) : Kept start (setWb s p x) := by
  unfold setWb
  repeat' first
    | with_reducible assumption | with_reducible refine Kept.of_mk ?_ rfl rfl rfl rfl rfl rfl rfl

theorem setCan_kept {start : State} (s : State) (n : Nat) (x : Can) (hk : Kept start s) :
    Kept start (setCan s n x) := by
  unfold setCan
  repeat' first
    | with_reducible assumption | with_reducible refine Kept.of_mk ?_ rfl rfl rfl rfl rfl rfl rfl

theorem setMan_kept {start : State} (s : State) (m : Nat) (x : Manif) (hk : Kept start s) :
    Kept start (setMan s m x) := by
  unfold setMan
  repeat' first
    | with_reducible assumption | with_reducible refine Kept.of_mk ?_ rfl rfl rfl rfl rfl rfl rfl

theorem irq_kept {start : State} (s : State) (m : Nat) (hk : Kept start s) : Kept start (irq s m) := by
  unfold irq
  repeat' first
    | with_reducible assumption | with_reducible refine Kept.of_mk ?_ rfl rfl rfl rfl rfl rfl rfl

theorem setDev_kept {start : State} (s : State) (d : Dev) (hk : Kept start s) : Kept start (setDev s d) := by
  unfold setDev
  repeat' first
    | with_reducible assumption | with_reducible apply irq_kept | with_reducible apply kept_ite | split
    | with_reducible refine Kept.of_mk ?_ rfl rfl rfl rfl rfl rfl rfl

theorem persistCell_kept {start : State} (s : State) (a : Nat) (c : Cell) (h : Kept start s) :
    Kept start (persistCell s a c) := by
  refine ⟨h.1, h.2.1, h.2.2.1, h.2.2.2.1, fun hc => ?_⟩
  obtain ⟨h1, h2, h3⟩ := h.2.2.2.2 hc
  exact ⟨h1, h2, tabWf_tabSetD _ _ h3⟩

theorem persistAt_kept {start : State} (s : State) (a : Nat) (hk : Kept start s) : Kept start (persistAt s a) := by
  unfold persistAt
  repeat' first
    | with_reducible assumption | with_reducible apply persistCell_kept

theorem commitKept_kept {start : State} (s : State) (hk : Kept start s) : Kept start (commitKept s) := by
  unfold commitKept
  repeat' first
    | with_reducible assumption | with_reducible apply persistAt_kept | with_reducible apply kept_ite
    | (with_reducible apply kept_foldl; rotate_left; intro _ _ _) | split | dsimp only
    | with_reducible refine Kept.of_mk ?_ rfl rfl rfl rfl rfl rfl rfl

theorem bootState_kept {start : State} (s : State) (h : Kept start s) : Kept start (bootState s) := by
  refine ⟨h.1, h.2.1, h.2.2.1, h.2.2.2.1, fun hc => ?_⟩
  obtain ⟨-, h2, -⟩ := h.2.2.2.2 hc
  obtain ⟨-, -, h3⟩ := (commitKept_kept s h).2.2.2.2 hc
  refine ⟨rfl, ?_, h3⟩
  show tabWf dfltAt (match tabFind s.objs (oaddr 0x2020 4) with | none => [] | some c => [(oaddr 0x2020 4, c)]) = true
  split
  · rfl
  · rename_i c hf
    simp only [tabWf, Bool.and_eq_true, List.all_eq_true] at h2 ⊢
    refine ⟨rfl, fun e he => ?_⟩
    rw [List.mem_singleton.mp he]
    exact h2.2 _ (tabFind_mem hf)

theorem canStart_kept {start : State} (s : State) (cn : Nat) (hk : Kept start s) : Kept start (canStart s cn) := by
  unfold canStart
  repeat' first
    | with_reducible assumption | with_reducible apply setCan_kept | with_reducible apply putOb_kept
    | with_reducible apply kept_ite | split | dsimp only
    | with_reducible refine Kept.of_mk ?_ rfl rfl rfl rfl rfl rfl rfl

theorem restoreCfg_kept {start : State} (s : State) (hk : Kept start s) : Kept start (restoreCfg s) := by
  unfold restoreCfg
  repeat' first
    | with_reducible assumption | with_reducible apply canStart_kept | with_reducible apply setCell_kept
    | (with_reducible apply kept_foldl; rotate_left; intro _ _ _) | dsimp only
    | with_reducible refine Kept.of_mk ?_ rfl rfl rfl rfl rfl rfl rfl

theorem forgetBlock_kept {start : State} (s : State) (b : Nat) (h : Kept start s) : Kept start (forgetBlock s b) := by
  refine ⟨h.1, h.2.1, h.2.2.1, h.2.2.2.1, fun hc => ?_⟩
  obtain ⟨h1, h2, h3⟩ := h.2.2.2.2 hc
  exact ⟨h1, h2, tabWf_filter _ h3⟩

theorem toOff_kept {start : State} (s : State) (cause : Nat) (hk : Kept start s) : Kept start (toOff s cause) := by
  unfold toOff
  repeat' first
    | with_reducible assumption | with_reducible apply bootState_kept | with_reducible apply setDev_kept
    | dsimp only | with_reducible refine Kept.of_mk ?_ rfl rfl rfl rfl rfl rfl rfl

theorem enterBoot_kept {start : State} (s : State) (cause us : Nat) (hk : Kept start s) :
    Kept start (enterBoot s cause us) := by
  unfold enterBoot
  repeat' first
    | with_reducible assumption | with_reducible apply bootState_kept | with_reducible apply putOb_kept
    | with_reducible apply irq_kept | with_reducible apply kept_ite | split | dsimp only
    | with_reducible refine Kept.of_mk ?_ rfl rfl rfl rfl rfl rfl rfl

theorem armSource_kept {start : State} (s : State) (src : Nat) (hk : Kept start s) :
    Kept start (armSource s src) := by
  unfold armSource
  repeat' first
    | with_reducible assumption | with_reducible apply kept_ite | with_reducible apply kept_ite1
    | with_reducible apply kept_ite2 | refine kept_fst_of_eq (by assumption) ?_
    | refine kept_snd_of_eq (by assumption) ?_ | split | dsimp only
    | with_reducible refine Kept.of_mk ?_ rfl rfl rfl rfl rfl rfl rfl

theorem armStats_kept {start : State} (s : State) (src : Nat) (hk : Kept start s) : Kept start (armStats s src) := by
  unfold armStats
  repeat' first
    | with_reducible assumption | with_reducible apply kept_ite
    | (with_reducible apply kept_foldl; rotate_left; intro _ _ _) | split | dsimp only
    | with_reducible refine Kept.of_mk ?_ rfl rfl rfl rfl rfl rfl rfl

theorem carrierTake_kept {start : State} (s : State) (r : Nat) (anchor : BitVec 64) (hk : Kept start s) :
    Kept start (carrierTake s r anchor) := by
  unfold carrierTake
  repeat' first
    | with_reducible assumption | with_reducible apply armStats_kept | with_reducible apply armSource_kept
    | with_reducible apply setRod_kept | dsimp only
    | with_reducible refine Kept.of_mk ?_ rfl rfl rfl rfl rfl rfl rfl

theorem carrierWrite_kept {start : State} (s : State) (r : Nat) (hk : Kept start s) :
    Kept start (carrierWrite s r) := by
  unfold carrierWrite
  repeat' first
    | with_reducible assumption | with_reducible apply carrierTake_kept | with_reducible apply setRod_kept
    | with_reducible apply kept_ite | split | dsimp only
    | with_reducible refine Kept.of_mk ?_ rfl rfl rfl rfl rfl rfl rfl

theorem carrierSync_kept {start : State} (s : State) (r : Nat) (hk : Kept start s) :
    Kept start (carrierSync s r) := by
  unfold carrierSync
  repeat' first
    | with_reducible assumption | with_reducible apply carrierWrite_kept | with_reducible apply kept_ite | split
    | dsimp only

theorem putIface_kept {start : State} (s : State) (base : Nat) (io : Iface) (hk : Kept start s) :
    Kept start (putIface s base io) := by
  unfold putIface
  repeat' first
    | with_reducible assumption | with_reducible apply putOb_kept

theorem excite_kept {start : State} (s : State) (i : Nat) (hk : Kept start s) : Kept start (excite s i) := by
  unfold excite
  repeat' first
    | with_reducible assumption | with_reducible apply carrierSync_kept | with_reducible apply putOb_kept
    | dsimp only

theorem startPos_kept {start : State} (s : State) (b : Nat) (hk : Kept start s) : Kept start (startPos s b) := by
  unfold startPos
  repeat' first
    | with_reducible assumption | with_reducible apply putIface_kept | with_reducible apply excite_kept
    | with_reducible apply putOb_kept | with_reducible apply kept_ite | refine kept_fst_of_eq (by assumption) ?_
    | refine kept_snd_of_eq (by assumption) ?_ | split | dsimp only
    | with_reducible refine Kept.of_mk ?_ rfl rfl rfl rfl rfl rfl rfl

theorem capPut_kept {start : State} (s : State) (u : Nat) (r : CapRec) (hk : Kept start s) :
    Kept start (capPut s u r) := by
  unfold capPut
  repeat' first
    | with_reducible assumption | with_reducible apply incOb_kept | with_reducible apply kept_ite
    | with_reducible apply kept_ite1 | with_reducible apply kept_ite2 | split | dsimp only
    | with_reducible refine Kept.of_mk ?_ rfl rfl rfl rfl rfl rfl rfl

theorem capture_kept {start : State} (s : State) (u edge t : Nat) (hk : Kept start s) :
    Kept start (capture s u edge t) := by
  unfold capture
  repeat' first
    | with_reducible assumption | with_reducible apply capPut_kept

theorem capDue_kept {start : State} (s : State) (u t : Nat) (hk : Kept start s) : Kept start (capDue s u t) := by
  unfold capDue
  repeat' first
    | with_reducible assumption | with_reducible apply capPut_kept | with_reducible apply kept_ite
    | refine kept_fst_of_eq (by assumption) ?_ | refine kept_snd_of_eq (by assumption) ?_ | split | dsimp only
    | with_reducible refine Kept.of_mk ?_ rfl rfl rfl rfl rfl rfl rfl

theorem capEdge_kept {start : State} (s : State) (u : Nat) (rising : Bool) (t : Nat) (hk : Kept start s) :
    Kept start (capEdge s u rising t) := by
  unfold capEdge
  repeat' first
    | with_reducible assumption | with_reducible apply capDue_kept | with_reducible apply kept_ite | split
    | dsimp only | with_reducible refine Kept.of_mk ?_ rfl rfl rfl rfl rfl rfl rfl

theorem capCode_kept {start : State} (s : State) (code : Nat) (rising : Bool) (t : Nat) (hk : Kept start s) :
    Kept start (capCode s code rising t) := by
  unfold capCode
  repeat' first
    | with_reducible assumption | with_reducible apply capEdge_kept | with_reducible apply kept_ite
    | (with_reducible apply kept_foldl; rotate_left; intro _ _ _) | split | dsimp only

theorem laneCmd_kept {start : State} (s : State) (l : Nat) (b : Bool) (t : Nat) (hk : Kept start s) :
    Kept start (laneCmd s l b t) := by
  unfold laneCmd
  repeat' first
    | with_reducible assumption | with_reducible apply setLane_kept | with_reducible apply kept_ite | split
    | dsimp only | with_reducible refine Kept.of_mk ?_ rfl rfl rfl rfl rfl rfl rfl

theorem cmdCapture_kept {start : State} (l : Nat) (s : State) (e : LaneEdge) (hk : Kept start s) :
    Kept start (cmdCapture l s e) := by
  unfold cmdCapture
  repeat' first
    | with_reducible assumption | with_reducible apply capCode_kept | with_reducible apply setLane_kept
    | with_reducible apply kept_ite | split | with_reducible refine Kept.of_mk ?_ rfl rfl rfl rfl rfl rfl rfl

theorem restartWin_kept {start : State} (s : State) (w : Nat) (hk : Kept start s) : Kept start (restartWin s w) := by
  unfold restartWin
  repeat' first
    | with_reducible assumption | with_reducible apply capCode_kept | with_reducible apply kept_ite | split
    | dsimp only | with_reducible refine Kept.of_mk ?_ rfl rfl rfl rfl rfl rfl rfl

theorem restartBrace_kept {start : State} (s : State) (i : Nat) (hk : Kept start s) :
    Kept start (restartBrace s i) := by
  unfold restartBrace
  repeat' first
    | with_reducible assumption | dsimp only | with_reducible refine Kept.of_mk ?_ rfl rfl rfl rfl rfl rfl rfl

theorem restartLoop_kept {start : State} (s : State) (l : Nat) (hk : Kept start s) :
    Kept start (restartLoop s l) := by
  unfold restartLoop
  repeat' first
    | with_reducible assumption | with_reducible apply restartBrace_kept | with_reducible apply putOb_kept
    | (with_reducible apply kept_foldl; rotate_left; intro _ _ _) | dsimp only
    | with_reducible refine Kept.of_mk ?_ rfl rfl rfl rfl rfl rfl rfl

theorem publishAsc_kept {start : State} (s : State) (x : Drv) (hk : Kept start s) : Kept start (publishAsc s x) := by
  unfold publishAsc
  repeat' first
    | with_reducible assumption | with_reducible apply putOb_kept | with_reducible apply kept_ite | split
    | dsimp only

theorem dropTrigs_kept {start : State} (s : State) (b : Nat) (hk : Kept start s) : Kept start (dropTrigs s b) := by
  unfold dropTrigs
  repeat' first
    | with_reducible assumption | with_reducible apply kept_ite | split | dsimp only
    | with_reducible refine Kept.of_mk ?_ rfl rfl rfl rfl rfl rfl rfl

theorem restartElems_kept {start : State} (s : State) (b : Nat) (hk : Kept start s) :
    Kept start (restartElems s b) := by
  unfold restartElems
  repeat' first
    | with_reducible assumption | with_reducible apply restartLoop_kept | with_reducible apply dropTrigs_kept
    | with_reducible apply startPos_kept | with_reducible apply putOb_kept | with_reducible apply restartWin_kept
    | with_reducible apply publishAsc_kept | with_reducible apply kept_ite
    | (with_reducible apply kept_foldl; rotate_left; intro _ _ _) | split | dsimp only
    | with_reducible refine Kept.of_mk ?_ rfl rfl rfl rfl rfl rfl rfl

theorem stopUnheld_kept {start : State} (s : State) (b : Nat) (hk : Kept start s) : Kept start (stopUnheld s b) := by
  unfold stopUnheld
  repeat' first
    | with_reducible assumption | with_reducible apply kept_ite | split | dsimp only
    | with_reducible refine Kept.of_mk ?_ rfl rfl rfl rfl rfl rfl rfl

theorem stopElems_kept {start : State} (s' : State) (b : Nat) (hk : Kept start s') : Kept start (stopElems s' b) := by
  unfold stopElems
  repeat' first
    | with_reducible assumption | with_reducible apply dropTrigs_kept | with_reducible apply restartWin_kept
    | with_reducible apply orSide_kept | with_reducible apply kept_ite
    | (with_reducible apply kept_foldl; rotate_left; intro _ _ _) | refine kept_fst_of_eq (by assumption) ?_
    | refine kept_snd_of_eq (by assumption) ?_ | split | dsimp only
    | with_reducible refine Kept.of_mk ?_ rfl rfl rfl rfl rfl rfl rfl

theorem putPub_kept {start : State} (s : State) (idx sub v : Nat) (hk : Kept start s) :
    Kept start (putPub s idx sub v) := by
  unfold putPub
  repeat' first
    | with_reducible assumption | with_reducible apply putOb_kept | with_reducible apply kept_ite | split

theorem publishOwners_kept {start : State} (s : State) (hk : Kept start s) : Kept start (publishOwners s) := by
  unfold publishOwners
  repeat' first
    | with_reducible assumption | with_reducible apply putPub_kept | with_reducible apply kept_ite
    | (with_reducible apply kept_foldl; rotate_left; intro _ _ _) | refine kept_fst_of_eq (by assumption) ?_
    | refine kept_snd_of_eq (by assumption) ?_ | split | dsimp only
    | with_reducible refine Kept.of_mk ?_ rfl rfl rfl rfl rfl rfl rfl

theorem ridgeRestart_kept {start : State} (struck : Bool) (s : State) (e : Nat × Acc) (h : Kept start s) :
    Kept start (ridgeRestart struck s e) := by
  unfold ridgeRestart
  split
  · split
    · split
      · refine ⟨h.1, h.2.1, h.2.2.1, h.2.2.2.1, fun hc => ?_⟩
        obtain ⟨h1, h2, h3⟩ := h.2.2.2.2 hc
        exact ⟨h1, tabWf_tabDel _ h2, h3⟩
      · exact setCell_kept h _ _
    · exact h
  · exact setCell_kept h _ _

theorem ridgeStale_kept {start : State} (s : State) (e : Nat × Acc) (hk : Kept start s) :
    Kept start (ridgeStale s e) := by
  unfold ridgeStale
  repeat' first
    | with_reducible assumption | with_reducible apply setCell_kept | dsimp only

theorem rodRestart_kept {start : State} (s : State) (r : Nat) (hk : Kept start s) : Kept start (rodRestart s r) := by
  unfold rodRestart
  repeat' first
    | with_reducible assumption | with_reducible apply setRod_kept | with_reducible apply kept_ite
    | refine kept_fst_of_eq (by assumption) ?_ | refine kept_snd_of_eq (by assumption) ?_ | split | dsimp only
    | with_reducible refine Kept.of_mk ?_ rfl rfl rfl rfl rfl rfl rfl

theorem restartBlock_kept {start : State} (struck : Bool) (s : State) (b : Nat) (hk : Kept start s) :
    Kept start (restartBlock struck s b) := by
  unfold restartBlock
  repeat' first
    | with_reducible assumption | with_reducible apply ridgeRestart_kept | with_reducible apply rodRestart_kept
    | with_reducible apply restartElems_kept | with_reducible apply kept_ite
    | (with_reducible apply kept_foldl; rotate_left; intro _ _ _) | split | dsimp only

theorem commitPending_kept {start : State} (b : Nat) (s : State) (hk : Kept start s) :
    Kept start (commitPending b s) := by
  unfold commitPending
  repeat' first
    | with_reducible assumption | with_reducible apply setCell_kept | with_reducible apply kept_ite
    | with_reducible apply kept_ite1 | with_reducible apply kept_ite2
    | (with_reducible apply kept_foldl; rotate_left; intro _ _ _) | split | dsimp only
    | with_reducible refine Kept.of_mk ?_ rfl rfl rfl rfl rfl rfl rfl

theorem dropPending_kept {start : State} (b : Nat) (s : State) (hk : Kept start s) :
    Kept start (dropPending b s) := by
  unfold dropPending
  repeat' first
    | with_reducible assumption | dsimp only | with_reducible refine Kept.of_mk ?_ rfl rfl rfl rfl rfl rfl rfl

theorem thaw_kept {start : State} (s : State) (b : Nat) (hk : Kept start s) : Kept start (thaw s b) := by
  unfold thaw
  repeat' first
    | with_reducible assumption | with_reducible apply setCell_kept | with_reducible apply kept_ite
    | with_reducible apply kept_ite1 | with_reducible apply kept_ite2
    | (with_reducible apply kept_foldl; rotate_left; intro _ _ _) | refine kept_fst_of_eq (by assumption) ?_
    | refine kept_snd_of_eq (by assumption) ?_ | split | dsimp only
    | with_reducible refine Kept.of_mk ?_ rfl rfl rfl rfl rfl rfl rfl

theorem leaveShored_kept {start : State} (s : State) (f : Fn) (hk : Kept start s) : Kept start (leaveShored s f) := by
  unfold leaveShored
  repeat' first
    | with_reducible assumption | with_reducible apply setFn_kept | with_reducible apply kept_ite | split
    | dsimp only

theorem rebuild_kept {start : State} (s : State) (hk : Kept start s) : Kept start (rebuild s) := by
  unfold rebuild
  repeat' first
    | with_reducible assumption | with_reducible apply publishOwners_kept
    | (with_reducible apply kept_foldl; rotate_left; intro _ _ _) | dsimp only
    | with_reducible refine Kept.of_mk ?_ rfl rfl rfl rfl rfl rfl rfl

theorem abandonOwned_kept {start : State} (s : State) (f : Fn) (hk : Kept start s) :
    Kept start (abandonOwned s f) := by
  unfold abandonOwned
  repeat' first
    | with_reducible assumption | with_reducible apply kept_ite | split | dsimp only
    | with_reducible refine Kept.of_mk ?_ rfl rfl rfl rfl rfl rfl rfl

theorem drvOff_kept {start : State} (s : State) (x : Drv) (hk : Kept start s) : Kept start (drvOff s x) := by
  unfold drvOff
  repeat' first
    | with_reducible assumption | with_reducible apply setSel_kept | with_reducible apply setLive_kept
    | with_reducible apply kept_ite | split | dsimp only
    | with_reducible refine Kept.of_mk ?_ rfl rfl rfl rfl rfl rfl rfl

theorem trip_kept {start : State} (s : State) (x : Drv) (hk : Kept start s) : Kept start (trip s x) := by
  unfold trip
  repeat' first
    | with_reducible assumption | with_reducible apply incOb_kept | with_reducible apply putOb_kept
    | with_reducible apply kept_ite | split

theorem freewheel_kept {start : State} (s : State) (x : Drv) (asc : Option Choice) (f : Selector → Selector)
    (hk : Kept start s) : Kept start (freewheel s x asc f) := by
  unfold freewheel
  repeat' first
    | with_reducible assumption | with_reducible apply trip_kept | with_reducible apply drvOff_kept
    | with_reducible apply setSel_kept | with_reducible apply kept_ite | with_reducible apply kept_ite1
    | with_reducible apply kept_ite2 | split | dsimp only
    | with_reducible refine Kept.of_mk ?_ rfl rfl rfl rfl rfl rfl rfl

theorem speedRule_kept {start : State} (s : State) (x : Drv) (f : Selector → Selector) (hk : Kept start s) :
    Kept start (speedRule s x f) := by
  unfold speedRule
  repeat' first
    | with_reducible assumption | with_reducible apply lockout_kept | with_reducible apply setSel_kept
    | with_reducible apply freewheel_kept | with_reducible apply kept_ite | with_reducible apply kept_ite1
    | with_reducible apply kept_ite2 | split | dsimp only
    | with_reducible refine Kept.of_mk ?_ rfl rfl rfl rfl rfl rfl rfl

theorem drvStopped_kept {start : State} (s : State) (x : Drv) (hk : Kept start s) : Kept start (drvStopped s x) := by
  unfold drvStopped
  repeat' first
    | with_reducible assumption | with_reducible apply setDrv_kept | with_reducible apply drvOff_kept
    | with_reducible apply kept_ite | with_reducible apply kept_ite1 | with_reducible apply kept_ite2 | split
    | dsimp only | with_reducible refine Kept.of_mk ?_ rfl rfl rfl rfl rfl rfl rfl

theorem drvReset_kept {start : State} (s : State) (x : Drv) (hk : Kept start s) : Kept start (drvReset s x) := by
  unfold drvReset
  repeat' first
    | with_reducible assumption | with_reducible apply setDrv_kept
    | with_reducible refine Kept.of_mk ?_ rfl rfl rfl rfl rfl rfl rfl

theorem drvLatchEnd_kept {start : State} (s : State) (x : Drv) (hk : Kept start s) :
    Kept start (drvLatchEnd s x) := by
  unfold drvLatchEnd
  repeat' first
    | with_reducible assumption | with_reducible apply drvReset_kept | with_reducible apply drvOff_kept
    | with_reducible apply setFn_kept | with_reducible apply kept_ite | split | dsimp only

theorem drvReact_kept {start : State} (s : State) (x : Drv) (eff : Nat) (hk : Kept start s) :
    Kept start (drvReact s x eff) := by
  unfold drvReact
  repeat' first
    | with_reducible assumption | with_reducible apply drvStopped_kept | with_reducible apply drvReset_kept
    | with_reducible apply drvOff_kept | with_reducible apply speedRule_kept | with_reducible apply setLive_kept
    | with_reducible apply kept_ite | split | dsimp only
    | with_reducible refine Kept.of_mk ?_ rfl rfl rfl rfl rfl rfl rfl

theorem drvLeaveSafe_kept {start : State} (s : State) (x : Drv) (hk : Kept start s) :
    Kept start (drvLeaveSafe s x) := by
  unfold drvLeaveSafe
  repeat' first
    | with_reducible assumption | with_reducible apply setSel_kept
    | with_reducible refine Kept.of_mk ?_ rfl rfl rfl rfl rfl rfl rfl

theorem benchFault_kept {start : State} (s : State) (scope eff : Nat) (hk : Kept start s) :
    Kept start (benchFault s scope eff) := by
  unfold benchFault
  repeat' first
    | with_reducible assumption | with_reducible apply kept_ite | split | dsimp only
    | with_reducible refine Kept.of_mk ?_ rfl rfl rfl rfl rfl rfl rfl

theorem setChg_kept {start : State} (s : State) (f : Charger → Charger) (hk : Kept start s) :
    Kept start (setChg s f) := by
  unfold setChg
  repeat' first
    | with_reducible assumption | with_reducible refine Kept.of_mk ?_ rfl rfl rfl rfl rfl rfl rfl

theorem pfcPut_kept {start : State} (s : State) (ph : Nat) (b : Bool) (hk : Kept start s) :
    Kept start (pfcPut s ph b) := by
  unfold pfcPut
  repeat' first
    | with_reducible assumption | with_reducible apply setChg_kept | with_reducible apply setLive_kept
    | with_reducible apply kept_ite | split | dsimp only
    | with_reducible refine Kept.of_mk ?_ rfl rfl rfl rfl rfl rfl rfl

theorem pfcAll_kept {start : State} (s : State) (b : Bool) (hk : Kept start s) : Kept start (pfcAll s b) := by
  unfold pfcAll
  repeat' first
    | with_reducible assumption | with_reducible apply setChg_kept | with_reducible apply pfcPut_kept
    | (with_reducible apply kept_foldl; rotate_left; intro _ _ _) | dsimp only
    | with_reducible refine Kept.of_mk ?_ rfl rfl rfl rfl rfl rfl rfl

theorem dabPut_kept {start : State} (s : State) (b : Bool) (hk : Kept start s) : Kept start (dabPut s b) := by
  unfold dabPut
  repeat' first
    | with_reducible assumption | with_reducible apply setChg_kept | with_reducible apply setLive_kept | dsimp only
    | with_reducible refine Kept.of_mk ?_ rfl rfl rfl rfl rfl rfl rfl

theorem dabStop_kept {start : State} (s : State) (hk : Kept start s) : Kept start (dabStop s) := by
  unfold dabStop
  repeat' first
    | with_reducible assumption | with_reducible apply setChg_kept | dsimp only
    | with_reducible refine Kept.of_mk ?_ rfl rfl rfl rfl rfl rfl rfl

theorem relayPut_kept {start : State} (s : State) (l : Nat) (b : Bool) (t : Nat) (hk : Kept start s) :
    Kept start (relayPut s l b t) := by
  unfold relayPut
  repeat' first
    | with_reducible assumption | with_reducible apply laneCmd_kept | with_reducible apply setLane_kept
    | with_reducible refine Kept.of_mk ?_ rfl rfl rfl rfl rfl rfl rfl

theorem relayMark_kept {start : State} (s : State) (l : Nat) (b : Bool) (hk : Kept start s) :
    Kept start (relayMark s l b) := by
  unfold relayMark
  repeat' first
    | with_reducible assumption | with_reducible apply setChg_kept | with_reducible apply kept_ite
    | with_reducible apply kept_ite1 | with_reducible apply kept_ite2 | split | dsimp only
    | with_reducible refine Kept.of_mk ?_ rfl rfl rfl rfl rfl rfl rfl

theorem relayMain_kept {start : State} (s : State) (b : Bool) (hk : Kept start s) : Kept start (relayMain s b) := by
  unfold relayMain
  repeat' first
    | with_reducible assumption | with_reducible apply setChg_kept | with_reducible apply relayMark_kept
    | dsimp only | with_reducible refine Kept.of_mk ?_ rfl rfl rfl rfl rfl rfl rfl

theorem relayPre_kept {start : State} (s : State) (b : Bool) (hk : Kept start s) : Kept start (relayPre s b) := by
  unfold relayPre
  repeat' first
    | with_reducible assumption | with_reducible apply setChg_kept | with_reducible apply relayMark_kept
    | dsimp only | with_reducible refine Kept.of_mk ?_ rfl rfl rfl rfl rfl rfl rfl

theorem relaysOff_kept {start : State} (s : State) (hk : Kept start s) : Kept start (relaysOff s) := by
  unfold relaysOff
  repeat' first
    | with_reducible assumption | with_reducible apply relayPut_kept | with_reducible apply setChg_kept
    | with_reducible apply kept_ite | with_reducible apply kept_ite1 | with_reducible apply kept_ite2 | split
    | dsimp only | with_reducible refine Kept.of_mk ?_ rfl rfl rfl rfl rfl rfl rfl

theorem relayTick_kept {start : State} (s : State) (hk : Kept start s) : Kept start (relayTick s) := by
  unfold relayTick
  repeat' first
    | with_reducible assumption | with_reducible apply setChg_kept | with_reducible apply relayPut_kept
    | with_reducible apply kept_ite | with_reducible apply kept_ite1 | with_reducible apply kept_ite2
    | (with_reducible apply kept_foldl; rotate_left; intro _ _ _) | refine kept_fst_of_eq (by assumption) ?_
    | refine kept_snd_of_eq (by assumption) ?_ | split | dsimp only
    | with_reducible refine Kept.of_mk ?_ rfl rfl rfl rfl rfl rfl rfl

theorem putS2_kept {start : State} (s : State) (b : Bool) (hk : Kept start s) : Kept start (putS2 s b) := by
  unfold putS2
  repeat' first
    | with_reducible assumption | with_reducible apply setChg_kept | dsimp only
    | with_reducible refine Kept.of_mk ?_ rfl rfl rfl rfl rfl rfl rfl

theorem putPhase_kept {start : State} (s : State) (p : Nat) (hk : Kept start s) : Kept start (putPhase s p) := by
  unfold putPhase
  repeat' first
    | with_reducible assumption | with_reducible apply putOb_kept

theorem noteReason_kept {start : State} (s : State) (c : Nat) (hk : Kept start s) : Kept start (noteReason s c) := by
  unfold noteReason
  repeat' first
    | with_reducible assumption | with_reducible apply setChg_kept | with_reducible apply kept_ite
    | with_reducible apply kept_ite1 | with_reducible apply kept_ite2 | split | dsimp only
    | with_reducible refine Kept.of_mk ?_ rfl rfl rfl rfl rfl rfl rfl

theorem sessionOver_kept {start : State} (s : State) (hk : Kept start s) : Kept start (sessionOver s) := by
  unfold sessionOver
  repeat' first
    | with_reducible assumption | with_reducible apply putPhase_kept | with_reducible apply putOb_kept
    | with_reducible apply setChg_kept | with_reducible apply kept_ite | with_reducible apply kept_ite1
    | with_reducible apply kept_ite2 | split | dsimp only
    | with_reducible refine Kept.of_mk ?_ rfl rfl rfl rfl rfl rfl rfl

theorem chgOff_kept {start : State} (s : State) (hk : Kept start s) : Kept start (chgOff s) := by
  unfold chgOff
  repeat' first
    | with_reducible assumption | with_reducible apply putS2_kept | with_reducible apply relaysOff_kept
    | with_reducible apply dabPut_kept | with_reducible apply pfcAll_kept

theorem legsEnd_kept {start : State} (s : State) (hk : Kept start s) : Kept start (legsEnd s) := by
  unfold legsEnd
  repeat' first
    | with_reducible assumption | with_reducible apply setChg_kept | with_reducible apply putPhase_kept
    | with_reducible apply dabStop_kept | dsimp only
    | with_reducible refine Kept.of_mk ?_ rfl rfl rfl rfl rfl rfl rfl

theorem chgReact_kept {start : State} (s : State) (eff : Nat) (hk : Kept start s) : Kept start (chgReact s eff) := by
  unfold chgReact
  repeat' first
    | with_reducible assumption | with_reducible apply noteReason_kept | with_reducible apply legsEnd_kept
    | with_reducible apply sessionOver_kept | with_reducible apply chgOff_kept | with_reducible apply kept_ite
    | split | dsimp only

theorem setCnv_kept {start : State} (s : State) (f : Converter → Converter) (hk : Kept start s) :
    Kept start (setCnv s f) := by
  unfold setCnv
  repeat' first
    | with_reducible assumption | with_reducible refine Kept.of_mk ?_ rfl rfl rfl rfl rfl rfl rfl

theorem dcxPut_kept {start : State} (s : State) (b : Bool) (hk : Kept start s) : Kept start (dcxPut s b) := by
  unfold dcxPut
  repeat' first
    | with_reducible assumption | with_reducible apply setCnv_kept | with_reducible apply setLive_kept | dsimp only
    | with_reducible refine Kept.of_mk ?_ rfl rfl rfl rfl rfl rfl rfl

theorem buckPut_kept {start : State} (s : State) (b : Bool) (hk : Kept start s) : Kept start (buckPut s b) := by
  unfold buckPut
  repeat' first
    | with_reducible assumption | with_reducible apply setCnv_kept | with_reducible apply setLive_kept | dsimp only
    | with_reducible refine Kept.of_mk ?_ rfl rfl rfl rfl rfl rfl rfl

theorem cnvOff_kept {start : State} (s : State) (hk : Kept start s) : Kept start (cnvOff s) := by
  unfold cnvOff
  repeat' first
    | with_reducible assumption | with_reducible apply setCnv_kept | with_reducible apply dcxPut_kept
    | with_reducible apply buckPut_kept | dsimp only
    | with_reducible refine Kept.of_mk ?_ rfl rfl rfl rfl rfl rfl rfl

theorem cnvEnd_kept {start : State} (s : State) (hk : Kept start s) : Kept start (cnvEnd s) := by
  unfold cnvEnd
  repeat' first
    | with_reducible assumption | with_reducible apply setCnv_kept | dsimp only
    | with_reducible refine Kept.of_mk ?_ rfl rfl rfl rfl rfl rfl rfl

theorem cnvReact_kept {start : State} (s : State) (eff : Nat) (hk : Kept start s) : Kept start (cnvReact s eff) := by
  unfold cnvReact
  repeat' first
    | with_reducible assumption | with_reducible apply cnvEnd_kept | with_reducible apply cnvOff_kept
    | with_reducible apply kept_ite | split

theorem cnvStop_kept {start : State} (s : State) (after : FnSt) (hk : Kept start s) :
    Kept start (cnvStop s after) := by
  unfold cnvStop
  repeat' first
    | with_reducible assumption | with_reducible apply setCnv_kept | with_reducible apply kept_ite
    | with_reducible apply kept_ite1 | with_reducible apply kept_ite2 | split | dsimp only
    | with_reducible refine Kept.of_mk ?_ rfl rfl rfl rfl rfl rfl rfl

theorem setAct_kept {start : State} (s : State) (n : Nat) (x : Act) (hk : Kept start s) :
    Kept start (setAct s n x) := by
  unfold setAct
  repeat' first
    | with_reducible assumption | with_reducible refine Kept.of_mk ?_ rfl rfl rfl rfl rfl rfl rfl

theorem actCmd_kept {start : State} (s : State) (l : Nat) (b : Bool) (hk : Kept start s) :
    Kept start (actCmd s l b) := by
  unfold actCmd
  repeat' first
    | with_reducible assumption | with_reducible apply laneCmd_kept

theorem parkPlumb_kept {start : State} (s : State) (hk : Kept start s) : Kept start (parkPlumb s) := by
  unfold parkPlumb
  repeat' first
    | with_reducible assumption | (with_reducible apply kept_foldl; rotate_left; intro _ _ _) | dsimp only
    | with_reducible refine Kept.of_mk ?_ rfl rfl rfl rfl rfl rfl rfl

theorem actOff_kept {start : State} (s : State) (n : Nat) (hk : Kept start s) : Kept start (actOff s n) := by
  unfold actOff
  repeat' first
    | with_reducible assumption | with_reducible apply setAct_kept | with_reducible apply actCmd_kept
    | with_reducible apply parkPlumb_kept | with_reducible apply setLive_kept
    | (with_reducible apply kept_foldl; rotate_left; intro _ _ _) | dsimp only
    | with_reducible refine Kept.of_mk ?_ rfl rfl rfl rfl rfl rfl rfl

theorem actOffNext_kept {start : State} (s : State) (n : Nat) (hk : Kept start s) : Kept start (actOffNext s n) := by
  unfold actOffNext
  repeat' first
    | with_reducible assumption | with_reducible apply setAct_kept | with_reducible apply kept_ite | split
    | dsimp only | with_reducible refine Kept.of_mk ?_ rfl rfl rfl rfl rfl rfl rfl

theorem actEnter_kept {start : State} (s : State) (n : Nat) (m : CommMode) (hk : Kept start s) :
    Kept start (actEnter s n m) := by
  unfold actEnter
  repeat' first
    | with_reducible assumption | with_reducible apply actOff_kept | with_reducible apply parkPlumb_kept
    | with_reducible apply setLive_kept | with_reducible apply setAct_kept | with_reducible apply kept_ite
    | with_reducible apply kept_ite1 | with_reducible apply kept_ite2 | split
    | with_reducible refine Kept.of_mk ?_ rfl rfl rfl rfl rfl rfl rfl

theorem actLeg_kept {start : State} (n : Nat) (s : State) (p : Nat) (hk : Kept start s) :
    Kept start (actLeg n s p) := by
  unfold actLeg
  repeat' first
    | with_reducible assumption | with_reducible apply setAct_kept | with_reducible apply actCmd_kept | dsimp only
    | with_reducible refine Kept.of_mk ?_ rfl rfl rfl rfl rfl rfl rfl

theorem actTick_kept {start : State} (s : State) (n : Nat) (hk : Kept start s) : Kept start (actTick s n) := by
  unfold actTick
  repeat' first
    | with_reducible assumption | with_reducible apply actLeg_kept | with_reducible apply setAct_kept
    | with_reducible apply kept_ite | (with_reducible apply kept_foldl; rotate_left; intro _ _ _) | split
    | dsimp only | with_reducible refine Kept.of_mk ?_ rfl rfl rfl rfl rfl rfl rfl

theorem pumpQuiet_kept {start : State} (s : State) (hk : Kept start s) : Kept start (pumpQuiet s) := by
  unfold pumpQuiet
  repeat' first
    | with_reducible assumption | with_reducible refine Kept.of_mk ?_ rfl rfl rfl rfl rfl rfl rfl

theorem parkEnd_kept {start : State} (s : State) (hk : Kept start s) : Kept start (parkEnd s) := by
  unfold parkEnd
  repeat' first
    | with_reducible assumption | with_reducible apply setAct_kept
    | with_reducible refine Kept.of_mk ?_ rfl rfl rfl rfl rfl rfl rfl

theorem clutchRelease_kept {start : State} (s : State) (hk : Kept start s) : Kept start (clutchRelease s) := by
  unfold clutchRelease
  repeat' first
    | with_reducible assumption | with_reducible apply setDrv_kept | refine kept_fst_of_eq (by assumption) ?_
    | refine kept_snd_of_eq (by assumption) ?_ | dsimp only
    | with_reducible refine Kept.of_mk ?_ rfl rfl rfl rfl rfl rfl rfl

theorem clutchEnd_kept {start : State} (s : State) (hk : Kept start s) : Kept start (clutchEnd s) := by
  unfold clutchEnd
  repeat' first
    | with_reducible assumption | with_reducible apply clutchRelease_kept | with_reducible apply setAct_kept
    | dsimp only | with_reducible refine Kept.of_mk ?_ rfl rfl rfl rfl rfl rfl rfl

theorem actSeqEnd_kept {start : State} (s : State) (n : Nat) (hk : Kept start s) : Kept start (actSeqEnd s n) := by
  unfold actSeqEnd
  repeat' first
    | with_reducible assumption | with_reducible apply pumpQuiet_kept | with_reducible apply parkEnd_kept
    | with_reducible apply clutchEnd_kept | with_reducible apply kept_ite | split

theorem actReact_kept {start : State} (s : State) (n eff : Nat) (hk : Kept start s) :
    Kept start (actReact s n eff) := by
  unfold actReact
  repeat' first
    | with_reducible assumption | with_reducible apply actSeqEnd_kept | with_reducible apply actOffNext_kept
    | with_reducible apply actOff_kept | with_reducible apply kept_ite | split | dsimp only

theorem fnReact_kept {start : State} (s : State) (f : Fn) (eff : Nat) (hk : Kept start s) :
    Kept start (fnReact s f eff) := by
  unfold fnReact
  repeat' first
    | with_reducible assumption | with_reducible apply drvReact_kept | with_reducible apply chgReact_kept
    | with_reducible apply cnvReact_kept | with_reducible apply actReact_kept
    | refine kept_fst_of_eq (by assumption) ?_ | refine kept_snd_of_eq (by assumption) ?_ | split | dsimp only
    | with_reducible refine Kept.of_mk ?_ rfl rfl rfl rfl rfl rfl rfl

theorem fnLeaveSafe_kept {start : State} (s : State) (f : Fn) (hk : Kept start s) : Kept start (fnLeaveSafe s f) := by
  unfold fnLeaveSafe
  repeat' first
    | with_reducible assumption | with_reducible apply drvLeaveSafe_kept | refine kept_fst_of_eq (by assumption) ?_
    | refine kept_snd_of_eq (by assumption) ?_ | split | dsimp only
    | with_reducible refine Kept.of_mk ?_ rfl rfl rfl rfl rfl rfl rfl

theorem fnUnstop_kept {start : State} (s : State) (f : Fn) (hk : Kept start s) : Kept start (fnUnstop s f) := by
  unfold fnUnstop
  repeat' first
    | with_reducible assumption | with_reducible apply drvReset_kept | with_reducible apply drvOff_kept
    | with_reducible apply sessionOver_kept | with_reducible apply chgOff_kept | with_reducible apply cnvOff_kept
    | with_reducible apply actOff_kept | with_reducible apply actSeqEnd_kept
    | refine kept_fst_of_eq (by assumption) ?_ | refine kept_snd_of_eq (by assumption) ?_ | split | dsimp only
    | with_reducible refine Kept.of_mk ?_ rfl rfl rfl rfl rfl rfl rfl

theorem settleStopped_kept {start : State} (s : State) (f : Fn) (hk : Kept start s) :
    Kept start (settleStopped s f) := by
  unfold settleStopped
  repeat' first
    | with_reducible assumption | with_reducible apply fnUnstop_kept | with_reducible apply setFn_kept
    | with_reducible apply kept_ite | split

theorem releaseBlocks_kept {start : State} (struck : Bool) (s : State) (bs : List Nat) (hk : Kept start s) :
    Kept start (releaseBlocks struck s bs) := by
  unfold releaseBlocks
  repeat' first
    | with_reducible assumption | with_reducible apply commitPending_kept | with_reducible apply dropPending_kept
    | with_reducible apply thaw_kept | with_reducible apply restartBlock_kept | with_reducible apply rebuild_kept
    | with_reducible apply settleStopped_kept | with_reducible apply leaveShored_kept
    | with_reducible apply kept_ite | (with_reducible apply kept_foldl; rotate_left; intro _ _ _) | split
    | dsimp only | with_reducible refine Kept.of_mk ?_ rfl rfl rfl rfl rfl rfl rfl

theorem abortTk_kept {start : State} (s : State) (code : Nat) (hk : Kept start s) : Kept start (abortTk s code) := by
  unfold abortTk
  repeat' first
    | with_reducible assumption | with_reducible apply freshWord_kept | with_reducible apply releaseBlocks_kept
    | with_reducible apply kept_ite | with_reducible apply kept_ite1 | with_reducible apply kept_ite2 | split
    | dsimp only | with_reducible refine Kept.of_mk ?_ rfl rfl rfl rfl rfl rfl rfl

theorem setKey_kept {start : State} (s : State) (k : Nat) (x : Key) (hk : Kept start s) :
    Kept start (setKey s k x) := by
  unfold setKey
  repeat' first
    | with_reducible assumption | with_reducible refine Kept.of_mk ?_ rfl rfl rfl rfl rfl rfl rfl

theorem startRecord_kept {start : State} (s : State) (hk : Kept start s) : Kept start (startRecord s) := by
  unfold startRecord
  repeat' first
    | with_reducible assumption | with_reducible apply putOb_kept

theorem lockoutAgain_kept {start : State} (s : State) (r : Raise) (hk : Kept start s) :
    Kept start (lockoutAgain s r) := by
  unfold lockoutAgain
  repeat' first
    | with_reducible assumption | with_reducible apply kept_ite | refine kept_fst_of_eq (by assumption) ?_
    | refine kept_snd_of_eq (by assumption) ?_ | split | dsimp only
    | with_reducible refine Kept.of_mk ?_ rfl rfl rfl rfl rfl rfl rfl

theorem lockout_kept {start : State} (s : State) (r : Raise) (hk : Kept start s) : Kept start (lockout s r) := by
  unfold lockout
  repeat' first
    | with_reducible assumption | with_reducible apply lockoutAgain_kept | with_reducible apply startRecord_kept
    | with_reducible apply restoreCfg_kept | with_reducible apply fnReact_kept
    | with_reducible apply abandonOwned_kept | with_reducible apply abortTk_kept | with_reducible apply setDev_kept
    | with_reducible apply setFn_kept | with_reducible apply kept_ite
    | (with_reducible apply kept_foldl; rotate_left; intro _ _ _) | split | dsimp only
    | with_reducible refine Kept.of_mk ?_ rfl rfl rfl rfl rfl rfl rfl

theorem reactFn_kept {start : State} (s : State) (f : Fn) (eff : Nat) (hk : Kept start s) :
    Kept start (reactFn s f eff) := by
  unfold reactFn
  repeat' first
    | with_reducible assumption | with_reducible apply fnReact_kept | with_reducible apply abandonOwned_kept
    | with_reducible apply setFn_kept | with_reducible apply kept_ite | split | dsimp only

theorem reaction_kept {start : State} (s : State) (r : Raise) (hk : Kept start s) : Kept start (reaction s r) := by
  unfold reaction
  repeat' first
    | with_reducible assumption | with_reducible apply benchFault_kept | with_reducible apply lockout_kept
    | with_reducible apply reactFn_kept | with_reducible apply kept_ite | refine kept_fst_of_eq (by assumption) ?_
    | refine kept_snd_of_eq (by assumption) ?_ | split | dsimp only
    | with_reducible refine Kept.of_mk ?_ rfl rfl rfl rfl rfl rfl rfl

theorem raiseAt_kept {start : State} (s : State) (c : Cls) (l scope stamp rank detail det : Nat)
    (hk : Kept start s) : Kept start (raiseAt s c l scope stamp rank detail det) := by
  unfold raiseAt
  repeat' first
    | with_reducible assumption | with_reducible apply setKey_kept | with_reducible apply reaction_kept
    | with_reducible apply kept_ite | refine kept_fst_of_eq (by assumption) ?_
    | refine kept_snd_of_eq (by assumption) ?_ | split | dsimp only
    | with_reducible refine Kept.of_mk ?_ rfl rfl rfl rfl rfl rfl rfl

theorem raise_kept {start : State} (s : State) (c : Cls) (l scope rank detail det : Nat) (hk : Kept start s) :
    Kept start (raise s c l scope rank detail det) := by
  unfold raise
  repeat' first
    | with_reducible assumption | with_reducible apply raiseAt_kept

theorem raiseEv_kept {start : State} (s : State) (c : Cls) (l scope rank detail : Nat) (hk : Kept start s) :
    Kept start (raiseEv s c l scope rank detail) := by
  unfold raiseEv
  repeat' first
    | with_reducible assumption | with_reducible apply raiseAt_kept

theorem raiseAll_kept {start : State} (s : State) (fs : List Fn) (c : Cls) (l rank detail det : Nat)
    (hk : Kept start s) : Kept start (raiseAll s fs c l rank detail det) := by
  unfold raiseAll
  repeat' first
    | with_reducible assumption | with_reducible apply raise_kept
    | (with_reducible apply kept_foldl; rotate_left; intro _ _ _) | dsimp only

theorem raiseAllOr_kept {start : State} (s : State) (fs : List Fn) (c : Cls) (l rank detail det : Nat)
    (hk : Kept start s) : Kept start (raiseAllOr s fs c l rank detail det) := by
  unfold raiseAllOr
  repeat' first
    | with_reducible assumption | with_reducible apply raise_kept | with_reducible apply raiseAll_kept
    | with_reducible apply kept_ite | split

theorem condRaiseAt_kept {start : State} (s : State) (c : Cls) (l scope stamp rank detail det : Nat)
    (hk : Kept start s) : Kept start (condRaiseAt s c l scope stamp rank detail det) := by
  unfold condRaiseAt
  repeat' first
    | with_reducible assumption | with_reducible apply raiseAt_kept | with_reducible apply kept_ite | split

theorem condRaise_kept {start : State} (s : State) (c : Cls) (l scope rank detail det : Nat) (hk : Kept start s) :
    Kept start (condRaise s c l scope rank detail det) := by
  unfold condRaise
  repeat' first
    | with_reducible assumption | with_reducible apply condRaiseAt_kept

theorem condAll_kept {start : State} (s : State) (fs : List Fn) (c : Cls) (l rank detail det : Nat)
    (hk : Kept start s) : Kept start (condAll s fs c l rank detail det) := by
  unfold condAll
  repeat' first
    | with_reducible assumption | with_reducible apply condRaise_kept
    | (with_reducible apply kept_foldl; rotate_left; intro _ _ _) | dsimp only

theorem condAllOr_kept {start : State} (s : State) (fs : List Fn) (c : Cls) (l rank detail det : Nat)
    (hk : Kept start s) : Kept start (condAllOr s fs c l rank detail det) := by
  unfold condAllOr
  repeat' first
    | with_reducible assumption | with_reducible apply condRaise_kept | with_reducible apply condAll_kept
    | with_reducible apply kept_ite | split

theorem refreshErr_kept {start : State} (s : State) (hk : Kept start s) : Kept start (refreshErr s) := by
  unfold refreshErr
  repeat' first
    | with_reducible assumption | with_reducible refine Kept.of_mk ?_ rfl rfl rfl rfl rfl rfl rfl

theorem publishKey_kept {start : State} (s : State) (k : Nat) (hk : Kept start s) : Kept start (publishKey s k) := by
  unfold publishKey
  repeat' first
    | with_reducible assumption | with_reducible apply kept_ite | split | dsimp only
    | with_reducible refine Kept.of_mk ?_ rfl rfl rfl rfl rfl rfl rfl

theorem commitRaise_kept {start : State} (s : State) (r : Raise) (hk : Kept start s) :
    Kept start (commitRaise s r) := by
  unfold commitRaise
  repeat' first
    | with_reducible assumption | with_reducible apply irq_kept | with_reducible apply refreshErr_kept
    | with_reducible apply kept_ite | split | dsimp only
    | with_reducible refine Kept.of_mk ?_ rfl rfl rfl rfl rfl rfl rfl

theorem settleFn_kept {start : State} (s : State) (f : Fn) (hk : Kept start s) : Kept start (settleFn s f) := by
  unfold settleFn
  repeat' first
    | with_reducible assumption | with_reducible apply settleStopped_kept | with_reducible apply fnLeaveSafe_kept
    | with_reducible apply setFn_kept | with_reducible apply kept_ite | refine kept_fst_of_eq (by assumption) ?_
    | refine kept_snd_of_eq (by assumption) ?_ | split | dsimp only
    | with_reducible refine Kept.of_mk ?_ rfl rfl rfl rfl rfl rfl rfl

theorem retire_kept {start : State} (s : State) (k : Nat) (hk : Kept start s) : Kept start (retire s k) := by
  unfold retire
  repeat' first
    | with_reducible assumption | with_reducible apply refreshErr_kept | with_reducible apply publishKey_kept
    | with_reducible apply setKey_kept | with_reducible apply settleFn_kept | with_reducible apply kept_ite
    | refine kept_fst_of_eq (by assumption) ?_ | refine kept_snd_of_eq (by assumption) ?_ | split | dsimp only
    | with_reducible refine Kept.of_mk ?_ rfl rfl rfl rfl rfl rfl rfl

theorem clearCause_kept {start : State} (s : State) (c : Cls) (scope det : Nat) (hk : Kept start s) :
    Kept start (clearCause s c scope det) := by
  unfold clearCause
  repeat' first
    | with_reducible assumption | with_reducible apply retire_kept | with_reducible apply setKey_kept
    | with_reducible apply kept_ite | split | dsimp only
    | with_reducible refine Kept.of_mk ?_ rfl rfl rfl rfl rfl rfl rfl

theorem clearDet_kept {start : State} (s : State) (det : Nat) (hk : Kept start s) : Kept start (clearDet s det) := by
  unfold clearDet
  repeat' first
    | with_reducible assumption | with_reducible apply retire_kept | with_reducible apply setKey_kept
    | with_reducible apply kept_ite | with_reducible apply kept_ite1
    | (with_reducible apply kept_foldl; rotate_left; intro _ _ _) | split | dsimp only
    | with_reducible refine Kept.of_mk ?_ rfl rfl rfl rfl rfl rfl rfl

theorem clearBlock_kept {start : State} (s : State) (b : Nat) (hk : Kept start s) : Kept start (clearBlock s b) := by
  unfold clearBlock
  repeat' first
    | with_reducible assumption | with_reducible apply clearDet_kept | with_reducible apply kept_ite
    | (with_reducible apply kept_foldl; rotate_left; intro _ _ _) | split | dsimp only

theorem clearAll_kept {start : State} (s : State) (c : Cls) (det : Nat) (hk : Kept start s) :
    Kept start (clearAll s c det) := by
  unfold clearAll
  repeat' first
    | with_reducible assumption | with_reducible apply clearCause_kept
    | (with_reducible apply kept_foldl; rotate_left; intro _ _ _) | dsimp only

theorem ackKeys_kept {start : State} (s : State) (v stamp : Nat) (hk : Kept start s) :
    Kept start (ackKeys s v stamp) := by
  unfold ackKeys
  repeat' first
    | with_reducible assumption | with_reducible apply retire_kept | with_reducible apply setKey_kept
    | with_reducible apply kept_ite | with_reducible apply kept_ite1
    | (with_reducible apply kept_foldl; rotate_left; intro _ _ _) | split | dsimp only
    | with_reducible refine Kept.of_mk ?_ rfl rfl rfl rfl rfl rfl rfl

theorem setWin_kept {start : State} (s : State) (w : Nat) (x : Window) (hk : Kept start s) :
    Kept start (setWin s w x) := by
  unfold setWin
  repeat' first
    | with_reducible assumption | with_reducible refine Kept.of_mk ?_ rfl rfl rfl rfl rfl rfl rfl

theorem winTrip_kept {start : State} (s : State) (w : Nat) (isH : Bool) (hk : Kept start s) :
    Kept start (winTrip s w isH) := by
  unfold winTrip
  repeat' first
    | with_reducible assumption | with_reducible apply setLane_kept | with_reducible apply kept_ite
    | (with_reducible apply kept_foldl; rotate_left; intro _ _ _) | split | dsimp only
    | with_reducible refine Kept.of_mk ?_ rfl rfl rfl rfl rfl rfl rfl

theorem winSelect_kept {start : State} (s : State) (w stamp : Nat) (hk : Kept start s) :
    Kept start (winSelect s w stamp) := by
  unfold winSelect
  repeat' first
    | with_reducible assumption | with_reducible apply raiseAt_kept | with_reducible apply speedRule_kept
    | with_reducible apply kept_ite | (with_reducible apply kept_foldl; rotate_left; intro _ _ _) | split
    | dsimp only | with_reducible refine Kept.of_mk ?_ rfl rfl rfl rfl rfl rfl rfl

theorem benchWindow_kept {start : State} (s : State) (w : Nat) (hk : Kept start s) :
    Kept start (benchWindow s w) := by
  unfold benchWindow
  repeat' first
    | with_reducible assumption | with_reducible apply kept_ite | split
    | with_reducible refine Kept.of_mk ?_ rfl rfl rfl rfl rfl rfl rfl

theorem batteryLost_kept {start : State} (s : State) (stamp : Nat) (hk : Kept start s) :
    Kept start (batteryLost s stamp) := by
  unfold batteryLost
  repeat' first
    | with_reducible assumption | with_reducible apply noteReason_kept | with_reducible apply putOb_kept
    | with_reducible apply setChg_kept | with_reducible apply dabPut_kept | with_reducible apply condRaiseAt_kept
    | with_reducible apply legsEnd_kept | with_reducible apply pfcAll_kept | with_reducible apply kept_ite
    | with_reducible apply kept_ite1 | with_reducible apply kept_ite2 | split | dsimp only
    | with_reducible refine Kept.of_mk ?_ rfl rfl rfl rfl rfl rfl rfl

theorem converterTrip_kept {start : State} (s : State) (stamp : Nat) (hk : Kept start s) :
    Kept start (converterTrip s stamp) := by
  unfold converterTrip
  repeat' first
    | with_reducible assumption | with_reducible apply condRaiseAt_kept | with_reducible apply setLive_kept
    | with_reducible apply cnvOff_kept | dsimp only

theorem winCapture_kept {start : State} (s : State) (w t : Nat) (was : Bool) (hk : Kept start s) :
    Kept start (winCapture s w t was) := by
  unfold winCapture
  repeat' first
    | with_reducible assumption | with_reducible apply capCode_kept | with_reducible apply kept_ite | split
    | dsimp only

theorem winUntrip_kept {start : State} (s : State) (w t : Nat) (hk : Kept start s) :
    Kept start (winUntrip s w t) := by
  unfold winUntrip
  repeat' first
    | with_reducible assumption | with_reducible apply setLane_kept | with_reducible apply kept_ite
    | (with_reducible apply kept_foldl; rotate_left; intro _ _ _) | split | dsimp only
    | with_reducible refine Kept.of_mk ?_ rfl rfl rfl rfl rfl rfl rfl

theorem winAssert_kept {start : State} (s : State) (w : Nat) (isH : Bool) (t : Nat) (hk : Kept start s) :
    Kept start (winAssert s w isH t) := by
  unfold winAssert
  repeat' first
    | with_reducible assumption | with_reducible apply winCapture_kept | with_reducible apply setWin_kept
    | with_reducible apply putOb_kept | with_reducible apply incOb_kept | with_reducible apply benchWindow_kept
    | with_reducible apply winTrip_kept | with_reducible apply winSelect_kept
    | with_reducible apply batteryLost_kept | with_reducible apply converterTrip_kept
    | with_reducible apply raiseAt_kept | with_reducible apply kept_ite | with_reducible apply kept_ite1
    | with_reducible apply kept_ite2 | split | dsimp only
    | with_reducible refine Kept.of_mk ?_ rfl rfl rfl rfl rfl rfl rfl

theorem winRelease_kept {start : State} (s : State) (w : Nat) (isH : Bool) (t : Nat) (hk : Kept start s) :
    Kept start (winRelease s w isH t) := by
  unfold winRelease
  repeat' first
    | with_reducible assumption | with_reducible apply winUntrip_kept | with_reducible apply winCapture_kept
    | with_reducible apply setWin_kept | with_reducible apply clearDet_kept | with_reducible apply kept_ite | split
    | dsimp only | with_reducible refine Kept.of_mk ?_ rfl rfl rfl rfl rfl rfl rfl

theorem winRaw_kept {start : State} (s : State) (w : Nat) (isH raw blank : Bool) (t : Nat) (hk : Kept start s) :
    Kept start (winRaw s w isH raw blank t) := by
  unfold winRaw
  repeat' first
    | with_reducible assumption | with_reducible apply setWin_kept | with_reducible apply winAssert_kept
    | with_reducible apply winRelease_kept | with_reducible apply kept_ite | split | dsimp only
    | with_reducible refine Kept.of_mk ?_ rfl rfl rfl rfl rfl rfl rfl

theorem winClearOut_kept {start : State} (s : State) (w : Nat) (isH : Bool) (t : Nat) (hk : Kept start s) :
    Kept start (winClearOut s w isH t) := by
  unfold winClearOut
  repeat' first
    | with_reducible assumption | with_reducible apply winAssert_kept | with_reducible apply setWin_kept
    | with_reducible apply winRelease_kept | with_reducible apply kept_ite | split | dsimp only
    | with_reducible refine Kept.of_mk ?_ rfl rfl rfl rfl rfl rfl rfl

theorem winUnblank_kept {start : State} (s : State) (w t : Nat) (hk : Kept start s) :
    Kept start (winUnblank s w t) := by
  unfold winUnblank
  repeat' first
    | with_reducible assumption | with_reducible apply winAssert_kept | with_reducible apply kept_ite | split
    | dsimp only

theorem putBlank_kept {start : State} (s : State) (w : Nat) (e : BlankEv) (hk : Kept start s) :
    Kept start (putBlank s w e) := by
  unfold putBlank
  repeat' first
    | with_reducible assumption | with_reducible apply setWin_kept
    | with_reducible refine Kept.of_mk ?_ rfl rfl rfl rfl rfl rfl rfl

theorem winMark_kept {start : State} (s : State) (w : Nat) (openIt : Bool) (t : Nat) (hk : Kept start s) :
    Kept start (winMark s w openIt t) := by
  unfold winMark
  repeat' first
    | with_reducible assumption | with_reducible apply putBlank_kept | with_reducible apply kept_ite | split
    | with_reducible refine Kept.of_mk ?_ rfl rfl rfl rfl rfl rfl rfl

theorem winLaneEdge_kept {start : State} (s : State) (w : Nat) (hk : Kept start s) :
    Kept start (winLaneEdge s w) := by
  unfold winLaneEdge
  repeat' first
    | with_reducible assumption | with_reducible apply putBlank_kept | with_reducible apply kept_ite
    | with_reducible apply kept_ite1 | with_reducible apply kept_ite2
    | (with_reducible apply kept_foldl; rotate_left; intro _ _ _) | split | dsimp only
    | with_reducible refine Kept.of_mk ?_ rfl rfl rfl rfl rfl rfl rfl

theorem winLaneEnd_kept {start : State} (s : State) (w t : Nat) (hk : Kept start s) :
    Kept start (winLaneEnd s w t) := by
  unfold winLaneEnd
  repeat' first
    | with_reducible assumption | with_reducible apply winUnblank_kept | with_reducible apply setWin_kept
    | with_reducible apply kept_ite | with_reducible apply kept_ite1 | with_reducible apply kept_ite2
    | refine kept_fst_of_eq (by assumption) ?_ | refine kept_snd_of_eq (by assumption) ?_ | split | dsimp only
    | with_reducible refine Kept.of_mk ?_ rfl rfl rfl rfl rfl rfl rfl

theorem winMaxEnd_kept {start : State} (s : State) (w t : Nat) (hk : Kept start s) :
    Kept start (winMaxEnd s w t) := by
  unfold winMaxEnd
  repeat' first
    | with_reducible assumption | with_reducible apply winUnblank_kept | with_reducible apply incOb_kept
    | with_reducible apply setWin_kept | with_reducible apply kept_ite | with_reducible apply kept_ite1
    | with_reducible apply kept_ite2 | refine kept_fst_of_eq (by assumption) ?_
    | refine kept_snd_of_eq (by assumption) ?_ | split | dsimp only
    | with_reducible refine Kept.of_mk ?_ rfl rfl rfl rfl rfl rfl rfl

theorem winEvent_kept {start : State} (w : Nat) (s' : State) (e : BlankEv) (hk : Kept start s') :
    Kept start (winEvent w s' e) := by
  unfold winEvent
  repeat' first
    | with_reducible assumption | with_reducible apply winMaxEnd_kept | with_reducible apply winLaneEnd_kept
    | with_reducible apply setWin_kept | with_reducible apply winUnblank_kept | with_reducible apply kept_ite
    | split | dsimp only | with_reducible refine Kept.of_mk ?_ rfl rfl rfl rfl rfl rfl rfl

theorem winFilter_kept {start : State} (s : State) (w : Nat) (isH : Bool) (t : Nat) (hk : Kept start s) :
    Kept start (winFilter s w isH t) := by
  unfold winFilter
  repeat' first
    | with_reducible assumption | with_reducible apply winRaw_kept | with_reducible apply setWin_kept
    | with_reducible apply kept_ite | with_reducible apply kept_ite1 | with_reducible apply kept_ite2
    | refine kept_fst_of_eq (by assumption) ?_ | refine kept_snd_of_eq (by assumption) ?_ | split | dsimp only
    | with_reducible refine Kept.of_mk ?_ rfl rfl rfl rfl rfl rfl rfl

theorem winAdvance_kept {start : State} (s : State) (w t : Nat) (hk : Kept start s) :
    Kept start (winAdvance s w t) := by
  unfold winAdvance
  repeat' first
    | with_reducible assumption | with_reducible apply winEvent_kept | with_reducible apply winFilter_kept
    | with_reducible apply winMaxEnd_kept | with_reducible apply winLaneEnd_kept
    | (with_reducible apply kept_foldl; rotate_left; intro _ _ _) | dsimp only

theorem winSide_kept {start : State} (s' : State) (w : Nat) (isH cmp : Bool) (t : Nat) (hk : Kept start s') :
    Kept start (winSide s' w isH cmp t) := by
  unfold winSide
  repeat' first
    | with_reducible assumption | with_reducible apply winAdvance_kept | with_reducible apply winFilter_kept
    | with_reducible apply setWin_kept | with_reducible apply kept_ite | with_reducible apply kept_ite1
    | with_reducible apply kept_ite2 | split | dsimp only
    | with_reducible refine Kept.of_mk ?_ rfl rfl rfl rfl rfl rfl rfl

theorem winSample_kept {start : State} (s : State) (w : Nat) (v : Int) (t : Nat) (hk : Kept start s) :
    Kept start (winSample s w v t) := by
  unfold winSample
  repeat' first
    | with_reducible assumption | with_reducible apply winSide_kept | dsimp only

theorem winCheckFail_kept {start : State} (s : State) (w : Nat) (hk : Kept start s) :
    Kept start (winCheckFail s w) := by
  unfold winCheckFail
  repeat' first
    | with_reducible assumption | with_reducible apply incOb_kept | with_reducible apply setWin_kept
    | with_reducible apply condRaise_kept | dsimp only
    | with_reducible refine Kept.of_mk ?_ rfl rfl rfl rfl rfl rfl rfl

theorem reliefFreed_kept {start : State} (s : State) (w : Nat) (hk : Kept start s) :
    Kept start (reliefFreed s w) := by
  unfold reliefFreed
  repeat' first
    | with_reducible assumption | with_reducible apply setWin_kept | refine kept_fst_of_eq (by assumption) ?_
    | refine kept_snd_of_eq (by assumption) ?_ | split | dsimp only
    | with_reducible refine Kept.of_mk ?_ rfl rfl rfl rfl rfl rfl rfl

theorem setStat_kept {start : State} (s : State) (u : Nat) (x : Stat) (hk : Kept start s) :
    Kept start (setStat s u x) := by
  unfold setStat
  repeat' first
    | with_reducible assumption | with_reducible refine Kept.of_mk ?_ rfl rfl rfl rfl rfl rfl rfl

theorem statLatch_kept {start : State} (s : State) (u at_ : Nat) (timeout : Bool) (hk : Kept start s) :
    Kept start (statLatch s u at_ timeout) := by
  unfold statLatch
  repeat' first
    | with_reducible assumption | with_reducible apply incOb_kept | with_reducible apply putOb_kept
    | with_reducible apply setStat_kept | with_reducible apply kept_ite | split | dsimp only
    | with_reducible refine Kept.of_mk ?_ rfl rfl rfl rfl rfl rfl rfl

theorem statDue_kept {start : State} (s : State) (u : Nat) (hk : Kept start s) : Kept start (statDue s u) := by
  unfold statDue
  repeat' first
    | with_reducible assumption | with_reducible apply statLatch_kept | with_reducible apply setStat_kept
    | with_reducible apply kept_ite | refine kept_fst_of_eq (by assumption) ?_
    | refine kept_snd_of_eq (by assumption) ?_ | split | dsimp only
    | with_reducible refine Kept.of_mk ?_ rfl rfl rfl rfl rfl rfl rfl

theorem statWord_kept {start : State} (s : State) (u : Nat) (v : Rat) (side : Nat) (hk : Kept start s) :
    Kept start (statWord s u v side) := by
  unfold statWord
  repeat' first
    | with_reducible assumption | with_reducible apply statDue_kept | with_reducible apply setStat_kept
    | with_reducible apply kept_ite | split | dsimp only

theorem snoop_kept {start : State} (s : State) (a v side : Nat) (hk : Kept start s) :
    Kept start (snoop s a v side) := by
  unfold snoop
  repeat' first
    | with_reducible assumption | with_reducible apply statWord_kept | with_reducible apply kept_ite
    | (with_reducible apply kept_foldl; rotate_left; intro _ _ _) | split | dsimp only

theorem ridgeOut_kept {start : State} (s : State) (idx sub v side : Nat) (hk : Kept start s) :
    Kept start (ridgeOut s idx sub v side) := by
  unfold ridgeOut
  repeat' first
    | with_reducible assumption | with_reducible apply snoop_kept | with_reducible apply putRidge_kept

theorem ridgeMiss_kept {start : State} (s : State) (idx sub : Nat) (hk : Kept start s) :
    Kept start (ridgeMiss s idx sub) := by
  unfold ridgeMiss
  repeat' first
    | with_reducible assumption | with_reducible apply ridgeOut_kept

theorem dumpWord_kept {start : State} (s : State) (ch : Nat) (hk : Kept start s) : Kept start (dumpWord s ch) := by
  unfold dumpWord
  repeat' first
    | with_reducible assumption | with_reducible apply kept_ite | split
    | with_reducible refine Kept.of_mk ?_ rfl rfl rfl rfl rfl rfl rfl

theorem pilotWord_kept {start : State} (s : State) (ch : Nat) (hk : Kept start s) : Kept start (pilotWord s ch) := by
  unfold pilotWord
  repeat' first
    | with_reducible assumption | with_reducible apply kept_ite | with_reducible apply kept_ite1
    | with_reducible apply kept_ite2 | split | with_reducible refine Kept.of_mk ?_ rfl rfl rfl rfl rfl rfl rfl

theorem writeChan_kept {start : State} (s : State) (ch : Nat) (code : Int) (sat inv : Bool) (lim : Nat × Nat)
    (hk : Kept start s) : Kept start (writeChan s ch code sat inv lim) := by
  unfold writeChan
  repeat' first
    | with_reducible assumption | with_reducible apply pilotWord_kept | with_reducible apply dumpWord_kept
    | with_reducible apply ridgeOut_kept | refine kept_fst_of_eq (by assumption) ?_
    | refine kept_snd_of_eq (by assumption) ?_ | split | dsimp only
    | with_reducible refine Kept.of_mk ?_ rfl rfl rfl rfl rfl rfl rfl

theorem missChan_kept {start : State} (s : State) (ch : Nat) (hk : Kept start s) : Kept start (missChan s ch) := by
  unfold missChan
  repeat' first
    | with_reducible assumption | with_reducible apply ridgeMiss_kept | with_reducible apply kept_ite
    | refine kept_fst_of_eq (by assumption) ?_ | refine kept_snd_of_eq (by assumption) ?_ | split | dsimp only
    | with_reducible refine Kept.of_mk ?_ rfl rfl rfl rfl rfl rfl rfl

theorem setSeq_kept {start : State} (s : State) (q : Nat) (x : SeqInst) (hk : Kept start s) :
    Kept start (setSeq s q x) := by
  unfold setSeq
  repeat' first
    | with_reducible assumption | with_reducible refine Kept.of_mk ?_ rfl rfl rfl rfl rfl rfl rfl

theorem startSeq_kept {start : State} (s : State) (q due hold : Nat) (hk : Kept start s) :
    Kept start (startSeq s q due hold) := by
  unfold startSeq
  repeat' first
    | with_reducible assumption | with_reducible apply setSeq_kept | with_reducible apply putOb_kept
    | with_reducible apply kept_ite | split | dsimp only
    | with_reducible refine Kept.of_mk ?_ rfl rfl rfl rfl rfl rfl rfl

theorem setCal_kept {start : State} (s : State) (ch : Nat) (x : CalCap) (hk : Kept start s) :
    Kept start (setCal s ch x) := by
  unfold setCal
  repeat' first
    | with_reducible assumption | with_reducible apply kept_ite | split
    | with_reducible refine Kept.of_mk ?_ rfl rfl rfl rfl rfl rfl rfl

theorem putCalState_kept {start : State} (s : State) (ch st : Nat) (hk : Kept start s) :
    Kept start (putCalState s ch st) := by
  unfold putCalState
  repeat' first
    | with_reducible assumption | with_reducible apply putOb_kept | with_reducible apply kept_ite | split

theorem calSample_kept {start : State} (s : State) (ch : Nat) (code : Int) (bad : Bool) (hk : Kept start s) :
    Kept start (calSample s ch code bad) := by
  unfold calSample
  repeat' first
    | with_reducible assumption | with_reducible apply putCalState_kept | with_reducible apply setCal_kept
    | with_reducible apply kept_ite | split | dsimp only
    | with_reducible refine Kept.of_mk ?_ rfl rfl rfl rfl rfl rfl rfl

theorem outConv_kept {start : State} (s : State) (job num : Nat) (cs : List Nat) (n : Nat) (hk : Kept start s) :
    Kept start (outConv s job num cs n).1 := by
  unfold outConv
  repeat' first
    | with_reducible assumption | with_reducible apply kept_ite | with_reducible apply kept_ite1
    | with_reducible apply kept_ite2 | (with_reducible apply kept_foldl; rotate_left; intro _ _ _) | split
    | dsimp only | with_reducible refine Kept.of_mk ?_ rfl rfl rfl rfl rfl rfl rfl

theorem abortOut_kept {start : State} (s : State) (cs : List Nat) (time : Nat) (hk : Kept start s) :
    Kept start (abortOut s cs time) := by
  unfold abortOut
  repeat' first
    | with_reducible assumption | with_reducible apply incOb_kept
    | (with_reducible apply kept_foldl; rotate_left; intro _ _ _) | refine kept_fst_of_eq (by assumption) ?_
    | refine kept_snd_of_eq (by assumption) ?_ | split | dsimp only
    | with_reducible refine Kept.of_mk ?_ rfl rfl rfl rfl rfl rfl rfl

theorem speedTrack_kept {start : State} (s : State) (x : Drv) (hk : Kept start s) : Kept start (speedTrack s x) := by
  unfold speedTrack
  repeat' first
    | with_reducible assumption | with_reducible apply lockout_kept | with_reducible apply setSel_kept
    | with_reducible apply freewheel_kept | with_reducible apply kept_ite | split | dsimp only
    | with_reducible refine Kept.of_mk ?_ rfl rfl rfl rfl rfl rfl rfl

theorem setLink_kept {start : State} (s : State) (f : Link → Link) (hk : Kept start s) :
    Kept start (setLink s f) := by
  unfold setLink
  repeat' first
    | with_reducible assumption | with_reducible refine Kept.of_mk ?_ rfl rfl rfl rfl rfl rfl rfl

theorem dumpEdge_kept {start : State} (s : State) (hk : Kept start s) : Kept start (dumpEdge s) := by
  unfold dumpEdge
  repeat' first
    | with_reducible assumption | with_reducible apply setLink_kept | with_reducible apply kept_ite
    | with_reducible apply kept_ite1 | with_reducible apply kept_ite2 | split | dsimp only
    | with_reducible refine Kept.of_mk ?_ rfl rfl rfl rfl rfl rfl rfl

theorem dumpStart_kept {start : State} (s : State) (hk : Kept start s) : Kept start (dumpStart s) := by
  unfold dumpStart
  repeat' first
    | with_reducible assumption | with_reducible apply incOb_kept | with_reducible apply setLink_kept
    | with_reducible apply dumpEdge_kept | with_reducible apply kept_ite | with_reducible apply kept_ite1
    | with_reducible apply kept_ite2 | split | dsimp only
    | with_reducible refine Kept.of_mk ?_ rfl rfl rfl rfl rfl rfl rfl

theorem plumbStart_kept {start : State} (s : State) (hk : Kept start s) : Kept start (plumbStart s) := by
  unfold plumbStart
  repeat' first
    | with_reducible assumption | with_reducible apply setLink_kept | with_reducible apply dumpEdge_kept
    | dsimp only | with_reducible refine Kept.of_mk ?_ rfl rfl rfl rfl rfl rfl rfl

theorem ov2React_kept {start : State} (s : State) (hk : Kept start s) : Kept start (ov2React s) := by
  unfold ov2React
  repeat' first
    | with_reducible assumption | with_reducible apply incOb_kept | with_reducible apply setLink_kept
    | with_reducible apply speedRule_kept | with_reducible apply raiseEv_kept | with_reducible apply raiseAll_kept
    | with_reducible apply kept_ite | with_reducible apply kept_ite1 | with_reducible apply kept_ite2 | split
    | dsimp only | with_reducible refine Kept.of_mk ?_ rfl rfl rfl rfl rfl rfl rfl

theorem setBrc_kept {start : State} (s : State) (i : Nat) (x : Brace) (hk : Kept start s) :
    Kept start (setBrc s i x) := by
  unfold setBrc
  repeat' first
    | with_reducible assumption | with_reducible refine Kept.of_mk ?_ rfl rfl rfl rfl rfl rfl rfl

theorem coefCheck_kept {start : State} (s : State) (i : Nat) (hk : Kept start s) : Kept start (coefCheck s i) := by
  unfold coefCheck
  repeat' first
    | with_reducible assumption | with_reducible apply setBrc_kept | with_reducible apply condRaise_kept
    | with_reducible apply clearDet_kept | with_reducible apply kept_ite | split | dsimp only
    | with_reducible refine Kept.of_mk ?_ rfl rfl rfl rfl rfl rfl rfl

theorem injStep_kept {start : State} (s : State) (trig : Nat) (hk : Kept start s) : Kept start (injStep s trig) := by
  unfold injStep
  repeat' first
    | with_reducible assumption | with_reducible apply putOb_kept | with_reducible apply kept_ite | split
    | dsimp only | with_reducible refine Kept.of_mk ?_ rfl rfl rfl rfl rfl rfl rfl

theorem braceOutput_kept {start : State} (s : State) (i : Nat) (u : Int) (side : Nat) (hk : Kept start s) :
    Kept start (braceOutput s i u side) := by
  unfold braceOutput
  repeat' first
    | with_reducible assumption | with_reducible apply ridgeOut_kept | with_reducible apply putRidge_kept
    | with_reducible apply kept_ite | with_reducible apply kept_ite1 | with_reducible apply kept_ite2 | split
    | dsimp only

theorem braceEval_kept {start : State} (s0 : State) (trig i : Nat) (hk : Kept start s0) :
    Kept start (braceEval s0 trig i) := by
  unfold braceEval
  repeat' first
    | with_reducible assumption | with_reducible apply injStep_kept | with_reducible apply braceOutput_kept
    | with_reducible apply setBrc_kept | with_reducible apply incOb_kept | with_reducible apply kept_ite
    | with_reducible apply kept_ite1 | with_reducible apply kept_ite2 | refine kept_fst_of_eq (by assumption) ?_
    | refine kept_snd_of_eq (by assumption) ?_ | split | dsimp only
    | with_reducible refine Kept.of_mk ?_ rfl rfl rfl rfl rfl rfl rfl

theorem xfPut_kept {start : State} (s : State) (t : Nat) (vs : List Rat) (side : Nat) (hk : Kept start s) :
    Kept start (xfPut s t vs side) := by
  unfold xfPut
  repeat' first
    | with_reducible assumption | with_reducible apply ridgeOut_kept
    | (with_reducible apply kept_foldl; rotate_left; intro _ _ _) | dsimp only

theorem xfEval_kept {start : State} (s : State) (t : Nat) (hk : Kept start s) : Kept start (xfEval s t) := by
  unfold xfEval
  repeat' first
    | with_reducible assumption | with_reducible apply xfPut_kept | with_reducible apply kept_ite
    | with_reducible apply kept_ite1 | with_reducible apply kept_ite2 | refine kept_fst_of_eq (by assumption) ?_
    | refine kept_snd_of_eq (by assumption) ?_ | split | dsimp only
    | with_reducible refine Kept.of_mk ?_ rfl rfl rfl rfl rfl rfl rfl

theorem recip_kept {start : State} (s : State) (x : Rat) (hk : Kept start s) : Kept start (recip s x).2 := by
  unfold recip
  repeat' first
    | with_reducible assumption | with_reducible apply freshWord_kept | with_reducible apply kept_ite
    | with_reducible apply kept_ite1 | with_reducible apply kept_ite2 | split | dsimp only

theorem putEdges_kept {start : State} (s : State) (t k : Nat) (p : Nat × Nat) (side : Nat) (hk : Kept start s) :
    Kept start (putEdges s t k p side) := by
  unfold putEdges
  repeat' first
    | with_reducible assumption | with_reducible apply ridgeOut_kept | dsimp only

theorem putLegs_kept {start : State} (s : State) (t updates : Nat) (nextHigh : Bool) (ds : List (Rat × Nat))
    (hk : Kept start s) : Kept start (putLegs s t updates nextHigh ds) := by
  unfold putLegs
  repeat' first
    | with_reducible assumption | with_reducible apply putEdges_kept
    | (with_reducible apply kept_foldl; rotate_left; intro _ _ _) | dsimp only

theorem modDrive_kept {start : State} (s0 : State) (t : Nat) (x : Drv) (hk : Kept start s0) :
    Kept start (modDrive s0 t x) := by
  unfold modDrive
  repeat' first
    | with_reducible assumption | with_reducible apply recip_kept | with_reducible apply putLegs_kept
    | with_reducible apply ridgeOut_kept | with_reducible apply kept_ite | with_reducible apply kept_ite1
    | with_reducible apply kept_ite2 | (with_reducible apply kept_foldl; rotate_left; intro _ _ _)
    | refine kept_fst_of_eq (by assumption) ?_ | refine kept_snd_of_eq (by assumption) ?_ | split | dsimp only
    | with_reducible refine Kept.of_mk ?_ rfl rfl rfl rfl rfl rfl rfl

theorem modDirect_kept {start : State} (s : State) (t : Nat) (hk : Kept start s) : Kept start (modDirect s t) := by
  unfold modDirect
  repeat' first
    | with_reducible assumption | with_reducible apply putLegs_kept | with_reducible apply ridgeOut_kept
    | with_reducible apply kept_ite | with_reducible apply kept_ite1 | with_reducible apply kept_ite2
    | refine kept_fst_of_eq (by assumption) ?_ | refine kept_snd_of_eq (by assumption) ?_ | split | dsimp only
    | with_reducible refine Kept.of_mk ?_ rfl rfl rfl rfl rfl rfl rfl

theorem modEval_kept {start : State} (s : State) (t : Nat) (hk : Kept start s) : Kept start (modEval s t) := by
  unfold modEval
  repeat' first
    | with_reducible assumption | with_reducible apply modDirect_kept | with_reducible apply modDrive_kept
    | with_reducible apply kept_ite | refine kept_fst_of_eq (by assumption) ?_
    | refine kept_snd_of_eq (by assumption) ?_ | split | dsimp only
    | with_reducible refine Kept.of_mk ?_ rfl rfl rfl rfl rfl rfl rfl

theorem memberEval_kept {start : State} (trig : Nat) (s : State) (c : Nat) (hk : Kept start s) :
    Kept start (memberEval trig s c) := by
  unfold memberEval
  repeat' first
    | with_reducible assumption | with_reducible apply braceEval_kept | with_reducible apply xfEval_kept
    | with_reducible apply modEval_kept | with_reducible apply kept_ite | split

theorem memberMiss_kept {start : State} (s : State) (c : Nat) (hk : Kept start s) : Kept start (memberMiss s c) := by
  unfold memberMiss
  repeat' first
    | with_reducible assumption | with_reducible apply setBrc_kept | with_reducible apply ridgeMiss_kept
    | with_reducible apply kept_ite | (with_reducible apply kept_foldl; rotate_left; intro _ _ _) | split
    | dsimp only | with_reducible refine Kept.of_mk ?_ rfl rfl rfl rfl rfl rfl rfl

theorem dabEdge_kept {start : State} (s : State) (side k : Nat) (p : Nat × Nat) (hk : Kept start s) :
    Kept start (dabEdge s side k p) := by
  unfold dabEdge
  repeat' first
    | with_reducible assumption | with_reducible apply putRidge_kept | dsimp only

theorem dabEdgeStage_kept {start : State} (s : State) (atHigh : Bool) (hk : Kept start s) :
    Kept start (dabEdgeStage s atHigh) := by
  unfold dabEdgeStage
  repeat' first
    | with_reducible assumption | with_reducible apply dabEdge_kept | with_reducible apply putOb_kept
    | with_reducible apply kept_ite | split | dsimp only

theorem dutyStage_kept {start : State} (s : State) (hk : Kept start s) : Kept start (dutyStage s) := by
  unfold dutyStage
  repeat' first
    | with_reducible assumption | with_reducible apply setChg_kept | with_reducible apply freshWord_kept
    | with_reducible apply kept_ite | with_reducible apply kept_ite1 | with_reducible apply kept_ite2
    | (with_reducible apply kept_foldl; rotate_left; intro _ _ _) | refine kept_fst_of_eq (by assumption) ?_
    | refine kept_snd_of_eq (by assumption) ?_ | split | dsimp only
    | with_reducible refine Kept.of_mk ?_ rfl rfl rfl rfl rfl rfl rfl

theorem clampStage_kept {start : State} (s : State) (hk : Kept start s) : Kept start (clampStage s) := by
  unfold clampStage
  repeat' first
    | with_reducible assumption | with_reducible apply setCnv_kept | with_reducible apply ridgeOut_kept
    | with_reducible apply kept_ite | split | dsimp only
    | with_reducible refine Kept.of_mk ?_ rfl rfl rfl rfl rfl rfl rfl

theorem cnvDutyStage_kept {start : State} (s : State) (hk : Kept start s) : Kept start (cnvDutyStage s) := by
  unfold cnvDutyStage
  repeat' first
    | with_reducible assumption | with_reducible apply ridgeOut_kept | dsimp only

theorem livePos_kept {start : State} (s : State) (hk : Kept start s) : Kept start (livePos s) := by
  unfold livePos
  repeat' first
    | with_reducible assumption | with_reducible apply kept_ite | split | dsimp only
    | with_reducible refine Kept.of_mk ?_ rfl rfl rfl rfl rfl rfl rfl

theorem rodHold_kept {start : State} (s : State) (r : Nat) (above : Bool) (hk : Kept start s) :
    Kept start (rodHold s r above) := by
  unfold rodHold
  repeat' first
    | with_reducible assumption | with_reducible apply condAll_kept | with_reducible apply incOb_kept
    | with_reducible apply setRod_kept | with_reducible apply clearDet_kept | with_reducible apply kept_ite | split
    | dsimp only | with_reducible refine Kept.of_mk ?_ rfl rfl rfl rfl rfl rfl rfl

theorem rodTick_kept {start : State} (s : State) (r : Nat) (hk : Kept start s) : Kept start (rodTick s r) := by
  unfold rodTick
  repeat' first
    | with_reducible assumption | with_reducible apply setRod_kept | with_reducible apply rodHold_kept
    | with_reducible apply kept_ite | split | dsimp only
    | with_reducible refine Kept.of_mk ?_ rfl rfl rfl rfl rfl rfl rfl

theorem rodZero_kept {start : State} (s : State) (hk : Kept start s) : Kept start (rodZero s) := by
  unfold rodZero
  repeat' first
    | with_reducible assumption | with_reducible apply setRod_kept | dsimp only
    | with_reducible refine Kept.of_mk ?_ rfl rfl rfl rfl rfl rfl rfl

theorem rearm_kept {start : State} (s : State) (hk : Kept start s) : Kept start (rearm s) := by
  unfold rearm
  repeat' first
    | with_reducible assumption | refine kept_fst_of_eq (by assumption) ?_
    | refine kept_snd_of_eq (by assumption) ?_ | split | dsimp only
    | with_reducible refine Kept.of_mk ?_ rfl rfl rfl rfl rfl rfl rfl

theorem countRunts_kept {start : State} (s : State) (l : Nat) (hk : Kept start s) : Kept start (countRunts s l) := by
  unfold countRunts
  repeat' first
    | with_reducible assumption | with_reducible apply incOb_kept | with_reducible apply setLane_kept
    | (with_reducible apply kept_foldl; rotate_left; intro _ _ _) | dsimp only
    | with_reducible refine Kept.of_mk ?_ rfl rfl rfl rfl rfl rfl rfl

theorem wantCmd_kept {start : State} (s : State) (l : Nat) (hk : Kept start s) : Kept start (wantCmd s l) := by
  unfold wantCmd
  repeat' first
    | with_reducible assumption | with_reducible apply laneCmd_kept | with_reducible apply kept_ite | split

theorem pairStep_kept {start : State} (s : State) (e : Nat) (es : List LaneEdge) (hk : Kept start s) :
    Kept start (pairStep s e es) := by
  unfold pairStep
  repeat' first
    | with_reducible assumption | with_reducible apply laneCmd_kept
    | (with_reducible apply kept_foldl; rotate_left; intro _ _ _) | dsimp only

theorem laneStep_kept {start : State} (s : State) (l : Nat) (hk : Kept start s) : Kept start (laneStep s l) := by
  unfold laneStep
  repeat' first
    | with_reducible assumption | with_reducible apply wantCmd_kept | with_reducible apply pairStep_kept
    | with_reducible apply cmdCapture_kept | with_reducible apply countRunts_kept
    | with_reducible apply setLane_kept | with_reducible apply kept_ite | with_reducible apply kept_ite1
    | with_reducible apply kept_ite2 | (with_reducible apply kept_foldl; rotate_left; intro _ _ _) | split
    | dsimp only | with_reducible refine Kept.of_mk ?_ rfl rfl rfl rfl rfl rfl rfl

theorem edgeRun_kept {start : State} (s : State) (l after : Nat) (p : EdgePeriod) (hk : Kept start s) :
    Kept start (edgeRun s l after p) := by
  unfold edgeRun
  repeat' first
    | with_reducible assumption | with_reducible apply laneCmd_kept | with_reducible apply kept_ite
    | with_reducible apply kept_ite1 | with_reducible apply kept_ite2
    | (with_reducible apply kept_foldl; rotate_left; intro _ _ _) | refine kept_fst_of_eq (by assumption) ?_
    | refine kept_snd_of_eq (by assumption) ?_ | split | dsimp only
    | with_reducible refine Kept.of_mk ?_ rfl rfl rfl rfl rfl rfl rfl

theorem edgeTick_kept {start : State} (s : State) (l : Nat) (hk : Kept start s) : Kept start (edgeTick s l) := by
  unfold edgeTick
  repeat' first
    | with_reducible assumption | with_reducible apply edgeRun_kept | with_reducible apply kept_ite
    | refine kept_fst_of_eq (by assumption) ?_ | refine kept_snd_of_eq (by assumption) ?_ | split | dsimp only
    | with_reducible refine Kept.of_mk ?_ rfl rfl rfl rfl rfl rfl rfl

theorem overlapEvent_kept {start : State} (s : State) (l : Nat) (hk : Kept start s) :
    Kept start (overlapEvent s l) := by
  unfold overlapEvent
  repeat' first
    | with_reducible assumption | with_reducible apply raiseEv_kept | with_reducible apply incOb_kept
    | with_reducible apply kept_ite | split | dsimp only
    | with_reducible refine Kept.of_mk ?_ rfl rfl rfl rfl rfl rfl rfl

theorem outEdge_kept {start : State} (s : State) (l t : Nat) (b : Bool) (hk : Kept start s) :
    Kept start (outEdge s l t b) := by
  unfold outEdge
  repeat' first
    | with_reducible assumption | with_reducible apply setLane_kept | dsimp only
    | with_reducible refine Kept.of_mk ?_ rfl rfl rfl rfl rfl rfl rfl

theorem legEdge_kept {start : State} (s : State) (e t : Nat) (hk : Kept start s) : Kept start (legEdge s e t) := by
  unfold legEdge
  repeat' first
    | with_reducible assumption | with_reducible apply overlapEvent_kept | with_reducible apply setLane_kept
    | with_reducible apply kept_ite | with_reducible apply kept_ite1 | with_reducible apply kept_ite2 | split
    | dsimp only | with_reducible refine Kept.of_mk ?_ rfl rfl rfl rfl rfl rfl rfl

theorem lineEvent_kept {start : State} (s : State) (line stamp ph : Nat) (hk : Kept start s) :
    Kept start (lineEvent s line stamp ph) := by
  unfold lineEvent
  repeat' first
    | with_reducible assumption | dsimp only | with_reducible refine Kept.of_mk ?_ rfl rfl rfl rfl rfl rfl rfl

theorem excAdvance_kept {start : State} (s : State) (l : Nat) (b : Bool) (hk : Kept start s) :
    Kept start (excAdvance s l b) := by
  unfold excAdvance
  repeat' first
    | with_reducible assumption | with_reducible apply kept_ite | split | dsimp only
    | with_reducible refine Kept.of_mk ?_ rfl rfl rfl rfl rfl rfl rfl

theorem levelTo_kept {start : State} (t : Nat) (s : State) (l : Nat) (hk : Kept start s) :
    Kept start (levelTo t s l) := by
  unfold levelTo
  repeat' first
    | with_reducible assumption | with_reducible apply excAdvance_kept | with_reducible apply setLane_kept
    | with_reducible apply lineEvent_kept | with_reducible apply kept_ite | with_reducible apply kept_ite1
    | with_reducible apply kept_ite2 | split | dsimp only
    | with_reducible refine Kept.of_mk ?_ rfl rfl rfl rfl rfl rfl rfl

theorem legLevels_kept {start : State} (s : State) (e t : Nat) (hk : Kept start s) :
    Kept start (legLevels s e t) := by
  unfold legLevels
  repeat' first
    | with_reducible assumption | with_reducible apply levelTo_kept

theorem lockEnd_kept {start : State} (s : State) (e t : Nat) (hk : Kept start s) : Kept start (lockEnd s e t) := by
  unfold lockEnd
  repeat' first
    | with_reducible assumption | with_reducible apply legLevels_kept | with_reducible apply kept_ite | split
    | dsimp only

theorem dropEds_kept {start : State} (s : State) (l : Nat) (hk : Kept start s) : Kept start (dropEds s l) := by
  unfold dropEds
  repeat' first
    | with_reducible assumption | with_reducible apply setLane_kept | with_reducible apply kept_ite | split
    | dsimp only | with_reducible refine Kept.of_mk ?_ rfl rfl rfl rfl rfl rfl rfl

theorem legStep_kept {start : State} (s : State) (e : Nat) (hk : Kept start s) : Kept start (legStep s e) := by
  unfold legStep
  repeat' first
    | with_reducible assumption | with_reducible apply setLane_kept | with_reducible apply legLevels_kept
    | with_reducible apply dropEds_kept | with_reducible apply legEdge_kept | with_reducible apply outEdge_kept
    | with_reducible apply lockEnd_kept | with_reducible apply kept_ite | with_reducible apply kept_ite1
    | with_reducible apply kept_ite2 | (with_reducible apply kept_foldl; rotate_left; intro _ _ _) | split
    | dsimp only | with_reducible refine Kept.of_mk ?_ rfl rfl rfl rfl rfl rfl rfl

theorem laneAction_kept {start : State} (s : State) (a l t : Nat) (hk : Kept start s) :
    Kept start (laneAction s a l t) := by
  unfold laneAction
  repeat' first
    | with_reducible assumption | with_reducible apply laneCmd_kept | with_reducible apply setLane_kept
    | with_reducible apply kept_ite | split | dsimp only
    | with_reducible refine Kept.of_mk ?_ rfl rfl rfl rfl rfl rfl rfl

theorem latchLane_kept {start : State} (k : Nat) (m : Mark) (x d t : Nat) (s : State) (l : Nat)
    (hk : Kept start s) : Kept start (latchLane k m x d t s l) := by
  unfold latchLane
  repeat' first
    | with_reducible assumption | with_reducible apply incOb_kept | with_reducible apply setLane_kept
    | with_reducible apply laneCmd_kept | with_reducible apply edgeRun_kept | with_reducible apply kept_ite
    | with_reducible apply kept_ite1 | with_reducible apply kept_ite2 | refine kept_fst_of_eq (by assumption) ?_
    | refine kept_snd_of_eq (by assumption) ?_ | split | dsimp only
    | with_reducible refine Kept.of_mk ?_ rfl rfl rfl rfl rfl rfl rfl

theorem fireMark_kept {start : State} (s : State) (k : Nat) (m : Mark) (x d : Nat) (hk : Kept start s) :
    Kept start (fireMark s k m x d) := by
  unfold fireMark
  repeat' first
    | with_reducible assumption | with_reducible apply laneAction_kept | with_reducible apply lineEvent_kept
    | with_reducible apply latchLane_kept | with_reducible apply dabEdgeStage_kept
    | with_reducible apply dabPut_kept | with_reducible apply buckPut_kept | with_reducible apply drvLatchEnd_kept
    | with_reducible apply capture_kept | with_reducible apply winMark_kept | with_reducible apply kept_ite
    | with_reducible apply kept_ite1 | with_reducible apply kept_ite2
    | (with_reducible apply kept_foldl; rotate_left; intro _ _ _) | split | dsimp only
    | with_reducible refine Kept.of_mk ?_ rfl rfl rfl rfl rfl rfl rfl

theorem onceRaise_kept {start : State} (s : State) (present : Bool) (c : Cls) (l scope detail det : Nat)
    (hk : Kept start s) : Kept start (onceRaise s present c l scope detail det) := by
  unfold onceRaise
  repeat' first
    | with_reducible assumption | with_reducible apply raise_kept | with_reducible apply clearDet_kept
    | with_reducible apply kept_ite | split | dsimp only
    | with_reducible refine Kept.of_mk ?_ rfl rfl rfl rfl rfl rfl rfl

theorem refUnit_kept {start : State} (s : State) (x : Drv) (t : Nat) (hk : Kept start s) :
    Kept start (refUnit s x t) := by
  unfold refUnit
  repeat' first
    | with_reducible assumption | with_reducible apply ridgeOut_kept | with_reducible apply setDrv_kept
    | with_reducible apply kept_ite | with_reducible apply kept_ite1 | with_reducible apply kept_ite2
    | refine kept_fst_of_eq (by assumption) ?_ | refine kept_snd_of_eq (by assumption) ?_ | split | dsimp only
    | with_reducible refine Kept.of_mk ?_ rfl rfl rfl rfl rfl rfl rfl

theorem setCarrier_kept {start : State} (s : State) (r mode ratio rate : Nat) (hk : Kept start s) :
    Kept start (setCarrier s r mode ratio rate) := by
  unfold setCarrier
  repeat' first
    | with_reducible assumption | with_reducible apply carrierSync_kept | with_reducible apply putOb_kept
    | dsimp only

theorem bandPut_kept {start : State} (s : State) (x : Drv) (k : Nat) (hk : Kept start s) :
    Kept start (bandPut s x k) := by
  unfold bandPut
  repeat' first
    | with_reducible assumption | with_reducible apply setDrv_kept | with_reducible apply setCarrier_kept
    | with_reducible apply kept_ite | split | dsimp only
    | with_reducible refine Kept.of_mk ?_ rfl rfl rfl rfl rfl rfl rfl

theorem bandTrack_kept {start : State} (s : State) (x : Drv) (hk : Kept start s) : Kept start (bandTrack s x) := by
  unfold bandTrack
  repeat' first
    | with_reducible assumption | with_reducible apply bandPut_kept | with_reducible apply kept_ite | split
    | dsimp only

theorem drvWatch_kept {start : State} (s : State) (x : Drv) (hk : Kept start s) : Kept start (drvWatch s x) := by
  unfold drvWatch
  repeat' first
    | with_reducible assumption | with_reducible apply setDrv_kept | with_reducible apply onceRaise_kept
    | with_reducible apply condRaise_kept | with_reducible apply clearDet_kept | with_reducible apply kept_ite
    | with_reducible apply kept_ite2 | split | dsimp only
    | with_reducible refine Kept.of_mk ?_ rfl rfl rfl rfl rfl rfl rfl

theorem drvBefore_kept {start : State} (s : State) (x : Drv) (t : Nat) (hk : Kept start s) :
    Kept start (drvBefore s x t) := by
  unfold drvBefore
  repeat' first
    | with_reducible assumption | with_reducible apply setDrv_kept | with_reducible apply refUnit_kept
    | with_reducible apply bandTrack_kept | with_reducible apply drvWatch_kept | with_reducible apply kept_ite
    | split | dsimp only | with_reducible refine Kept.of_mk ?_ rfl rfl rfl rfl rfl rfl rfl

theorem drvAfter_kept {start : State} (s : State) (x : Drv) (hk : Kept start s) : Kept start (drvAfter s x) := by
  unfold drvAfter
  repeat' first
    | with_reducible assumption | with_reducible apply setDrv_kept | with_reducible apply kept_ite | split
    | dsimp only | with_reducible refine Kept.of_mk ?_ rfl rfl rfl rfl rfl rfl rfl

theorem presetBrace_kept {start : State} (s : State) (i w : Nat) (hk : Kept start s) :
    Kept start (presetBrace s i w) := by
  unfold presetBrace
  repeat' first
    | with_reducible assumption | with_reducible apply setBrc_kept | with_reducible apply kept_ite | split
    | with_reducible refine Kept.of_mk ?_ rfl rfl rfl rfl rfl rfl rfl

theorem drvStart_kept {start : State} (s : State) (x : Drv) (hk : Kept start s) : Kept start (drvStart s x) := by
  unfold drvStart
  repeat' first
    | with_reducible assumption | with_reducible apply setDrv_kept | with_reducible apply refUnit_kept
    | with_reducible apply presetBrace_kept | with_reducible apply raiseEv_kept | with_reducible apply kept_ite
    | split | dsimp only | with_reducible refine Kept.of_mk ?_ rfl rfl rfl rfl rfl rfl rfl

theorem derateEval_kept {start : State} (s : State) (f : Fn) (b : Nat) (hk : Kept start s) :
    Kept start (derateEval s f b) := by
  unfold derateEval
  repeat' first
    | with_reducible assumption | with_reducible apply putOb_kept | with_reducible apply ridgeOut_kept
    | with_reducible apply onceRaise_kept | with_reducible apply kept_ite | with_reducible apply kept_ite1
    | with_reducible apply kept_ite2 | (with_reducible apply kept_foldl; rotate_left; intro _ _ _) | split
    | dsimp only

theorem chgL3_kept {start : State} (s : State) (code : Nat) (hk : Kept start s) : Kept start (chgL3 s code) := by
  unfold chgL3
  repeat' first
    | with_reducible assumption | with_reducible apply raiseEv_kept | with_reducible apply noteReason_kept

theorem chgStop_kept {start : State} (s : State) (code : Nat) (after : FnSt) (hk : Kept start s) :
    Kept start (chgStop s code after) := by
  unfold chgStop
  repeat' first
    | with_reducible assumption | with_reducible apply noteReason_kept | with_reducible apply putPhase_kept
    | with_reducible apply setChg_kept | with_reducible apply legsEnd_kept | with_reducible apply kept_ite
    | with_reducible apply kept_ite1 | with_reducible apply kept_ite2 | split | dsimp only
    | with_reducible refine Kept.of_mk ?_ rfl rfl rfl rfl rfl rfl rfl

theorem chgL1_kept {start : State} (s : State) (code : Nat) (hk : Kept start s) : Kept start (chgL1 s code) := by
  unfold chgL1
  repeat' first
    | with_reducible assumption | with_reducible apply raiseEv_kept | with_reducible apply chgStop_kept

theorem startSession_kept {start : State} (s : State) (v2l : Bool) (hk : Kept start s) :
    Kept start (startSession s v2l) := by
  unfold startSession
  repeat' first
    | with_reducible assumption | with_reducible apply putOb_kept | with_reducible apply putPhase_kept
    | with_reducible apply setFn_kept | with_reducible apply kept_ite | split | dsimp only
    | with_reducible refine Kept.of_mk ?_ rfl rfl rfl rfl rfl rfl rfl

theorem plugWatch_kept {start : State} (s : State) (hk : Kept start s) : Kept start (plugWatch s) := by
  unfold plugWatch
  repeat' first
    | with_reducible assumption | with_reducible apply condAll_kept | with_reducible apply clearDet_kept
    | with_reducible apply kept_ite | split

theorem putPilotCurrent_kept {start : State} (s : State) (hk : Kept start s) : Kept start (putPilotCurrent s) := by
  unfold putPilotCurrent
  repeat' first
    | with_reducible assumption | with_reducible apply putOb_kept

theorem pilotForm_kept {start : State} (s : State) (hk : Kept start s) : Kept start (pilotForm s).1 := by
  unfold pilotForm
  repeat' first
    | with_reducible assumption | with_reducible apply freshWord_kept | with_reducible apply putOb_kept
    | with_reducible apply setChg_kept | with_reducible apply kept_ite | with_reducible apply kept_ite1
    | with_reducible apply kept_ite2 | refine kept_fst_of_eq (by assumption) ?_
    | refine kept_snd_of_eq (by assumption) ?_ | split | dsimp only
    | with_reducible refine Kept.of_mk ?_ rfl rfl rfl rfl rfl rfl rfl

theorem pilotAccept_kept {start : State} (s : State) (c : Nat) (hk : Kept start s) :
    Kept start (pilotAccept s c).1 := by
  unfold pilotAccept
  repeat' first
    | with_reducible assumption | with_reducible apply setChg_kept | with_reducible apply putOb_kept
    | with_reducible apply kept_ite | with_reducible apply kept_ite1 | with_reducible apply kept_ite2 | split
    | dsimp only | with_reducible refine Kept.of_mk ?_ rfl rfl rfl rfl rfl rfl rfl

theorem pilotSession_kept {start : State} (s : State) (nowA : Bool) (hk : Kept start s) :
    Kept start (pilotSession s nowA) := by
  unfold pilotSession
  repeat' first
    | with_reducible assumption | with_reducible apply chgL1_kept | with_reducible apply chgL3_kept
    | with_reducible apply setChg_kept | with_reducible apply kept_ite | split | dsimp only
    | with_reducible refine Kept.of_mk ?_ rfl rfl rfl rfl rfl rfl rfl

theorem ppAccept_kept {start : State} (s : State) (c : Nat) (hk : Kept start s) : Kept start (ppAccept s c) := by
  unfold ppAccept
  repeat' first
    | with_reducible assumption | with_reducible apply putOb_kept | with_reducible apply chgL1_kept
    | with_reducible apply chgL3_kept | with_reducible apply startSession_kept | with_reducible apply kept_ite
    | split | dsimp only

theorem pfcGoLive_kept {start : State} (s : State) (hk : Kept start s) : Kept start (pfcGoLive s) := by
  unfold pfcGoLive
  repeat' first
    | with_reducible assumption | with_reducible apply pfcAll_kept | with_reducible apply relayPre_kept
    | with_reducible apply setChg_kept | with_reducible apply presetBrace_kept | with_reducible apply putPhase_kept
    | with_reducible apply kept_ite | with_reducible apply kept_ite1 | with_reducible apply kept_ite2 | split
    | dsimp only | with_reducible refine Kept.of_mk ?_ rfl rfl rfl rfl rfl rfl rfl

theorem vrmsPhase_kept {start : State} (p q : Nat) (s : State) (k : Nat) (hk : Kept start s) :
    Kept start (vrmsPhase p q s k) := by
  unfold vrmsPhase
  repeat' first
    | with_reducible assumption | with_reducible apply setChg_kept | with_reducible apply putOb_kept
    | with_reducible apply kept_ite | with_reducible apply kept_ite1 | with_reducible apply kept_ite2 | split
    | dsimp only | with_reducible refine Kept.of_mk ?_ rfl rfl rfl rfl rfl rfl rfl

theorem vrmsStage_kept {start : State} (s : State) (hk : Kept start s) : Kept start (vrmsStage s) := by
  unfold vrmsStage
  repeat' first
    | with_reducible assumption | with_reducible apply vrmsPhase_kept | with_reducible apply ridgeOut_kept
    | with_reducible apply kept_ite | (with_reducible apply kept_foldl; rotate_left; intro _ _ _) | split
    | dsimp only

theorem quadStage_kept {start : State} (s : State) (hk : Kept start s) : Kept start (quadStage s) := by
  unfold quadStage
  repeat' first
    | with_reducible assumption | with_reducible apply setChg_kept | with_reducible apply ridgeOut_kept
    | with_reducible apply kept_ite | with_reducible apply kept_ite1 | with_reducible apply kept_ite2
    | refine kept_fst_of_eq (by assumption) ?_ | refine kept_snd_of_eq (by assumption) ?_ | split | dsimp only
    | with_reducible refine Kept.of_mk ?_ rfl rfl rfl rfl rfl rfl rfl

theorem chgLimits_kept {start : State} (s : State) (hk : Kept start s) : Kept start (chgLimits s) := by
  unfold chgLimits
  repeat' first
    | with_reducible assumption | with_reducible apply freshWord_kept | with_reducible apply setChg_kept
    | with_reducible apply kept_ite | with_reducible apply kept_ite1 | with_reducible apply kept_ite2
    | (with_reducible apply kept_foldl; rotate_left; intro _ _ _) | split | dsimp only
    | with_reducible refine Kept.of_mk ?_ rfl rfl rfl rfl rfl rfl rfl

theorem idcStage_kept {start : State} (s : State) (hk : Kept start s) : Kept start (idcStage s) := by
  unfold idcStage
  repeat' first
    | with_reducible assumption | with_reducible apply ridgeOut_kept | with_reducible apply kept_ite
    | with_reducible apply kept_ite2 | split | dsimp only

theorem pfcRefStage_kept {start : State} (s : State) (hk : Kept start s) : Kept start (pfcRefStage s).1 := by
  unfold pfcRefStage
  repeat' first
    | with_reducible assumption | with_reducible apply ridgeOut_kept | with_reducible apply kept_ite
    | with_reducible apply kept_ite1 | with_reducible apply kept_ite2 | split | dsimp only

theorem busRamp_kept {start : State} (s : State) (hk : Kept start s) : Kept start (busRamp s) := by
  unfold busRamp
  repeat' first
    | with_reducible assumption | with_reducible apply setChg_kept | with_reducible apply kept_ite
    | refine kept_fst_of_eq (by assumption) ?_ | refine kept_snd_of_eq (by assumption) ?_ | split | dsimp only
    | with_reducible refine Kept.of_mk ?_ rfl rfl rfl rfl rfl rfl rfl

theorem vdStage_kept {start : State} (s : State) (hk : Kept start s) : Kept start (vdStage s) := by
  unfold vdStage
  repeat' first
    | with_reducible assumption | with_reducible apply ridgeOut_kept | with_reducible apply kept_ite | split
    | dsimp only

theorem gridStage_kept {start : State} (s : State) (hk : Kept start s) : Kept start (gridStage s) := by
  unfold gridStage
  repeat' first
    | with_reducible assumption | with_reducible apply setChg_kept | with_reducible apply pfcAll_kept
    | with_reducible apply pfcGoLive_kept | with_reducible apply kept_ite | split | dsimp only
    | with_reducible refine Kept.of_mk ?_ rfl rfl rfl rfl rfl rfl rfl

theorem phaseStage_kept {start : State} (s : State) (hk : Kept start s) : Kept start (phaseStage s) := by
  unfold phaseStage
  repeat' first
    | with_reducible assumption | with_reducible apply putPhase_kept | with_reducible apply setChg_kept
    | with_reducible apply kept_ite | split | dsimp only
    | with_reducible refine Kept.of_mk ?_ rfl rfl rfl rfl rfl rfl rfl

theorem meterStage_kept {start : State} (s : State) (clip : Bool) (hk : Kept start s) :
    Kept start (meterStage s clip) := by
  unfold meterStage
  repeat' first
    | with_reducible assumption | with_reducible apply putOb_kept | with_reducible apply setChg_kept
    | with_reducible apply kept_ite | with_reducible apply kept_ite1 | with_reducible apply kept_ite2 | split
    | dsimp only | with_reducible refine Kept.of_mk ?_ rfl rfl rfl rfl rfl rfl rfl

theorem lostStage_kept {start : State} (s : State) (hk : Kept start s) : Kept start (lostStage s) := by
  unfold lostStage
  repeat' first
    | with_reducible assumption | with_reducible apply clearDet_kept | with_reducible apply setChg_kept
    | with_reducible apply kept_ite | with_reducible apply kept_ite1 | with_reducible apply kept_ite2 | split
    | dsimp only | with_reducible refine Kept.of_mk ?_ rfl rfl rfl rfl rfl rfl rfl

theorem backfeedStage_kept {start : State} (s : State) (hk : Kept start s) : Kept start (backfeedStage s) := by
  unfold backfeedStage
  repeat' first
    | with_reducible assumption | with_reducible apply setChg_kept | with_reducible apply kept_ite | split
    | dsimp only | with_reducible refine Kept.of_mk ?_ rfl rfl rfl rfl rfl rfl rfl

theorem chgLimitStage_kept {start : State} (s : State) (hk : Kept start s) : Kept start (chgLimitStage s) := by
  unfold chgLimitStage
  repeat' first
    | with_reducible assumption | with_reducible apply quadStage_kept | with_reducible apply vrmsStage_kept
    | with_reducible apply setChg_kept | with_reducible apply chgLimits_kept | with_reducible apply pfcRefStage_kept
    | with_reducible apply vdStage_kept | with_reducible apply idcStage_kept | with_reducible apply busRamp_kept
    | with_reducible apply lostStage_kept | with_reducible apply backfeedStage_kept
    | with_reducible apply meterStage_kept | with_reducible apply phaseStage_kept
    | with_reducible apply gridStage_kept | with_reducible apply kept_ite | with_reducible apply kept_ite1
    | with_reducible apply kept_ite2 | split | dsimp only
    | with_reducible refine Kept.of_mk ?_ rfl rfl rfl rfl rfl rfl rfl

theorem seqWord_kept {start : State} (s : State) (n : Nat) (duty : Rat) (fwd : Bool) (hk : Kept start s) :
    Kept start (seqWord s n duty fwd) := by
  unfold seqWord
  repeat' first
    | with_reducible assumption | with_reducible apply setAct_kept | with_reducible apply kept_ite | split
    | with_reducible refine Kept.of_mk ?_ rfl rfl rfl rfl rfl rfl rfl

theorem pumpPreset_kept {start : State} (s : State) (v : Rat) (hk : Kept start s) : Kept start (pumpPreset s v) := by
  unfold pumpPreset
  repeat' first
    | with_reducible assumption | with_reducible apply presetBrace_kept

theorem parkLimits_kept {start : State} (s : State) (hk : Kept start s) : Kept start (parkLimits s) := by
  unfold parkLimits
  repeat' first
    | with_reducible assumption | with_reducible apply putOb_kept

theorem parkLeft_kept {start : State} (before : Nat) (s : State) (hk : Kept start s) :
    Kept start (parkLeft before s) := by
  unfold parkLeft
  repeat' first
    | with_reducible assumption | with_reducible apply chgL3_kept | with_reducible apply kept_ite | split

theorem parkStart_kept {start : State} (s : State) (v : Nat) (hk : Kept start s) : Kept start (parkStart s v) := by
  unfold parkStart
  repeat' first
    | with_reducible assumption | with_reducible apply seqWord_kept | with_reducible apply actEnter_kept
    | with_reducible apply setAct_kept | with_reducible apply kept_ite | split | dsimp only
    | with_reducible refine Kept.of_mk ?_ rfl rfl rfl rfl rfl rfl rfl

theorem clutchDrive_kept {start : State} (s : State) (close : Bool) (hk : Kept start s) :
    Kept start (clutchDrive s close) := by
  unfold clutchDrive
  repeat' first
    | with_reducible assumption | with_reducible apply actEnter_kept | with_reducible apply seqWord_kept

theorem clutchGo_kept {start : State} (s : State) (k : Nat) (hk : Kept start s) : Kept start (clutchGo s k) := by
  unfold clutchGo
  repeat' first
    | with_reducible assumption | with_reducible refine Kept.of_mk ?_ rfl rfl rfl rfl rfl rfl rfl

theorem clutchTorque_kept {start : State} (s : State) (t : Rat) (hk : Kept start s) :
    Kept start (clutchTorque s t) := by
  unfold clutchTorque
  repeat' first
    | with_reducible assumption | with_reducible apply setDrv_kept
    | with_reducible refine Kept.of_mk ?_ rfl rfl rfl rfl rfl rfl rfl

theorem clutchMatchStart_kept {start : State} (s : State) (hk : Kept start s) : Kept start (clutchMatchStart s) := by
  unfold clutchMatchStart
  repeat' first
    | with_reducible assumption | with_reducible apply clutchGo_kept | with_reducible apply clutchTorque_kept
    | refine kept_fst_of_eq (by assumption) ?_ | refine kept_snd_of_eq (by assumption) ?_ | dsimp only
    | with_reducible refine Kept.of_mk ?_ rfl rfl rfl rfl rfl rfl rfl

theorem clutchFail_kept {start : State} (s : State) (lvl : Nat) (back : Bool) (hk : Kept start s) :
    Kept start (clutchFail s lvl back) := by
  unfold clutchFail
  repeat' first
    | with_reducible assumption | with_reducible apply clutchRelease_kept | with_reducible apply clutchGo_kept
    | with_reducible apply clutchDrive_kept | with_reducible apply clutchEnd_kept
    | with_reducible apply raiseEv_kept | with_reducible apply kept_ite | split | dsimp only

theorem manSent_kept {start : State} (s : State) (m : Nat) (hk : Kept start s) : Kept start (manSent s m) := by
  unfold manSent
  repeat' first
    | with_reducible assumption | with_reducible apply putOb_kept | with_reducible apply incOb_kept

theorem manLate_kept {start : State} (s : State) (m : Nat) (hk : Kept start s) : Kept start (manLate s m) := by
  unfold manLate
  repeat' first
    | with_reducible assumption | with_reducible apply putOb_kept | with_reducible apply incOb_kept

theorem dropMan_kept {start : State} (s : State) (m : Option Nat) (hk : Kept start s) : Kept start (dropMan s m) := by
  unfold dropMan
  repeat' first
    | with_reducible assumption | with_reducible apply manLate_kept | refine kept_fst_of_eq (by assumption) ?_
    | refine kept_snd_of_eq (by assumption) ?_ | split | dsimp only
    | with_reducible refine Kept.of_mk ?_ rfl rfl rfl rfl rfl rfl rfl

theorem ethPush_kept {start : State} (s : State) (qn : Nat) (f : EthOut) (hk : Kept start s) :
    Kept start (ethPush s qn f) := by
  unfold ethPush
  repeat' first
    | with_reducible assumption | with_reducible apply dropMan_kept | with_reducible apply incOb_kept
    | with_reducible apply kept_ite | refine kept_fst_of_eq (by assumption) ?_
    | refine kept_snd_of_eq (by assumption) ?_ | split | dsimp only
    | with_reducible refine Kept.of_mk ?_ rfl rfl rfl rfl rfl rfl rfl

theorem arpAsk_kept {start : State} (s : State) (ip : Word) (hk : Kept start s) : Kept start (arpAsk s ip) := by
  unfold arpAsk
  repeat' first
    | with_reducible assumption | with_reducible apply ethPush_kept
    | with_reducible refine Kept.of_mk ?_ rfl rfl rfl rfl rfl rfl rfl

theorem udpSend_kept {start : State} (s : State) (qn : Nat) (mac : Option (BitVec 48)) (ip : Word)
    (dport sport : Nat) (bs : List Byte) (man : Option Nat := none) (hk : Kept start s) : Kept start (udpSend s qn mac ip dport sport bs man) := by
  unfold udpSend
  repeat' first
    | with_reducible assumption | with_reducible apply ethPush_kept | with_reducible apply dropMan_kept
    | with_reducible apply incOb_kept | with_reducible apply arpAsk_kept | with_reducible apply kept_ite
    | with_reducible apply kept_ite1 | with_reducible apply kept_ite2 | refine kept_fst_of_eq (by assumption) ?_
    | refine kept_snd_of_eq (by assumption) ?_ | split | dsimp only
    | with_reducible refine Kept.of_mk ?_ rfl rfl rfl rfl rfl rfl rfl

theorem canSend_kept {start : State} (s : State) (cn : Nat) (f : CanOut) (hk : Kept start s) :
    Kept start (canSend s cn f) := by
  unfold canSend
  repeat' first
    | with_reducible assumption | with_reducible apply dropMan_kept | with_reducible apply incOb_kept
    | with_reducible apply setCan_kept | with_reducible apply kept_ite | split | dsimp only
    | with_reducible refine Kept.of_mk ?_ rfl rfl rfl rfl rfl rfl rfl

theorem canCancel_kept {start : State} (s : State) (cn : Nat) (p : CanOut → Bool) (hk : Kept start s) :
    Kept start (canCancel s cn p) := by
  unfold canCancel
  repeat' first
    | with_reducible assumption | with_reducible apply setCan_kept | with_reducible apply putOb_kept | dsimp only
    | with_reducible refine Kept.of_mk ?_ rfl rfl rfl rfl rfl rfl rfl

theorem takeRx_kept {start : State} (s : State) (tr : Transport) (bs : List Byte) (hk : Kept start s) :
    Kept start (takeRx s tr bs).2 := by
  unfold takeRx
  repeat' first
    | with_reducible assumption | with_reducible apply setCan_kept | refine kept_fst_of_eq (by assumption) ?_
    | refine kept_snd_of_eq (by assumption) ?_ | split | dsimp only
    | with_reducible refine Kept.of_mk ?_ rfl rfl rfl rfl rfl rfl rfl

theorem transmit_kept {start : State} (s : State) (n : Nat) (x : Session) (mac : Option (BitVec 48))
    (xl : Bool) (bs : List Byte) (hk : Kept start s) : Kept start (transmit s n x mac xl bs) := by
  unfold transmit
  repeat' first
    | with_reducible assumption | with_reducible apply udpSend_kept | with_reducible apply canSend_kept
    | with_reducible apply kept_ite | refine kept_fst_of_eq (by assumption) ?_
    | refine kept_snd_of_eq (by assumption) ?_ | split | dsimp only
    | with_reducible refine Kept.of_mk ?_ rfl rfl rfl rfl rfl rfl rfl

theorem closeSession_kept {start : State} (s : State) (n : Nat) (hk : Kept start s) :
    Kept start (closeSession s n) := by
  unfold closeSession
  repeat' first
    | with_reducible assumption | with_reducible apply putOb_kept | with_reducible apply raiseAllOr_kept
    | with_reducible apply abortTk_kept | with_reducible apply kept_ite | with_reducible apply kept_ite1
    | with_reducible apply kept_ite2 | (with_reducible apply kept_foldl; rotate_left; intro _ _ _) | split
    | dsimp only | with_reducible refine Kept.of_mk ?_ rfl rfl rfl rfl rfl rfl rfl

theorem sendFrame_kept {start : State} (s : State) (n kind : Nat) (mac : Option (BitVec 48)) (xl : Bool)
    (payload : List Byte) (hk : Kept start s) : Kept start (sendFrame s n kind mac xl payload) := by
  unfold sendFrame
  repeat' first
    | with_reducible assumption | with_reducible apply transmit_kept | with_reducible apply setSess_kept
    | with_reducible apply closeSession_kept | with_reducible apply kept_ite | split | dsimp only
    | with_reducible refine Kept.of_mk ?_ rfl rfl rfl rfl rfl rfl rfl

theorem winReply_kept {start : State} (s : State) (w code : Nat) (hk : Kept start s) :
    Kept start (winReply s w code) := by
  unfold winReply
  repeat' first
    | with_reducible assumption | with_reducible apply irq_kept | dsimp only
    | with_reducible refine Kept.of_mk ?_ rfl rfl rfl rfl rfl rfl rfl

theorem answer_kept {start : State} (s : State) (q : QReq) (msg : List Byte) (code : Nat) (hk : Kept start s) :
    Kept start (answer s q msg code) := by
  unfold answer
  repeat' first
    | with_reducible assumption | with_reducible apply winReply_kept | with_reducible apply sendFrame_kept
    | with_reducible apply closeSession_kept | with_reducible apply kept_ite
    | refine kept_fst_of_eq (by assumption) ?_ | refine kept_snd_of_eq (by assumption) ?_ | split | dsimp only
    | with_reducible refine Kept.of_mk ?_ rfl rfl rfl rfl rfl rfl rfl

theorem reply_kept {start : State} (s : State) (q : QReq) (ty : Nat) (data : List Byte) (hk : Kept start s) :
    Kept start (reply s q ty data) := by
  unfold reply
  repeat' first
    | with_reducible assumption | with_reducible apply answer_kept

theorem refuse_kept {start : State} (s : State) (q : QReq) (code : Nat) (hk : Kept start s) :
    Kept start (refuse s q code) := by
  unfold refuse
  repeat' first
    | with_reducible assumption | with_reducible apply answer_kept

theorem conclude_kept {start : State} (s : State) (q : QReq) (ty code : Nat) (hk : Kept start s) :
    Kept start (conclude s q ty code) := by
  unfold conclude
  repeat' first
    | with_reducible assumption | with_reducible apply reply_kept | with_reducible apply refuse_kept
    | with_reducible apply kept_ite | split

theorem dequeue_kept {start : State} (s : State) (q : QReq) (hk : Kept start s) : Kept start (dequeue s q) := by
  unfold dequeue
  repeat' first
    | with_reducible assumption | with_reducible refine Kept.of_mk ?_ rfl rfl rfl rfl rfl rfl rfl

theorem admitted_kept {start : State} (s : State) (r : Req) (svc idx sub : Nat) (hk : Kept start s) :
    Kept start (admitted s r svc idx sub).1 := by
  unfold admitted
  repeat' first
    | with_reducible assumption | with_reducible apply dequeue_kept | with_reducible apply kept_ite
    | with_reducible apply kept_ite1 | with_reducible apply kept_ite2 | split | dsimp only
    | with_reducible refine Kept.of_mk ?_ rfl rfl rfl rfl rfl rfl rfl

theorem putValue_kept {start : State} (s : State) (a v : Nat) (hk : Kept start s) : Kept start (putValue s a v) := by
  unfold putValue
  repeat' first
    | with_reducible assumption | with_reducible apply setCell_kept | with_reducible apply kept_ite | split
    | with_reducible refine Kept.of_mk ?_ rfl rfl rfl rfl rfl rfl rfl

theorem serveWrite_kept {start : State} (s : State) (r : Req) (idx sub : Nat) (eff : State → QReq → State × Nat)
    (h : Kept start s) (he : ∀ t q, Kept start t → Kept start (eff t q).1) : Kept start (serveWrite s r idx sub eff) := by
  have ha := admitted_kept s r 2 idx sub h
  unfold serveWrite
  split
  · rename_i heq; rw [heq] at ha; exact ha
  · rename_i heq
    rw [heq] at ha
    dsimp only
    split
    · exact refuse_kept _ _ _ ha
    · exact conclude_kept _ _ _ _ (he _ _ ha)

theorem ascCheck_kept {start : State} (s : State) (x : Drv) (hk : Kept start s) : Kept start (ascCheck s x) := by
  unfold ascCheck
  repeat' first
    | with_reducible assumption | with_reducible apply raiseEv_kept | with_reducible apply kept_ite | split
    | dsimp only

theorem ascChanged_kept {start : State} (old s : State) (x : Drv) (hk : Kept start s) :
    Kept start (ascChanged old s x) := by
  unfold ascChanged
  repeat' first
    | with_reducible assumption | with_reducible apply ascCheck_kept | with_reducible apply kept_ite | split
    | dsimp only

theorem pfcCarrier_kept {start : State} (s : State) (hk : Kept start s) : Kept start (pfcCarrier s) := by
  unfold pfcCarrier
  repeat' first
    | with_reducible assumption | with_reducible apply setCarrier_kept | with_reducible apply kept_ite | split
    | dsimp only

theorem buckCarrier_kept {start : State} (s : State) (hk : Kept start s) : Kept start (buckCarrier s) := by
  unfold buckCarrier
  repeat' first
    | with_reducible assumption | with_reducible apply setCarrier_kept

theorem afterStrike_kept {start : State} (s : State) (b : Nat) (hk : Kept start s) :
    Kept start (afterStrike s b) := by
  unfold afterStrike
  repeat' first
    | with_reducible assumption | with_reducible apply putOb_kept | with_reducible apply coefCheck_kept
    | with_reducible apply carrierSync_kept | with_reducible apply pfcCarrier_kept
    | with_reducible apply buckCarrier_kept | with_reducible apply kept_ite | split

theorem afterRelease_kept {start : State} (old s : State) (struck : Bool) (bs : List Nat) (hk : Kept start s) :
    Kept start (afterRelease old s struck bs) := by
  unfold afterRelease
  repeat' first
    | with_reducible assumption | with_reducible apply afterStrike_kept | with_reducible apply parkLimits_kept
    | with_reducible apply ascChanged_kept | with_reducible apply kept_ite
    | (with_reducible apply kept_foldl; rotate_left; intro _ _ _) | split | dsimp only

theorem afterCommit_kept {start : State} (old s : State) (hk : Kept start s) : Kept start (afterCommit old s) := by
  unfold afterCommit
  repeat' first
    | with_reducible assumption | with_reducible apply ascChanged_kept | with_reducible apply parkLimits_kept

theorem winDown_kept {start : State} (s : State) (w : Nat) (hk : Kept start s) : Kept start (winDown s w) := by
  unfold winDown
  repeat' first
    | with_reducible assumption | with_reducible apply winRelease_kept | with_reducible apply kept_ite | split
    | dsimp only

theorem tkRestart_kept {start : State} (s : State) (as : List Nat) (hk : Kept start s) :
    Kept start (tkRestart s as) := by
  unfold tkRestart
  repeat' first
    | with_reducible assumption | with_reducible apply restartWin_kept | with_reducible apply winDown_kept
    | with_reducible apply publishAsc_kept | with_reducible apply kept_ite
    | (with_reducible apply kept_foldl; rotate_left; intro _ _ _) | split | dsimp only

end Sys2Proof.Machine
end

