-- ==== Sys2Proof/Laws/KeptFamilies.lean ====
section
/-! SUPPORT. The same as Kept.lean, for the operations that one family of commands uses. -/

namespace Sys2Proof.Machine

theorem takeTrig_kept {start s t : State} {kind num : Nat} {e : TrigEv} (h :
    Kept start s) (he : takeTrig s kind num = some (e, t)) :
    Kept start t := by
  unfold takeTrig at he
  split at he
  · exact absurd he (by simp)
  · cases he; exact Kept.of_eq h rfl rfl rfl rfl rfl rfl rfl

theorem missSeq_kept {start : State} (s : State) (q : Nat) (hk : Kept start s) : Kept start (missSeq s q) := by
  unfold missSeq
  repeat' first
    | with_reducible assumption | with_reducible apply missChan_kept
    | (with_reducible apply kept_foldl; rotate_left; intro _ _ _)

theorem seqEvent_kept {start : State} (s' : State) (q : Nat) (e : TrigEv) (hk : Kept start s') :
    Kept start (seqEvent s' q e) := by
  unfold seqEvent
  repeat' first
    | with_reducible assumption | with_reducible apply abortOut_kept | with_reducible apply incOb_kept
    | with_reducible apply missSeq_kept | with_reducible apply setSeq_kept | with_reducible apply startSeq_kept
    | with_reducible apply kept_ite | split | dsimp only
    | with_reducible refine Kept.of_mk ?_ rfl rfl rfl rfl rfl rfl rfl

theorem duplexCheck_kept {start : State} (s : State) (q : Nat) (differ : Bool) (hk : Kept start s) :
    Kept start (duplexCheck s q differ) := by
  unfold duplexCheck
  repeat' first
    | with_reducible assumption | with_reducible apply incOb_kept | with_reducible apply setSeq_kept
    | with_reducible apply condAllOr_kept | with_reducible apply clearDet_kept | with_reducible apply kept_ite
    | split | dsimp only | with_reducible refine Kept.of_mk ?_ rfl rfl rfl rfl rfl rfl rfl

theorem stepWords_kept {start : State} (s : State) (q k : Nat) (m : AdcMeas) (lim : Nat × Nat) (hk : Kept start s) :
    Kept start (stepWords s q k m lim) := by
  unfold stepWords
  repeat' first
    | with_reducible assumption | with_reducible apply duplexCheck_kept | with_reducible apply ridgeOut_kept
    | with_reducible apply putRidge_kept | with_reducible apply calSample_kept | with_reducible apply writeChan_kept
    | with_reducible apply kept_ite | split | dsimp only

theorem calStart_kept {start : State} (s : State) (ch side : Nat) (hk : Kept start s) :
    Kept start (calStart s ch side) := by
  unfold calStart
  repeat' first
    | with_reducible assumption | with_reducible apply putCalState_kept | with_reducible apply setCal_kept
    | with_reducible apply kept_ite | with_reducible apply kept_ite1 | with_reducible apply kept_ite2 | split
    | dsimp only | with_reducible refine Kept.of_mk ?_ rfl rfl rfl rfl rfl rfl rfl

theorem calPersist_kept {start : State} (s : State) (ch : Nat) (hk : Kept start s) :
    Kept start (calPersist s ch) := by
  unfold calPersist
  repeat' first
    | with_reducible assumption | with_reducible apply persistAt_kept | dsimp only
    | with_reducible refine Kept.of_mk ?_ rfl rfl rfl rfl rfl rfl rfl

theorem calPut_kept {start : State} (s : State) (ch g o : Nat) (hk : Kept start s) :
    Kept start (calPut s ch g o) := by
  unfold calPut
  repeat' first
    | with_reducible assumption | with_reducible apply calPersist_kept | with_reducible apply putOb_kept
    | dsimp only

theorem calSolve_kept {start : State} (s : State) (ch : Nat) (hk : Kept start s) : Kept start (calSolve s ch).1 := by
  unfold calSolve
  repeat' first
    | with_reducible assumption | with_reducible apply putCalState_kept | with_reducible apply setCal_kept
    | with_reducible apply calPut_kept | with_reducible apply kept_ite | with_reducible apply kept_ite1
    | with_reducible apply kept_ite2 | refine kept_fst_of_eq (by assumption) ?_
    | refine kept_snd_of_eq (by assumption) ?_ | split | dsimp only
    | with_reducible refine Kept.of_mk ?_ rfl rfl rfl rfl rfl rfl rfl

theorem doCal_kept {start : State} (ch : Nat) (s : State) (q : QReq) (hk : Kept start s) :
    Kept start (doCal ch s q).1 := by
  unfold doCal
  repeat' first
    | with_reducible assumption | with_reducible apply calStart_kept | with_reducible apply calSolve_kept
    | with_reducible apply calPut_kept | with_reducible apply putCalState_kept | with_reducible apply setCal_kept
    | with_reducible apply kept_ite | with_reducible apply kept_ite1 | with_reducible apply kept_ite2 | split
    | dsimp only | with_reducible refine Kept.of_mk ?_ rfl rfl rfl rfl rfl rfl rfl

theorem calCmd_kept {start : State} (r : Req) (ch : Nat) (s : State) (hk : Kept start s) :
    Kept start (calCmd r ch s) := by
  unfold calCmd
  repeat' first
    | with_reducible assumption | (with_reducible apply serveWrite_kept; rotate_left; intro _ _ _)
    | with_reducible apply doCal_kept | dsimp only

theorem setTest_kept {start : State} (s : State) (t : Nat) (x : TestRun) (hk : Kept start s) :
    Kept start (setTest s t x) := by
  unfold setTest
  repeat' first
    | with_reducible assumption | with_reducible apply putOb_kept
    | with_reducible refine Kept.of_mk ?_ rfl rfl rfl rfl rfl rfl rfl

theorem testStarve_kept {start : State} (s : State) (t : Nat) (fs : List Fn) (hk : Kept start s) :
    Kept start (testStarve s t fs) := by
  unfold testStarve
  repeat' first
    | with_reducible assumption | with_reducible apply putOb_kept | with_reducible apply incOb_kept
    | with_reducible apply condRaise_kept | with_reducible apply condAllOr_kept | with_reducible apply kept_ite
    | split | dsimp only

theorem pairStarve_kept {start : State} (s : State) (hk : Kept start s) : Kept start (pairStarve s) := by
  unfold pairStarve
  repeat' first
    | with_reducible assumption | with_reducible apply testStarve_kept | with_reducible apply setTest_kept
    | with_reducible apply kept_ite | with_reducible apply kept_ite1 | with_reducible apply kept_ite2 | split
    | dsimp only | with_reducible refine Kept.of_mk ?_ rfl rfl rfl rfl rfl rfl rfl

theorem pairResult_kept {start : State} (s : State) (p : Nat) (failed : Bool) (hk : Kept start s) :
    Kept start (pairResult s p failed) := by
  unfold pairResult
  repeat' first
    | with_reducible assumption | with_reducible apply incOb_kept | with_reducible apply condAllOr_kept
    | with_reducible apply putOb_kept | with_reducible apply clearDet_kept | with_reducible apply kept_ite | split
    | dsimp only | with_reducible refine Kept.of_mk ?_ rfl rfl rfl rfl rfl rfl rfl

theorem setSd_kept {start : State} (s : State) (d : Nat) (x : Demod) (hk : Kept start s) :
    Kept start (setSd s d x) := by
  unfold setSd
  repeat' first
    | with_reducible assumption | with_reducible apply putOb_kept
    | with_reducible refine Kept.of_mk ?_ rfl rfl rfl rfl rfl rfl rfl

theorem sdFault_kept {start : State} (s : State) (d i : Nat) (hk : Kept start s) : Kept start (sdFault s d i) := by
  unfold sdFault
  repeat' first
    | with_reducible assumption | with_reducible apply condAllOr_kept | with_reducible apply incOb_kept

theorem protWindows_kept {start : State} (s : State) (d : Nat) (v : Int) (t : Nat) (hk : Kept start s) :
    Kept start (protWindows s d v t) := by
  unfold protWindows
  repeat' first
    | with_reducible assumption | with_reducible apply winSample_kept | with_reducible apply kept_ite
    | (with_reducible apply kept_foldl; rotate_left; intro _ _ _) | split | dsimp only

theorem sdOutput_kept {start : State} (s : State) (d : Nat) (hk : Kept start s) : Kept start (sdOutput s d) := by
  unfold sdOutput
  repeat' first
    | with_reducible assumption | with_reducible apply setSd_kept | with_reducible apply putOb_kept
    | with_reducible apply incOb_kept | with_reducible apply calSample_kept | with_reducible apply writeChan_kept
    | with_reducible apply kept_ite | split | dsimp only
    | with_reducible refine Kept.of_mk ?_ rfl rfl rfl rfl rfl rfl rfl

theorem sdClock_kept {start : State} (d t : Nat) (s : State) (b : SdBit) (hk : Kept start s) :
    Kept start (sdClock d t s b) := by
  unfold sdClock
  repeat' first
    | with_reducible assumption | with_reducible apply setSd_kept | with_reducible apply clearDet_kept
    | with_reducible apply protWindows_kept | with_reducible apply putOb_kept | with_reducible apply sdOutput_kept
    | with_reducible apply kept_ite | split | dsimp only
    | with_reducible refine Kept.of_mk ?_ rfl rfl rfl rfl rfl rfl rfl

theorem sdClocksIn_kept {start : State} (d per t : Nat) (l : List SdBit) (s : State) (h : Kept start s) :
    Kept start (sdClocksIn d per t l s) := by
  induction l generalizing s with
  | nil => exact h
  | cons b bs ih => exact ih _ (sdClock_kept _ _ _ _ h)

theorem wbSend_kept {start : State} (s : State) (p : Nat) (mac : Option (BitVec 48)) (hk : Kept start s) :
    Kept start (wbSend s p mac) := by
  unfold wbSend
  repeat' first
    | with_reducible assumption | with_reducible apply setWb_kept | with_reducible apply udpSend_kept
    | with_reducible apply canCancel_kept | with_reducible apply canSend_kept | with_reducible apply kept_ite
    | refine kept_fst_of_eq (by assumption) ?_ | refine kept_snd_of_eq (by assumption) ?_ | split | dsimp only
    | with_reducible refine Kept.of_mk ?_ rfl rfl rfl rfl rfl rfl rfl

theorem wbRequest_kept {start : State} (p stamp old new : Nat) (s : State) (b : Nat) (hk : Kept start s) :
    Kept start (wbRequest p stamp old new s b) := by
  unfold wbRequest
  repeat' first
    | with_reducible assumption | with_reducible apply raiseAt_kept | with_reducible apply plumbStart_kept
    | with_reducible apply clearCause_kept | with_reducible apply kept_ite | with_reducible apply kept_ite1
    | with_reducible apply kept_ite2 | (with_reducible apply kept_foldl; rotate_left; intro _ _ _) | split
    | dsimp only | with_reducible refine Kept.of_mk ?_ rfl rfl rfl rfl rfl rfl rfl

theorem wbAccept_leaveLockout_kept {start : State} (s : State) (stamp : Nat) (h : Kept start s) :
    Kept start (wbAccept.leaveLockout s stamp) := by
  unfold wbAccept.leaveLockout
  repeat' first
    | with_reducible assumption | with_reducible apply kept_ite | with_reducible apply kept_ite1
    | with_reducible apply kept_ite2 | (with_reducible apply kept_foldl; rotate_left; intro _ _ _)
    | refine kept_fst_of_eq (by assumption) ?_ | refine kept_snd_of_eq (by assumption) ?_ | split | dsimp only
    | with_reducible refine Kept.of_mk ?_ rfl rfl rfl rfl rfl rfl rfl

theorem wbAccept_kept {start : State} (s : State) (p slot : Nat) (x : WbFrame) (stamp : Nat) (h : Kept start s) :
    Kept start (wbAccept s p slot x stamp) := by
  unfold wbAccept
  repeat' first
    | with_reducible assumption | with_reducible apply wbAccept_leaveLockout_kept | with_reducible apply wbSend_kept
    | with_reducible apply raiseAt_kept | with_reducible apply wbRequest_kept | with_reducible apply clearAll_kept
    | with_reducible apply setWb_kept | with_reducible apply enterBoot_kept | with_reducible apply kept_ite
    | with_reducible apply kept_ite1 | with_reducible apply kept_ite2
    | (with_reducible apply kept_foldl; rotate_left; intro _ _ _) | refine kept_fst_of_eq (by assumption) ?_
    | refine kept_snd_of_eq (by assumption) ?_ | split | dsimp only
    | with_reducible refine Kept.of_mk ?_ rfl rfl rfl rfl rfl rfl rfl

theorem wbConnect_kept {start : State} (s : State) (p k : Nat) (hk : Kept start s) :
    Kept start (wbConnect s p k) := by
  unfold wbConnect
  repeat' first
    | with_reducible assumption | with_reducible apply setWb_kept
    | with_reducible refine Kept.of_mk ?_ rfl rfl rfl rfl rfl rfl rfl

theorem doConnect_kept {start : State} (s : State) (q : QReq) (hk : Kept start s) : Kept start (doConnect s q).1 := by
  unfold doConnect
  repeat' first
    | with_reducible assumption | with_reducible apply wbConnect_kept | with_reducible apply kept_ite
    | with_reducible apply kept_ite1 | with_reducible apply kept_ite2 | refine kept_fst_of_eq (by assumption) ?_
    | refine kept_snd_of_eq (by assumption) ?_ | split | dsimp only
    | with_reducible refine Kept.of_mk ?_ rfl rfl rfl rfl rfl rfl rfl

theorem wbInitiate_kept {start : State} (s : State) (hk : Kept start s) : Kept start (wbInitiate s) := by
  unfold wbInitiate
  repeat' first
    | with_reducible assumption | with_reducible apply incOb_kept | with_reducible apply wbConnect_kept
    | with_reducible apply kept_ite | (with_reducible apply kept_foldl; rotate_left; intro _ _ _)
    | refine kept_fst_of_eq (by assumption) ?_ | refine kept_snd_of_eq (by assumption) ?_ | split | dsimp only
    | with_reducible refine Kept.of_mk ?_ rfl rfl rfl rfl rfl rfl rfl

theorem domainStart_kept {start : State} (s : State) (hk : Kept start s) : Kept start (domainStart s) := by
  unfold domainStart
  repeat' first
    | with_reducible assumption | with_reducible apply restartElems_kept | with_reducible apply rebuild_kept
    | with_reducible apply carrierSync_kept | with_reducible apply coefCheck_kept
    | with_reducible apply parkLimits_kept | with_reducible apply publishAsc_kept
    | with_reducible apply wbInitiate_kept | with_reducible apply ascCheck_kept
    | (with_reducible apply kept_foldl; rotate_left; intro _ _ _) | dsimp only

theorem showFailures_kept {start : State} (s : State) (hk : Kept start s) : Kept start (showFailures s) := by
  unfold showFailures
  repeat' first
    | with_reducible assumption | with_reducible apply putOb_kept
    | with_reducible refine Kept.of_mk ?_ rfl rfl rfl rfl rfl rfl rfl

theorem enqueue_kept {start : State} (s : State) (n : Nat) (stamp : Nat) (xl : Bool) (mac : BitVec 48)
    (p : List Byte) (last : Bool := false) (hk : Kept start s) : Kept start (enqueue s n stamp xl mac p last) := by
  unfold enqueue
  repeat' first
    | with_reducible assumption | with_reducible apply refuse_kept | with_reducible apply kept_ite | split
    | dsimp only | with_reducible refine Kept.of_mk ?_ rfl rfl rfl rfl rfl rfl rfl

theorem dropFrame_kept {start : State} (s : State) (n : Nat) (hk : Kept start s) : Kept start (dropFrame s n) := by
  unfold dropFrame
  repeat' first
    | with_reducible assumption | with_reducible apply setSess_kept | with_reducible apply closeSession_kept
    | with_reducible apply kept_ite | split | dsimp only
    | with_reducible refine Kept.of_mk ?_ rfl rfl rfl rfl rfl rfl rfl

theorem readTake_kept {start : State} (s : State) (idx sub : Nat) (hk : Kept start s) :
    Kept start (readTake s idx sub) := by
  unfold readTake
  repeat' first
    | with_reducible assumption | with_reducible apply kept_ite | split
    | with_reducible refine Kept.of_mk ?_ rfl rfl rfl rfl rfl rfl rfl

theorem setXfer_kept {start : State} (s : State) (n : Nat) (x : Option Xfer) (hk : Kept start s) :
    Kept start (setXfer s n x) := by
  unfold setXfer
  repeat' first
    | with_reducible assumption | with_reducible refine Kept.of_mk ?_ rfl rfl rfl rfl rfl rfl rfl

theorem capReturned_kept {start : State} (s : State) (x : Xfer) (off n : Nat) (hk : Kept start s) :
    Kept start (capReturned s x off n) := by
  unfold capReturned
  repeat' first
    | with_reducible assumption | with_reducible apply kept_ite | split | dsimp only
    | with_reducible refine Kept.of_mk ?_ rfl rfl rfl rfl rfl rfl rfl

theorem sendSegment_kept {start : State} (s : State) (q : QReq) (x : Xfer) (off len : Nat) (hk : Kept start s) :
    Kept start (sendSegment s q x off len) := by
  unfold sendSegment
  repeat' first
    | with_reducible assumption | with_reducible apply setXfer_kept | with_reducible apply capReturned_kept
    | with_reducible apply reply_kept | with_reducible apply kept_ite | refine kept_fst_of_eq (by assumption) ?_
    | refine kept_snd_of_eq (by assumption) ?_ | split | dsimp only
    | with_reducible refine Kept.of_mk ?_ rfl rfl rfl rfl rfl rfl rfl

theorem noteHost_kept {start : State} (s : State) (p : List Byte) (hk : Kept start s) :
    Kept start (noteHost s p) := by
  unfold noteHost
  repeat' first
    | with_reducible assumption | with_reducible apply irq_kept | with_reducible apply kept_ite | split
    | with_reducible refine Kept.of_mk ?_ rfl rfl rfl rfl rfl rfl rfl

theorem notify_kept {start : State} (s : State) (u : Sub) (hk : Kept start s) : Kept start (notify s u) := by
  unfold notify
  repeat' first
    | with_reducible assumption | with_reducible apply noteHost_kept | with_reducible apply sendFrame_kept
    | with_reducible apply kept_ite | refine kept_fst_of_eq (by assumption) ?_
    | refine kept_snd_of_eq (by assumption) ?_ | split | dsimp only
    | with_reducible refine Kept.of_mk ?_ rfl rfl rfl rfl rfl rfl rfl

theorem sendOpen_kept {start : State} (s : State) (x : OpenReq) (session : Nat) (key : Option (BitVec 128))
    (msg : List Byte) (hk : Kept start s) : Kept start (sendOpen s x session key msg) := by
  unfold sendOpen
  repeat' first
    | with_reducible assumption | with_reducible apply answer_kept | with_reducible apply udpSend_kept
    | with_reducible apply canSend_kept | with_reducible apply kept_ite | refine kept_fst_of_eq (by assumption) ?_
    | refine kept_snd_of_eq (by assumption) ?_ | split | dsimp only
    | with_reducible refine Kept.of_mk ?_ rfl rfl rfl rfl rfl rfl rfl

theorem refuseOpen_kept {start : State} (s : State) (x : OpenReq) (key : Option (BitVec 128)) (code : Nat)
    (hk : Kept start s) : Kept start (refuseOpen s x key code) := by
  unfold refuseOpen
  repeat' first
    | with_reducible assumption | with_reducible apply sendOpen_kept

theorem openSlot_kept {start : State} (s : State) (x : OpenReq) (n : Nat) (hk : Kept start s) :
    Kept start (openSlot s x n) := by
  unfold openSlot
  repeat' first
    | with_reducible assumption | with_reducible apply setSess_kept | with_reducible apply kept_ite | split
    | with_reducible refine Kept.of_mk ?_ rfl rfl rfl rfl rfl rfl rfl

theorem openNoSlot_kept {start : State} (s : State) (x : OpenReq) (key : Option (BitVec 128)) (hk : Kept start s) :
    Kept start (openNoSlot s x key) := by
  unfold openNoSlot
  repeat' first
    | with_reducible assumption | with_reducible apply refuseOpen_kept
    | with_reducible refine Kept.of_mk ?_ rfl rfl rfl rfl rfl rfl rfl

theorem hostRestore_kept {start : State} (s : State) (hk : Kept start s) : Kept start (hostRestore s) := by
  unfold hostRestore
  repeat' first
    | with_reducible assumption | with_reducible apply ridgeOut_kept
    | (with_reducible apply kept_foldl; rotate_left; intro _ _ _) | dsimp only

theorem stateRequest_kept {start : State} (s : State) (v : Nat) (hk : Kept start s) :
    Kept start (stateRequest s v).1 := by
  unfold stateRequest
  repeat' first
    | with_reducible assumption | with_reducible apply wbInitiate_kept | with_reducible apply ascCheck_kept
    | with_reducible apply hostRestore_kept | with_reducible apply showFailures_kept
    | with_reducible apply setDev_kept | with_reducible apply kept_ite | with_reducible apply kept_ite1
    | with_reducible apply kept_ite2 | split

theorem timeTick_kept {start : State} (s : State) (hk : Kept start s) : Kept start (timeTick s) := by
  unfold timeTick
  repeat' first
    | with_reducible assumption | with_reducible refine Kept.of_mk ?_ rfl rfl rfl rfl rfl rfl rfl

theorem logMove_kept {start : State} (s : State) (r : Nat) (hk : Kept start s) : Kept start (logMove s r) := by
  unfold logMove
  repeat' first
    | with_reducible assumption | with_reducible apply setRod_kept | dsimp only
    | with_reducible refine Kept.of_mk ?_ rfl rfl rfl rfl rfl rfl rfl

theorem rodsTick_kept {start : State} (s : State) (hk : Kept start s) : Kept start (rodsTick s) := by
  unfold rodsTick
  repeat' first
    | with_reducible assumption | with_reducible apply rodTick_kept | with_reducible apply rodZero_kept
    | with_reducible apply logMove_kept | (with_reducible apply kept_foldl; rotate_left; intro _ _ _) | dsimp only

theorem rodSnoop_kept {start : State} (s : State) (u : Nat) (hk : Kept start s) : Kept start (rodSnoop s u) := by
  unfold rodSnoop
  repeat' first
    | with_reducible assumption | with_reducible apply statWord_kept | with_reducible apply kept_ite | split
    | dsimp only

theorem statTick_kept {start : State} (s' : State) (u : Nat) (hk : Kept start s') : Kept start (statTick s' u) := by
  unfold statTick
  repeat' first
    | with_reducible assumption | with_reducible apply statDue_kept | with_reducible apply setStat_kept
    | with_reducible apply kept_ite | with_reducible apply kept_ite2 | refine kept_fst_of_eq (by assumption) ?_
    | refine kept_snd_of_eq (by assumption) ?_ | split | dsimp only
    | with_reducible refine Kept.of_mk ?_ rfl rfl rfl rfl rfl rfl rfl

theorem winTick_kept {start : State} (s : State) (w : Nat) (hk : Kept start s) : Kept start (winTick s w) := by
  unfold winTick
  repeat' first
    | with_reducible assumption | with_reducible apply winLaneEdge_kept | with_reducible apply setWin_kept
    | with_reducible apply kept_ite | split | dsimp only
    | with_reducible refine Kept.of_mk ?_ rfl rfl rfl rfl rfl rfl rfl

theorem winEnd_kept {start : State} (s : State) (w : Nat) (hk : Kept start s) : Kept start (winEnd s w) := by
  unfold winEnd
  repeat' first
    | with_reducible assumption | with_reducible apply winAdvance_kept | with_reducible apply kept_ite | split

theorem lanesTick_kept {start : State} (s : State) (hk : Kept start s) : Kept start (lanesTick s) := by
  unfold lanesTick
  repeat' first
    | with_reducible assumption | with_reducible apply laneStep_kept
    | (with_reducible apply kept_foldl; rotate_left; intro _ _ _) | dsimp only

theorem outTick_kept {start : State} (s : State) (hk : Kept start s) : Kept start (outTick s) := by
  unfold outTick
  repeat' first
    | with_reducible assumption | with_reducible apply legStep_kept
    | (with_reducible apply kept_foldl; rotate_left; intro _ _ _) | dsimp only

theorem tickEnd_kept {start : State} (s : State) (hk : Kept start s) : Kept start (tickEnd s) := by
  unfold tickEnd
  repeat' first
    | with_reducible assumption | with_reducible apply capDue_kept | with_reducible apply rearm_kept
    | with_reducible apply winEnd_kept | with_reducible apply lanesTick_kept
    | (with_reducible apply kept_foldl; rotate_left; intro _ _ _) | dsimp only

theorem takeUpd_kept {start s t : State} {r : Nat} {u : RodUpd} (h : Kept start s) (he : takeUpd s r = some
    (u, t)) : Kept start t := by
  unfold takeUpd at he
  split at he
  · exact absurd he (by simp)
  · cases he; exact Kept.of_eq h rfl rfl rfl rfl rfl rfl rfl

theorem applyUpd_kept {start : State} (s : State) (r : Nat) (u : RodUpd) (hk : Kept start s) :
    Kept start (applyUpd s r u) := by
  unfold applyUpd
  repeat' first
    | with_reducible assumption | with_reducible apply rodHold_kept | with_reducible apply setRod_kept
    | with_reducible apply incOb_kept | with_reducible apply raiseEv_kept | with_reducible apply kept_ite
    | (with_reducible apply kept_foldl; rotate_left; intro _ _ _) | refine kept_fst_of_eq (by assumption) ?_
    | refine kept_snd_of_eq (by assumption) ?_ | split | dsimp only
    | with_reducible refine Kept.of_mk ?_ rfl rfl rfl rfl rfl rfl rfl

theorem sendFreq_kept {start : State} (s : State) (rod : Nat) (hk : Kept start s) : Kept start (sendFreq s rod) := by
  unfold sendFreq
  repeat' first
    | with_reducible assumption | with_reducible refine Kept.of_mk ?_ rfl rfl rfl rfl rfl rfl rfl

theorem sendFreqAll_kept {start : State} (s : State) (code : Nat) (hk : Kept start s) :
    Kept start (sendFreqAll s code) := by
  unfold sendFreqAll
  repeat' first
    | with_reducible assumption | with_reducible apply sendFreq_kept | with_reducible apply kept_ite
    | (with_reducible apply kept_foldl; rotate_left; intro _ _ _) | split | dsimp only

theorem actWaited_kept {start : State} (s : State) (n : Nat) (m : CommMode) (r : List CommMode)
    (hk : Kept start s) : Kept start (actWaited s n m r) := by
  unfold actWaited
  repeat' first
    | with_reducible assumption | with_reducible apply actEnter_kept | with_reducible apply setAct_kept
    | with_reducible apply kept_ite | split | dsimp only
    | with_reducible refine Kept.of_mk ?_ rfl rfl rfl rfl rfl rfl rfl

theorem pumpOff_kept {start : State} (s : State) (hk : Kept start s) : Kept start (pumpOff s) := by
  unfold pumpOff
  repeat' first
    | with_reducible assumption | with_reducible apply actOffNext_kept | with_reducible apply pumpQuiet_kept

theorem pumpDrive_kept {start : State} (s : State) (v : Rat) (hk : Kept start s) : Kept start (pumpDrive s v) := by
  unfold pumpDrive
  repeat' first
    | with_reducible assumption | with_reducible apply actEnter_kept | with_reducible apply pumpPreset_kept
    | with_reducible apply pumpQuiet_kept

theorem doPark_kept {start : State} (s : State) (q : QReq) (hk : Kept start s) : Kept start (doPark s q).1 := by
  unfold doPark
  repeat' first
    | with_reducible assumption | with_reducible apply parkStart_kept | with_reducible apply kept_ite
    | with_reducible apply kept_ite1 | with_reducible apply kept_ite2 | split | dsimp only

theorem clutchReturned_kept {start : State} (s : State) (hk : Kept start s) : Kept start (clutchReturned s) := by
  unfold clutchReturned
  repeat' first
    | with_reducible assumption | with_reducible apply actOff_kept | with_reducible apply clutchMatchStart_kept
    | with_reducible apply clutchEnd_kept | with_reducible apply kept_ite | split | dsimp only

theorem doClutch_kept {start : State} (s : State) (q : QReq) (hk : Kept start s) : Kept start (doClutch s q).1 := by
  unfold doClutch
  repeat' first
    | with_reducible assumption | with_reducible apply actOff_kept | with_reducible apply clutchMatchStart_kept
    | with_reducible apply putOb_kept | with_reducible apply clutchGo_kept | with_reducible apply clutchTorque_kept
    | with_reducible apply clutchDrive_kept | with_reducible apply clutchRelease_kept
    | with_reducible apply kept_ite | with_reducible apply kept_ite1 | with_reducible apply kept_ite2
    | refine kept_fst_of_eq (by assumption) ?_ | refine kept_snd_of_eq (by assumption) ?_ | split | dsimp only
    | with_reducible refine Kept.of_mk ?_ rfl rfl rfl rfl rfl rfl rfl

theorem sessionOff_kept {start : State} (s : State) (hk : Kept start s) : Kept start (sessionOff s) := by
  unfold sessionOff
  repeat' first
    | with_reducible assumption | with_reducible apply putS2_kept | with_reducible apply relayPre_kept
    | with_reducible apply relayMain_kept | with_reducible apply dabPut_kept | with_reducible apply pfcAll_kept
    | with_reducible apply chgOff_kept | with_reducible apply kept_ite | split

theorem doDabFsw_kept {start : State} (s : State) (q : QReq) (hk : Kept start s) : Kept start (doDabFsw s q).1 := by
  unfold doDabFsw
  repeat' first
    | with_reducible assumption | with_reducible apply putValue_kept | with_reducible apply sendFreqAll_kept
    | with_reducible apply kept_ite | with_reducible apply kept_ite1 | with_reducible apply kept_ite2 | split
    | dsimp only

theorem cnvL3_kept {start : State} (s : State) (hk : Kept start s) : Kept start (cnvL3 s) := by
  unfold cnvL3
  repeat' first
    | with_reducible assumption | with_reducible apply raiseEv_kept

theorem cnvLimits_kept {start : State} (s : State) (hk : Kept start s) : Kept start (cnvLimits s) := by
  unfold cnvLimits
  repeat' first
    | with_reducible assumption | with_reducible apply setCnv_kept | with_reducible apply kept_ite
    | with_reducible apply kept_ite1 | with_reducible apply kept_ite2
    | (with_reducible apply kept_foldl; rotate_left; intro _ _ _) | split | dsimp only
    | with_reducible refine Kept.of_mk ?_ rfl rfl rfl rfl rfl rfl rfl

theorem cnvRamp_kept {start : State} (s : State) (hk : Kept start s) : Kept start (cnvRamp s) := by
  unfold cnvRamp
  repeat' first
    | with_reducible assumption | with_reducible apply setCnv_kept | with_reducible apply kept_ite | split
    | dsimp only | with_reducible refine Kept.of_mk ?_ rfl rfl rfl rfl rfl rfl rfl

theorem cnvRefs_kept {start : State} (s : State) (hk : Kept start s) : Kept start (cnvRefs s) := by
  unfold cnvRefs
  repeat' first
    | with_reducible assumption | with_reducible apply ridgeOut_kept | with_reducible apply kept_ite
    | with_reducible apply kept_ite1 | with_reducible apply kept_ite2 | split | dsimp only

theorem cnvWatch_kept {start : State} (s : State) (hk : Kept start s) : Kept start (cnvWatch s) := by
  unfold cnvWatch
  repeat' first
    | with_reducible assumption | with_reducible apply setCnv_kept | with_reducible apply condRaise_kept
    | with_reducible apply clearDet_kept | with_reducible apply kept_ite | split | dsimp only
    | with_reducible refine Kept.of_mk ?_ rfl rfl rfl rfl rfl rfl rfl

theorem cnvStart_kept {start : State} (s : State) (hk : Kept start s) : Kept start (cnvStart s) := by
  unfold cnvStart
  repeat' first
    | with_reducible assumption | with_reducible apply setCnv_kept | with_reducible apply sendFreqAll_kept
    | with_reducible apply dcxPut_kept | with_reducible apply presetBrace_kept | with_reducible apply kept_ite
    | with_reducible apply kept_ite1 | with_reducible apply kept_ite2 | split | dsimp only
    | with_reducible refine Kept.of_mk ?_ rfl rfl rfl rfl rfl rfl rfl

theorem doDcxFsw_kept {start : State} (s : State) (q : QReq) (hk : Kept start s) : Kept start (doDcxFsw s q).1 := by
  unfold doDcxFsw
  repeat' first
    | with_reducible assumption | with_reducible apply putValue_kept | with_reducible apply sendFreqAll_kept
    | with_reducible apply kept_ite | with_reducible apply kept_ite1 | with_reducible apply kept_ite2 | split
    | dsimp only

theorem grantTo_kept {start : State} (s : State) (idx sub : Nat) (v : Rat) (hk : Kept start s) :
    Kept start (grantTo s idx sub v) := by
  unfold grantTo
  repeat' first
    | with_reducible assumption | with_reducible apply ridgeOut_kept | with_reducible apply kept_ite | split
    | dsimp only

theorem regenPut_kept {start : State} (s : State) (idx sub : Nat) (v fromW : Rat) (hk : Kept start s) :
    Kept start (regenPut s idx sub v fromW) := by
  unfold regenPut
  repeat' first
    | with_reducible assumption | with_reducible apply grantTo_kept | with_reducible apply ridgeOut_kept
    | with_reducible apply kept_ite | split | dsimp only

theorem axleEval_kept {start : State} (s : State) (hk : Kept start s) : Kept start (axleEval s) := by
  unfold axleEval
  repeat' first
    | with_reducible assumption | with_reducible apply grantTo_kept | with_reducible apply regenPut_kept
    | with_reducible apply putOb_kept | with_reducible apply kept_ite | with_reducible apply kept_ite1
    | with_reducible apply kept_ite2 | split | dsimp only
    | with_reducible refine Kept.of_mk ?_ rfl rfl rfl rfl rfl rfl rfl

theorem powerUp_kept {start : State} (s : State) (hk : Kept start s) : Kept start (powerUp s) := by
  unfold powerUp
  repeat' first
    | with_reducible assumption | with_reducible refine Kept.of_mk ?_ rfl rfl rfl rfl rfl rfl rfl

theorem campLoad_kept {start : State} (s : State) (us : Nat) (hk : Kept start s) : Kept start (campLoad s us) := by
  unfold campLoad
  repeat' first
    | with_reducible assumption | with_reducible apply kept_ite | with_reducible apply kept_ite1
    | with_reducible apply kept_ite2 | split | dsimp only
    | with_reducible refine Kept.of_mk ?_ rfl rfl rfl rfl rfl rfl rfl

theorem putCheck_kept {start : State} (s : State) (b : Nat) (hk : Kept start s) : Kept start (putCheck s b) := by
  unfold putCheck
  repeat' first
    | with_reducible assumption | with_reducible apply putOb_kept

theorem countRestore_kept {start : State} (s : State) (hk : Kept start s) : Kept start (countRestore s) := by
  unfold countRestore
  repeat' first
    | with_reducible assumption | with_reducible apply kept_ite | refine kept_fst_of_eq (by assumption) ?_
    | refine kept_snd_of_eq (by assumption) ?_ | split | dsimp only
    | with_reducible refine Kept.of_mk ?_ rfl rfl rfl rfl rfl rfl rfl

theorem mramCorrected_kept {start : State} (s : State) (n : Nat) (hk : Kept start s) :
    Kept start (mramCorrected s n) := by
  unfold mramCorrected
  repeat' first
    | with_reducible assumption | with_reducible apply raiseEv_kept | with_reducible apply kept_ite | split
    | with_reducible refine Kept.of_mk ?_ rfl rfl rfl rfl rfl rfl rfl

theorem cfgFaults_kept {start : State} (s : State) (bs : List Nat) (hk : Kept start s) :
    Kept start (cfgFaults s bs) := by
  unfold cfgFaults
  repeat' first
    | with_reducible assumption | with_reducible apply raiseAllOr_kept
    | (with_reducible apply kept_foldl; rotate_left; intro _ _ _) | dsimp only

theorem enterPreop_kept {start : State} (s : State) (hk : Kept start s) : Kept start (enterPreop s) := by
  unfold enterPreop
  repeat' first
    | with_reducible assumption | with_reducible apply putOb_kept | with_reducible apply showFailures_kept
    | with_reducible apply domainStart_kept | with_reducible apply setDev_kept | dsimp only
    | with_reducible refine Kept.of_mk ?_ rfl rfl rfl rfl rfl rfl rfl

theorem checkFaults_kept {start : State} (s : State) (x : CheckFind) (blank standby chk : Bool)
    (hk : Kept start s) : Kept start (checkFaults s x blank standby chk) := by
  unfold checkFaults
  repeat' first
    | with_reducible assumption | with_reducible apply raiseAll_kept | with_reducible apply raiseEv_kept
    | with_reducible apply mramCorrected_kept | with_reducible apply cfgFaults_kept
    | with_reducible apply raiseAllOr_kept | with_reducible apply kept_ite
    | (with_reducible apply kept_foldl; rotate_left; intro _ _ _) | split | dsimp only

theorem leaveLockout_kept {start : State} (s : State) (by_ : Nat) (hk : Kept start s) :
    Kept start (leaveLockout s by_) := by
  unfold leaveLockout
  repeat' first
    | with_reducible assumption | with_reducible apply kept_ite | with_reducible apply kept_ite1
    | with_reducible apply kept_ite2 | refine kept_fst_of_eq (by assumption) ?_
    | refine kept_snd_of_eq (by assumption) ?_ | split | dsimp only
    | with_reducible refine Kept.of_mk ?_ rfl rfl rfl rfl rfl rfl rfl

theorem lostCrystal_kept {start : State} (s : State) (hk : Kept start s) : Kept start (lostCrystal s) := by
  unfold lostCrystal
  repeat' first
    | with_reducible assumption | with_reducible apply raiseEv_kept | with_reducible apply kept_ite | split
    | with_reducible refine Kept.of_mk ?_ rfl rfl rfl rfl rfl rfl rfl

theorem doShore_kept {start : State} (s : State) (q : QReq) (hk : Kept start s) : Kept start (doShore s q).1 := by
  unfold doShore
  repeat' first
    | with_reducible assumption | with_reducible apply stopUnheld_kept | with_reducible apply parkLeft_kept
    | with_reducible apply setFn_kept | with_reducible apply kept_ite | with_reducible apply kept_ite1
    | with_reducible apply kept_ite2 | refine kept_fst_of_eq (by assumption) ?_
    | refine kept_snd_of_eq (by assumption) ?_ | split | dsimp only
    | with_reducible refine Kept.of_mk ?_ rfl rfl rfl rfl rfl rfl rfl

theorem completeShore_kept {start : State} (s : State) (b : Nat) (hk : Kept start s) :
    Kept start (completeShore s b) := by
  unfold completeShore
  repeat' first
    | with_reducible assumption | with_reducible apply ridgeStale_kept | with_reducible apply stopElems_kept
    | with_reducible apply setRod_kept | with_reducible apply clearBlock_kept | with_reducible apply reply_kept
    | with_reducible apply kept_ite | with_reducible apply kept_ite2
    | (with_reducible apply kept_foldl; rotate_left; intro _ _ _) | refine kept_fst_of_eq (by assumption) ?_
    | refine kept_snd_of_eq (by assumption) ?_ | split | dsimp only
    | with_reducible refine Kept.of_mk ?_ rfl rfl rfl rfl rfl rfl rfl

theorem putResult_kept {start : State} (s : State) (c : Nat) (hk : Kept start s) : Kept start (putResult s c) := by
  unfold putResult
  repeat' first
    | with_reducible assumption | with_reducible apply putOb_kept

theorem checkOp_kept {start : State} (s : State) (o : StrikeOp) (hk : Kept start s) : Kept start (checkOp s o).1 := by
  unfold checkOp
  repeat' first
    | with_reducible assumption | with_reducible apply putOb_kept | with_reducible apply kept_ite
    | with_reducible apply kept_ite1 | with_reducible apply kept_ite2 | split | dsimp only

theorem startOps_kept {start : State} (n : Nat) (s : State) (h : Kept start s) : Kept start (startOps n s) := by
  induction n generalizing s with
  | zero => exact h
  | succ n ih =>
    unfold startOps
    repeat' first
      | with_reducible assumption | with_reducible apply ih | with_reducible apply checkOp_kept
      | with_reducible apply putResult_kept | with_reducible apply refuse_kept | with_reducible apply kept_ite
      | with_reducible apply kept_ite1 | with_reducible apply kept_ite2
      | (with_reducible apply kept_foldl; rotate_left; intro _ _ _) | refine kept_fst_of_eq (by assumption) ?_
      | refine kept_snd_of_eq (by assumption) ?_ | split | dsimp only
      | with_reducible refine Kept.of_mk ?_ rfl rfl rfl rfl rfl rfl rfl

theorem doOp_kept {start : State} (abandon : Bool) (s : State) (q : QReq) (hk : Kept start s) :
    Kept start (doOp abandon s q).1 := by
  unfold doOp
  repeat' first
    | with_reducible assumption | with_reducible apply putResult_kept | with_reducible apply startOps_kept
    | with_reducible apply kept_ite | with_reducible apply kept_ite1 | with_reducible apply kept_ite2 | split
    | dsimp only | with_reducible refine Kept.of_mk ?_ rfl rfl rfl rfl rfl rfl rfl

theorem releaseOp_kept {start : State} (s : State) (o : StrikeOp) (rest : List StrikeOp) (hk : Kept start s) :
    Kept start (releaseOp s o rest) := by
  unfold releaseOp
  repeat' first
    | with_reducible assumption | with_reducible apply abortTk_kept | with_reducible apply afterRelease_kept
    | with_reducible apply clearBlock_kept | with_reducible apply releaseBlocks_kept
    | with_reducible apply putOb_kept | with_reducible apply putResult_kept | with_reducible apply reply_kept
    | with_reducible apply startOps_kept | with_reducible apply kept_ite | with_reducible apply kept_ite1
    | with_reducible apply kept_ite2 | (with_reducible apply kept_foldl; rotate_left; intro _ _ _) | split
    | dsimp only | with_reducible refine Kept.of_mk ?_ rfl rfl rfl rfl rfl rfl rfl

theorem noteStored_kept {start : State} (s : State) (b : Nat) (hk : Kept start s) : Kept start (noteStored s b) := by
  unfold noteStored
  repeat' first
    | with_reducible assumption | with_reducible refine Kept.of_mk ?_ rfl rfl rfl rfl rfl rfl rfl

theorem persistBlock_kept {start : State} (accs : List Acc) (s : State) (b : Nat) (hk : Kept start s) :
    Kept start (persistBlock accs s b) := by
  unfold persistBlock
  repeat' first
    | with_reducible assumption | with_reducible apply noteStored_kept | with_reducible apply persistCell_kept
    | (with_reducible apply kept_foldl; rotate_left; intro _ _ _) | dsimp only

theorem persistStruck_kept {start : State} (s : State) (p : List Nat × Tab Cell) (hk : Kept start s) :
    Kept start (persistStruck s p) := by
  unfold persistStruck
  repeat' first
    | with_reducible assumption | with_reducible apply noteStored_kept | with_reducible apply persistCell_kept
    | (with_reducible apply kept_foldl; rotate_left; intro _ _ _) | dsimp only

theorem persistDevice_kept {start : State} (s : State) (hk : Kept start s) : Kept start (persistDevice s) := by
  unfold persistDevice
  repeat' first
    | with_reducible assumption | with_reducible apply persistAt_kept | with_reducible apply kept_ite
    | with_reducible apply kept_ite1 | (with_reducible apply kept_foldl; rotate_left; intro _ _ _) | split
    | dsimp only | with_reducible refine Kept.of_mk ?_ rfl rfl rfl rfl rfl rfl rfl

theorem doStore_kept {start : State} (s : State) (q : QReq) (hk : Kept start s) : Kept start (doStore s q).1 := by
  unfold doStore
  repeat' first
    | with_reducible assumption | with_reducible apply persistDevice_kept | with_reducible apply persistBlock_kept
    | with_reducible apply kept_ite | with_reducible apply kept_ite1 | with_reducible apply kept_ite2 | split
    | dsimp only

theorem doRestore_kept {start : State} (s : State) (q : QReq) (hk : Kept start s) : Kept start (doRestore s q).1 := by
  unfold doRestore
  repeat' first
    | with_reducible assumption | with_reducible apply kept_ite | with_reducible apply kept_ite1
    | with_reducible apply kept_ite2 | (with_reducible apply kept_foldl; rotate_left; intro _ _ _)
    | refine kept_fst_of_eq (by assumption) ?_ | refine kept_snd_of_eq (by assumption) ?_ | split | dsimp only
    | with_reducible refine Kept.of_mk ?_ rfl rfl rfl rfl rfl rfl rfl

theorem setCamp_kept {start : State} (s : State) (f : Camp → Camp) (hk : Kept start s) :
    Kept start (setCamp s f) := by
  unfold setCamp
  repeat' first
    | with_reducible assumption | with_reducible refine Kept.of_mk ?_ rfl rfl rfl rfl rfl rfl rfl

theorem doCampEnter_kept {start : State} (s : State) (_q : QReq) (hk : Kept start s) :
    Kept start (doCampEnter s _q).1 := by
  unfold doCampEnter
  repeat' first
    | with_reducible assumption | with_reducible apply setCamp_kept | with_reducible apply kept_ite
    | with_reducible apply kept_ite1 | with_reducible apply kept_ite2 | split | dsimp only
    | with_reducible refine Kept.of_mk ?_ rfl rfl rfl rfl rfl rfl rfl

theorem campClose_kept {start : State} (s : State) (hk : Kept start s) : Kept start (campClose s) := by
  unfold campClose
  repeat' first
    | with_reducible assumption | with_reducible apply closeSession_kept | with_reducible apply releaseBlocks_kept
    | with_reducible apply persistStruck_kept | (with_reducible apply kept_foldl; rotate_left; intro _ _ _)
    | dsimp only | with_reducible refine Kept.of_mk ?_ rfl rfl rfl rfl rfl rfl rfl

theorem campAbandon_kept {start : State} (s : State) (result : Nat) (hk : Kept start s) :
    Kept start (campAbandon s result) := by
  unfold campAbandon
  repeat' first
    | with_reducible assumption | with_reducible apply raiseEv_kept | with_reducible apply setCamp_kept | dsimp only
    | with_reducible refine Kept.of_mk ?_ rfl rfl rfl rfl rfl rfl rfl

theorem campWakeUp_kept {start : State} (s : State) (x : WakeEv) (hk : Kept start s) :
    Kept start (campWakeUp s x) := by
  unfold campWakeUp
  repeat' first
    | with_reducible assumption | with_reducible apply setCamp_kept | with_reducible apply powerUp_kept
    | with_reducible apply kept_ite | with_reducible apply kept_ite1 | with_reducible apply kept_ite2
    | (with_reducible apply kept_foldl; rotate_left; intro _ _ _) | split | dsimp only
    | with_reducible refine Kept.of_mk ?_ rfl rfl rfl rfl rfl rfl rfl

theorem toCamp_kept {start : State} (s : State) (rcps : Nat) (hk : Kept start s) : Kept start (toCamp s rcps) := by
  unfold toCamp
  repeat' first
    | with_reducible assumption | with_reducible apply bootState_kept | dsimp only
    | with_reducible refine Kept.of_mk ?_ rfl rfl rfl rfl rfl rfl rfl

theorem campArm_kept {start : State} (s : State) (hk : Kept start s) : Kept start (campArm s) := by
  unfold campArm
  repeat' first
    | with_reducible assumption | with_reducible apply setCamp_kept | dsimp only
    | with_reducible refine Kept.of_mk ?_ rfl rfl rfl rfl rfl rfl rfl

theorem setLoop_kept {start : State} (s : State) (l : Nat) (x : Loop) (hk : Kept start s) :
    Kept start (setLoop s l x) := by
  unfold setLoop
  repeat' first
    | with_reducible assumption | with_reducible refine Kept.of_mk ?_ rfl rfl rfl rfl rfl rfl rfl

theorem kept_foldl1 {β γ : Type} {a : State} (f : State × γ → β → State × γ) (l : List β) (s : State × γ) (h : Kept a s.1)
    (hf : ∀ t x, Kept a t.1 → Kept a (f t x).1) : Kept a (l.foldl f s).1 := by
  induction l generalizing s with
  | nil => exact h
  | cons x xs ih => exact ih _ (hf _ _ h)

theorem dueLoops_kept {start : State} (n : Nat) (s : State) (l : Nat) (h : Kept start s) :
    Kept start (dueLoops n s l).1 := by
  induction n generalizing s l with
  | zero => exact h
  | succ n ih =>
    unfold dueLoops
    refine kept_foldl1 _ _ _ h (fun t x ht => ?_)
    repeat' first
      | with_reducible assumption | with_reducible apply ih | with_reducible apply setLoop_kept
      | with_reducible apply kept_ite | with_reducible apply kept_ite1 | with_reducible apply kept_ite2
      | (with_reducible apply kept_foldl; rotate_left; intro _ _ _) | refine kept_fst_of_eq (by assumption) ?_
      | refine kept_snd_of_eq (by assumption) ?_ | split | dsimp only
      | with_reducible refine Kept.of_mk ?_ rfl rfl rfl rfl rfl rfl rfl

theorem countEvals_kept {start : State} (s : State) (n : Nat) (hk : Kept start s) : Kept start (countEvals s n) := by
  unfold countEvals
  repeat' first
    | with_reducible assumption | with_reducible apply kept_ite | split | dsimp only
    | with_reducible refine Kept.of_mk ?_ rfl rfl rfl rfl rfl rfl rfl

theorem respRow_kept {start : State} (s : State) (l trig : Nat) (hk : Kept start s) :
    Kept start (respRow s l trig) := by
  unfold respRow
  repeat' first
    | with_reducible assumption | with_reducible apply kept_ite | with_reducible apply kept_ite1
    | with_reducible apply kept_ite2 | (with_reducible apply kept_foldl; rotate_left; intro _ _ _) | split
    | dsimp only | with_reducible refine Kept.of_mk ?_ rfl rfl rfl rfl rfl rfl rfl

theorem respInject_kept {start : State} (before s : State) (hk : Kept start s) :
    Kept start (respInject before s) := by
  unfold respInject
  repeat' first
    | with_reducible assumption | with_reducible apply kept_ite | split
    | with_reducible refine Kept.of_mk ?_ rfl rfl rfl rfl rfl rfl rfl

theorem loopBefore_kept {start : State} (s : State) (l : Nat) (hk : Kept start s) : Kept start (loopBefore s l) := by
  unfold loopBefore
  repeat' first
    | with_reducible assumption | with_reducible apply clampStage_kept | with_reducible apply kept_ite | split

theorem loopAfter_kept {start : State} (s : State) (l : Nat) (hk : Kept start s) : Kept start (loopAfter s l) := by
  unfold loopAfter
  repeat' first
    | with_reducible assumption | with_reducible apply drvAfter_kept | with_reducible apply dutyStage_kept
    | with_reducible apply cnvDutyStage_kept | with_reducible apply kept_ite
    | refine kept_fst_of_eq (by assumption) ?_ | refine kept_snd_of_eq (by assumption) ?_ | split | dsimp only
    | with_reducible refine Kept.of_mk ?_ rfl rfl rfl rfl rfl rfl rfl

theorem loopEval_kept {start : State} (trig : Nat) (s : State) (l : Nat) (hk : Kept start s) :
    Kept start (loopEval trig s l) := by
  unfold loopEval
  repeat' first
    | with_reducible assumption | with_reducible apply memberEval_kept | with_reducible apply loopBefore_kept
    | with_reducible apply countEvals_kept | with_reducible apply incOb_kept | with_reducible apply loopAfter_kept
    | with_reducible apply respRow_kept | with_reducible apply respInject_kept
    | (with_reducible apply kept_foldl; rotate_left; intro _ _ _) | dsimp only

theorem loopMiss_kept {start : State} (s : State) (l : Nat) (hk : Kept start s) : Kept start (loopMiss s l) := by
  unfold loopMiss
  repeat' first
    | with_reducible assumption | with_reducible apply memberMiss_kept
    | (with_reducible apply kept_foldl; rotate_left; intro _ _ _)

theorem macPublish_kept {start : State} (s : State) (hk : Kept start s) : Kept start (macPublish s) := by
  unfold macPublish
  repeat' first
    | with_reducible assumption | with_reducible apply setLoop_kept | with_reducible apply putOb_kept
    | with_reducible apply kept_ite | with_reducible apply kept_ite1 | with_reducible apply kept_ite2
    | (with_reducible apply kept_foldl; rotate_left; intro _ _ _) | split | dsimp only
    | with_reducible refine Kept.of_mk ?_ rfl rfl rfl rfl rfl rfl rfl

theorem macStart_kept {start : State} (s : State) (j : MacJob) (hk : Kept start s) : Kept start (macStart s j) := by
  unfold macStart
  repeat' first
    | with_reducible assumption | with_reducible apply macPublish_kept | dsimp only
    | with_reducible refine Kept.of_mk ?_ rfl rfl rfl rfl rfl rfl rfl

theorem macTest_kept {start : State} (s : State) (lane : Nat) (hk : Kept start s) : Kept start (macTest s lane) := by
  unfold macTest
  repeat' first
    | with_reducible assumption | with_reducible apply macStart_kept
    | with_reducible refine Kept.of_mk ?_ rfl rfl rfl rfl rfl rfl rfl

theorem loopDrop_kept {start : State} (s : State) (l : Nat) (hk : Kept start s) : Kept start (loopDrop s l) := by
  unfold loopDrop
  repeat' first
    | with_reducible assumption | with_reducible apply loopMiss_kept | with_reducible apply setLoop_kept
    | with_reducible apply condRaise_kept | with_reducible apply kept_ite | refine kept_fst_of_eq (by assumption) ?_
    | refine kept_snd_of_eq (by assumption) ?_ | split | dsimp only
    | with_reducible refine Kept.of_mk ?_ rfl rfl rfl rfl rfl rfl rfl

theorem loopTaken_kept {start : State} (s : State) (l : Nat) (hk : Kept start s) : Kept start (loopTaken s l) := by
  unfold loopTaken
  repeat' first
    | with_reducible assumption | with_reducible apply setLoop_kept | with_reducible apply clearDet_kept
    | with_reducible refine Kept.of_mk ?_ rfl rfl rfl rfl rfl rfl rfl

theorem loopEvent_kept {start : State} (s : State) (l trig : Nat) (hk : Kept start s) :
    Kept start (loopEvent s l trig) := by
  unfold loopEvent
  repeat' first
    | with_reducible assumption | with_reducible apply dueLoops_kept | with_reducible apply incOb_kept
    | with_reducible apply loopDrop_kept | with_reducible apply loopTaken_kept | with_reducible apply loopEval_kept
    | with_reducible apply macStart_kept | with_reducible apply setLoop_kept | with_reducible apply kept_ite
    | with_reducible apply kept_ite1 | with_reducible apply kept_ite2
    | (with_reducible apply kept_foldl; rotate_left; intro _ _ _) | split | dsimp only
    | with_reducible refine Kept.of_mk ?_ rfl rfl rfl rfl rfl rfl rfl

theorem doCoef_kept {start : State} (i bank k : Nat) (s : State) (q : QReq) (hk : Kept start s) :
    Kept start (doCoef i bank k s q).1 := by
  unfold doCoef
  repeat' first
    | with_reducible assumption | with_reducible apply putValue_kept | with_reducible apply coefCheck_kept
    | with_reducible apply kept_ite | with_reducible apply kept_ite1 | with_reducible apply kept_ite2 | split
    | dsimp only

theorem doSelect_kept {start : State} (i : Nat) (s : State) (q : QReq) (hk : Kept start s) :
    Kept start (doSelect i s q).1 := by
  unfold doSelect
  repeat' first
    | with_reducible assumption | with_reducible apply putValue_kept | with_reducible apply presetBrace_kept
    | with_reducible apply kept_ite | with_reducible apply kept_ite1 | with_reducible apply kept_ite2 | split
    | dsimp only

theorem doPreset_kept {start : State} (i : Nat) (s : State) (q : QReq) (hk : Kept start s) :
    Kept start (doPreset i s q).1 := by
  unfold doPreset
  repeat' first
    | with_reducible assumption | with_reducible apply presetBrace_kept

theorem doInject_kept {start : State} (s : State) (q : QReq) (hk : Kept start s) : Kept start (doInject s q).1 := by
  unfold doInject
  repeat' first
    | with_reducible assumption | with_reducible apply kept_ite | with_reducible apply kept_ite1
    | with_reducible apply kept_ite2 | refine kept_fst_of_eq (by assumption) ?_
    | refine kept_snd_of_eq (by assumption) ?_ | split | dsimp only
    | with_reducible refine Kept.of_mk ?_ rfl rfl rfl rfl rfl rfl rfl

theorem doResp_kept {start : State} (s : State) (q : QReq) (hk : Kept start s) : Kept start (doResp s q).1 := by
  unfold doResp
  repeat' first
    | with_reducible assumption | with_reducible apply kept_ite | with_reducible apply kept_ite1
    | with_reducible apply kept_ite2 | split | dsimp only
    | with_reducible refine Kept.of_mk ?_ rfl rfl rfl rfl rfl rfl rfl

theorem doDirection_kept {start : State} (x : Drv) (s : State) (q : QReq) (hk : Kept start s) :
    Kept start (doDirection x s q).1 := by
  unfold doDirection
  repeat' first
    | with_reducible assumption | with_reducible apply putValue_kept | with_reducible apply kept_ite
    | with_reducible apply kept_ite1 | with_reducible apply kept_ite2 | split | dsimp only

theorem manFresh_kept {start : State} (s : State) (m : Nat) (x : Manif) (hk : Kept start s) :
    Kept start (manFresh s m x) := by
  unfold manFresh
  repeat' first
    | with_reducible assumption | with_reducible apply setMan_kept | dsimp only
    | with_reducible refine Kept.of_mk ?_ rfl rfl rfl rfl rfl rfl rfl

theorem doManEnable_kept {start : State} (s : State) (q : QReq) (hk : Kept start s) :
    Kept start (doManEnable s q).1 := by
  unfold doManEnable
  repeat' first
    | with_reducible assumption | with_reducible apply manFresh_kept | with_reducible apply putOb_kept
    | with_reducible apply kept_ite | with_reducible apply kept_ite1 | with_reducible apply kept_ite2 | split
    | dsimp only | with_reducible refine Kept.of_mk ?_ rfl rfl rfl rfl rfl rfl rfl

theorem manSend_kept {start : State} (s : State) (m : Nat) (x : Session) (bs : List Byte) (hk : Kept start s) :
    Kept start (manSend s m x bs) := by
  unfold manSend
  repeat' first
    | with_reducible assumption | with_reducible apply udpSend_kept | with_reducible apply manLate_kept
    | with_reducible apply canCancel_kept | with_reducible apply canSend_kept | with_reducible apply kept_ite
    | refine kept_fst_of_eq (by assumption) ?_ | refine kept_snd_of_eq (by assumption) ?_ | split | dsimp only
    | with_reducible refine Kept.of_mk ?_ rfl rfl rfl rfl rfl rfl rfl

theorem manTake_kept {start : State} (s : State) (m : Nat) (e : Nat × Nat × List Byte) (hk : Kept start s) :
    Kept start (manTake s m e) := by
  unfold manTake
  repeat' first
    | with_reducible assumption | with_reducible apply setMan_kept | with_reducible apply incOb_kept
    | with_reducible apply kept_ite | with_reducible apply kept_ite1 | with_reducible apply kept_ite2 | split
    | dsimp only | with_reducible refine Kept.of_mk ?_ rfl rfl rfl rfl rfl rfl rfl

theorem drvArm_kept {start : State} (s : State) (x : Drv) (hk : Kept start s) : Kept start (drvArm s x) := by
  unfold drvArm
  repeat' first
    | with_reducible assumption | with_reducible apply setDrv_kept | with_reducible apply bandPut_kept | dsimp only
    | with_reducible refine Kept.of_mk ?_ rfl rfl rfl rfl rfl rfl rfl

theorem armEffect_kept {start : State} (s : State) (f : Fn) (hk : Kept start s) : Kept start (armEffect s f) := by
  unfold armEffect
  repeat' first
    | with_reducible assumption | with_reducible apply drvArm_kept | with_reducible apply sendFreqAll_kept
    | with_reducible apply pfcCarrier_kept | with_reducible apply buckCarrier_kept
    | with_reducible apply setCnv_kept | with_reducible apply setAct_kept | refine kept_fst_of_eq (by assumption) ?_
    | refine kept_snd_of_eq (by assumption) ?_ | split | dsimp only
    | with_reducible refine Kept.of_mk ?_ rfl rfl rfl rfl rfl rfl rfl

theorem doArm_kept {start : State} (s : State) (f : Fn) (hk : Kept start s) : Kept start (doArm s f).1 := by
  unfold doArm
  repeat' first
    | with_reducible assumption | with_reducible apply armEffect_kept | with_reducible apply setFn_kept
    | with_reducible apply kept_ite | with_reducible apply kept_ite1 | with_reducible apply kept_ite2 | split

theorem doRun_kept {start : State} (s : State) (f : Fn) (hk : Kept start s) : Kept start (doRun s f).1 := by
  unfold doRun
  repeat' first
    | with_reducible assumption | with_reducible apply drvStart_kept | with_reducible apply startSession_kept
    | with_reducible apply sessionOver_kept | with_reducible apply chgOff_kept | with_reducible apply cnvStart_kept
    | with_reducible apply setFn_kept | with_reducible apply kept_ite | with_reducible apply kept_ite1
    | with_reducible apply kept_ite2 | refine kept_fst_of_eq (by assumption) ?_
    | refine kept_snd_of_eq (by assumption) ?_ | split | dsimp only
    | with_reducible refine Kept.of_mk ?_ rfl rfl rfl rfl rfl rfl rfl

theorem drvStop_kept {start : State} (s : State) (x : Drv) (idle : Bool) (hk : Kept start s) :
    Kept start (drvStop s x idle) := by
  unfold drvStop
  repeat' first
    | with_reducible assumption | with_reducible apply setDrv_kept
    | with_reducible refine Kept.of_mk ?_ rfl rfl rfl rfl rfl rfl rfl

theorem actStop_kept {start : State} (s : State) (n : Nat) (after : FnSt) (hk : Kept start s) :
    Kept start (actStop s n after) := by
  unfold actStop
  repeat' first
    | with_reducible assumption | with_reducible apply actOffNext_kept | with_reducible apply actSeqEnd_kept
    | with_reducible apply setFn_kept

theorem stopRun_kept {start : State} (s : State) (f : Fn) (idle : Bool) (hk : Kept start s) :
    Kept start (stopRun s f idle) := by
  unfold stopRun
  repeat' first
    | with_reducible assumption | with_reducible apply drvStop_kept | with_reducible apply chgStop_kept
    | with_reducible apply setChg_kept | with_reducible apply cnvStop_kept | with_reducible apply setCnv_kept
    | with_reducible apply actStop_kept | with_reducible apply kept_ite | refine kept_fst_of_eq (by assumption) ?_
    | refine kept_snd_of_eq (by assumption) ?_ | split | dsimp only
    | with_reducible refine Kept.of_mk ?_ rfl rfl rfl rfl rfl rfl rfl

theorem doStop_kept {start : State} (s : State) (f : Fn) (hk : Kept start s) : Kept start (doStop s f) := by
  unfold doStop
  repeat' first
    | with_reducible assumption | with_reducible apply stopRun_kept | with_reducible apply kept_ite | split

theorem doDisarm_kept {start : State} (s : State) (f : Fn) (hk : Kept start s) : Kept start (doDisarm s f) := by
  unfold doDisarm
  repeat' first
    | with_reducible assumption | with_reducible apply stopRun_kept | with_reducible apply setFn_kept
    | with_reducible apply kept_ite | split

theorem doCommand_kept {start : State} (f : Fn) (s : State) (q : QReq) (hk : Kept start s) :
    Kept start (doCommand f s q).1 := by
  unfold doCommand
  repeat' first
    | with_reducible assumption | with_reducible apply doArm_kept | with_reducible apply doRun_kept
    | with_reducible apply doStop_kept | with_reducible apply doDisarm_kept | with_reducible apply kept_ite
    | with_reducible apply kept_ite1 | with_reducible apply kept_ite2 | split | dsimp only

theorem putPtp_kept {start : State} (s : State) (hk : Kept start s) : Kept start (putPtp s) := by
  unfold putPtp
  repeat' first
    | with_reducible assumption | with_reducible apply putOb_kept

theorem linkDown_kept {start : State} (s : State) (hk : Kept start s) : Kept start (linkDown s) := by
  unfold linkDown
  repeat' first
    | with_reducible assumption | with_reducible apply putPtp_kept
    | with_reducible refine Kept.of_mk ?_ rfl rfl rfl rfl rfl rfl rfl

theorem doMdio_kept {start : State} (answer : Option (Option Nat)) (s : State) (q : QReq) (hk : Kept start s) :
    Kept start (doMdio answer s q).1 := by
  unfold doMdio
  repeat' first
    | with_reducible assumption | with_reducible apply freshWord_kept | with_reducible apply answer_kept
    | with_reducible apply putOb_kept | with_reducible apply kept_ite | with_reducible apply kept_ite1
    | with_reducible apply kept_ite2 | refine kept_fst_of_eq (by assumption) ?_
    | refine kept_snd_of_eq (by assumption) ?_ | split | dsimp only
    | with_reducible refine Kept.of_mk ?_ rfl rfl rfl rfl rfl rfl rfl

theorem arpLearn_kept {start : State} (s : State) (ip : Word) (mac : BitVec 48) (hk : Kept start s) :
    Kept start (arpLearn s ip mac) := by
  unfold arpLearn
  repeat' first
    | with_reducible assumption | with_reducible apply freshWord_kept | with_reducible apply kept_ite
    | with_reducible apply kept_ite1 | with_reducible apply kept_ite2 | split | dsimp only
    | with_reducible refine Kept.of_mk ?_ rfl rfl rfl rfl rfl rfl rfl

theorem arpRelease_kept {start : State} (s : State) (ip : Word) (mac : BitVec 48) (hk : Kept start s) :
    Kept start (arpRelease s ip mac) := by
  unfold arpRelease
  repeat' first
    | with_reducible assumption | with_reducible apply ethPush_kept | refine kept_fst_of_eq (by assumption) ?_
    | refine kept_snd_of_eq (by assumption) ?_ | split | dsimp only
    | with_reducible refine Kept.of_mk ?_ rfl rfl rfl rfl rfl rfl rfl

theorem setCorr_kept {start : State} (s : State) (integ corr : Int) (hk : Kept start s) :
    Kept start (setCorr s integ corr) := by
  unfold setCorr
  repeat' first
    | with_reducible assumption | with_reducible apply putOb_kept
    | with_reducible refine Kept.of_mk ?_ rfl rfl rfl rfl rfl rfl rfl

theorem timeUpdate_kept {start : State} (s : State) (r d : Int) (t : Rat) (hk : Kept start s) :
    Kept start (timeUpdate s r d t) := by
  unfold timeUpdate
  repeat' first
    | with_reducible assumption | with_reducible apply putOb_kept | with_reducible apply incOb_kept
    | with_reducible apply raiseEv_kept | with_reducible apply setCorr_kept | with_reducible apply kept_ite
    | with_reducible apply kept_ite1 | with_reducible apply kept_ite2 | split | dsimp only
    | with_reducible refine Kept.of_mk ?_ rfl rfl rfl rfl rfl rfl rfl

theorem ptpUpdate_kept {start : State} (s : State) (originNs : Nat) (corrNs : Int) (rxNs : Nat)
    (interval : Int) (hk : Kept start s) : Kept start (ptpUpdate s originNs corrNs rxNs interval) := by
  unfold ptpUpdate
  repeat' first
    | with_reducible assumption | with_reducible apply putPtp_kept | with_reducible apply timeUpdate_kept
    | with_reducible apply kept_ite | split | dsimp only
    | with_reducible refine Kept.of_mk ?_ rfl rfl rfl rfl rfl rfl rfl

theorem doTimeSource_kept {start : State} (s : State) (q : QReq) (hk : Kept start s) :
    Kept start (doTimeSource s q).1 := by
  unfold doTimeSource
  repeat' first
    | with_reducible assumption | with_reducible apply putOb_kept | with_reducible apply setCorr_kept
    | with_reducible apply kept_ite | with_reducible apply kept_ite1 | with_reducible apply kept_ite2 | split
    | dsimp only | with_reducible refine Kept.of_mk ?_ rfl rfl rfl rfl rfl rfl rfl

theorem hpfStore_kept {start : State} (s : State) (cn k : Nat) (x : CanFrame) (hk : Kept start s) :
    Kept start (hpfStore s cn k x) := by
  unfold hpfStore
  repeat' first
    | with_reducible assumption | with_reducible apply incOb_kept | with_reducible apply setCan_kept
    | with_reducible apply irq_kept | with_reducible apply kept_ite | with_reducible apply kept_ite1
    | with_reducible apply kept_ite2 | split | dsimp only
    | with_reducible refine Kept.of_mk ?_ rfl rfl rfl rfl rfl rfl rfl

theorem canErrs_kept {start : State} (s : State) (cn tx rx : Nat) (hk : Kept start s) :
    Kept start (canErrs s cn tx rx) := by
  unfold canErrs
  repeat' first
    | with_reducible assumption | with_reducible apply setCan_kept | with_reducible apply raiseEv_kept
    | with_reducible apply kept_ite | split | dsimp only
    | with_reducible refine Kept.of_mk ?_ rfl rfl rfl rfl rfl rfl rfl

theorem canTaken_kept {start : State} (s : State) (cn : Nat) (x : CanFrame) (hk : Kept start s) :
    Kept start (canTaken s cn x) := by
  unfold canTaken
  repeat' first
    | with_reducible assumption | with_reducible apply setCan_kept | refine kept_fst_of_eq (by assumption) ?_
    | refine kept_snd_of_eq (by assumption) ?_ | split | dsimp only
    | with_reducible refine Kept.of_mk ?_ rfl rfl rfl rfl rfl rfl rfl

theorem refTake_kept {start : State} (cn : Nat) (x : CanFrame) (sof : Nat) (s : State) (hk : Kept start s) :
    Kept start (refTake cn x sof s) := by
  unfold refTake
  repeat' first
    | with_reducible assumption | with_reducible apply setCan_kept | with_reducible apply timeUpdate_kept
    | with_reducible apply kept_ite | refine kept_fst_of_eq (by assumption) ?_
    | refine kept_snd_of_eq (by assumption) ?_ | split | dsimp only
    | with_reducible refine Kept.of_mk ?_ rfl rfl rfl rfl rfl rfl rfl

theorem doAck_kept {start : State} (s : State) (q : QReq) (hk : Kept start s) : Kept start (doAck s q).1 := by
  unfold doAck
  repeat' first
    | with_reducible assumption | with_reducible apply ackKeys_kept | with_reducible apply kept_ite
    | with_reducible apply kept_ite1 | with_reducible apply kept_ite2 | split | dsimp only

theorem doTkOpen_kept {start : State} (s : State) (q : QReq) (hk : Kept start s) : Kept start (doTkOpen s q).1 := by
  unfold doTkOpen
  repeat' first
    | with_reducible assumption | with_reducible apply kept_ite | with_reducible apply kept_ite1
    | with_reducible apply kept_ite2 | split | with_reducible refine Kept.of_mk ?_ rfl rfl rfl rfl rfl rfl rfl

theorem doTkPropose_kept {start : State} (s : State) (q : QReq) (hk : Kept start s) :
    Kept start (doTkPropose s q).1 := by
  unfold doTkPropose
  repeat' first
    | with_reducible assumption | with_reducible apply kept_ite | with_reducible apply kept_ite1
    | with_reducible apply kept_ite2 | split | dsimp only
    | with_reducible refine Kept.of_mk ?_ rfl rfl rfl rfl rfl rfl rfl

theorem doTkApprove_kept {start : State} (s : State) (q : QReq) (hk : Kept start s) :
    Kept start (doTkApprove s q).1 := by
  unfold doTkApprove
  repeat' first
    | with_reducible assumption | with_reducible apply abortTk_kept | with_reducible apply kept_ite
    | with_reducible apply kept_ite1 | with_reducible apply kept_ite2 | split
    | with_reducible refine Kept.of_mk ?_ rfl rfl rfl rfl rfl rfl rfl

theorem freeSlot_kept {start : State} (s : State) (e : Nat × Wb) (hk : Kept start s) : Kept start (freeSlot s e) := by
  unfold freeSlot
  repeat' first
    | with_reducible assumption | with_reducible apply clearAll_kept | with_reducible apply wbRequest_kept
    | with_reducible apply kept_ite | with_reducible apply kept_ite1 | with_reducible apply kept_ite2
    | (with_reducible apply kept_foldl; rotate_left; intro _ _ _) | split | dsimp only
    | with_reducible refine Kept.of_mk ?_ rfl rfl rfl rfl rfl rfl rfl

theorem doTkCommit_kept {start : State} (s : State) (q : QReq) (hk : Kept start s) :
    Kept start (doTkCommit s q).1 := by
  unfold doTkCommit
  repeat' first
    | with_reducible assumption | with_reducible apply afterCommit_kept | with_reducible apply tkRestart_kept
    | with_reducible apply freeSlot_kept | with_reducible apply setCell_kept | with_reducible apply kept_ite
    | with_reducible apply kept_ite1 | with_reducible apply kept_ite2
    | (with_reducible apply kept_foldl; rotate_left; intro _ _ _) | split | dsimp only
    | with_reducible refine Kept.of_mk ?_ rfl rfl rfl rfl rfl rfl rfl

theorem doTkAbort_kept {start : State} (s : State) (q : QReq) (hk : Kept start s) : Kept start (doTkAbort s q).1 := by
  unfold doTkAbort
  repeat' first
    | with_reducible assumption | with_reducible apply abortTk_kept | with_reducible apply kept_ite
    | with_reducible apply kept_ite1 | with_reducible apply kept_ite2 | split

theorem doTkCommand_kept {start : State} (s : State) (q : QReq) (hk : Kept start s) :
    Kept start (doTkCommand s q).1 := by
  unfold doTkCommand
  repeat' first
    | with_reducible assumption | with_reducible apply doTkOpen_kept | with_reducible apply doTkPropose_kept
    | with_reducible apply doTkCommit_kept | with_reducible apply doTkAbort_kept | with_reducible apply kept_ite
    | with_reducible apply kept_ite1 | with_reducible apply kept_ite2 | split

theorem doStage_kept {start : State} (g : Nat) (s : State) (q : QReq) (hk : Kept start s) :
    Kept start (doStage g s q).1 := by
  unfold doStage
  repeat' first
    | with_reducible assumption | with_reducible apply kept_ite | with_reducible apply kept_ite1
    | with_reducible apply kept_ite2 | split | dsimp only
    | with_reducible refine Kept.of_mk ?_ rfl rfl rfl rfl rfl rfl rfl

theorem doWinClear_kept {start : State} (w : Nat) (s : State) (q : QReq) (hk : Kept start s) :
    Kept start (doWinClear w s q).1 := by
  unfold doWinClear
  repeat' first
    | with_reducible assumption | with_reducible apply winClearOut_kept | with_reducible apply kept_ite
    | with_reducible apply kept_ite1 | with_reducible apply kept_ite2 | split | dsimp only

theorem putPlain_kept {start : State} (s : State) (q : QReq) (hk : Kept start s) : Kept start (putPlain s q).1 := by
  unfold putPlain
  repeat' first
    | with_reducible assumption | with_reducible apply putValue_kept | with_reducible apply snoop_kept
    | with_reducible apply kept_ite | with_reducible apply kept_ite1 | with_reducible apply kept_ite2 | split
    | dsimp only

theorem writeId_kept {start : State} (s : State) (q : QReq) (u : Nat) (hk : Kept start s) :
    Kept start (writeId s q u).1 := by
  unfold writeId
  repeat' first
    | with_reducible assumption | with_reducible apply putPlain_kept | with_reducible apply kept_ite
    | with_reducible apply kept_ite1 | with_reducible apply kept_ite2 | split

theorem writeMan_kept {start : State} (s : State) (q : QReq) (m : Nat) (hk : Kept start s) :
    Kept start (writeMan s q m).1 := by
  unfold writeMan
  repeat' first
    | with_reducible assumption | with_reducible apply writeId_kept | with_reducible apply putPlain_kept
    | with_reducible apply kept_ite | with_reducible apply kept_ite1 | with_reducible apply kept_ite2 | split
    | dsimp only

theorem writeDevice_kept {start : State} (s : State) (q : QReq) (hk : Kept start s) :
    Kept start (writeDevice s q).1 := by
  unfold writeDevice
  repeat' first
    | with_reducible assumption | with_reducible apply doShore_kept | with_reducible apply doOp_kept
    | with_reducible apply doStore_kept | with_reducible apply doRestore_kept | with_reducible apply writeId_kept
    | with_reducible apply doManEnable_kept | with_reducible apply writeMan_kept
    | with_reducible apply putPlain_kept | with_reducible apply kept_ite | with_reducible apply kept_ite1
    | with_reducible apply kept_ite2 | split

theorem writeCarrier_kept {start : State} (s : State) (q : QReq) (r : Nat) (hk : Kept start s) :
    Kept start (writeCarrier s q r).1 := by
  unfold writeCarrier
  repeat' first
    | with_reducible assumption | with_reducible apply putValue_kept | with_reducible apply carrierWrite_kept
    | with_reducible apply kept_ite | with_reducible apply kept_ite1 | with_reducible apply kept_ite2 | split
    | dsimp only

theorem writeRod7_kept {start : State} (s : State) (q : QReq) (hk : Kept start s) : Kept start (writeRod7 s q).1 := by
  unfold writeRod7
  repeat' first
    | with_reducible assumption | with_reducible apply putValue_kept | with_reducible apply sendFreqAll_kept
    | with_reducible apply kept_ite | with_reducible apply kept_ite1 | with_reducible apply kept_ite2 | split
    | dsimp only

theorem writeRod_kept {start : State} (s : State) (q : QReq) (hk : Kept start s) : Kept start (writeRod s q).1 := by
  unfold writeRod
  repeat' first
    | with_reducible assumption | with_reducible apply writeCarrier_kept | with_reducible apply writeRod7_kept
    | with_reducible apply putPlain_kept | with_reducible apply kept_ite | with_reducible apply kept_ite1
    | with_reducible apply kept_ite2 | split

theorem writeBrace_kept {start : State} (s : State) (q : QReq) (i : Nat) (hk : Kept start s) :
    Kept start (writeBrace s q i).1 := by
  unfold writeBrace
  repeat' first
    | with_reducible assumption | with_reducible apply doCoef_kept | with_reducible apply doSelect_kept
    | with_reducible apply doPreset_kept | with_reducible apply putPlain_kept | with_reducible apply kept_ite
    | with_reducible apply kept_ite1 | with_reducible apply kept_ite2 | split | dsimp only

theorem writeMid_kept {start : State} (s : State) (q : QReq) (hk : Kept start s) : Kept start (writeMid s q).1 := by
  unfold writeMid
  repeat' first
    | with_reducible assumption | with_reducible apply doCal_kept | with_reducible apply doWinClear_kept
    | with_reducible apply doInject_kept | with_reducible apply doResp_kept | with_reducible apply writeBrace_kept
    | with_reducible apply putPlain_kept | with_reducible apply kept_ite | with_reducible apply kept_ite1
    | with_reducible apply kept_ite2 | split

theorem writeFn_kept {start : State} (s : State) (q : QReq) (hk : Kept start s) : Kept start (writeFn s q).1 := by
  unfold writeFn
  repeat' first
    | with_reducible assumption | with_reducible apply doCommand_kept | with_reducible apply doDirection_kept
    | with_reducible apply doDabFsw_kept | with_reducible apply doDcxFsw_kept | with_reducible apply doPark_kept
    | with_reducible apply doClutch_kept | with_reducible apply putPlain_kept | with_reducible apply kept_ite
    | with_reducible apply kept_ite1 | with_reducible apply kept_ite2 | refine kept_fst_of_eq (by assumption) ?_
    | refine kept_snd_of_eq (by assumption) ?_ | split | dsimp only
    | with_reducible refine Kept.of_mk ?_ rfl rfl rfl rfl rfl rfl rfl

theorem writeSafety_kept {start : State} (s : State) (q : QReq) (hk : Kept start s) :
    Kept start (writeSafety s q).1 := by
  unfold writeSafety
  repeat' first
    | with_reducible assumption | with_reducible apply doConnect_kept | with_reducible apply doTkApprove_kept
    | with_reducible apply doTkCommand_kept | with_reducible apply putPlain_kept | with_reducible apply kept_ite
    | with_reducible apply kept_ite1 | with_reducible apply kept_ite2 | split

theorem writeCan_kept {start : State} (s : State) (q : QReq) (cn : Nat) (hk : Kept start s) :
    Kept start (writeCan s q cn).1 := by
  unfold writeCan
  repeat' first
    | with_reducible assumption | with_reducible apply putPlain_kept | with_reducible apply setCan_kept
    | with_reducible apply writeId_kept | with_reducible apply kept_ite | with_reducible apply kept_ite1
    | with_reducible apply kept_ite2 | split | dsimp only
    | with_reducible refine Kept.of_mk ?_ rfl rfl rfl rfl rfl rfl rfl

theorem writeEth_kept {start : State} (s : State) (q : QReq) (hk : Kept start s) : Kept start (writeEth s q).1 := by
  unfold writeEth
  repeat' first
    | with_reducible assumption | with_reducible apply putPlain_kept | with_reducible apply kept_ite
    | with_reducible apply kept_ite1 | with_reducible apply kept_ite2 | split | dsimp only

theorem writeNet_kept {start : State} (s : State) (q : QReq) (hk : Kept start s) : Kept start (writeNet s q).1 := by
  unfold writeNet
  repeat' first
    | with_reducible assumption | with_reducible apply writeEth_kept | with_reducible apply doMdio_kept
    | with_reducible apply freshWord_kept | with_reducible apply doTimeSource_kept
    | with_reducible apply putPtp_kept | with_reducible apply putPlain_kept | with_reducible apply writeCan_kept
    | with_reducible apply kept_ite | with_reducible apply kept_ite1 | with_reducible apply kept_ite2 | split
    | dsimp only

theorem writeHigh_kept {start : State} (s : State) (q : QReq) (hk : Kept start s) : Kept start (writeHigh s q).1 := by
  unfold writeHigh
  repeat' first
    | with_reducible assumption | with_reducible apply doAck_kept | with_reducible apply refreshErr_kept
    | with_reducible apply putPlain_kept | with_reducible apply kept_ite | with_reducible apply kept_ite1
    | with_reducible apply kept_ite2 | split | dsimp only

theorem writeTk_kept {start : State} (s : State) (q : QReq) (hk : Kept start s) : Kept start (writeTk s q).1 := by
  unfold writeTk
  repeat' first
    | with_reducible assumption | with_reducible apply doStage_kept | with_reducible apply kept_ite
    | with_reducible apply kept_ite1 | with_reducible apply kept_ite2 | split | dsimp only
    | with_reducible refine Kept.of_mk ?_ rfl rfl rfl rfl rfl rfl rfl

theorem objEffect_kept {start : State} (s : State) (q : QReq) (hk : Kept start s) : Kept start (objEffect s q).1 := by
  unfold objEffect
  repeat' first
    | with_reducible assumption | with_reducible apply writeTk_kept | with_reducible apply writeDevice_kept
    | with_reducible apply stateRequest_kept | with_reducible apply doCampEnter_kept
    | with_reducible apply writeRod_kept | with_reducible apply writeMid_kept | with_reducible apply writeFn_kept
    | with_reducible apply writeSafety_kept | with_reducible apply writeNet_kept
    | with_reducible apply writeHigh_kept | with_reducible apply putPlain_kept | with_reducible apply kept_ite
    | with_reducible apply kept_ite1 | with_reducible apply kept_ite2 | refine kept_fst_of_eq (by assumption) ?_
    | refine kept_snd_of_eq (by assumption) ?_ | split | dsimp only
    | with_reducible refine Kept.of_mk ?_ rfl rfl rfl rfl rfl rfl rfl

theorem writeRequest_kept {start : State} (s : State) (q : QReq) (hk : Kept start s) :
    Kept start (writeRequest s q) := by
  unfold writeRequest
  repeat' first
    | with_reducible assumption | with_reducible apply refuse_kept | with_reducible apply objEffect_kept
    | with_reducible apply conclude_kept | with_reducible apply kept_ite | with_reducible apply kept_ite1
    | with_reducible apply kept_ite2 | refine kept_fst_of_eq (by assumption) ?_
    | refine kept_snd_of_eq (by assumption) ?_ | split | dsimp only
    | with_reducible refine Kept.of_mk ?_ rfl rfl rfl rfl rfl rfl rfl

theorem setSlot_kept {start : State} (s : State) (w : Nat) (x : Slot) (hk : Kept start s) :
    Kept start (setSlot s w x) := by
  unfold setSlot
  repeat' first
    | with_reducible assumption | with_reducible refine Kept.of_mk ?_ rfl rfl rfl rfl rfl rfl rfl

theorem doMbox_kept {start : State} (s : State) (data : Nat) (hk : Kept start s) : Kept start (doMbox s data).1 := by
  unfold doMbox
  repeat' first
    | with_reducible assumption | with_reducible apply answer_kept | with_reducible apply enqueue_kept
    | with_reducible apply kept_ite | with_reducible apply kept_ite1 | with_reducible apply kept_ite2
    | refine kept_fst_of_eq (by assumption) ?_ | refine kept_snd_of_eq (by assumption) ?_ | split | dsimp only
    | with_reducible refine Kept.of_mk ?_ rfl rfl rfl rfl rfl rfl rfl

theorem doBind_kept {start : State} (s : State) (w data : Nat) (hk : Kept start s) :
    Kept start (doBind s w data).1 := by
  unfold doBind
  repeat' first
    | with_reducible assumption | with_reducible apply setSlot_kept | with_reducible apply kept_ite
    | with_reducible apply kept_ite1 | with_reducible apply kept_ite2 | refine kept_fst_of_eq (by assumption) ?_
    | refine kept_snd_of_eq (by assumption) ?_ | split | dsimp only
    | with_reducible refine Kept.of_mk ?_ rfl rfl rfl rfl rfl rfl rfl

theorem doCommit_kept {start : State} (s : State) (n w v : Nat) (hk : Kept start s) :
    Kept start (doCommit s n w v) := by
  unfold doCommit
  repeat' first
    | with_reducible assumption | with_reducible apply setSlot_kept | with_reducible apply refuse_kept
    | with_reducible apply writeRequest_kept | with_reducible apply kept_ite | split | dsimp only
    | with_reducible refine Kept.of_mk ?_ rfl rfl rfl rfl rfl rfl rfl

theorem doVal_kept {start : State} (s : State) (w : Nat) (high : Bool) (data : Nat) (hk : Kept start s) :
    Kept start (doVal s w high data).1 := by
  unfold doVal
  repeat' first
    | with_reducible assumption | with_reducible apply doCommit_kept | with_reducible apply setSlot_kept
    | with_reducible apply kept_ite | with_reducible apply kept_ite1 | with_reducible apply kept_ite2
    | refine kept_fst_of_eq (by assumption) ?_ | refine kept_snd_of_eq (by assumption) ?_ | split | dsimp only
    | with_reducible refine Kept.of_mk ?_ rfl rfl rfl rfl rfl rfl rfl

theorem doRefresh_kept {start : State} (s : State) (w : Nat) (hk : Kept start s) : Kept start (doRefresh s w) := by
  unfold doRefresh
  repeat' first
    | with_reducible assumption | with_reducible apply setSlot_kept | with_reducible apply kept_ite | split
    | dsimp only | with_reducible refine Kept.of_mk ?_ rfl rfl rfl rfl rfl rfl rfl

theorem doPop_kept {start : State} (s : State) (hk : Kept start s) : Kept start (doPop s) := by
  unfold doPop
  repeat' first
    | with_reducible assumption | with_reducible refine Kept.of_mk ?_ rfl rfl rfl rfl rfl rfl rfl

theorem doIrqClear_kept {start : State} (s : State) (data : Nat) (hk : Kept start s) :
    Kept start (doIrqClear s data) := by
  unfold doIrqClear
  repeat' first
    | with_reducible assumption | with_reducible refine Kept.of_mk ?_ rfl rfl rfl rfl rfl rfl rfl

theorem doStoreReg_kept {start : State} (s : State) (addr data : Nat) (hk : Kept start s) :
    Kept start (doStoreReg s addr data).1 := by
  unfold doStoreReg
  repeat' first
    | with_reducible assumption | with_reducible apply kept_ite | with_reducible apply kept_ite1
    | with_reducible apply kept_ite2 | split | with_reducible refine Kept.of_mk ?_ rfl rfl rfl rfl rfl rfl rfl

theorem hostWrite_kept {start : State} (s : State) (addr data : Nat) (hk : Kept start s) :
    Kept start (hostWrite s addr data).1 := by
  unfold hostWrite
  repeat' first
    | with_reducible assumption | with_reducible apply doIrqClear_kept | with_reducible apply doMbox_kept
    | with_reducible apply doPop_kept | with_reducible apply doBind_kept | with_reducible apply doVal_kept
    | with_reducible apply doStoreReg_kept | with_reducible apply kept_ite | with_reducible apply kept_ite1
    | with_reducible apply kept_ite2 | split

theorem latchHigh_kept {start : State} (s : State) (addr : Nat) (hk : Kept start s) :
    Kept start (latchHigh s addr) := by
  unfold latchHigh
  repeat' first
    | with_reducible assumption | with_reducible apply kept_ite | with_reducible apply kept_ite1
    | with_reducible apply kept_ite2 | split | dsimp only
    | with_reducible refine Kept.of_mk ?_ rfl rfl rfl rfl rfl rfl rfl

theorem hostRead_kept {start : State} (s : State) (addr : Nat) (hk : Kept start s) :
    Kept start (hostRead s addr).1 := by
  unfold hostRead
  repeat' first
    | with_reducible assumption | with_reducible apply latchHigh_kept | with_reducible apply kept_ite
    | with_reducible apply kept_ite1 | with_reducible apply kept_ite2 | refine kept_fst_of_eq (by assumption) ?_
    | refine kept_snd_of_eq (by assumption) ?_ | split | dsimp only
    | with_reducible refine Kept.of_mk ?_ rfl rfl rfl rfl rfl rfl rfl

theorem touchHost_kept {start : State} (s : State) (hk : Kept start s) : Kept start (touchHost s) := by
  unfold touchHost
  repeat' first
    | with_reducible assumption | with_reducible apply setSess_kept | refine kept_fst_of_eq (by assumption) ?_
    | refine kept_snd_of_eq (by assumption) ?_ | split | dsimp only
    | with_reducible refine Kept.of_mk ?_ rfl rfl rfl rfl rfl rfl rfl

theorem setReply_kept {start : State} (s : State) (op addr res data : Nat) (hk : Kept start s) :
    Kept start (setReply s op addr res data) := by
  unfold setReply
  repeat' first
    | with_reducible assumption | with_reducible refine Kept.of_mk ?_ rfl rfl rfl rfl rfl rfl rfl

theorem latchShort_kept {start : State} (s : State) (x : Drv) (two high : Bool) (hk : Kept start s) :
    Kept start (latchShort s x two high) := by
  unfold latchShort
  repeat' first
    | with_reducible assumption | with_reducible apply freewheel_kept | with_reducible apply kept_ite
    | with_reducible apply kept_ite1 | with_reducible apply kept_ite2 | split | dsimp only
    | with_reducible refine Kept.of_mk ?_ rfl rfl rfl rfl rfl rfl rfl

theorem drvFault_kept {start : State} (s : State) (x : Drv) (l : Nat) (hk : Kept start s) :
    Kept start (drvFault s x l) := by
  unfold drvFault
  repeat' first
    | with_reducible assumption | with_reducible apply lockout_kept | with_reducible apply setSel_kept
    | with_reducible apply latchShort_kept | with_reducible apply freewheel_kept | with_reducible apply kept_ite
    | with_reducible apply kept_ite1 | with_reducible apply kept_ite2 | split | dsimp only
    | with_reducible refine Kept.of_mk ?_ rfl rfl rfl rfl rfl rfl rfl

theorem fltHolds_kept {start : State} (s : State) (x : Drv) (k : Nat) (hk : Kept start s) :
    Kept start (fltHolds s x k) := by
  unfold fltHolds
  repeat' first
    | with_reducible assumption | with_reducible apply publishKey_kept | with_reducible apply setKey_kept
    | with_reducible apply kept_ite | split | dsimp only
    | with_reducible refine Kept.of_mk ?_ rfl rfl rfl rfl rfl rfl rfl

theorem leaveOv1_kept {start : State} (s : State) (hk : Kept start s) : Kept start (leaveOv1 s) := by
  unfold leaveOv1
  repeat' first
    | with_reducible assumption | with_reducible apply clearDet_kept | with_reducible apply setLink_kept
    | dsimp only | with_reducible refine Kept.of_mk ?_ rfl rfl rfl rfl rfl rfl rfl

theorem enterOv1_kept {start : State} (s : State) (hk : Kept start s) : Kept start (enterOv1 s) := by
  unfold enterOv1
  repeat' first
    | with_reducible assumption | with_reducible apply raiseAll_kept | with_reducible apply dumpStart_kept
    | with_reducible apply setLink_kept | dsimp only
    | with_reducible refine Kept.of_mk ?_ rfl rfl rfl rfl rfl rfl rfl

theorem enterOv2_kept {start : State} (s : State) (hk : Kept start s) : Kept start (enterOv2 s) := by
  unfold enterOv2
  repeat' first
    | with_reducible assumption | with_reducible apply setLink_kept | with_reducible apply ov2React_kept
    | with_reducible apply kept_ite | with_reducible apply kept_ite1 | with_reducible apply kept_ite2 | split
    | dsimp only | with_reducible refine Kept.of_mk ?_ rfl rfl rfl rfl rfl rfl rfl

theorem leaveOv2_kept {start : State} (s : State) (hk : Kept start s) : Kept start (leaveOv2 s) := by
  unfold leaveOv2
  repeat' first
    | with_reducible assumption | with_reducible apply clearDet_kept | with_reducible apply setLink_kept
    | dsimp only | with_reducible refine Kept.of_mk ?_ rfl rfl rfl rfl rfl rfl rfl

theorem linkLow_kept {start : State} (s : State) (good : Bool) (v : Rat) (hk : Kept start s) :
    Kept start (linkLow s good v) := by
  unfold linkLow
  repeat' first
    | with_reducible assumption | with_reducible apply plumbStart_kept | with_reducible apply kept_ite | split
    | dsimp only | with_reducible refine Kept.of_mk ?_ rfl rfl rfl rfl rfl rfl rfl

theorem linkWord_kept {start : State} (s : State) (w : Nat) (hk : Kept start s) : Kept start (linkWord s w) := by
  unfold linkWord
  repeat' first
    | with_reducible assumption | with_reducible apply putOb_kept | with_reducible apply clearDet_kept
    | with_reducible apply enterOv1_kept | with_reducible apply leaveOv1_kept | with_reducible apply enterOv2_kept
    | with_reducible apply leaveOv2_kept | with_reducible apply kept_ite | split | dsimp only
    | with_reducible refine Kept.of_mk ?_ rfl rfl rfl rfl rfl rfl rfl

theorem dumpFault_kept {start : State} (s : State) (hk : Kept start s) : Kept start (dumpFault s) := by
  unfold dumpFault
  repeat' first
    | with_reducible assumption | with_reducible apply raiseEv_kept | with_reducible apply kept_ite | split

theorem dumpResult_kept {start : State} (s : State) (code : Nat) (hk : Kept start s) :
    Kept start (dumpResult s code) := by
  unfold dumpResult
  repeat' first
    | with_reducible assumption | with_reducible apply raise_kept | with_reducible apply setLink_kept
    | with_reducible apply testFail_kept | with_reducible apply clearDet_kept | with_reducible apply kept_ite
    | with_reducible apply kept_ite1 | with_reducible apply kept_ite2 | split | dsimp only
    | with_reducible refine Kept.of_mk ?_ rfl rfl rfl rfl rfl rfl rfl

theorem braceEcc_kept {start : State} (s : State) (b : Nat) (hk : Kept start s) : Kept start (braceEcc s b) := by
  unfold braceEcc
  repeat' first
    | with_reducible assumption | with_reducible apply setBrc_kept | with_reducible apply incOb_kept
    | with_reducible apply raiseEv_kept | refine kept_fst_of_eq (by assumption) ?_
    | refine kept_snd_of_eq (by assumption) ?_ | split | dsimp only
    | with_reducible refine Kept.of_mk ?_ rfl rfl rfl rfl rfl rfl rfl

theorem testFail_kept {start : State} (s : State) (t e blk : Nat) (hk : Kept start s) :
    Kept start (testFail s t e blk) := by
  unfold testFail
  repeat' first
    | with_reducible assumption | with_reducible apply winCheckFail_kept | with_reducible apply condAllOr_kept
    | with_reducible apply putOb_kept | with_reducible apply braceEcc_kept | with_reducible apply raiseAllOr_kept
    | with_reducible apply kept_ite | split | dsimp only
    | with_reducible refine Kept.of_mk ?_ rfl rfl rfl rfl rfl rfl rfl

theorem testPass_kept {start : State} (s : State) (t e : Nat) (hk : Kept start s) : Kept start (testPass s t e) := by
  unfold testPass
  repeat' first
    | with_reducible assumption | with_reducible apply clearDet_kept | with_reducible apply kept_ite | split
    | dsimp only | with_reducible refine Kept.of_mk ?_ rfl rfl rfl rfl rfl rfl rfl

theorem scrubbed_kept {start : State} (s : State) (e mended blk : Nat) (hk : Kept start s) :
    Kept start (scrubbed s e mended blk) := by
  unfold scrubbed
  repeat' first
    | with_reducible assumption | with_reducible apply raiseEv_kept | with_reducible apply putOb_kept
    | with_reducible apply kept_ite | refine kept_fst_of_eq (by assumption) ?_
    | refine kept_snd_of_eq (by assumption) ?_ | split | dsimp only
    | with_reducible refine Kept.of_mk ?_ rfl rfl rfl rfl rfl rfl rfl

theorem tieTaken_kept {start : State} (s : State) (t e : Nat) (hk : Kept start s) :
    Kept start (tieTaken s t e).1 := by
  unfold tieTaken
  repeat' first
    | with_reducible assumption | with_reducible apply outConv_kept | with_reducible apply kept_ite
    | with_reducible apply kept_ite1 | with_reducible apply kept_ite2 | split

theorem testCycle_kept {start : State} (s : State) (t : Nat) (hk : Kept start s) : Kept start (testCycle s t) := by
  unfold testCycle
  repeat' first
    | with_reducible assumption | with_reducible apply setTest_kept | with_reducible apply putOb_kept
    | with_reducible apply testStarve_kept | with_reducible apply kept_ite | split | dsimp only
    | with_reducible refine Kept.of_mk ?_ rfl rfl rfl rfl rfl rfl rfl

theorem sendUpd_kept {start : State} (s : State) (c : Nat) (u : RodUpd) (hk : Kept start s) :
    Kept start (sendUpd s c u) := by
  unfold sendUpd
  repeat' first
    | with_reducible assumption | refine kept_fst_of_eq (by assumption) ?_
    | refine kept_snd_of_eq (by assumption) ?_ | split | dsimp only
    | with_reducible refine Kept.of_mk ?_ rfl rfl rfl rfl rfl rfl rfl

theorem rodInvalid_kept {start : State} (s : State) (c : Nat) (hk : Kept start s) : Kept start (rodInvalid s c) := by
  unfold rodInvalid
  repeat' first
    | with_reducible assumption | with_reducible apply setRod_kept | refine kept_fst_of_eq (by assumption) ?_
    | refine kept_snd_of_eq (by assumption) ?_ | split | dsimp only
    | with_reducible refine Kept.of_mk ?_ rfl rfl rfl rfl rfl rfl rfl

theorem ifaceBit_kept {start : State} (b old new : Nat) (s : State) (k : Nat) (hk : Kept start s) :
    Kept start (ifaceBit b old new s k) := by
  unfold ifaceBit
  repeat' first
    | with_reducible assumption | with_reducible apply incOb_kept | with_reducible apply condAllOr_kept
    | with_reducible apply clearDet_kept | with_reducible apply kept_ite | refine kept_fst_of_eq (by assumption) ?_
    | refine kept_snd_of_eq (by assumption) ?_ | split | dsimp only
    | with_reducible refine Kept.of_mk ?_ rfl rfl rfl rfl rfl rfl rfl

theorem ifaceDone_kept {start : State} (s : State) (b old : Nat) (io : Iface) (hk : Kept start s) :
    Kept start (ifaceDone s b old io) := by
  unfold ifaceDone
  repeat' first
    | with_reducible assumption | with_reducible apply ifaceBit_kept | with_reducible apply putIface_kept
    | (with_reducible apply kept_foldl; rotate_left; intro _ _ _)

theorem setEnc_kept {start : State} (s : State) (e : Nat) (x : Encoder) (hk : Kept start s) :
    Kept start (setEnc s e x) := by
  unfold setEnc
  repeat' first
    | with_reducible assumption | with_reducible refine Kept.of_mk ?_ rfl rfl rfl rfl rfl rfl rfl

theorem setHall_kept {start : State} (s : State) (h : Nat) (x : Hall) (hk : Kept start s) :
    Kept start (setHall s h x) := by
  unfold setHall
  repeat' first
    | with_reducible assumption | with_reducible refine Kept.of_mk ?_ rfl rfl rfl rfl rfl rfl rfl

theorem gridUnbalance_kept {start : State} (s : State) (a b : Rat × Rat) (hk : Kept start s) :
    Kept start (gridUnbalance s a b).2 := by
  unfold gridUnbalance
  repeat' first
    | with_reducible assumption | with_reducible apply freshWord_kept | with_reducible apply kept_ite
    | with_reducible apply kept_ite1 | with_reducible apply kept_ite2 | split | dsimp only

theorem setSens_kept {start : State} (s : State) (p : Nat) (x : Sensor) (hk : Kept start s) :
    Kept start (setSens s p x) := by
  unfold setSens
  repeat' first
    | with_reducible assumption | with_reducible apply putOb_kept | with_reducible apply kept_ite | split
    | dsimp only | with_reducible refine Kept.of_mk ?_ rfl rfl rfl rfl rfl rfl rfl

theorem thermCond_kept {start : State} (s : State) (on : Bool) (fs : List Fn) (c : Cls) (lvl detail det : Nat)
    (hk : Kept start s) : Kept start (thermCond s on fs c lvl detail det) := by
  unfold thermCond
  repeat' first
    | with_reducible assumption | with_reducible apply condAllOr_kept | with_reducible apply clearDet_kept
    | with_reducible apply kept_ite | split

theorem lateSample_kept {start : State} (s : State) (p : Nat) (detail : Nat) (hk : Kept start s) :
    Kept start (lateSample s p detail) := by
  unfold lateSample
  repeat' first
    | with_reducible assumption | with_reducible apply incOb_kept | with_reducible apply raiseEv_kept
    | with_reducible apply kept_ite | split | dsimp only
    | with_reducible refine Kept.of_mk ?_ rfl rfl rfl rfl rfl rfl rfl

theorem dieMax_kept {start : State} (s : State) (die : Nat) (hk : Kept start s) : Kept start (dieMax s die) := by
  unfold dieMax
  repeat' first
    | with_reducible assumption | with_reducible apply putOb_kept
    | (with_reducible apply kept_foldl; rotate_left; intro _ _ _) | refine kept_fst_of_eq (by assumption) ?_
    | refine kept_snd_of_eq (by assumption) ?_ | split | dsimp only
    | with_reducible refine Kept.of_mk ?_ rfl rfl rfl rfl rfl rfl rfl

theorem trims_kept {start : State} (s : State) (hk : Kept start s) : Kept start (trims s) := by
  unfold trims
  repeat' first
    | with_reducible assumption | with_reducible apply putOb_kept | with_reducible apply kept_ite
    | (with_reducible apply kept_foldl; rotate_left; intro _ _ _) | split | dsimp only

theorem thermRelease_kept {start : State} (s : State) (hk : Kept start s) : Kept start (thermRelease s) := by
  unfold thermRelease
  repeat' first
    | with_reducible assumption | with_reducible apply kept_ite | split | dsimp only
    | with_reducible refine Kept.of_mk ?_ rfl rfl rfl rfl rfl rfl rfl

theorem dieSample_kept {start : State} (s0 : State) (p : Nat) (t : Rat) (hk : Kept start s0) :
    Kept start (dieSample s0 p t) := by
  unfold dieSample
  repeat' first
    | with_reducible assumption | with_reducible apply lateSample_kept | with_reducible apply setSens_kept
    | with_reducible apply putOb_kept | with_reducible apply thermCond_kept | with_reducible apply dieMax_kept
    | with_reducible apply raiseEv_kept | with_reducible apply thermRelease_kept | with_reducible apply trims_kept
    | with_reducible apply kept_ite | with_reducible apply kept_ite1 | with_reducible apply kept_ite2
    | refine kept_fst_of_eq (by assumption) ?_ | refine kept_snd_of_eq (by assumption) ?_ | split | dsimp only
    | with_reducible refine Kept.of_mk ?_ rfl rfl rfl rfl rfl rfl rfl

theorem ntcSample_kept {start : State} (s : State) (n : Nat) (m : AdcMeas) (hk : Kept start s) :
    Kept start (ntcSample s n m) := by
  unfold ntcSample
  repeat' first
    | with_reducible assumption | with_reducible apply lateSample_kept | with_reducible apply stepWords_kept
    | with_reducible apply setSeq_kept | with_reducible apply setSens_kept | with_reducible apply putOb_kept
    | with_reducible apply thermCond_kept | with_reducible apply kept_ite | with_reducible apply kept_ite1
    | with_reducible apply kept_ite2 | split | dsimp only
    | with_reducible refine Kept.of_mk ?_ rfl rfl rfl rfl rfl rfl rfl

theorem applyBlock_kept {start : State} (s : State) (q : QReq) (bytes : List Byte) (hk : Kept start s) :
    Kept start (applyBlock s q bytes) := by
  unfold applyBlock
  repeat' first
    | with_reducible assumption | with_reducible apply refuse_kept | with_reducible apply objEffect_kept
    | with_reducible apply conclude_kept | with_reducible apply kept_ite | with_reducible apply kept_ite1
    | with_reducible apply kept_ite2 | split | dsimp only
    | with_reducible refine Kept.of_mk ?_ rfl rfl rfl rfl rfl rfl rfl

theorem startBlock_kept {start : State} (s : State) (q : QReq) (hk : Kept start s) : Kept start (startBlock s q) := by
  unfold startBlock
  repeat' first
    | with_reducible assumption | with_reducible apply refuse_kept | with_reducible apply applyBlock_kept
    | with_reducible apply reply_kept | with_reducible apply setXfer_kept | with_reducible apply kept_ite
    | with_reducible apply kept_ite1 | with_reducible apply kept_ite2 | refine kept_fst_of_eq (by assumption) ?_
    | refine kept_snd_of_eq (by assumption) ?_ | split | dsimp only
    | with_reducible refine Kept.of_mk ?_ rfl rfl rfl rfl rfl rfl rfl

theorem nextBlock_kept {start : State} (s : State) (q : QReq) (x : Xfer) (hk : Kept start s) :
    Kept start (nextBlock s q x) := by
  unfold nextBlock
  repeat' first
    | with_reducible assumption | with_reducible apply refuse_kept | with_reducible apply setXfer_kept
    | with_reducible apply applyBlock_kept | with_reducible apply reply_kept | with_reducible apply kept_ite
    | with_reducible apply kept_ite1 | with_reducible apply kept_ite2 | split | dsimp only
    | with_reducible refine Kept.of_mk ?_ rfl rfl rfl rfl rfl rfl rfl

theorem manWrite_kept {start : State} (n : Nat) (stamp : Nat) (s : State) (e : Nat × List Byte)
    (hk : Kept start s) : Kept start (manWrite n stamp s e) := by
  unfold manWrite
  repeat' first
    | with_reducible assumption | with_reducible apply objEffect_kept | with_reducible apply kept_ite
    | with_reducible apply kept_ite1 | with_reducible apply kept_ite2 | refine kept_fst_of_eq (by assumption) ?_
    | refine kept_snd_of_eq (by assumption) ?_ | split | dsimp only
    | with_reducible refine Kept.of_mk ?_ rfl rfl rfl rfl rfl rfl rfl

theorem manApply_kept {start : State} (s : State) (m : Nat) (data : List Byte) (hk : Kept start s) :
    Kept start (manApply s m data) := by
  unfold manApply
  repeat' first
    | with_reducible assumption | with_reducible apply incOb_kept | with_reducible apply lockout_kept
    | with_reducible apply clrSide_kept | with_reducible apply manWrite_kept | with_reducible apply clearDet_kept
    | with_reducible apply putOb_kept | with_reducible apply kept_ite
    | (with_reducible apply kept_foldl; rotate_left; intro _ _ _) | split | dsimp only

theorem manMiss_kept {start : State} (s : State) (m : Nat) (hk : Kept start s) : Kept start (manMiss s m) := by
  unfold manMiss
  repeat' first
    | with_reducible assumption | with_reducible apply putOb_kept | with_reducible apply incOb_kept
    | with_reducible apply orSide_kept | with_reducible apply condAllOr_kept | with_reducible apply kept_ite
    | (with_reducible apply kept_foldl; rotate_left; intro _ _ _) | split | dsimp only

theorem manEnding_kept {start : State} (s : State) (n : Nat) (hk : Kept start s) : Kept start (manEnding s n) := by
  unfold manEnding
  repeat' first
    | with_reducible assumption | with_reducible apply closeSession_kept | with_reducible apply kept_ite
    | with_reducible apply kept_ite1 | split | dsimp only

end Sys2Proof.Machine
end

