-- ==== Sys2Proof/Laws/Ledger.lean ====
section
/-! SUPPORT. What serving a request does, said once: the lemmas that statements about request commands rest on. -/

namespace Sys2Proof.Machine

/-- A served request has its effect and is concluded with the code of that effect. -/
theorem serveWrite_of_served {s s1 : State} {r : Req} {idx sub : Nat} {q : QReq} (eff : State → QReq → State × Nat)
    (h : served s r idx sub = some (s1, q)) :
    serveWrite s r idx sub eff
      = conclude (eff s1 q).1 q (match rowOf idx sub with | none => 0 | some w => w.ty) (eff s1 q).2 := by
  unfold served at h
  unfold serveWrite
  split at h
  · rename_i a b c
    split at h
    · cases h; rename_i hc; rw [c]; simp only [hc]; rfl
    · cases h
  · cases h

/-- An effect that answers 0 is concluded with a success response. -/
@[simp] theorem conclude_zero (s : State) (q : QReq) (ty : Nat) : conclude s q ty 0 = reply s q ty [] := rfl

/-- An effect that defers its answer leaves the response to later. -/
@[simp] theorem conclude_deferred (s : State) (q : QReq) (ty : Nat) : conclude s q ty deferred = s := rfl

/-- An effect that answers an abort code is concluded with that abort. -/
theorem conclude_code {c : Nat} (s : State) (q : QReq) (ty : Nat) (h : c ≠ 0) (hd : c ≠ deferred) :
    conclude s q ty c = refuse s q c := by
  simp [conclude, h, hd]

/-- A request that is not admitted, or fails a check, is not served. -/
theorem checkWrite_of_served {s s1 : State} {r : Req} {idx sub : Nat} {q : QReq}
    (h : served s r idx sub = some (s1, q)) : admitted s r 2 idx sub = (s1, some q) ∧ checkWrite s1 q = 0 := by
  unfold served at h
  split at h
  · rename_i a b c
    split at h
    · cases h; exact ⟨c, by assumption⟩
    · cases h
  · cases h

/-- The request as the queue held it carries the data, type and address of the command. -/
theorem served_eq {s s1 : State} {r : Req} {idx sub : Nat} {q : QReq}
    (h : served s r idx sub = some (s1, q)) :
    q.data = r.data ∧ q.ty = r.ty ∧ q.idx = idx ∧ q.sub = sub ∧ q.ses = r.ses := by
  have a := (checkWrite_of_served h).1
  unfold admitted at a
  dsimp only at a
  split at a
  · cases a
  · split at a
    · cases a
    · split at a
      · cases a
      · obtain ⟨-, rfl⟩ := Prod.mk.inj a |>.imp id (Option.some.inj)
        unfold queued
        split
        · rename_i e he
          have := List.find?_some he
          simp at this
          obtain ⟨⟨⟨⟨⟨⟨h1, -⟩, -⟩, h4⟩, h5⟩, h6⟩, h7⟩ := this
          exact ⟨h7, h6, h4, h5, h1⟩
        · exact ⟨rfl, rfl, rfl, rfl, rfl⟩

end Sys2Proof.Machine
end

