-- ==== Sys2Proof/Laws/SameTime.lean ====
section
/-! SUPPORT. What the operations of a lane tick keep: device time and the tick count, which timeTick alone advances. -/

namespace Sys2Proof.Machine

/-- Device time and the tick count are those of the state a. -/
def SameTime (a s : State) : Prop := s.tick = a.tick ∧ s.dt = a.dt

theorem SameTime.refl (s : State) : SameTime s s := ⟨rfl, rfl⟩

theorem SameTime.of_eq {a s t : State} (h : SameTime a s) (h1 : t.tick = s.tick) (h2 : t.dt = s.dt) : SameTime a t :=
  ⟨h1.trans h.1, h2.trans h.2⟩

theorem SameTime.of_mk {a s : State} {fuse : Fuses} {led : Ledger} {fns : Tab FnSt} {objs mram : Tab Cell} {pending : List Instr}
    {dt : Nat} {dtPrev : Nat} {tick : Nat} {dtLog : List Nat} {free : Nat} {dev : Dev} {power : Power} {fw : Firmware} {tally : Tally} {pend : Tab Cell} {man : Tab Manif} {rods : Tab Rod} {marks : List Mark} {disarmed : Tab (Option Fired)} {claims : Tab Claim} {lanes : Tab Lane} {trigs : List TrigEv} {sent : List (Nat × RodUpd)} {caps : Tab (List CapRec)} {capWait : Tab (Option CapWait)} {sel : Tab Selector} {link : Link} {saf : Safety} {net : Net} {can : Tab Can} {host : HostPort} {res : Tab Resolver} {enc : Tab Encoder} {hall : Tab Hall} {grid : GridPll} {freqAt : Tab Nat} {seq : Tab SeqInst} {cal : Tab CalCap} {pairs : Tab PairChk} {sd : Tab Demod} {stat : Tab Stat} {tieFail : Tab Bool} {sdc : Tab SdcRead} {outc : Tab (Option OutConv)} {win : Tab Window} {brc : Tab Brace} {loops : Tab Loop} {mac : List MacJob} {owned : List (Nat × Nat)} {inj : Inject} {resp : Resp} {evals : Nat} {evalsPrev : Nat} {evalMs : Nat} {drv : Tab Drive} {chg : Charger} {cnv : Converter} {axle : Axle} {camp : Camp} {hvilCurrent : Bool} {act : Tab Act} {pump : Pump} {plock : ParkLock} {clutch : Clutch} {therm : Thermal} {outr : Outrider} {plumbHeld : Tab Bool} {formHz : Nat} {fired : Tab Nat} {once : Tab Bool}
    (h : SameTime a s) (h1 : tick = s.tick) (h2 : dt = s.dt) :
    SameTime a (State.mk dt dtPrev tick dtLog free dev power fw fuse tally fns objs pend mram led man rods marks disarmed claims lanes trigs sent caps capWait sel link saf net can host res enc hall grid freqAt seq cal pairs sd stat tieFail sdc outc win brc loops mac owned inj resp evals evalsPrev evalMs drv chg cnv axle camp hvilCurrent act pump plock clutch therm outr plumbHeld formHz fired once pending) :=
  SameTime.of_eq h h1 h2

theorem time_ite {a x y : State} {c : Prop} [Decidable c] (h1 : SameTime a x) (h2 : SameTime a y) :
    SameTime a (if c then x else y) := by split <;> assumption

theorem time_ite1 {β : Type} {a : State} {x y : State × β} {c : Prop} [Decidable c] (h1 : SameTime a x.1)
    (h2 : SameTime a y.1) : SameTime a (if c then x else y).1 := by split <;> assumption

theorem time_ite2 {β : Type} {a : State} {x y : β × State} {c : Prop} [Decidable c] (h1 : SameTime a x.2)
    (h2 : SameTime a y.2) : SameTime a (if c then x else y).2 := by split <;> assumption

theorem time_foldl {β : Type} {a : State} (f : State → β → State) (l : List β) (s : State) (h : SameTime a s)
    (hf : ∀ t x, SameTime a t → SameTime a (f t x)) : SameTime a (l.foldl f s) := by
  induction l generalizing s with
  | nil => exact h
  | cons x xs ih => exact ih _ (hf _ _ h)

theorem setCell_time {a s : State} (h : SameTime a s) (i : Nat) (c : Cell) : SameTime a (setCell s i c) := h

theorem setFn_time {a s : State} (h : SameTime a s) (f : Fn) (x : FnSt) : SameTime a (setFn s f x) := h

theorem time_fst_of_eq {β : Type} {a t : State} {b : β} {x : State × β} (h : x = (t, b)) (hx : SameTime a x.1) :
    SameTime a t := by
  rw [h] at hx; exact hx

theorem time_snd_of_eq {β : Type} {a t : State} {b : β} {x : β × State} (h : x = (b, t)) (hx : SameTime a x.2) :
    SameTime a t := by
  rw [h] at hx; exact hx

theorem freshWord_time {start : State} (s : State) (hk : SameTime start s) : SameTime start (freshWord s).2 := by
  unfold freshWord
  repeat' first
    | with_reducible assumption | with_reducible refine SameTime.of_mk ?_ rfl rfl

theorem putOb_time {start : State} (s : State) (idx sub v : Nat) (hk : SameTime start s) :
    SameTime start (putOb s idx sub v) := by
  unfold putOb
  repeat' first
    | with_reducible assumption | with_reducible apply setCell_time

theorem incOb_time {start : State} (s : State) (idx sub : Nat) (hk : SameTime start s) :
    SameTime start (incOb s idx sub) := by
  unfold incOb
  repeat' first
    | with_reducible assumption | with_reducible apply putOb_time

theorem setRod_time {start : State} (s : State) (r : Nat) (x : Rod) (hk : SameTime start s) :
    SameTime start (setRod s r x) := by
  unfold setRod
  repeat' first
    | with_reducible assumption | with_reducible refine SameTime.of_mk ?_ rfl rfl

theorem setLane_time {start : State} (s : State) (l : Nat) (x : Lane) (hk : SameTime start s) :
    SameTime start (setLane s l x) := by
  unfold setLane
  repeat' first
    | with_reducible assumption | with_reducible refine SameTime.of_mk ?_ rfl rfl

theorem setLive_time {start : State} (s : State) (ls : List Nat) (b : Bool) (hk : SameTime start s) :
    SameTime start (setLive s ls b) := by
  unfold setLive
  repeat' first
    | with_reducible assumption | with_reducible apply setLane_time
    | (with_reducible apply time_foldl; rotate_left; intro _ _ _) | dsimp only
    | with_reducible refine SameTime.of_mk ?_ rfl rfl

theorem setDrv_time {start : State} (s : State) (d : Drv) (x : Drive) (hk : SameTime start s) :
    SameTime start (setDrv s d x) := by
  unfold setDrv
  repeat' first
    | with_reducible assumption | with_reducible refine SameTime.of_mk ?_ rfl rfl

theorem setSel_time {start : State} (s : State) (d : Drv) (x : Selector) (hk : SameTime start s) :
    SameTime start (setSel s d x) := by
  unfold setSel
  repeat' first
    | with_reducible assumption | with_reducible refine SameTime.of_mk ?_ rfl rfl

theorem setCan_time {start : State} (s : State) (n : Nat) (x : Can) (hk : SameTime start s) :
    SameTime start (setCan s n x) := by
  unfold setCan
  repeat' first
    | with_reducible assumption | with_reducible refine SameTime.of_mk ?_ rfl rfl

theorem irq_time {start : State} (s : State) (m : Nat) (hk : SameTime start s) : SameTime start (irq s m) := by
  unfold irq
  repeat' first
    | with_reducible assumption | with_reducible refine SameTime.of_mk ?_ rfl rfl

theorem setDev_time {start : State} (s : State) (d : Dev) (hk : SameTime start s) : SameTime start (setDev s d) := by
  unfold setDev
  repeat' first
    | with_reducible assumption | with_reducible apply irq_time | with_reducible apply time_ite | split
    | with_reducible refine SameTime.of_mk ?_ rfl rfl

theorem canStart_time {start : State} (s : State) (cn : Nat) (hk : SameTime start s) :
    SameTime start (canStart s cn) := by
  unfold canStart
  repeat' first
    | with_reducible assumption | with_reducible apply setCan_time | with_reducible apply putOb_time
    | with_reducible apply time_ite | split | dsimp only
    | with_reducible refine SameTime.of_mk ?_ rfl rfl

theorem restoreCfg_time {start : State} (s : State) (hk : SameTime start s) : SameTime start (restoreCfg s) := by
  unfold restoreCfg
  repeat' first
    | with_reducible assumption | with_reducible apply canStart_time | with_reducible apply setCell_time
    | (with_reducible apply time_foldl; rotate_left; intro _ _ _) | dsimp only
    | with_reducible refine SameTime.of_mk ?_ rfl rfl

theorem armSource_time {start : State} (s : State) (src : Nat) (hk : SameTime start s) :
    SameTime start (armSource s src) := by
  unfold armSource
  repeat' first
    | with_reducible assumption | with_reducible apply time_ite | with_reducible apply time_ite1
    | with_reducible apply time_ite2 | refine time_fst_of_eq (by assumption) ?_
    | refine time_snd_of_eq (by assumption) ?_ | split | dsimp only
    | with_reducible refine SameTime.of_mk ?_ rfl rfl

theorem armStats_time {start : State} (s : State) (src : Nat) (hk : SameTime start s) :
    SameTime start (armStats s src) := by
  unfold armStats
  repeat' first
    | with_reducible assumption | with_reducible apply time_ite
    | (with_reducible apply time_foldl; rotate_left; intro _ _ _) | split | dsimp only
    | with_reducible refine SameTime.of_mk ?_ rfl rfl

theorem carrierTake_time {start : State} (s : State) (r : Nat) (anchor : BitVec 64) (hk : SameTime start s) :
    SameTime start (carrierTake s r anchor) := by
  unfold carrierTake
  repeat' first
    | with_reducible assumption | with_reducible apply armStats_time | with_reducible apply armSource_time
    | with_reducible apply setRod_time | dsimp only
    | with_reducible refine SameTime.of_mk ?_ rfl rfl

theorem carrierWrite_time {start : State} (s : State) (r : Nat) (hk : SameTime start s) :
    SameTime start (carrierWrite s r) := by
  unfold carrierWrite
  repeat' first
    | with_reducible assumption | with_reducible apply carrierTake_time | with_reducible apply setRod_time
    | with_reducible apply time_ite | split | dsimp only
    | with_reducible refine SameTime.of_mk ?_ rfl rfl

theorem carrierSync_time {start : State} (s : State) (r : Nat) (hk : SameTime start s) :
    SameTime start (carrierSync s r) := by
  unfold carrierSync
  repeat' first
    | with_reducible assumption | with_reducible apply carrierWrite_time | with_reducible apply time_ite | split
    | dsimp only

theorem putIface_time {start : State} (s : State) (base : Nat) (io : Iface) (hk : SameTime start s) :
    SameTime start (putIface s base io) := by
  unfold putIface
  repeat' first
    | with_reducible assumption | with_reducible apply putOb_time

theorem excite_time {start : State} (s : State) (i : Nat) (hk : SameTime start s) : SameTime start (excite s i) := by
  unfold excite
  repeat' first
    | with_reducible assumption | with_reducible apply carrierSync_time | with_reducible apply putOb_time
    | dsimp only

theorem startPos_time {start : State} (s : State) (b : Nat) (hk : SameTime start s) :
    SameTime start (startPos s b) := by
  unfold startPos
  repeat' first
    | with_reducible assumption | with_reducible apply putIface_time | with_reducible apply excite_time
    | with_reducible apply putOb_time | with_reducible apply time_ite | refine time_fst_of_eq (by assumption) ?_
    | refine time_snd_of_eq (by assumption) ?_ | split | dsimp only
    | with_reducible refine SameTime.of_mk ?_ rfl rfl

theorem capPut_time {start : State} (s : State) (u : Nat) (r : CapRec) (hk : SameTime start s) :
    SameTime start (capPut s u r) := by
  unfold capPut
  repeat' first
    | with_reducible assumption | with_reducible apply incOb_time | with_reducible apply time_ite
    | with_reducible apply time_ite1 | with_reducible apply time_ite2 | split | dsimp only
    | with_reducible refine SameTime.of_mk ?_ rfl rfl

theorem capDue_time {start : State} (s : State) (u t : Nat) (hk : SameTime start s) :
    SameTime start (capDue s u t) := by
  unfold capDue
  repeat' first
    | with_reducible assumption | with_reducible apply capPut_time | with_reducible apply time_ite
    | refine time_fst_of_eq (by assumption) ?_ | refine time_snd_of_eq (by assumption) ?_ | split | dsimp only
    | with_reducible refine SameTime.of_mk ?_ rfl rfl

theorem capEdge_time {start : State} (s : State) (u : Nat) (rising : Bool) (t : Nat) (hk : SameTime start s) :
    SameTime start (capEdge s u rising t) := by
  unfold capEdge
  repeat' first
    | with_reducible assumption | with_reducible apply capDue_time | with_reducible apply time_ite | split
    | dsimp only | with_reducible refine SameTime.of_mk ?_ rfl rfl

theorem capCode_time {start : State} (s : State) (code : Nat) (rising : Bool) (t : Nat) (hk : SameTime start s) :
    SameTime start (capCode s code rising t) := by
  unfold capCode
  repeat' first
    | with_reducible assumption | with_reducible apply capEdge_time | with_reducible apply time_ite
    | (with_reducible apply time_foldl; rotate_left; intro _ _ _) | split | dsimp only

theorem laneCmd_time {start : State} (s : State) (l : Nat) (b : Bool) (t : Nat) (hk : SameTime start s) :
    SameTime start (laneCmd s l b t) := by
  unfold laneCmd
  repeat' first
    | with_reducible assumption | with_reducible apply setLane_time | with_reducible apply time_ite | split
    | dsimp only | with_reducible refine SameTime.of_mk ?_ rfl rfl

theorem cmdCapture_time {start : State} (l : Nat) (s : State) (e : LaneEdge) (hk : SameTime start s) :
    SameTime start (cmdCapture l s e) := by
  unfold cmdCapture
  repeat' first
    | with_reducible assumption | with_reducible apply capCode_time | with_reducible apply setLane_time
    | with_reducible apply time_ite | split | with_reducible refine SameTime.of_mk ?_ rfl rfl

theorem restartWin_time {start : State} (s : State) (w : Nat) (hk : SameTime start s) :
    SameTime start (restartWin s w) := by
  unfold restartWin
  repeat' first
    | with_reducible assumption | with_reducible apply capCode_time | with_reducible apply time_ite | split
    | dsimp only | with_reducible refine SameTime.of_mk ?_ rfl rfl

theorem restartBrace_time {start : State} (s : State) (i : Nat) (hk : SameTime start s) :
    SameTime start (restartBrace s i) := by
  unfold restartBrace
  repeat' first
    | with_reducible assumption | dsimp only | with_reducible refine SameTime.of_mk ?_ rfl rfl

theorem restartLoop_time {start : State} (s : State) (l : Nat) (hk : SameTime start s) :
    SameTime start (restartLoop s l) := by
  unfold restartLoop
  repeat' first
    | with_reducible assumption | with_reducible apply restartBrace_time | with_reducible apply putOb_time
    | (with_reducible apply time_foldl; rotate_left; intro _ _ _) | dsimp only
    | with_reducible refine SameTime.of_mk ?_ rfl rfl

theorem publishAsc_time {start : State} (s : State) (x : Drv) (hk : SameTime start s) :
    SameTime start (publishAsc s x) := by
  unfold publishAsc
  repeat' first
    | with_reducible assumption | with_reducible apply putOb_time | with_reducible apply time_ite | split
    | dsimp only

theorem dropTrigs_time {start : State} (s : State) (b : Nat) (hk : SameTime start s) :
    SameTime start (dropTrigs s b) := by
  unfold dropTrigs
  repeat' first
    | with_reducible assumption | with_reducible apply time_ite | split | dsimp only
    | with_reducible refine SameTime.of_mk ?_ rfl rfl

theorem restartElems_time {start : State} (s : State) (b : Nat) (hk : SameTime start s) :
    SameTime start (restartElems s b) := by
  unfold restartElems
  repeat' first
    | with_reducible assumption | with_reducible apply restartLoop_time | with_reducible apply dropTrigs_time
    | with_reducible apply startPos_time | with_reducible apply putOb_time | with_reducible apply restartWin_time
    | with_reducible apply publishAsc_time | with_reducible apply time_ite
    | (with_reducible apply time_foldl; rotate_left; intro _ _ _) | split | dsimp only
    | with_reducible refine SameTime.of_mk ?_ rfl rfl

theorem putPub_time {start : State} (s : State) (idx sub v : Nat) (hk : SameTime start s) :
    SameTime start (putPub s idx sub v) := by
  unfold putPub
  repeat' first
    | with_reducible assumption | with_reducible apply putOb_time | with_reducible apply time_ite | split

theorem publishOwners_time {start : State} (s : State) (hk : SameTime start s) :
    SameTime start (publishOwners s) := by
  unfold publishOwners
  repeat' first
    | with_reducible assumption | with_reducible apply putPub_time | with_reducible apply time_ite
    | (with_reducible apply time_foldl; rotate_left; intro _ _ _) | refine time_fst_of_eq (by assumption) ?_
    | refine time_snd_of_eq (by assumption) ?_ | split | dsimp only
    | with_reducible refine SameTime.of_mk ?_ rfl rfl

theorem ridgeRestart_time {start : State} (struck : Bool) (s : State) (e : Nat × Acc) (hk : SameTime start s) :
    SameTime start (ridgeRestart struck s e) := by
  unfold ridgeRestart
  repeat' first
    | with_reducible assumption | with_reducible apply setCell_time | with_reducible apply time_ite
    | with_reducible apply time_ite1 | with_reducible apply time_ite2 | refine time_fst_of_eq (by assumption) ?_
    | refine time_snd_of_eq (by assumption) ?_ | split | dsimp only
    | with_reducible refine SameTime.of_mk ?_ rfl rfl

theorem rodRestart_time {start : State} (s : State) (r : Nat) (hk : SameTime start s) :
    SameTime start (rodRestart s r) := by
  unfold rodRestart
  repeat' first
    | with_reducible assumption | with_reducible apply setRod_time | with_reducible apply time_ite
    | refine time_fst_of_eq (by assumption) ?_ | refine time_snd_of_eq (by assumption) ?_ | split | dsimp only
    | with_reducible refine SameTime.of_mk ?_ rfl rfl

theorem restartBlock_time {start : State} (struck : Bool) (s : State) (b : Nat) (hk : SameTime start s) :
    SameTime start (restartBlock struck s b) := by
  unfold restartBlock
  repeat' first
    | with_reducible assumption | with_reducible apply ridgeRestart_time | with_reducible apply rodRestart_time
    | with_reducible apply restartElems_time | with_reducible apply time_ite
    | (with_reducible apply time_foldl; rotate_left; intro _ _ _) | split | dsimp only

theorem commitPending_time {start : State} (b : Nat) (s : State) (hk : SameTime start s) :
    SameTime start (commitPending b s) := by
  unfold commitPending
  repeat' first
    | with_reducible assumption | with_reducible apply setCell_time | with_reducible apply time_ite
    | with_reducible apply time_ite1 | with_reducible apply time_ite2
    | (with_reducible apply time_foldl; rotate_left; intro _ _ _) | split | dsimp only
    | with_reducible refine SameTime.of_mk ?_ rfl rfl

theorem dropPending_time {start : State} (b : Nat) (s : State) (hk : SameTime start s) :
    SameTime start (dropPending b s) := by
  unfold dropPending
  repeat' first
    | with_reducible assumption | dsimp only | with_reducible refine SameTime.of_mk ?_ rfl rfl

theorem thaw_time {start : State} (s : State) (b : Nat) (hk : SameTime start s) : SameTime start (thaw s b) := by
  unfold thaw
  repeat' first
    | with_reducible assumption | with_reducible apply setCell_time | with_reducible apply time_ite
    | with_reducible apply time_ite1 | with_reducible apply time_ite2
    | (with_reducible apply time_foldl; rotate_left; intro _ _ _) | refine time_fst_of_eq (by assumption) ?_
    | refine time_snd_of_eq (by assumption) ?_ | split | dsimp only
    | with_reducible refine SameTime.of_mk ?_ rfl rfl

theorem leaveShored_time {start : State} (s : State) (f : Fn) (hk : SameTime start s) :
    SameTime start (leaveShored s f) := by
  unfold leaveShored
  repeat' first
    | with_reducible assumption | with_reducible apply setFn_time | with_reducible apply time_ite | split
    | dsimp only

theorem rebuild_time {start : State} (s : State) (hk : SameTime start s) : SameTime start (rebuild s) := by
  unfold rebuild
  repeat' first
    | with_reducible assumption | with_reducible apply publishOwners_time
    | (with_reducible apply time_foldl; rotate_left; intro _ _ _) | dsimp only
    | with_reducible refine SameTime.of_mk ?_ rfl rfl

theorem abandonOwned_time {start : State} (s : State) (f : Fn) (hk : SameTime start s) :
    SameTime start (abandonOwned s f) := by
  unfold abandonOwned
  repeat' first
    | with_reducible assumption | with_reducible apply time_ite | split | dsimp only
    | with_reducible refine SameTime.of_mk ?_ rfl rfl

theorem drvOff_time {start : State} (s : State) (x : Drv) (hk : SameTime start s) : SameTime start (drvOff s x) := by
  unfold drvOff
  repeat' first
    | with_reducible assumption | with_reducible apply setSel_time | with_reducible apply setLive_time
    | with_reducible apply time_ite | split | dsimp only
    | with_reducible refine SameTime.of_mk ?_ rfl rfl

theorem trip_time {start : State} (s : State) (x : Drv) (hk : SameTime start s) : SameTime start (trip s x) := by
  unfold trip
  repeat' first
    | with_reducible assumption | with_reducible apply incOb_time | with_reducible apply putOb_time
    | with_reducible apply time_ite | split

theorem freewheel_time {start : State} (s : State) (x : Drv) (asc : Option Choice) (f : Selector → Selector)
    (hk : SameTime start s) : SameTime start (freewheel s x asc f) := by
  unfold freewheel
  repeat' first
    | with_reducible assumption | with_reducible apply trip_time | with_reducible apply drvOff_time
    | with_reducible apply setSel_time | with_reducible apply time_ite | with_reducible apply time_ite1
    | with_reducible apply time_ite2 | split | dsimp only
    | with_reducible refine SameTime.of_mk ?_ rfl rfl

theorem speedRule_time {start : State} (s : State) (x : Drv) (f : Selector → Selector) (hk : SameTime start s) :
    SameTime start (speedRule s x f) := by
  unfold speedRule
  repeat' first
    | with_reducible assumption | with_reducible apply lockout_time | with_reducible apply setSel_time
    | with_reducible apply freewheel_time | with_reducible apply time_ite | with_reducible apply time_ite1
    | with_reducible apply time_ite2 | split | dsimp only
    | with_reducible refine SameTime.of_mk ?_ rfl rfl

theorem drvStopped_time {start : State} (s : State) (x : Drv) (hk : SameTime start s) :
    SameTime start (drvStopped s x) := by
  unfold drvStopped
  repeat' first
    | with_reducible assumption | with_reducible apply setDrv_time | with_reducible apply drvOff_time
    | with_reducible apply time_ite | with_reducible apply time_ite1 | with_reducible apply time_ite2 | split
    | dsimp only | with_reducible refine SameTime.of_mk ?_ rfl rfl

theorem drvReset_time {start : State} (s : State) (x : Drv) (hk : SameTime start s) :
    SameTime start (drvReset s x) := by
  unfold drvReset
  repeat' first
    | with_reducible assumption | with_reducible apply setDrv_time
    | with_reducible refine SameTime.of_mk ?_ rfl rfl

theorem drvReact_time {start : State} (s : State) (x : Drv) (eff : Nat) (hk : SameTime start s) :
    SameTime start (drvReact s x eff) := by
  unfold drvReact
  repeat' first
    | with_reducible assumption | with_reducible apply drvStopped_time | with_reducible apply drvReset_time
    | with_reducible apply drvOff_time | with_reducible apply speedRule_time | with_reducible apply setLive_time
    | with_reducible apply time_ite | split | dsimp only
    | with_reducible refine SameTime.of_mk ?_ rfl rfl

theorem drvLeaveSafe_time {start : State} (s : State) (x : Drv) (hk : SameTime start s) :
    SameTime start (drvLeaveSafe s x) := by
  unfold drvLeaveSafe
  repeat' first
    | with_reducible assumption | with_reducible apply setSel_time
    | with_reducible refine SameTime.of_mk ?_ rfl rfl

theorem benchFault_time {start : State} (s : State) (scope eff : Nat) (hk : SameTime start s) :
    SameTime start (benchFault s scope eff) := by
  unfold benchFault
  repeat' first
    | with_reducible assumption | with_reducible apply time_ite | split | dsimp only
    | with_reducible refine SameTime.of_mk ?_ rfl rfl

theorem setChg_time {start : State} (s : State) (f : Charger → Charger) (hk : SameTime start s) :
    SameTime start (setChg s f) := by
  unfold setChg
  repeat' first
    | with_reducible assumption | with_reducible refine SameTime.of_mk ?_ rfl rfl

theorem pfcPut_time {start : State} (s : State) (ph : Nat) (b : Bool) (hk : SameTime start s) :
    SameTime start (pfcPut s ph b) := by
  unfold pfcPut
  repeat' first
    | with_reducible assumption | with_reducible apply setChg_time | with_reducible apply setLive_time
    | with_reducible apply time_ite | split | dsimp only
    | with_reducible refine SameTime.of_mk ?_ rfl rfl

theorem pfcAll_time {start : State} (s : State) (b : Bool) (hk : SameTime start s) : SameTime start (pfcAll s b) := by
  unfold pfcAll
  repeat' first
    | with_reducible assumption | with_reducible apply setChg_time | with_reducible apply pfcPut_time
    | (with_reducible apply time_foldl; rotate_left; intro _ _ _) | dsimp only
    | with_reducible refine SameTime.of_mk ?_ rfl rfl

theorem dabPut_time {start : State} (s : State) (b : Bool) (hk : SameTime start s) : SameTime start (dabPut s b) := by
  unfold dabPut
  repeat' first
    | with_reducible assumption | with_reducible apply setChg_time | with_reducible apply setLive_time | dsimp only
    | with_reducible refine SameTime.of_mk ?_ rfl rfl

theorem dabStop_time {start : State} (s : State) (hk : SameTime start s) : SameTime start (dabStop s) := by
  unfold dabStop
  repeat' first
    | with_reducible assumption | with_reducible apply setChg_time | dsimp only
    | with_reducible refine SameTime.of_mk ?_ rfl rfl

theorem relayPut_time {start : State} (s : State) (l : Nat) (b : Bool) (t : Nat) (hk : SameTime start s) :
    SameTime start (relayPut s l b t) := by
  unfold relayPut
  repeat' first
    | with_reducible assumption | with_reducible apply laneCmd_time | with_reducible apply setLane_time
    | with_reducible refine SameTime.of_mk ?_ rfl rfl

theorem relaysOff_time {start : State} (s : State) (hk : SameTime start s) : SameTime start (relaysOff s) := by
  unfold relaysOff
  repeat' first
    | with_reducible assumption | with_reducible apply relayPut_time | with_reducible apply setChg_time
    | with_reducible apply time_ite | with_reducible apply time_ite1 | with_reducible apply time_ite2 | split
    | dsimp only | with_reducible refine SameTime.of_mk ?_ rfl rfl

theorem relayTick_time {start : State} (s : State) (hk : SameTime start s) : SameTime start (relayTick s) := by
  unfold relayTick
  repeat' first
    | with_reducible assumption | with_reducible apply setChg_time | with_reducible apply relayPut_time
    | with_reducible apply time_ite | with_reducible apply time_ite1 | with_reducible apply time_ite2
    | (with_reducible apply time_foldl; rotate_left; intro _ _ _) | refine time_fst_of_eq (by assumption) ?_
    | refine time_snd_of_eq (by assumption) ?_ | split | dsimp only
    | with_reducible refine SameTime.of_mk ?_ rfl rfl

theorem putS2_time {start : State} (s : State) (b : Bool) (hk : SameTime start s) : SameTime start (putS2 s b) := by
  unfold putS2
  repeat' first
    | with_reducible assumption | with_reducible apply setChg_time | dsimp only
    | with_reducible refine SameTime.of_mk ?_ rfl rfl

theorem putPhase_time {start : State} (s : State) (p : Nat) (hk : SameTime start s) :
    SameTime start (putPhase s p) := by
  unfold putPhase
  repeat' first
    | with_reducible assumption | with_reducible apply putOb_time

theorem noteReason_time {start : State} (s : State) (c : Nat) (hk : SameTime start s) :
    SameTime start (noteReason s c) := by
  unfold noteReason
  repeat' first
    | with_reducible assumption | with_reducible apply setChg_time | with_reducible apply time_ite
    | with_reducible apply time_ite1 | with_reducible apply time_ite2 | split | dsimp only
    | with_reducible refine SameTime.of_mk ?_ rfl rfl

theorem sessionOver_time {start : State} (s : State) (hk : SameTime start s) : SameTime start (sessionOver s) := by
  unfold sessionOver
  repeat' first
    | with_reducible assumption | with_reducible apply putPhase_time | with_reducible apply putOb_time
    | with_reducible apply setChg_time | with_reducible apply time_ite | with_reducible apply time_ite1
    | with_reducible apply time_ite2 | split | dsimp only
    | with_reducible refine SameTime.of_mk ?_ rfl rfl

theorem chgOff_time {start : State} (s : State) (hk : SameTime start s) : SameTime start (chgOff s) := by
  unfold chgOff
  repeat' first
    | with_reducible assumption | with_reducible apply putS2_time | with_reducible apply relaysOff_time
    | with_reducible apply dabPut_time | with_reducible apply pfcAll_time

theorem legsEnd_time {start : State} (s : State) (hk : SameTime start s) : SameTime start (legsEnd s) := by
  unfold legsEnd
  repeat' first
    | with_reducible assumption | with_reducible apply setChg_time | with_reducible apply putPhase_time
    | with_reducible apply dabStop_time | dsimp only
    | with_reducible refine SameTime.of_mk ?_ rfl rfl

theorem chgReact_time {start : State} (s : State) (eff : Nat) (hk : SameTime start s) :
    SameTime start (chgReact s eff) := by
  unfold chgReact
  repeat' first
    | with_reducible assumption | with_reducible apply noteReason_time | with_reducible apply legsEnd_time
    | with_reducible apply sessionOver_time | with_reducible apply chgOff_time | with_reducible apply time_ite
    | split | dsimp only

theorem setCnv_time {start : State} (s : State) (f : Converter → Converter) (hk : SameTime start s) :
    SameTime start (setCnv s f) := by
  unfold setCnv
  repeat' first
    | with_reducible assumption | with_reducible refine SameTime.of_mk ?_ rfl rfl

theorem dcxPut_time {start : State} (s : State) (b : Bool) (hk : SameTime start s) : SameTime start (dcxPut s b) := by
  unfold dcxPut
  repeat' first
    | with_reducible assumption | with_reducible apply setCnv_time | with_reducible apply setLive_time | dsimp only
    | with_reducible refine SameTime.of_mk ?_ rfl rfl

theorem buckPut_time {start : State} (s : State) (b : Bool) (hk : SameTime start s) :
    SameTime start (buckPut s b) := by
  unfold buckPut
  repeat' first
    | with_reducible assumption | with_reducible apply setCnv_time | with_reducible apply setLive_time | dsimp only
    | with_reducible refine SameTime.of_mk ?_ rfl rfl

theorem cnvOff_time {start : State} (s : State) (hk : SameTime start s) : SameTime start (cnvOff s) := by
  unfold cnvOff
  repeat' first
    | with_reducible assumption | with_reducible apply setCnv_time | with_reducible apply dcxPut_time
    | with_reducible apply buckPut_time | dsimp only
    | with_reducible refine SameTime.of_mk ?_ rfl rfl

theorem cnvEnd_time {start : State} (s : State) (hk : SameTime start s) : SameTime start (cnvEnd s) := by
  unfold cnvEnd
  repeat' first
    | with_reducible assumption | with_reducible apply setCnv_time | dsimp only
    | with_reducible refine SameTime.of_mk ?_ rfl rfl

theorem cnvReact_time {start : State} (s : State) (eff : Nat) (hk : SameTime start s) :
    SameTime start (cnvReact s eff) := by
  unfold cnvReact
  repeat' first
    | with_reducible assumption | with_reducible apply cnvEnd_time | with_reducible apply cnvOff_time
    | with_reducible apply time_ite | split

theorem setAct_time {start : State} (s : State) (n : Nat) (x : Act) (hk : SameTime start s) :
    SameTime start (setAct s n x) := by
  unfold setAct
  repeat' first
    | with_reducible assumption | with_reducible refine SameTime.of_mk ?_ rfl rfl

theorem actCmd_time {start : State} (s : State) (l : Nat) (b : Bool) (hk : SameTime start s) :
    SameTime start (actCmd s l b) := by
  unfold actCmd
  repeat' first
    | with_reducible assumption | with_reducible apply laneCmd_time

theorem parkPlumb_time {start : State} (s : State) (hk : SameTime start s) : SameTime start (parkPlumb s) := by
  unfold parkPlumb
  repeat' first
    | with_reducible assumption | (with_reducible apply time_foldl; rotate_left; intro _ _ _) | dsimp only
    | with_reducible refine SameTime.of_mk ?_ rfl rfl

theorem actOff_time {start : State} (s : State) (n : Nat) (hk : SameTime start s) : SameTime start (actOff s n) := by
  unfold actOff
  repeat' first
    | with_reducible assumption | with_reducible apply setAct_time | with_reducible apply actCmd_time
    | with_reducible apply parkPlumb_time | with_reducible apply setLive_time
    | (with_reducible apply time_foldl; rotate_left; intro _ _ _) | dsimp only
    | with_reducible refine SameTime.of_mk ?_ rfl rfl

theorem actOffNext_time {start : State} (s : State) (n : Nat) (hk : SameTime start s) :
    SameTime start (actOffNext s n) := by
  unfold actOffNext
  repeat' first
    | with_reducible assumption | with_reducible apply setAct_time | with_reducible apply time_ite | split
    | dsimp only | with_reducible refine SameTime.of_mk ?_ rfl rfl

theorem actLeg_time {start : State} (n : Nat) (s : State) (p : Nat) (hk : SameTime start s) :
    SameTime start (actLeg n s p) := by
  unfold actLeg
  repeat' first
    | with_reducible assumption | with_reducible apply setAct_time | with_reducible apply actCmd_time | dsimp only
    | with_reducible refine SameTime.of_mk ?_ rfl rfl

theorem actTick_time {start : State} (s : State) (n : Nat) (hk : SameTime start s) :
    SameTime start (actTick s n) := by
  unfold actTick
  repeat' first
    | with_reducible assumption | with_reducible apply actLeg_time | with_reducible apply setAct_time
    | with_reducible apply time_ite | (with_reducible apply time_foldl; rotate_left; intro _ _ _) | split
    | dsimp only | with_reducible refine SameTime.of_mk ?_ rfl rfl

theorem pumpQuiet_time {start : State} (s : State) (hk : SameTime start s) : SameTime start (pumpQuiet s) := by
  unfold pumpQuiet
  repeat' first
    | with_reducible assumption | with_reducible refine SameTime.of_mk ?_ rfl rfl

theorem parkEnd_time {start : State} (s : State) (hk : SameTime start s) : SameTime start (parkEnd s) := by
  unfold parkEnd
  repeat' first
    | with_reducible assumption | with_reducible apply setAct_time
    | with_reducible refine SameTime.of_mk ?_ rfl rfl

theorem clutchRelease_time {start : State} (s : State) (hk : SameTime start s) :
    SameTime start (clutchRelease s) := by
  unfold clutchRelease
  repeat' first
    | with_reducible assumption | with_reducible apply setDrv_time | refine time_fst_of_eq (by assumption) ?_
    | refine time_snd_of_eq (by assumption) ?_ | dsimp only
    | with_reducible refine SameTime.of_mk ?_ rfl rfl

theorem clutchEnd_time {start : State} (s : State) (hk : SameTime start s) : SameTime start (clutchEnd s) := by
  unfold clutchEnd
  repeat' first
    | with_reducible assumption | with_reducible apply clutchRelease_time | with_reducible apply setAct_time
    | dsimp only | with_reducible refine SameTime.of_mk ?_ rfl rfl

theorem actSeqEnd_time {start : State} (s : State) (n : Nat) (hk : SameTime start s) :
    SameTime start (actSeqEnd s n) := by
  unfold actSeqEnd
  repeat' first
    | with_reducible assumption | with_reducible apply pumpQuiet_time | with_reducible apply parkEnd_time
    | with_reducible apply clutchEnd_time | with_reducible apply time_ite | split

theorem actReact_time {start : State} (s : State) (n eff : Nat) (hk : SameTime start s) :
    SameTime start (actReact s n eff) := by
  unfold actReact
  repeat' first
    | with_reducible assumption | with_reducible apply actSeqEnd_time | with_reducible apply actOffNext_time
    | with_reducible apply actOff_time | with_reducible apply time_ite | split | dsimp only

theorem fnReact_time {start : State} (s : State) (f : Fn) (eff : Nat) (hk : SameTime start s) :
    SameTime start (fnReact s f eff) := by
  unfold fnReact
  repeat' first
    | with_reducible assumption | with_reducible apply drvReact_time | with_reducible apply chgReact_time
    | with_reducible apply cnvReact_time | with_reducible apply actReact_time
    | refine time_fst_of_eq (by assumption) ?_ | refine time_snd_of_eq (by assumption) ?_ | split | dsimp only
    | with_reducible refine SameTime.of_mk ?_ rfl rfl

theorem fnLeaveSafe_time {start : State} (s : State) (f : Fn) (hk : SameTime start s) :
    SameTime start (fnLeaveSafe s f) := by
  unfold fnLeaveSafe
  repeat' first
    | with_reducible assumption | with_reducible apply drvLeaveSafe_time | refine time_fst_of_eq (by assumption) ?_
    | refine time_snd_of_eq (by assumption) ?_ | split | dsimp only
    | with_reducible refine SameTime.of_mk ?_ rfl rfl

theorem fnUnstop_time {start : State} (s : State) (f : Fn) (hk : SameTime start s) :
    SameTime start (fnUnstop s f) := by
  unfold fnUnstop
  repeat' first
    | with_reducible assumption | with_reducible apply drvReset_time | with_reducible apply drvOff_time
    | with_reducible apply sessionOver_time | with_reducible apply chgOff_time | with_reducible apply cnvOff_time
    | with_reducible apply actOff_time | with_reducible apply actSeqEnd_time
    | refine time_fst_of_eq (by assumption) ?_ | refine time_snd_of_eq (by assumption) ?_ | split | dsimp only
    | with_reducible refine SameTime.of_mk ?_ rfl rfl

theorem settleStopped_time {start : State} (s : State) (f : Fn) (hk : SameTime start s) :
    SameTime start (settleStopped s f) := by
  unfold settleStopped
  repeat' first
    | with_reducible assumption | with_reducible apply fnUnstop_time | with_reducible apply setFn_time
    | with_reducible apply time_ite | split

theorem releaseBlocks_time {start : State} (struck : Bool) (s : State) (bs : List Nat) (hk : SameTime start s) :
    SameTime start (releaseBlocks struck s bs) := by
  unfold releaseBlocks
  repeat' first
    | with_reducible assumption | with_reducible apply commitPending_time | with_reducible apply dropPending_time
    | with_reducible apply thaw_time | with_reducible apply restartBlock_time | with_reducible apply rebuild_time
    | with_reducible apply settleStopped_time | with_reducible apply leaveShored_time
    | with_reducible apply time_ite | (with_reducible apply time_foldl; rotate_left; intro _ _ _) | split
    | dsimp only | with_reducible refine SameTime.of_mk ?_ rfl rfl

theorem abortTk_time {start : State} (s : State) (code : Nat) (hk : SameTime start s) :
    SameTime start (abortTk s code) := by
  unfold abortTk
  repeat' first
    | with_reducible assumption | with_reducible apply freshWord_time | with_reducible apply releaseBlocks_time
    | with_reducible apply time_ite | with_reducible apply time_ite1 | with_reducible apply time_ite2 | split
    | dsimp only | with_reducible refine SameTime.of_mk ?_ rfl rfl

theorem setKey_time {start : State} (s : State) (k : Nat) (x : Key) (hk : SameTime start s) :
    SameTime start (setKey s k x) := by
  unfold setKey
  repeat' first
    | with_reducible assumption | with_reducible refine SameTime.of_mk ?_ rfl rfl

theorem startRecord_time {start : State} (s : State) (hk : SameTime start s) : SameTime start (startRecord s) := by
  unfold startRecord
  repeat' first
    | with_reducible assumption | with_reducible apply putOb_time

theorem lockoutAgain_time {start : State} (s : State) (r : Raise) (hk : SameTime start s) :
    SameTime start (lockoutAgain s r) := by
  unfold lockoutAgain
  repeat' first
    | with_reducible assumption | with_reducible apply time_ite | refine time_fst_of_eq (by assumption) ?_
    | refine time_snd_of_eq (by assumption) ?_ | split | dsimp only
    | with_reducible refine SameTime.of_mk ?_ rfl rfl

theorem lockout_time {start : State} (s : State) (r : Raise) (hk : SameTime start s) :
    SameTime start (lockout s r) := by
  unfold lockout
  repeat' first
    | with_reducible assumption | with_reducible apply lockoutAgain_time | with_reducible apply startRecord_time
    | with_reducible apply restoreCfg_time | with_reducible apply fnReact_time
    | with_reducible apply abandonOwned_time | with_reducible apply abortTk_time | with_reducible apply setDev_time
    | with_reducible apply setFn_time | with_reducible apply time_ite
    | (with_reducible apply time_foldl; rotate_left; intro _ _ _) | split | dsimp only
    | with_reducible refine SameTime.of_mk ?_ rfl rfl

theorem reactFn_time {start : State} (s : State) (f : Fn) (eff : Nat) (hk : SameTime start s) :
    SameTime start (reactFn s f eff) := by
  unfold reactFn
  repeat' first
    | with_reducible assumption | with_reducible apply fnReact_time | with_reducible apply abandonOwned_time
    | with_reducible apply setFn_time | with_reducible apply time_ite | split | dsimp only

theorem reaction_time {start : State} (s : State) (r : Raise) (hk : SameTime start s) :
    SameTime start (reaction s r) := by
  unfold reaction
  repeat' first
    | with_reducible assumption | with_reducible apply benchFault_time | with_reducible apply lockout_time
    | with_reducible apply reactFn_time | with_reducible apply time_ite | refine time_fst_of_eq (by assumption) ?_
    | refine time_snd_of_eq (by assumption) ?_ | split | dsimp only
    | with_reducible refine SameTime.of_mk ?_ rfl rfl

theorem raiseAt_time {start : State} (s : State) (c : Cls) (l scope stamp rank detail det : Nat)
    (hk : SameTime start s) : SameTime start (raiseAt s c l scope stamp rank detail det) := by
  unfold raiseAt
  repeat' first
    | with_reducible assumption | with_reducible apply setKey_time | with_reducible apply reaction_time
    | with_reducible apply time_ite | refine time_fst_of_eq (by assumption) ?_
    | refine time_snd_of_eq (by assumption) ?_ | split | dsimp only
    | with_reducible refine SameTime.of_mk ?_ rfl rfl

theorem raiseEv_time {start : State} (s : State) (c : Cls) (l scope rank detail : Nat) (hk : SameTime start s) :
    SameTime start (raiseEv s c l scope rank detail) := by
  unfold raiseEv
  repeat' first
    | with_reducible assumption | with_reducible apply raiseAt_time

theorem condRaiseAt_time {start : State} (s : State) (c : Cls) (l scope stamp rank detail det : Nat)
    (hk : SameTime start s) : SameTime start (condRaiseAt s c l scope stamp rank detail det) := by
  unfold condRaiseAt
  repeat' first
    | with_reducible assumption | with_reducible apply raiseAt_time | with_reducible apply time_ite | split

theorem condRaise_time {start : State} (s : State) (c : Cls) (l scope rank detail det : Nat)
    (hk : SameTime start s) : SameTime start (condRaise s c l scope rank detail det) := by
  unfold condRaise
  repeat' first
    | with_reducible assumption | with_reducible apply condRaiseAt_time

theorem condAll_time {start : State} (s : State) (fs : List Fn) (c : Cls) (l rank detail det : Nat)
    (hk : SameTime start s) : SameTime start (condAll s fs c l rank detail det) := by
  unfold condAll
  repeat' first
    | with_reducible assumption | with_reducible apply condRaise_time
    | (with_reducible apply time_foldl; rotate_left; intro _ _ _) | dsimp only

theorem refreshErr_time {start : State} (s : State) (hk : SameTime start s) : SameTime start (refreshErr s) := by
  unfold refreshErr
  repeat' first
    | with_reducible assumption | with_reducible refine SameTime.of_mk ?_ rfl rfl

theorem publishKey_time {start : State} (s : State) (k : Nat) (hk : SameTime start s) :
    SameTime start (publishKey s k) := by
  unfold publishKey
  repeat' first
    | with_reducible assumption | with_reducible apply time_ite | split | dsimp only
    | with_reducible refine SameTime.of_mk ?_ rfl rfl

theorem settleFn_time {start : State} (s : State) (f : Fn) (hk : SameTime start s) :
    SameTime start (settleFn s f) := by
  unfold settleFn
  repeat' first
    | with_reducible assumption | with_reducible apply settleStopped_time | with_reducible apply fnLeaveSafe_time
    | with_reducible apply setFn_time | with_reducible apply time_ite | refine time_fst_of_eq (by assumption) ?_
    | refine time_snd_of_eq (by assumption) ?_ | split | dsimp only
    | with_reducible refine SameTime.of_mk ?_ rfl rfl

theorem retire_time {start : State} (s : State) (k : Nat) (hk : SameTime start s) : SameTime start (retire s k) := by
  unfold retire
  repeat' first
    | with_reducible assumption | with_reducible apply refreshErr_time | with_reducible apply publishKey_time
    | with_reducible apply setKey_time | with_reducible apply settleFn_time | with_reducible apply time_ite
    | refine time_fst_of_eq (by assumption) ?_ | refine time_snd_of_eq (by assumption) ?_ | split | dsimp only
    | with_reducible refine SameTime.of_mk ?_ rfl rfl

theorem clearDet_time {start : State} (s : State) (det : Nat) (hk : SameTime start s) :
    SameTime start (clearDet s det) := by
  unfold clearDet
  repeat' first
    | with_reducible assumption | with_reducible apply retire_time | with_reducible apply setKey_time
    | with_reducible apply time_ite | with_reducible apply time_ite1
    | (with_reducible apply time_foldl; rotate_left; intro _ _ _) | split | dsimp only
    | with_reducible refine SameTime.of_mk ?_ rfl rfl

theorem setWin_time {start : State} (s : State) (w : Nat) (x : Window) (hk : SameTime start s) :
    SameTime start (setWin s w x) := by
  unfold setWin
  repeat' first
    | with_reducible assumption | with_reducible refine SameTime.of_mk ?_ rfl rfl

theorem winTrip_time {start : State} (s : State) (w : Nat) (isH : Bool) (hk : SameTime start s) :
    SameTime start (winTrip s w isH) := by
  unfold winTrip
  repeat' first
    | with_reducible assumption | with_reducible apply setLane_time | with_reducible apply time_ite
    | (with_reducible apply time_foldl; rotate_left; intro _ _ _) | split | dsimp only
    | with_reducible refine SameTime.of_mk ?_ rfl rfl

theorem winSelect_time {start : State} (s : State) (w stamp : Nat) (hk : SameTime start s) :
    SameTime start (winSelect s w stamp) := by
  unfold winSelect
  repeat' first
    | with_reducible assumption | with_reducible apply raiseAt_time | with_reducible apply speedRule_time
    | with_reducible apply time_ite | (with_reducible apply time_foldl; rotate_left; intro _ _ _) | split
    | dsimp only | with_reducible refine SameTime.of_mk ?_ rfl rfl

theorem benchWindow_time {start : State} (s : State) (w : Nat) (hk : SameTime start s) :
    SameTime start (benchWindow s w) := by
  unfold benchWindow
  repeat' first
    | with_reducible assumption | with_reducible apply time_ite | split
    | with_reducible refine SameTime.of_mk ?_ rfl rfl

theorem batteryLost_time {start : State} (s : State) (stamp : Nat) (hk : SameTime start s) :
    SameTime start (batteryLost s stamp) := by
  unfold batteryLost
  repeat' first
    | with_reducible assumption | with_reducible apply noteReason_time | with_reducible apply putOb_time
    | with_reducible apply setChg_time | with_reducible apply dabPut_time | with_reducible apply condRaiseAt_time
    | with_reducible apply legsEnd_time | with_reducible apply pfcAll_time | with_reducible apply time_ite
    | with_reducible apply time_ite1 | with_reducible apply time_ite2 | split | dsimp only
    | with_reducible refine SameTime.of_mk ?_ rfl rfl

theorem converterTrip_time {start : State} (s : State) (stamp : Nat) (hk : SameTime start s) :
    SameTime start (converterTrip s stamp) := by
  unfold converterTrip
  repeat' first
    | with_reducible assumption | with_reducible apply condRaiseAt_time | with_reducible apply setLive_time
    | with_reducible apply cnvOff_time | dsimp only

theorem winCapture_time {start : State} (s : State) (w t : Nat) (was : Bool) (hk : SameTime start s) :
    SameTime start (winCapture s w t was) := by
  unfold winCapture
  repeat' first
    | with_reducible assumption | with_reducible apply capCode_time | with_reducible apply time_ite | split
    | dsimp only

theorem winUntrip_time {start : State} (s : State) (w t : Nat) (hk : SameTime start s) :
    SameTime start (winUntrip s w t) := by
  unfold winUntrip
  repeat' first
    | with_reducible assumption | with_reducible apply setLane_time | with_reducible apply time_ite
    | (with_reducible apply time_foldl; rotate_left; intro _ _ _) | split | dsimp only
    | with_reducible refine SameTime.of_mk ?_ rfl rfl

theorem winAssert_time {start : State} (s : State) (w : Nat) (isH : Bool) (t : Nat) (hk : SameTime start s) :
    SameTime start (winAssert s w isH t) := by
  unfold winAssert
  repeat' first
    | with_reducible assumption | with_reducible apply winCapture_time | with_reducible apply setWin_time
    | with_reducible apply putOb_time | with_reducible apply incOb_time | with_reducible apply benchWindow_time
    | with_reducible apply winTrip_time | with_reducible apply winSelect_time
    | with_reducible apply batteryLost_time | with_reducible apply converterTrip_time
    | with_reducible apply raiseAt_time | with_reducible apply time_ite | with_reducible apply time_ite1
    | with_reducible apply time_ite2 | split | dsimp only
    | with_reducible refine SameTime.of_mk ?_ rfl rfl

theorem winRelease_time {start : State} (s : State) (w : Nat) (isH : Bool) (t : Nat) (hk : SameTime start s) :
    SameTime start (winRelease s w isH t) := by
  unfold winRelease
  repeat' first
    | with_reducible assumption | with_reducible apply winUntrip_time | with_reducible apply winCapture_time
    | with_reducible apply setWin_time | with_reducible apply clearDet_time | with_reducible apply time_ite | split
    | dsimp only | with_reducible refine SameTime.of_mk ?_ rfl rfl

theorem winRaw_time {start : State} (s : State) (w : Nat) (isH raw blank : Bool) (t : Nat) (hk : SameTime start s) :
    SameTime start (winRaw s w isH raw blank t) := by
  unfold winRaw
  repeat' first
    | with_reducible assumption | with_reducible apply setWin_time | with_reducible apply winAssert_time
    | with_reducible apply winRelease_time | with_reducible apply time_ite | split | dsimp only
    | with_reducible refine SameTime.of_mk ?_ rfl rfl

theorem winUnblank_time {start : State} (s : State) (w t : Nat) (hk : SameTime start s) :
    SameTime start (winUnblank s w t) := by
  unfold winUnblank
  repeat' first
    | with_reducible assumption | with_reducible apply winAssert_time | with_reducible apply time_ite | split
    | dsimp only

theorem putBlank_time {start : State} (s : State) (w : Nat) (e : BlankEv) (hk : SameTime start s) :
    SameTime start (putBlank s w e) := by
  unfold putBlank
  repeat' first
    | with_reducible assumption | with_reducible apply setWin_time
    | with_reducible refine SameTime.of_mk ?_ rfl rfl

theorem winLaneEdge_time {start : State} (s : State) (w : Nat) (hk : SameTime start s) :
    SameTime start (winLaneEdge s w) := by
  unfold winLaneEdge
  repeat' first
    | with_reducible assumption | with_reducible apply putBlank_time | with_reducible apply time_ite
    | with_reducible apply time_ite1 | with_reducible apply time_ite2
    | (with_reducible apply time_foldl; rotate_left; intro _ _ _) | split | dsimp only
    | with_reducible refine SameTime.of_mk ?_ rfl rfl

theorem winLaneEnd_time {start : State} (s : State) (w t : Nat) (hk : SameTime start s) :
    SameTime start (winLaneEnd s w t) := by
  unfold winLaneEnd
  repeat' first
    | with_reducible assumption | with_reducible apply winUnblank_time | with_reducible apply setWin_time
    | with_reducible apply time_ite | with_reducible apply time_ite1 | with_reducible apply time_ite2
    | refine time_fst_of_eq (by assumption) ?_ | refine time_snd_of_eq (by assumption) ?_ | split | dsimp only
    | with_reducible refine SameTime.of_mk ?_ rfl rfl

theorem winMaxEnd_time {start : State} (s : State) (w t : Nat) (hk : SameTime start s) :
    SameTime start (winMaxEnd s w t) := by
  unfold winMaxEnd
  repeat' first
    | with_reducible assumption | with_reducible apply winUnblank_time | with_reducible apply incOb_time
    | with_reducible apply setWin_time | with_reducible apply time_ite | with_reducible apply time_ite1
    | with_reducible apply time_ite2 | refine time_fst_of_eq (by assumption) ?_
    | refine time_snd_of_eq (by assumption) ?_ | split | dsimp only
    | with_reducible refine SameTime.of_mk ?_ rfl rfl

theorem winEvent_time {start : State} (w : Nat) (s' : State) (e : BlankEv) (hk : SameTime start s') :
    SameTime start (winEvent w s' e) := by
  unfold winEvent
  repeat' first
    | with_reducible assumption | with_reducible apply winMaxEnd_time | with_reducible apply winLaneEnd_time
    | with_reducible apply setWin_time | with_reducible apply winUnblank_time | with_reducible apply time_ite
    | split | dsimp only | with_reducible refine SameTime.of_mk ?_ rfl rfl

theorem winFilter_time {start : State} (s : State) (w : Nat) (isH : Bool) (t : Nat) (hk : SameTime start s) :
    SameTime start (winFilter s w isH t) := by
  unfold winFilter
  repeat' first
    | with_reducible assumption | with_reducible apply winRaw_time | with_reducible apply setWin_time
    | with_reducible apply time_ite | with_reducible apply time_ite1 | with_reducible apply time_ite2
    | refine time_fst_of_eq (by assumption) ?_ | refine time_snd_of_eq (by assumption) ?_ | split | dsimp only
    | with_reducible refine SameTime.of_mk ?_ rfl rfl

theorem winAdvance_time {start : State} (s : State) (w t : Nat) (hk : SameTime start s) :
    SameTime start (winAdvance s w t) := by
  unfold winAdvance
  repeat' first
    | with_reducible assumption | with_reducible apply winEvent_time | with_reducible apply winFilter_time
    | with_reducible apply winMaxEnd_time | with_reducible apply winLaneEnd_time
    | (with_reducible apply time_foldl; rotate_left; intro _ _ _) | dsimp only

theorem setStat_time {start : State} (s : State) (u : Nat) (x : Stat) (hk : SameTime start s) :
    SameTime start (setStat s u x) := by
  unfold setStat
  repeat' first
    | with_reducible assumption | with_reducible refine SameTime.of_mk ?_ rfl rfl

theorem statLatch_time {start : State} (s : State) (u at_ : Nat) (timeout : Bool) (hk : SameTime start s) :
    SameTime start (statLatch s u at_ timeout) := by
  unfold statLatch
  repeat' first
    | with_reducible assumption | with_reducible apply incOb_time | with_reducible apply putOb_time
    | with_reducible apply setStat_time | with_reducible apply time_ite | split | dsimp only
    | with_reducible refine SameTime.of_mk ?_ rfl rfl

theorem statDue_time {start : State} (s : State) (u : Nat) (hk : SameTime start s) :
    SameTime start (statDue s u) := by
  unfold statDue
  repeat' first
    | with_reducible assumption | with_reducible apply statLatch_time | with_reducible apply setStat_time
    | with_reducible apply time_ite | refine time_fst_of_eq (by assumption) ?_
    | refine time_snd_of_eq (by assumption) ?_ | split | dsimp only
    | with_reducible refine SameTime.of_mk ?_ rfl rfl

theorem statWord_time {start : State} (s : State) (u : Nat) (v : Rat) (side : Nat) (hk : SameTime start s) :
    SameTime start (statWord s u v side) := by
  unfold statWord
  repeat' first
    | with_reducible assumption | with_reducible apply statDue_time | with_reducible apply setStat_time
    | with_reducible apply time_ite | split | dsimp only

theorem speedTrack_time {start : State} (s : State) (x : Drv) (hk : SameTime start s) :
    SameTime start (speedTrack s x) := by
  unfold speedTrack
  repeat' first
    | with_reducible assumption | with_reducible apply lockout_time | with_reducible apply setSel_time
    | with_reducible apply freewheel_time | with_reducible apply time_ite | split | dsimp only
    | with_reducible refine SameTime.of_mk ?_ rfl rfl

theorem livePos_time {start : State} (s : State) (hk : SameTime start s) : SameTime start (livePos s) := by
  unfold livePos
  repeat' first
    | with_reducible assumption | with_reducible apply time_ite | split | dsimp only
    | with_reducible refine SameTime.of_mk ?_ rfl rfl

theorem rodHold_time {start : State} (s : State) (r : Nat) (above : Bool) (hk : SameTime start s) :
    SameTime start (rodHold s r above) := by
  unfold rodHold
  repeat' first
    | with_reducible assumption | with_reducible apply condAll_time | with_reducible apply incOb_time
    | with_reducible apply setRod_time | with_reducible apply clearDet_time | with_reducible apply time_ite | split
    | dsimp only | with_reducible refine SameTime.of_mk ?_ rfl rfl

theorem rodTick_time {start : State} (s : State) (r : Nat) (hk : SameTime start s) :
    SameTime start (rodTick s r) := by
  unfold rodTick
  repeat' first
    | with_reducible assumption | with_reducible apply setRod_time | with_reducible apply rodHold_time
    | with_reducible apply time_ite | split | dsimp only
    | with_reducible refine SameTime.of_mk ?_ rfl rfl

theorem rodZero_time {start : State} (s : State) (hk : SameTime start s) : SameTime start (rodZero s) := by
  unfold rodZero
  repeat' first
    | with_reducible assumption | with_reducible apply setRod_time | dsimp only
    | with_reducible refine SameTime.of_mk ?_ rfl rfl

theorem rearm_time {start : State} (s : State) (hk : SameTime start s) : SameTime start (rearm s) := by
  unfold rearm
  repeat' first
    | with_reducible assumption | refine time_fst_of_eq (by assumption) ?_
    | refine time_snd_of_eq (by assumption) ?_ | split | dsimp only
    | with_reducible refine SameTime.of_mk ?_ rfl rfl

theorem countRunts_time {start : State} (s : State) (l : Nat) (hk : SameTime start s) :
    SameTime start (countRunts s l) := by
  unfold countRunts
  repeat' first
    | with_reducible assumption | with_reducible apply incOb_time | with_reducible apply setLane_time
    | (with_reducible apply time_foldl; rotate_left; intro _ _ _) | dsimp only
    | with_reducible refine SameTime.of_mk ?_ rfl rfl

theorem wantCmd_time {start : State} (s : State) (l : Nat) (hk : SameTime start s) :
    SameTime start (wantCmd s l) := by
  unfold wantCmd
  repeat' first
    | with_reducible assumption | with_reducible apply laneCmd_time | with_reducible apply time_ite | split

theorem pairStep_time {start : State} (s : State) (e : Nat) (es : List LaneEdge) (hk : SameTime start s) :
    SameTime start (pairStep s e es) := by
  unfold pairStep
  repeat' first
    | with_reducible assumption | with_reducible apply laneCmd_time
    | (with_reducible apply time_foldl; rotate_left; intro _ _ _) | dsimp only

theorem laneStep_time {start : State} (s : State) (l : Nat) (hk : SameTime start s) :
    SameTime start (laneStep s l) := by
  unfold laneStep
  repeat' first
    | with_reducible assumption | with_reducible apply wantCmd_time | with_reducible apply pairStep_time
    | with_reducible apply cmdCapture_time | with_reducible apply countRunts_time
    | with_reducible apply setLane_time | with_reducible apply time_ite | with_reducible apply time_ite1
    | with_reducible apply time_ite2 | (with_reducible apply time_foldl; rotate_left; intro _ _ _) | split
    | dsimp only | with_reducible refine SameTime.of_mk ?_ rfl rfl

theorem edgeRun_time {start : State} (s : State) (l after : Nat) (p : EdgePeriod) (hk : SameTime start s) :
    SameTime start (edgeRun s l after p) := by
  unfold edgeRun
  repeat' first
    | with_reducible assumption | with_reducible apply laneCmd_time | with_reducible apply time_ite
    | with_reducible apply time_ite1 | with_reducible apply time_ite2
    | (with_reducible apply time_foldl; rotate_left; intro _ _ _) | refine time_fst_of_eq (by assumption) ?_
    | refine time_snd_of_eq (by assumption) ?_ | split | dsimp only
    | with_reducible refine SameTime.of_mk ?_ rfl rfl

theorem edgeTick_time {start : State} (s : State) (l : Nat) (hk : SameTime start s) :
    SameTime start (edgeTick s l) := by
  unfold edgeTick
  repeat' first
    | with_reducible assumption | with_reducible apply edgeRun_time | with_reducible apply time_ite
    | refine time_fst_of_eq (by assumption) ?_ | refine time_snd_of_eq (by assumption) ?_ | split | dsimp only
    | with_reducible refine SameTime.of_mk ?_ rfl rfl

theorem overlapEvent_time {start : State} (s : State) (l : Nat) (hk : SameTime start s) :
    SameTime start (overlapEvent s l) := by
  unfold overlapEvent
  repeat' first
    | with_reducible assumption | with_reducible apply raiseEv_time | with_reducible apply incOb_time
    | with_reducible apply time_ite | split | dsimp only
    | with_reducible refine SameTime.of_mk ?_ rfl rfl

theorem outEdge_time {start : State} (s : State) (l t : Nat) (b : Bool) (hk : SameTime start s) :
    SameTime start (outEdge s l t b) := by
  unfold outEdge
  repeat' first
    | with_reducible assumption | with_reducible apply setLane_time | dsimp only
    | with_reducible refine SameTime.of_mk ?_ rfl rfl

theorem legEdge_time {start : State} (s : State) (e t : Nat) (hk : SameTime start s) :
    SameTime start (legEdge s e t) := by
  unfold legEdge
  repeat' first
    | with_reducible assumption | with_reducible apply overlapEvent_time | with_reducible apply setLane_time
    | with_reducible apply time_ite | with_reducible apply time_ite1 | with_reducible apply time_ite2 | split
    | dsimp only | with_reducible refine SameTime.of_mk ?_ rfl rfl

theorem lineEvent_time {start : State} (s : State) (line stamp ph : Nat) (hk : SameTime start s) :
    SameTime start (lineEvent s line stamp ph) := by
  unfold lineEvent
  repeat' first
    | with_reducible assumption | dsimp only | with_reducible refine SameTime.of_mk ?_ rfl rfl

theorem excAdvance_time {start : State} (s : State) (l : Nat) (b : Bool) (hk : SameTime start s) :
    SameTime start (excAdvance s l b) := by
  unfold excAdvance
  repeat' first
    | with_reducible assumption | with_reducible apply time_ite | split | dsimp only
    | with_reducible refine SameTime.of_mk ?_ rfl rfl

theorem levelTo_time {start : State} (t : Nat) (s : State) (l : Nat) (hk : SameTime start s) :
    SameTime start (levelTo t s l) := by
  unfold levelTo
  repeat' first
    | with_reducible assumption | with_reducible apply excAdvance_time | with_reducible apply setLane_time
    | with_reducible apply lineEvent_time | with_reducible apply time_ite | with_reducible apply time_ite1
    | with_reducible apply time_ite2 | split | dsimp only
    | with_reducible refine SameTime.of_mk ?_ rfl rfl

theorem legLevels_time {start : State} (s : State) (e t : Nat) (hk : SameTime start s) :
    SameTime start (legLevels s e t) := by
  unfold legLevels
  repeat' first
    | with_reducible assumption | with_reducible apply levelTo_time

theorem lockEnd_time {start : State} (s : State) (e t : Nat) (hk : SameTime start s) :
    SameTime start (lockEnd s e t) := by
  unfold lockEnd
  repeat' first
    | with_reducible assumption | with_reducible apply legLevels_time | with_reducible apply time_ite | split
    | dsimp only

theorem dropEds_time {start : State} (s : State) (l : Nat) (hk : SameTime start s) :
    SameTime start (dropEds s l) := by
  unfold dropEds
  repeat' first
    | with_reducible assumption | with_reducible apply setLane_time | with_reducible apply time_ite | split
    | dsimp only | with_reducible refine SameTime.of_mk ?_ rfl rfl

theorem legStep_time {start : State} (s : State) (e : Nat) (hk : SameTime start s) :
    SameTime start (legStep s e) := by
  unfold legStep
  repeat' first
    | with_reducible assumption | with_reducible apply setLane_time | with_reducible apply legLevels_time
    | with_reducible apply dropEds_time | with_reducible apply legEdge_time | with_reducible apply outEdge_time
    | with_reducible apply lockEnd_time | with_reducible apply time_ite | with_reducible apply time_ite1
    | with_reducible apply time_ite2 | (with_reducible apply time_foldl; rotate_left; intro _ _ _) | split
    | dsimp only | with_reducible refine SameTime.of_mk ?_ rfl rfl

theorem logMove_time {start : State} (s : State) (r : Nat) (hk : SameTime start s) :
    SameTime start (logMove s r) := by
  unfold logMove
  repeat' first
    | with_reducible assumption | with_reducible apply setRod_time | dsimp only
    | with_reducible refine SameTime.of_mk ?_ rfl rfl

theorem rodsTick_time {start : State} (s : State) (hk : SameTime start s) : SameTime start (rodsTick s) := by
  unfold rodsTick
  repeat' first
    | with_reducible assumption | with_reducible apply rodTick_time | with_reducible apply rodZero_time
    | with_reducible apply logMove_time | (with_reducible apply time_foldl; rotate_left; intro _ _ _) | dsimp only

theorem rodSnoop_time {start : State} (s : State) (u : Nat) (hk : SameTime start s) :
    SameTime start (rodSnoop s u) := by
  unfold rodSnoop
  repeat' first
    | with_reducible assumption | with_reducible apply statWord_time | with_reducible apply time_ite | split
    | dsimp only

theorem statTick_time {start : State} (s' : State) (u : Nat) (hk : SameTime start s') :
    SameTime start (statTick s' u) := by
  unfold statTick
  repeat' first
    | with_reducible assumption | with_reducible apply statDue_time | with_reducible apply setStat_time
    | with_reducible apply time_ite | with_reducible apply time_ite2 | refine time_fst_of_eq (by assumption) ?_
    | refine time_snd_of_eq (by assumption) ?_ | split | dsimp only
    | with_reducible refine SameTime.of_mk ?_ rfl rfl

theorem winTick_time {start : State} (s : State) (w : Nat) (hk : SameTime start s) :
    SameTime start (winTick s w) := by
  unfold winTick
  repeat' first
    | with_reducible assumption | with_reducible apply winLaneEdge_time | with_reducible apply setWin_time
    | with_reducible apply time_ite | split | dsimp only
    | with_reducible refine SameTime.of_mk ?_ rfl rfl

theorem winEnd_time {start : State} (s : State) (w : Nat) (hk : SameTime start s) : SameTime start (winEnd s w) := by
  unfold winEnd
  repeat' first
    | with_reducible assumption | with_reducible apply winAdvance_time | with_reducible apply time_ite | split

theorem lanesTick_time {start : State} (s : State) (hk : SameTime start s) : SameTime start (lanesTick s) := by
  unfold lanesTick
  repeat' first
    | with_reducible assumption | with_reducible apply laneStep_time
    | (with_reducible apply time_foldl; rotate_left; intro _ _ _) | dsimp only

theorem outTick_time {start : State} (s : State) (hk : SameTime start s) : SameTime start (outTick s) := by
  unfold outTick
  repeat' first
    | with_reducible assumption | with_reducible apply legStep_time
    | (with_reducible apply time_foldl; rotate_left; intro _ _ _) | dsimp only

theorem tickEnd_time {start : State} (s : State) (hk : SameTime start s) : SameTime start (tickEnd s) := by
  unfold tickEnd
  repeat' first
    | with_reducible assumption | with_reducible apply capDue_time | with_reducible apply rearm_time
    | with_reducible apply winEnd_time | with_reducible apply lanesTick_time
    | (with_reducible apply time_foldl; rotate_left; intro _ _ _) | dsimp only

end Sys2Proof.Machine
end

