-- ==== Sys2Proof/Laws/State.lean ====
section
/-! SUPPORT. What each update of the state leaves alone: one lemma for each field and each update, true by reduction. -/

namespace Sys2Proof.Machine

section setCell
variable (s : State) (i : Nat) (c : Cell)

@[simp] theorem setCell_dt : (setCell s i c).dt = s.dt := rfl
@[simp] theorem setCell_dtPrev : (setCell s i c).dtPrev = s.dtPrev := rfl
@[simp] theorem setCell_tick : (setCell s i c).tick = s.tick := rfl
@[simp] theorem setCell_dtLog : (setCell s i c).dtLog = s.dtLog := rfl
@[simp] theorem setCell_free : (setCell s i c).free = s.free := rfl
@[simp] theorem setCell_dev : (setCell s i c).dev = s.dev := rfl
@[simp] theorem setCell_power : (setCell s i c).power = s.power := rfl
@[simp] theorem setCell_fw : (setCell s i c).fw = s.fw := rfl
@[simp] theorem setCell_fuse : (setCell s i c).fuse = s.fuse := rfl
@[simp] theorem setCell_tally : (setCell s i c).tally = s.tally := rfl
@[simp] theorem setCell_fns : (setCell s i c).fns = s.fns := rfl
@[simp] theorem setCell_objs : (setCell s i c).objs = tabSetD dfltAt s.objs i c := rfl
@[simp] theorem setCell_pend : (setCell s i c).pend = s.pend := rfl
@[simp] theorem setCell_mram : (setCell s i c).mram = s.mram := rfl
@[simp] theorem setCell_led : (setCell s i c).led = s.led := rfl
@[simp] theorem setCell_man : (setCell s i c).man = s.man := rfl
@[simp] theorem setCell_rods : (setCell s i c).rods = s.rods := rfl
@[simp] theorem setCell_marks : (setCell s i c).marks = s.marks := rfl
@[simp] theorem setCell_disarmed : (setCell s i c).disarmed = s.disarmed := rfl
@[simp] theorem setCell_claims : (setCell s i c).claims = s.claims := rfl
@[simp] theorem setCell_lanes : (setCell s i c).lanes = s.lanes := rfl
@[simp] theorem setCell_trigs : (setCell s i c).trigs = s.trigs := rfl
@[simp] theorem setCell_sent : (setCell s i c).sent = s.sent := rfl
@[simp] theorem setCell_caps : (setCell s i c).caps = s.caps := rfl
@[simp] theorem setCell_capWait : (setCell s i c).capWait = s.capWait := rfl
@[simp] theorem setCell_sel : (setCell s i c).sel = s.sel := rfl
@[simp] theorem setCell_link : (setCell s i c).link = s.link := rfl
@[simp] theorem setCell_saf : (setCell s i c).saf = s.saf := rfl
@[simp] theorem setCell_net : (setCell s i c).net = s.net := rfl
@[simp] theorem setCell_can : (setCell s i c).can = s.can := rfl
@[simp] theorem setCell_host : (setCell s i c).host = s.host := rfl
@[simp] theorem setCell_res : (setCell s i c).res = s.res := rfl
@[simp] theorem setCell_enc : (setCell s i c).enc = s.enc := rfl
@[simp] theorem setCell_hall : (setCell s i c).hall = s.hall := rfl
@[simp] theorem setCell_grid : (setCell s i c).grid = s.grid := rfl
@[simp] theorem setCell_freqAt : (setCell s i c).freqAt = s.freqAt := rfl
@[simp] theorem setCell_seq : (setCell s i c).seq = s.seq := rfl
@[simp] theorem setCell_cal : (setCell s i c).cal = s.cal := rfl
@[simp] theorem setCell_pairs : (setCell s i c).pairs = s.pairs := rfl
@[simp] theorem setCell_sd : (setCell s i c).sd = s.sd := rfl
@[simp] theorem setCell_stat : (setCell s i c).stat = s.stat := rfl
@[simp] theorem setCell_tieFail : (setCell s i c).tieFail = s.tieFail := rfl
@[simp] theorem setCell_sdc : (setCell s i c).sdc = s.sdc := rfl
@[simp] theorem setCell_outc : (setCell s i c).outc = s.outc := rfl
@[simp] theorem setCell_win : (setCell s i c).win = s.win := rfl
@[simp] theorem setCell_brc : (setCell s i c).brc = s.brc := rfl
@[simp] theorem setCell_loops : (setCell s i c).loops = s.loops := rfl
@[simp] theorem setCell_mac : (setCell s i c).mac = s.mac := rfl
@[simp] theorem setCell_owned : (setCell s i c).owned = s.owned := rfl
@[simp] theorem setCell_inj : (setCell s i c).inj = s.inj := rfl
@[simp] theorem setCell_resp : (setCell s i c).resp = s.resp := rfl
@[simp] theorem setCell_evals : (setCell s i c).evals = s.evals := rfl
@[simp] theorem setCell_evalsPrev : (setCell s i c).evalsPrev = s.evalsPrev := rfl
@[simp] theorem setCell_evalMs : (setCell s i c).evalMs = s.evalMs := rfl
@[simp] theorem setCell_drv : (setCell s i c).drv = s.drv := rfl
@[simp] theorem setCell_chg : (setCell s i c).chg = s.chg := rfl
@[simp] theorem setCell_cnv : (setCell s i c).cnv = s.cnv := rfl
@[simp] theorem setCell_axle : (setCell s i c).axle = s.axle := rfl
@[simp] theorem setCell_camp : (setCell s i c).camp = s.camp := rfl
@[simp] theorem setCell_hvilCurrent : (setCell s i c).hvilCurrent = s.hvilCurrent := rfl
@[simp] theorem setCell_act : (setCell s i c).act = s.act := rfl
@[simp] theorem setCell_pump : (setCell s i c).pump = s.pump := rfl
@[simp] theorem setCell_plock : (setCell s i c).plock = s.plock := rfl
@[simp] theorem setCell_clutch : (setCell s i c).clutch = s.clutch := rfl
@[simp] theorem setCell_therm : (setCell s i c).therm = s.therm := rfl
@[simp] theorem setCell_outr : (setCell s i c).outr = s.outr := rfl
@[simp] theorem setCell_plumbHeld : (setCell s i c).plumbHeld = s.plumbHeld := rfl
@[simp] theorem setCell_formHz : (setCell s i c).formHz = s.formHz := rfl
@[simp] theorem setCell_fired : (setCell s i c).fired = s.fired := rfl
@[simp] theorem setCell_once : (setCell s i c).once = s.once := rfl
@[simp] theorem setCell_pending : (setCell s i c).pending = s.pending := rfl

end setCell

section putOb
variable (s : State) (idx sub v : Nat)

@[simp] theorem putOb_dt : (putOb s idx sub v).dt = s.dt := rfl
@[simp] theorem putOb_dtPrev : (putOb s idx sub v).dtPrev = s.dtPrev := rfl
@[simp] theorem putOb_tick : (putOb s idx sub v).tick = s.tick := rfl
@[simp] theorem putOb_dtLog : (putOb s idx sub v).dtLog = s.dtLog := rfl
@[simp] theorem putOb_free : (putOb s idx sub v).free = s.free := rfl
@[simp] theorem putOb_dev : (putOb s idx sub v).dev = s.dev := rfl
@[simp] theorem putOb_power : (putOb s idx sub v).power = s.power := rfl
@[simp] theorem putOb_fw : (putOb s idx sub v).fw = s.fw := rfl
@[simp] theorem putOb_fuse : (putOb s idx sub v).fuse = s.fuse := rfl
@[simp] theorem putOb_tally : (putOb s idx sub v).tally = s.tally := rfl
@[simp] theorem putOb_fns : (putOb s idx sub v).fns = s.fns := rfl
@[simp] theorem putOb_objs : (putOb s idx sub v).objs = tabSetD dfltAt s.objs (oaddr idx sub) (BitVec.ofNat 64 v) := rfl
@[simp] theorem putOb_pend : (putOb s idx sub v).pend = s.pend := rfl
@[simp] theorem putOb_mram : (putOb s idx sub v).mram = s.mram := rfl
@[simp] theorem putOb_led : (putOb s idx sub v).led = s.led := rfl
@[simp] theorem putOb_man : (putOb s idx sub v).man = s.man := rfl
@[simp] theorem putOb_rods : (putOb s idx sub v).rods = s.rods := rfl
@[simp] theorem putOb_marks : (putOb s idx sub v).marks = s.marks := rfl
@[simp] theorem putOb_disarmed : (putOb s idx sub v).disarmed = s.disarmed := rfl
@[simp] theorem putOb_claims : (putOb s idx sub v).claims = s.claims := rfl
@[simp] theorem putOb_lanes : (putOb s idx sub v).lanes = s.lanes := rfl
@[simp] theorem putOb_trigs : (putOb s idx sub v).trigs = s.trigs := rfl
@[simp] theorem putOb_sent : (putOb s idx sub v).sent = s.sent := rfl
@[simp] theorem putOb_caps : (putOb s idx sub v).caps = s.caps := rfl
@[simp] theorem putOb_capWait : (putOb s idx sub v).capWait = s.capWait := rfl
@[simp] theorem putOb_sel : (putOb s idx sub v).sel = s.sel := rfl
@[simp] theorem putOb_link : (putOb s idx sub v).link = s.link := rfl
@[simp] theorem putOb_saf : (putOb s idx sub v).saf = s.saf := rfl
@[simp] theorem putOb_net : (putOb s idx sub v).net = s.net := rfl
@[simp] theorem putOb_can : (putOb s idx sub v).can = s.can := rfl
@[simp] theorem putOb_host : (putOb s idx sub v).host = s.host := rfl
@[simp] theorem putOb_res : (putOb s idx sub v).res = s.res := rfl
@[simp] theorem putOb_enc : (putOb s idx sub v).enc = s.enc := rfl
@[simp] theorem putOb_hall : (putOb s idx sub v).hall = s.hall := rfl
@[simp] theorem putOb_grid : (putOb s idx sub v).grid = s.grid := rfl
@[simp] theorem putOb_freqAt : (putOb s idx sub v).freqAt = s.freqAt := rfl
@[simp] theorem putOb_seq : (putOb s idx sub v).seq = s.seq := rfl
@[simp] theorem putOb_cal : (putOb s idx sub v).cal = s.cal := rfl
@[simp] theorem putOb_pairs : (putOb s idx sub v).pairs = s.pairs := rfl
@[simp] theorem putOb_sd : (putOb s idx sub v).sd = s.sd := rfl
@[simp] theorem putOb_stat : (putOb s idx sub v).stat = s.stat := rfl
@[simp] theorem putOb_tieFail : (putOb s idx sub v).tieFail = s.tieFail := rfl
@[simp] theorem putOb_sdc : (putOb s idx sub v).sdc = s.sdc := rfl
@[simp] theorem putOb_outc : (putOb s idx sub v).outc = s.outc := rfl
@[simp] theorem putOb_win : (putOb s idx sub v).win = s.win := rfl
@[simp] theorem putOb_brc : (putOb s idx sub v).brc = s.brc := rfl
@[simp] theorem putOb_loops : (putOb s idx sub v).loops = s.loops := rfl
@[simp] theorem putOb_mac : (putOb s idx sub v).mac = s.mac := rfl
@[simp] theorem putOb_owned : (putOb s idx sub v).owned = s.owned := rfl
@[simp] theorem putOb_inj : (putOb s idx sub v).inj = s.inj := rfl
@[simp] theorem putOb_resp : (putOb s idx sub v).resp = s.resp := rfl
@[simp] theorem putOb_evals : (putOb s idx sub v).evals = s.evals := rfl
@[simp] theorem putOb_evalsPrev : (putOb s idx sub v).evalsPrev = s.evalsPrev := rfl
@[simp] theorem putOb_evalMs : (putOb s idx sub v).evalMs = s.evalMs := rfl
@[simp] theorem putOb_drv : (putOb s idx sub v).drv = s.drv := rfl
@[simp] theorem putOb_chg : (putOb s idx sub v).chg = s.chg := rfl
@[simp] theorem putOb_cnv : (putOb s idx sub v).cnv = s.cnv := rfl
@[simp] theorem putOb_axle : (putOb s idx sub v).axle = s.axle := rfl
@[simp] theorem putOb_camp : (putOb s idx sub v).camp = s.camp := rfl
@[simp] theorem putOb_hvilCurrent : (putOb s idx sub v).hvilCurrent = s.hvilCurrent := rfl
@[simp] theorem putOb_act : (putOb s idx sub v).act = s.act := rfl
@[simp] theorem putOb_pump : (putOb s idx sub v).pump = s.pump := rfl
@[simp] theorem putOb_plock : (putOb s idx sub v).plock = s.plock := rfl
@[simp] theorem putOb_clutch : (putOb s idx sub v).clutch = s.clutch := rfl
@[simp] theorem putOb_therm : (putOb s idx sub v).therm = s.therm := rfl
@[simp] theorem putOb_outr : (putOb s idx sub v).outr = s.outr := rfl
@[simp] theorem putOb_plumbHeld : (putOb s idx sub v).plumbHeld = s.plumbHeld := rfl
@[simp] theorem putOb_formHz : (putOb s idx sub v).formHz = s.formHz := rfl
@[simp] theorem putOb_fired : (putOb s idx sub v).fired = s.fired := rfl
@[simp] theorem putOb_once : (putOb s idx sub v).once = s.once := rfl
@[simp] theorem putOb_pending : (putOb s idx sub v).pending = s.pending := rfl

end putOb

section setSess
variable (s : State) (n : Nat) (x : Session)

@[simp] theorem setSess_dt : (setSess s n x).dt = s.dt := rfl
@[simp] theorem setSess_dtPrev : (setSess s n x).dtPrev = s.dtPrev := rfl
@[simp] theorem setSess_tick : (setSess s n x).tick = s.tick := rfl
@[simp] theorem setSess_dtLog : (setSess s n x).dtLog = s.dtLog := rfl
@[simp] theorem setSess_free : (setSess s n x).free = s.free := rfl
@[simp] theorem setSess_dev : (setSess s n x).dev = s.dev := rfl
@[simp] theorem setSess_power : (setSess s n x).power = s.power := rfl
@[simp] theorem setSess_fw : (setSess s n x).fw = s.fw := rfl
@[simp] theorem setSess_fuse : (setSess s n x).fuse = s.fuse := rfl
@[simp] theorem setSess_tally : (setSess s n x).tally = s.tally := rfl
@[simp] theorem setSess_fns : (setSess s n x).fns = s.fns := rfl
@[simp] theorem setSess_objs : (setSess s n x).objs = s.objs := rfl
@[simp] theorem setSess_pend : (setSess s n x).pend = s.pend := rfl
@[simp] theorem setSess_mram : (setSess s n x).mram = s.mram := rfl
@[simp] theorem setSess_man : (setSess s n x).man = s.man := rfl
@[simp] theorem setSess_rods : (setSess s n x).rods = s.rods := rfl
@[simp] theorem setSess_marks : (setSess s n x).marks = s.marks := rfl
@[simp] theorem setSess_disarmed : (setSess s n x).disarmed = s.disarmed := rfl
@[simp] theorem setSess_claims : (setSess s n x).claims = s.claims := rfl
@[simp] theorem setSess_lanes : (setSess s n x).lanes = s.lanes := rfl
@[simp] theorem setSess_trigs : (setSess s n x).trigs = s.trigs := rfl
@[simp] theorem setSess_sent : (setSess s n x).sent = s.sent := rfl
@[simp] theorem setSess_caps : (setSess s n x).caps = s.caps := rfl
@[simp] theorem setSess_capWait : (setSess s n x).capWait = s.capWait := rfl
@[simp] theorem setSess_sel : (setSess s n x).sel = s.sel := rfl
@[simp] theorem setSess_link : (setSess s n x).link = s.link := rfl
@[simp] theorem setSess_saf : (setSess s n x).saf = s.saf := rfl
@[simp] theorem setSess_net : (setSess s n x).net = s.net := rfl
@[simp] theorem setSess_can : (setSess s n x).can = s.can := rfl
@[simp] theorem setSess_host : (setSess s n x).host = s.host := rfl
@[simp] theorem setSess_res : (setSess s n x).res = s.res := rfl
@[simp] theorem setSess_enc : (setSess s n x).enc = s.enc := rfl
@[simp] theorem setSess_hall : (setSess s n x).hall = s.hall := rfl
@[simp] theorem setSess_grid : (setSess s n x).grid = s.grid := rfl
@[simp] theorem setSess_freqAt : (setSess s n x).freqAt = s.freqAt := rfl
@[simp] theorem setSess_seq : (setSess s n x).seq = s.seq := rfl
@[simp] theorem setSess_cal : (setSess s n x).cal = s.cal := rfl
@[simp] theorem setSess_pairs : (setSess s n x).pairs = s.pairs := rfl
@[simp] theorem setSess_sd : (setSess s n x).sd = s.sd := rfl
@[simp] theorem setSess_stat : (setSess s n x).stat = s.stat := rfl
@[simp] theorem setSess_tieFail : (setSess s n x).tieFail = s.tieFail := rfl
@[simp] theorem setSess_sdc : (setSess s n x).sdc = s.sdc := rfl
@[simp] theorem setSess_outc : (setSess s n x).outc = s.outc := rfl
@[simp] theorem setSess_win : (setSess s n x).win = s.win := rfl
@[simp] theorem setSess_brc : (setSess s n x).brc = s.brc := rfl
@[simp] theorem setSess_loops : (setSess s n x).loops = s.loops := rfl
@[simp] theorem setSess_mac : (setSess s n x).mac = s.mac := rfl
@[simp] theorem setSess_owned : (setSess s n x).owned = s.owned := rfl
@[simp] theorem setSess_inj : (setSess s n x).inj = s.inj := rfl
@[simp] theorem setSess_resp : (setSess s n x).resp = s.resp := rfl
@[simp] theorem setSess_evals : (setSess s n x).evals = s.evals := rfl
@[simp] theorem setSess_evalsPrev : (setSess s n x).evalsPrev = s.evalsPrev := rfl
@[simp] theorem setSess_evalMs : (setSess s n x).evalMs = s.evalMs := rfl
@[simp] theorem setSess_drv : (setSess s n x).drv = s.drv := rfl
@[simp] theorem setSess_chg : (setSess s n x).chg = s.chg := rfl
@[simp] theorem setSess_cnv : (setSess s n x).cnv = s.cnv := rfl
@[simp] theorem setSess_axle : (setSess s n x).axle = s.axle := rfl
@[simp] theorem setSess_camp : (setSess s n x).camp = s.camp := rfl
@[simp] theorem setSess_hvilCurrent : (setSess s n x).hvilCurrent = s.hvilCurrent := rfl
@[simp] theorem setSess_act : (setSess s n x).act = s.act := rfl
@[simp] theorem setSess_pump : (setSess s n x).pump = s.pump := rfl
@[simp] theorem setSess_plock : (setSess s n x).plock = s.plock := rfl
@[simp] theorem setSess_clutch : (setSess s n x).clutch = s.clutch := rfl
@[simp] theorem setSess_therm : (setSess s n x).therm = s.therm := rfl
@[simp] theorem setSess_outr : (setSess s n x).outr = s.outr := rfl
@[simp] theorem setSess_plumbHeld : (setSess s n x).plumbHeld = s.plumbHeld := rfl
@[simp] theorem setSess_formHz : (setSess s n x).formHz = s.formHz := rfl
@[simp] theorem setSess_fired : (setSess s n x).fired = s.fired := rfl
@[simp] theorem setSess_once : (setSess s n x).once = s.once := rfl
@[simp] theorem setSess_pending : (setSess s n x).pending = s.pending := rfl

end setSess

section setRod
variable (s : State) (r : Nat) (x : Rod)

@[simp] theorem setRod_dt : (setRod s r x).dt = s.dt := rfl
@[simp] theorem setRod_dtPrev : (setRod s r x).dtPrev = s.dtPrev := rfl
@[simp] theorem setRod_tick : (setRod s r x).tick = s.tick := rfl
@[simp] theorem setRod_dtLog : (setRod s r x).dtLog = s.dtLog := rfl
@[simp] theorem setRod_free : (setRod s r x).free = s.free := rfl
@[simp] theorem setRod_dev : (setRod s r x).dev = s.dev := rfl
@[simp] theorem setRod_power : (setRod s r x).power = s.power := rfl
@[simp] theorem setRod_fw : (setRod s r x).fw = s.fw := rfl
@[simp] theorem setRod_fuse : (setRod s r x).fuse = s.fuse := rfl
@[simp] theorem setRod_tally : (setRod s r x).tally = s.tally := rfl
@[simp] theorem setRod_fns : (setRod s r x).fns = s.fns := rfl
@[simp] theorem setRod_objs : (setRod s r x).objs = s.objs := rfl
@[simp] theorem setRod_pend : (setRod s r x).pend = s.pend := rfl
@[simp] theorem setRod_mram : (setRod s r x).mram = s.mram := rfl
@[simp] theorem setRod_led : (setRod s r x).led = s.led := rfl
@[simp] theorem setRod_man : (setRod s r x).man = s.man := rfl
@[simp] theorem setRod_rods : (setRod s r x).rods = tabSetD rodInit s.rods r x := rfl
@[simp] theorem setRod_marks : (setRod s r x).marks = s.marks := rfl
@[simp] theorem setRod_disarmed : (setRod s r x).disarmed = s.disarmed := rfl
@[simp] theorem setRod_claims : (setRod s r x).claims = s.claims := rfl
@[simp] theorem setRod_lanes : (setRod s r x).lanes = s.lanes := rfl
@[simp] theorem setRod_trigs : (setRod s r x).trigs = s.trigs := rfl
@[simp] theorem setRod_sent : (setRod s r x).sent = s.sent := rfl
@[simp] theorem setRod_caps : (setRod s r x).caps = s.caps := rfl
@[simp] theorem setRod_capWait : (setRod s r x).capWait = s.capWait := rfl
@[simp] theorem setRod_sel : (setRod s r x).sel = s.sel := rfl
@[simp] theorem setRod_link : (setRod s r x).link = s.link := rfl
@[simp] theorem setRod_saf : (setRod s r x).saf = s.saf := rfl
@[simp] theorem setRod_net : (setRod s r x).net = s.net := rfl
@[simp] theorem setRod_can : (setRod s r x).can = s.can := rfl
@[simp] theorem setRod_host : (setRod s r x).host = s.host := rfl
@[simp] theorem setRod_res : (setRod s r x).res = s.res := rfl
@[simp] theorem setRod_enc : (setRod s r x).enc = s.enc := rfl
@[simp] theorem setRod_hall : (setRod s r x).hall = s.hall := rfl
@[simp] theorem setRod_grid : (setRod s r x).grid = s.grid := rfl
@[simp] theorem setRod_freqAt : (setRod s r x).freqAt = s.freqAt := rfl
@[simp] theorem setRod_seq : (setRod s r x).seq = s.seq := rfl
@[simp] theorem setRod_cal : (setRod s r x).cal = s.cal := rfl
@[simp] theorem setRod_pairs : (setRod s r x).pairs = s.pairs := rfl
@[simp] theorem setRod_sd : (setRod s r x).sd = s.sd := rfl
@[simp] theorem setRod_stat : (setRod s r x).stat = s.stat := rfl
@[simp] theorem setRod_tieFail : (setRod s r x).tieFail = s.tieFail := rfl
@[simp] theorem setRod_sdc : (setRod s r x).sdc = s.sdc := rfl
@[simp] theorem setRod_outc : (setRod s r x).outc = s.outc := rfl
@[simp] theorem setRod_win : (setRod s r x).win = s.win := rfl
@[simp] theorem setRod_brc : (setRod s r x).brc = s.brc := rfl
@[simp] theorem setRod_loops : (setRod s r x).loops = s.loops := rfl
@[simp] theorem setRod_mac : (setRod s r x).mac = s.mac := rfl
@[simp] theorem setRod_owned : (setRod s r x).owned = s.owned := rfl
@[simp] theorem setRod_inj : (setRod s r x).inj = s.inj := rfl
@[simp] theorem setRod_resp : (setRod s r x).resp = s.resp := rfl
@[simp] theorem setRod_evals : (setRod s r x).evals = s.evals := rfl
@[simp] theorem setRod_evalsPrev : (setRod s r x).evalsPrev = s.evalsPrev := rfl
@[simp] theorem setRod_evalMs : (setRod s r x).evalMs = s.evalMs := rfl
@[simp] theorem setRod_drv : (setRod s r x).drv = s.drv := rfl
@[simp] theorem setRod_chg : (setRod s r x).chg = s.chg := rfl
@[simp] theorem setRod_cnv : (setRod s r x).cnv = s.cnv := rfl
@[simp] theorem setRod_axle : (setRod s r x).axle = s.axle := rfl
@[simp] theorem setRod_camp : (setRod s r x).camp = s.camp := rfl
@[simp] theorem setRod_hvilCurrent : (setRod s r x).hvilCurrent = s.hvilCurrent := rfl
@[simp] theorem setRod_act : (setRod s r x).act = s.act := rfl
@[simp] theorem setRod_pump : (setRod s r x).pump = s.pump := rfl
@[simp] theorem setRod_plock : (setRod s r x).plock = s.plock := rfl
@[simp] theorem setRod_clutch : (setRod s r x).clutch = s.clutch := rfl
@[simp] theorem setRod_therm : (setRod s r x).therm = s.therm := rfl
@[simp] theorem setRod_outr : (setRod s r x).outr = s.outr := rfl
@[simp] theorem setRod_plumbHeld : (setRod s r x).plumbHeld = s.plumbHeld := rfl
@[simp] theorem setRod_formHz : (setRod s r x).formHz = s.formHz := rfl
@[simp] theorem setRod_fired : (setRod s r x).fired = s.fired := rfl
@[simp] theorem setRod_once : (setRod s r x).once = s.once := rfl
@[simp] theorem setRod_pending : (setRod s r x).pending = s.pending := rfl

end setRod

section setLane
variable (s : State) (l : Nat) (x : Lane)

@[simp] theorem setLane_dt : (setLane s l x).dt = s.dt := rfl
@[simp] theorem setLane_dtPrev : (setLane s l x).dtPrev = s.dtPrev := rfl
@[simp] theorem setLane_tick : (setLane s l x).tick = s.tick := rfl
@[simp] theorem setLane_dtLog : (setLane s l x).dtLog = s.dtLog := rfl
@[simp] theorem setLane_free : (setLane s l x).free = s.free := rfl
@[simp] theorem setLane_dev : (setLane s l x).dev = s.dev := rfl
@[simp] theorem setLane_power : (setLane s l x).power = s.power := rfl
@[simp] theorem setLane_fw : (setLane s l x).fw = s.fw := rfl
@[simp] theorem setLane_fuse : (setLane s l x).fuse = s.fuse := rfl
@[simp] theorem setLane_tally : (setLane s l x).tally = s.tally := rfl
@[simp] theorem setLane_fns : (setLane s l x).fns = s.fns := rfl
@[simp] theorem setLane_objs : (setLane s l x).objs = s.objs := rfl
@[simp] theorem setLane_pend : (setLane s l x).pend = s.pend := rfl
@[simp] theorem setLane_mram : (setLane s l x).mram = s.mram := rfl
@[simp] theorem setLane_led : (setLane s l x).led = s.led := rfl
@[simp] theorem setLane_man : (setLane s l x).man = s.man := rfl
@[simp] theorem setLane_rods : (setLane s l x).rods = s.rods := rfl
@[simp] theorem setLane_marks : (setLane s l x).marks = s.marks := rfl
@[simp] theorem setLane_disarmed : (setLane s l x).disarmed = s.disarmed := rfl
@[simp] theorem setLane_claims : (setLane s l x).claims = s.claims := rfl
@[simp] theorem setLane_lanes : (setLane s l x).lanes = tabSet {} s.lanes l x := rfl
@[simp] theorem setLane_trigs : (setLane s l x).trigs = s.trigs := rfl
@[simp] theorem setLane_sent : (setLane s l x).sent = s.sent := rfl
@[simp] theorem setLane_caps : (setLane s l x).caps = s.caps := rfl
@[simp] theorem setLane_capWait : (setLane s l x).capWait = s.capWait := rfl
@[simp] theorem setLane_sel : (setLane s l x).sel = s.sel := rfl
@[simp] theorem setLane_link : (setLane s l x).link = s.link := rfl
@[simp] theorem setLane_saf : (setLane s l x).saf = s.saf := rfl
@[simp] theorem setLane_net : (setLane s l x).net = s.net := rfl
@[simp] theorem setLane_can : (setLane s l x).can = s.can := rfl
@[simp] theorem setLane_host : (setLane s l x).host = s.host := rfl
@[simp] theorem setLane_res : (setLane s l x).res = s.res := rfl
@[simp] theorem setLane_enc : (setLane s l x).enc = s.enc := rfl
@[simp] theorem setLane_hall : (setLane s l x).hall = s.hall := rfl
@[simp] theorem setLane_grid : (setLane s l x).grid = s.grid := rfl
@[simp] theorem setLane_freqAt : (setLane s l x).freqAt = s.freqAt := rfl
@[simp] theorem setLane_seq : (setLane s l x).seq = s.seq := rfl
@[simp] theorem setLane_cal : (setLane s l x).cal = s.cal := rfl
@[simp] theorem setLane_pairs : (setLane s l x).pairs = s.pairs := rfl
@[simp] theorem setLane_sd : (setLane s l x).sd = s.sd := rfl
@[simp] theorem setLane_stat : (setLane s l x).stat = s.stat := rfl
@[simp] theorem setLane_tieFail : (setLane s l x).tieFail = s.tieFail := rfl
@[simp] theorem setLane_sdc : (setLane s l x).sdc = s.sdc := rfl
@[simp] theorem setLane_outc : (setLane s l x).outc = s.outc := rfl
@[simp] theorem setLane_win : (setLane s l x).win = s.win := rfl
@[simp] theorem setLane_brc : (setLane s l x).brc = s.brc := rfl
@[simp] theorem setLane_loops : (setLane s l x).loops = s.loops := rfl
@[simp] theorem setLane_mac : (setLane s l x).mac = s.mac := rfl
@[simp] theorem setLane_owned : (setLane s l x).owned = s.owned := rfl
@[simp] theorem setLane_inj : (setLane s l x).inj = s.inj := rfl
@[simp] theorem setLane_resp : (setLane s l x).resp = s.resp := rfl
@[simp] theorem setLane_evals : (setLane s l x).evals = s.evals := rfl
@[simp] theorem setLane_evalsPrev : (setLane s l x).evalsPrev = s.evalsPrev := rfl
@[simp] theorem setLane_evalMs : (setLane s l x).evalMs = s.evalMs := rfl
@[simp] theorem setLane_drv : (setLane s l x).drv = s.drv := rfl
@[simp] theorem setLane_chg : (setLane s l x).chg = s.chg := rfl
@[simp] theorem setLane_cnv : (setLane s l x).cnv = s.cnv := rfl
@[simp] theorem setLane_axle : (setLane s l x).axle = s.axle := rfl
@[simp] theorem setLane_camp : (setLane s l x).camp = s.camp := rfl
@[simp] theorem setLane_hvilCurrent : (setLane s l x).hvilCurrent = s.hvilCurrent := rfl
@[simp] theorem setLane_act : (setLane s l x).act = s.act := rfl
@[simp] theorem setLane_pump : (setLane s l x).pump = s.pump := rfl
@[simp] theorem setLane_plock : (setLane s l x).plock = s.plock := rfl
@[simp] theorem setLane_clutch : (setLane s l x).clutch = s.clutch := rfl
@[simp] theorem setLane_therm : (setLane s l x).therm = s.therm := rfl
@[simp] theorem setLane_outr : (setLane s l x).outr = s.outr := rfl
@[simp] theorem setLane_plumbHeld : (setLane s l x).plumbHeld = s.plumbHeld := rfl
@[simp] theorem setLane_formHz : (setLane s l x).formHz = s.formHz := rfl
@[simp] theorem setLane_fired : (setLane s l x).fired = s.fired := rfl
@[simp] theorem setLane_once : (setLane s l x).once = s.once := rfl
@[simp] theorem setLane_pending : (setLane s l x).pending = s.pending := rfl

end setLane

section setDrv
variable (s : State) (d : Drv) (x : Drive)

@[simp] theorem setDrv_dt : (setDrv s d x).dt = s.dt := rfl
@[simp] theorem setDrv_dtPrev : (setDrv s d x).dtPrev = s.dtPrev := rfl
@[simp] theorem setDrv_tick : (setDrv s d x).tick = s.tick := rfl
@[simp] theorem setDrv_dtLog : (setDrv s d x).dtLog = s.dtLog := rfl
@[simp] theorem setDrv_free : (setDrv s d x).free = s.free := rfl
@[simp] theorem setDrv_dev : (setDrv s d x).dev = s.dev := rfl
@[simp] theorem setDrv_power : (setDrv s d x).power = s.power := rfl
@[simp] theorem setDrv_fw : (setDrv s d x).fw = s.fw := rfl
@[simp] theorem setDrv_fuse : (setDrv s d x).fuse = s.fuse := rfl
@[simp] theorem setDrv_tally : (setDrv s d x).tally = s.tally := rfl
@[simp] theorem setDrv_fns : (setDrv s d x).fns = s.fns := rfl
@[simp] theorem setDrv_objs : (setDrv s d x).objs = s.objs := rfl
@[simp] theorem setDrv_pend : (setDrv s d x).pend = s.pend := rfl
@[simp] theorem setDrv_mram : (setDrv s d x).mram = s.mram := rfl
@[simp] theorem setDrv_led : (setDrv s d x).led = s.led := rfl
@[simp] theorem setDrv_man : (setDrv s d x).man = s.man := rfl
@[simp] theorem setDrv_rods : (setDrv s d x).rods = s.rods := rfl
@[simp] theorem setDrv_marks : (setDrv s d x).marks = s.marks := rfl
@[simp] theorem setDrv_disarmed : (setDrv s d x).disarmed = s.disarmed := rfl
@[simp] theorem setDrv_claims : (setDrv s d x).claims = s.claims := rfl
@[simp] theorem setDrv_lanes : (setDrv s d x).lanes = s.lanes := rfl
@[simp] theorem setDrv_trigs : (setDrv s d x).trigs = s.trigs := rfl
@[simp] theorem setDrv_sent : (setDrv s d x).sent = s.sent := rfl
@[simp] theorem setDrv_caps : (setDrv s d x).caps = s.caps := rfl
@[simp] theorem setDrv_capWait : (setDrv s d x).capWait = s.capWait := rfl
@[simp] theorem setDrv_sel : (setDrv s d x).sel = s.sel := rfl
@[simp] theorem setDrv_link : (setDrv s d x).link = s.link := rfl
@[simp] theorem setDrv_saf : (setDrv s d x).saf = s.saf := rfl
@[simp] theorem setDrv_net : (setDrv s d x).net = s.net := rfl
@[simp] theorem setDrv_can : (setDrv s d x).can = s.can := rfl
@[simp] theorem setDrv_host : (setDrv s d x).host = s.host := rfl
@[simp] theorem setDrv_res : (setDrv s d x).res = s.res := rfl
@[simp] theorem setDrv_enc : (setDrv s d x).enc = s.enc := rfl
@[simp] theorem setDrv_hall : (setDrv s d x).hall = s.hall := rfl
@[simp] theorem setDrv_grid : (setDrv s d x).grid = s.grid := rfl
@[simp] theorem setDrv_freqAt : (setDrv s d x).freqAt = s.freqAt := rfl
@[simp] theorem setDrv_seq : (setDrv s d x).seq = s.seq := rfl
@[simp] theorem setDrv_cal : (setDrv s d x).cal = s.cal := rfl
@[simp] theorem setDrv_pairs : (setDrv s d x).pairs = s.pairs := rfl
@[simp] theorem setDrv_sd : (setDrv s d x).sd = s.sd := rfl
@[simp] theorem setDrv_stat : (setDrv s d x).stat = s.stat := rfl
@[simp] theorem setDrv_tieFail : (setDrv s d x).tieFail = s.tieFail := rfl
@[simp] theorem setDrv_sdc : (setDrv s d x).sdc = s.sdc := rfl
@[simp] theorem setDrv_outc : (setDrv s d x).outc = s.outc := rfl
@[simp] theorem setDrv_win : (setDrv s d x).win = s.win := rfl
@[simp] theorem setDrv_brc : (setDrv s d x).brc = s.brc := rfl
@[simp] theorem setDrv_loops : (setDrv s d x).loops = s.loops := rfl
@[simp] theorem setDrv_mac : (setDrv s d x).mac = s.mac := rfl
@[simp] theorem setDrv_owned : (setDrv s d x).owned = s.owned := rfl
@[simp] theorem setDrv_inj : (setDrv s d x).inj = s.inj := rfl
@[simp] theorem setDrv_resp : (setDrv s d x).resp = s.resp := rfl
@[simp] theorem setDrv_evals : (setDrv s d x).evals = s.evals := rfl
@[simp] theorem setDrv_evalsPrev : (setDrv s d x).evalsPrev = s.evalsPrev := rfl
@[simp] theorem setDrv_evalMs : (setDrv s d x).evalMs = s.evalMs := rfl
@[simp] theorem setDrv_drv : (setDrv s d x).drv = tabSet {} s.drv (drvIx d) x := rfl
@[simp] theorem setDrv_chg : (setDrv s d x).chg = s.chg := rfl
@[simp] theorem setDrv_cnv : (setDrv s d x).cnv = s.cnv := rfl
@[simp] theorem setDrv_axle : (setDrv s d x).axle = s.axle := rfl
@[simp] theorem setDrv_camp : (setDrv s d x).camp = s.camp := rfl
@[simp] theorem setDrv_hvilCurrent : (setDrv s d x).hvilCurrent = s.hvilCurrent := rfl
@[simp] theorem setDrv_act : (setDrv s d x).act = s.act := rfl
@[simp] theorem setDrv_pump : (setDrv s d x).pump = s.pump := rfl
@[simp] theorem setDrv_plock : (setDrv s d x).plock = s.plock := rfl
@[simp] theorem setDrv_clutch : (setDrv s d x).clutch = s.clutch := rfl
@[simp] theorem setDrv_therm : (setDrv s d x).therm = s.therm := rfl
@[simp] theorem setDrv_outr : (setDrv s d x).outr = s.outr := rfl
@[simp] theorem setDrv_plumbHeld : (setDrv s d x).plumbHeld = s.plumbHeld := rfl
@[simp] theorem setDrv_formHz : (setDrv s d x).formHz = s.formHz := rfl
@[simp] theorem setDrv_fired : (setDrv s d x).fired = s.fired := rfl
@[simp] theorem setDrv_once : (setDrv s d x).once = s.once := rfl
@[simp] theorem setDrv_pending : (setDrv s d x).pending = s.pending := rfl

end setDrv

section setSel
variable (s : State) (d : Drv) (x : Selector)

@[simp] theorem setSel_dt : (setSel s d x).dt = s.dt := rfl
@[simp] theorem setSel_dtPrev : (setSel s d x).dtPrev = s.dtPrev := rfl
@[simp] theorem setSel_tick : (setSel s d x).tick = s.tick := rfl
@[simp] theorem setSel_dtLog : (setSel s d x).dtLog = s.dtLog := rfl
@[simp] theorem setSel_free : (setSel s d x).free = s.free := rfl
@[simp] theorem setSel_dev : (setSel s d x).dev = s.dev := rfl
@[simp] theorem setSel_power : (setSel s d x).power = s.power := rfl
@[simp] theorem setSel_fw : (setSel s d x).fw = s.fw := rfl
@[simp] theorem setSel_fuse : (setSel s d x).fuse = s.fuse := rfl
@[simp] theorem setSel_tally : (setSel s d x).tally = s.tally := rfl
@[simp] theorem setSel_fns : (setSel s d x).fns = s.fns := rfl
@[simp] theorem setSel_objs : (setSel s d x).objs = s.objs := rfl
@[simp] theorem setSel_pend : (setSel s d x).pend = s.pend := rfl
@[simp] theorem setSel_mram : (setSel s d x).mram = s.mram := rfl
@[simp] theorem setSel_led : (setSel s d x).led = s.led := rfl
@[simp] theorem setSel_man : (setSel s d x).man = s.man := rfl
@[simp] theorem setSel_rods : (setSel s d x).rods = s.rods := rfl
@[simp] theorem setSel_marks : (setSel s d x).marks = s.marks := rfl
@[simp] theorem setSel_disarmed : (setSel s d x).disarmed = s.disarmed := rfl
@[simp] theorem setSel_claims : (setSel s d x).claims = s.claims := rfl
@[simp] theorem setSel_lanes : (setSel s d x).lanes = s.lanes := rfl
@[simp] theorem setSel_trigs : (setSel s d x).trigs = s.trigs := rfl
@[simp] theorem setSel_sent : (setSel s d x).sent = s.sent := rfl
@[simp] theorem setSel_caps : (setSel s d x).caps = s.caps := rfl
@[simp] theorem setSel_capWait : (setSel s d x).capWait = s.capWait := rfl
@[simp] theorem setSel_sel : (setSel s d x).sel = tabSet {} s.sel (drvRod d) x := rfl
@[simp] theorem setSel_link : (setSel s d x).link = s.link := rfl
@[simp] theorem setSel_saf : (setSel s d x).saf = s.saf := rfl
@[simp] theorem setSel_net : (setSel s d x).net = s.net := rfl
@[simp] theorem setSel_can : (setSel s d x).can = s.can := rfl
@[simp] theorem setSel_host : (setSel s d x).host = s.host := rfl
@[simp] theorem setSel_res : (setSel s d x).res = s.res := rfl
@[simp] theorem setSel_enc : (setSel s d x).enc = s.enc := rfl
@[simp] theorem setSel_hall : (setSel s d x).hall = s.hall := rfl
@[simp] theorem setSel_grid : (setSel s d x).grid = s.grid := rfl
@[simp] theorem setSel_freqAt : (setSel s d x).freqAt = s.freqAt := rfl
@[simp] theorem setSel_seq : (setSel s d x).seq = s.seq := rfl
@[simp] theorem setSel_cal : (setSel s d x).cal = s.cal := rfl
@[simp] theorem setSel_pairs : (setSel s d x).pairs = s.pairs := rfl
@[simp] theorem setSel_sd : (setSel s d x).sd = s.sd := rfl
@[simp] theorem setSel_stat : (setSel s d x).stat = s.stat := rfl
@[simp] theorem setSel_tieFail : (setSel s d x).tieFail = s.tieFail := rfl
@[simp] theorem setSel_sdc : (setSel s d x).sdc = s.sdc := rfl
@[simp] theorem setSel_outc : (setSel s d x).outc = s.outc := rfl
@[simp] theorem setSel_win : (setSel s d x).win = s.win := rfl
@[simp] theorem setSel_brc : (setSel s d x).brc = s.brc := rfl
@[simp] theorem setSel_loops : (setSel s d x).loops = s.loops := rfl
@[simp] theorem setSel_mac : (setSel s d x).mac = s.mac := rfl
@[simp] theorem setSel_owned : (setSel s d x).owned = s.owned := rfl
@[simp] theorem setSel_inj : (setSel s d x).inj = s.inj := rfl
@[simp] theorem setSel_resp : (setSel s d x).resp = s.resp := rfl
@[simp] theorem setSel_evals : (setSel s d x).evals = s.evals := rfl
@[simp] theorem setSel_evalsPrev : (setSel s d x).evalsPrev = s.evalsPrev := rfl
@[simp] theorem setSel_evalMs : (setSel s d x).evalMs = s.evalMs := rfl
@[simp] theorem setSel_drv : (setSel s d x).drv = s.drv := rfl
@[simp] theorem setSel_chg : (setSel s d x).chg = s.chg := rfl
@[simp] theorem setSel_cnv : (setSel s d x).cnv = s.cnv := rfl
@[simp] theorem setSel_axle : (setSel s d x).axle = s.axle := rfl
@[simp] theorem setSel_camp : (setSel s d x).camp = s.camp := rfl
@[simp] theorem setSel_hvilCurrent : (setSel s d x).hvilCurrent = s.hvilCurrent := rfl
@[simp] theorem setSel_act : (setSel s d x).act = s.act := rfl
@[simp] theorem setSel_pump : (setSel s d x).pump = s.pump := rfl
@[simp] theorem setSel_plock : (setSel s d x).plock = s.plock := rfl
@[simp] theorem setSel_clutch : (setSel s d x).clutch = s.clutch := rfl
@[simp] theorem setSel_therm : (setSel s d x).therm = s.therm := rfl
@[simp] theorem setSel_outr : (setSel s d x).outr = s.outr := rfl
@[simp] theorem setSel_plumbHeld : (setSel s d x).plumbHeld = s.plumbHeld := rfl
@[simp] theorem setSel_formHz : (setSel s d x).formHz = s.formHz := rfl
@[simp] theorem setSel_fired : (setSel s d x).fired = s.fired := rfl
@[simp] theorem setSel_once : (setSel s d x).once = s.once := rfl
@[simp] theorem setSel_pending : (setSel s d x).pending = s.pending := rfl

end setSel

section setWb
variable (s : State) (p : Nat) (x : Wb)

@[simp] theorem setWb_dt : (setWb s p x).dt = s.dt := rfl
@[simp] theorem setWb_dtPrev : (setWb s p x).dtPrev = s.dtPrev := rfl
@[simp] theorem setWb_tick : (setWb s p x).tick = s.tick := rfl
@[simp] theorem setWb_dtLog : (setWb s p x).dtLog = s.dtLog := rfl
@[simp] theorem setWb_free : (setWb s p x).free = s.free := rfl
@[simp] theorem setWb_dev : (setWb s p x).dev = s.dev := rfl
@[simp] theorem setWb_power : (setWb s p x).power = s.power := rfl
@[simp] theorem setWb_fw : (setWb s p x).fw = s.fw := rfl
@[simp] theorem setWb_fuse : (setWb s p x).fuse = s.fuse := rfl
@[simp] theorem setWb_tally : (setWb s p x).tally = s.tally := rfl
@[simp] theorem setWb_fns : (setWb s p x).fns = s.fns := rfl
@[simp] theorem setWb_objs : (setWb s p x).objs = s.objs := rfl
@[simp] theorem setWb_pend : (setWb s p x).pend = s.pend := rfl
@[simp] theorem setWb_mram : (setWb s p x).mram = s.mram := rfl
@[simp] theorem setWb_led : (setWb s p x).led = s.led := rfl
@[simp] theorem setWb_man : (setWb s p x).man = s.man := rfl
@[simp] theorem setWb_rods : (setWb s p x).rods = s.rods := rfl
@[simp] theorem setWb_marks : (setWb s p x).marks = s.marks := rfl
@[simp] theorem setWb_disarmed : (setWb s p x).disarmed = s.disarmed := rfl
@[simp] theorem setWb_claims : (setWb s p x).claims = s.claims := rfl
@[simp] theorem setWb_lanes : (setWb s p x).lanes = s.lanes := rfl
@[simp] theorem setWb_trigs : (setWb s p x).trigs = s.trigs := rfl
@[simp] theorem setWb_sent : (setWb s p x).sent = s.sent := rfl
@[simp] theorem setWb_caps : (setWb s p x).caps = s.caps := rfl
@[simp] theorem setWb_capWait : (setWb s p x).capWait = s.capWait := rfl
@[simp] theorem setWb_sel : (setWb s p x).sel = s.sel := rfl
@[simp] theorem setWb_link : (setWb s p x).link = s.link := rfl
@[simp] theorem setWb_saf : (setWb s p x).saf = { s.saf with wb := tabSet {} s.saf.wb p x } := rfl
@[simp] theorem setWb_net : (setWb s p x).net = s.net := rfl
@[simp] theorem setWb_can : (setWb s p x).can = s.can := rfl
@[simp] theorem setWb_host : (setWb s p x).host = s.host := rfl
@[simp] theorem setWb_res : (setWb s p x).res = s.res := rfl
@[simp] theorem setWb_enc : (setWb s p x).enc = s.enc := rfl
@[simp] theorem setWb_hall : (setWb s p x).hall = s.hall := rfl
@[simp] theorem setWb_grid : (setWb s p x).grid = s.grid := rfl
@[simp] theorem setWb_freqAt : (setWb s p x).freqAt = s.freqAt := rfl
@[simp] theorem setWb_seq : (setWb s p x).seq = s.seq := rfl
@[simp] theorem setWb_cal : (setWb s p x).cal = s.cal := rfl
@[simp] theorem setWb_pairs : (setWb s p x).pairs = s.pairs := rfl
@[simp] theorem setWb_sd : (setWb s p x).sd = s.sd := rfl
@[simp] theorem setWb_stat : (setWb s p x).stat = s.stat := rfl
@[simp] theorem setWb_tieFail : (setWb s p x).tieFail = s.tieFail := rfl
@[simp] theorem setWb_sdc : (setWb s p x).sdc = s.sdc := rfl
@[simp] theorem setWb_outc : (setWb s p x).outc = s.outc := rfl
@[simp] theorem setWb_win : (setWb s p x).win = s.win := rfl
@[simp] theorem setWb_brc : (setWb s p x).brc = s.brc := rfl
@[simp] theorem setWb_loops : (setWb s p x).loops = s.loops := rfl
@[simp] theorem setWb_mac : (setWb s p x).mac = s.mac := rfl
@[simp] theorem setWb_owned : (setWb s p x).owned = s.owned := rfl
@[simp] theorem setWb_inj : (setWb s p x).inj = s.inj := rfl
@[simp] theorem setWb_resp : (setWb s p x).resp = s.resp := rfl
@[simp] theorem setWb_evals : (setWb s p x).evals = s.evals := rfl
@[simp] theorem setWb_evalsPrev : (setWb s p x).evalsPrev = s.evalsPrev := rfl
@[simp] theorem setWb_evalMs : (setWb s p x).evalMs = s.evalMs := rfl
@[simp] theorem setWb_drv : (setWb s p x).drv = s.drv := rfl
@[simp] theorem setWb_chg : (setWb s p x).chg = s.chg := rfl
@[simp] theorem setWb_cnv : (setWb s p x).cnv = s.cnv := rfl
@[simp] theorem setWb_axle : (setWb s p x).axle = s.axle := rfl
@[simp] theorem setWb_camp : (setWb s p x).camp = s.camp := rfl
@[simp] theorem setWb_hvilCurrent : (setWb s p x).hvilCurrent = s.hvilCurrent := rfl
@[simp] theorem setWb_act : (setWb s p x).act = s.act := rfl
@[simp] theorem setWb_pump : (setWb s p x).pump = s.pump := rfl
@[simp] theorem setWb_plock : (setWb s p x).plock = s.plock := rfl
@[simp] theorem setWb_clutch : (setWb s p x).clutch = s.clutch := rfl
@[simp] theorem setWb_therm : (setWb s p x).therm = s.therm := rfl
@[simp] theorem setWb_outr : (setWb s p x).outr = s.outr := rfl
@[simp] theorem setWb_plumbHeld : (setWb s p x).plumbHeld = s.plumbHeld := rfl
@[simp] theorem setWb_formHz : (setWb s p x).formHz = s.formHz := rfl
@[simp] theorem setWb_fired : (setWb s p x).fired = s.fired := rfl
@[simp] theorem setWb_once : (setWb s p x).once = s.once := rfl
@[simp] theorem setWb_pending : (setWb s p x).pending = s.pending := rfl

end setWb

section setCan
variable (s : State) (n : Nat) (x : Can)

@[simp] theorem setCan_dt : (setCan s n x).dt = s.dt := rfl
@[simp] theorem setCan_dtPrev : (setCan s n x).dtPrev = s.dtPrev := rfl
@[simp] theorem setCan_tick : (setCan s n x).tick = s.tick := rfl
@[simp] theorem setCan_dtLog : (setCan s n x).dtLog = s.dtLog := rfl
@[simp] theorem setCan_free : (setCan s n x).free = s.free := rfl
@[simp] theorem setCan_dev : (setCan s n x).dev = s.dev := rfl
@[simp] theorem setCan_power : (setCan s n x).power = s.power := rfl
@[simp] theorem setCan_fw : (setCan s n x).fw = s.fw := rfl
@[simp] theorem setCan_fuse : (setCan s n x).fuse = s.fuse := rfl
@[simp] theorem setCan_tally : (setCan s n x).tally = s.tally := rfl
@[simp] theorem setCan_fns : (setCan s n x).fns = s.fns := rfl
@[simp] theorem setCan_objs : (setCan s n x).objs = s.objs := rfl
@[simp] theorem setCan_pend : (setCan s n x).pend = s.pend := rfl
@[simp] theorem setCan_mram : (setCan s n x).mram = s.mram := rfl
@[simp] theorem setCan_led : (setCan s n x).led = s.led := rfl
@[simp] theorem setCan_man : (setCan s n x).man = s.man := rfl
@[simp] theorem setCan_rods : (setCan s n x).rods = s.rods := rfl
@[simp] theorem setCan_marks : (setCan s n x).marks = s.marks := rfl
@[simp] theorem setCan_disarmed : (setCan s n x).disarmed = s.disarmed := rfl
@[simp] theorem setCan_claims : (setCan s n x).claims = s.claims := rfl
@[simp] theorem setCan_lanes : (setCan s n x).lanes = s.lanes := rfl
@[simp] theorem setCan_trigs : (setCan s n x).trigs = s.trigs := rfl
@[simp] theorem setCan_sent : (setCan s n x).sent = s.sent := rfl
@[simp] theorem setCan_caps : (setCan s n x).caps = s.caps := rfl
@[simp] theorem setCan_capWait : (setCan s n x).capWait = s.capWait := rfl
@[simp] theorem setCan_sel : (setCan s n x).sel = s.sel := rfl
@[simp] theorem setCan_link : (setCan s n x).link = s.link := rfl
@[simp] theorem setCan_saf : (setCan s n x).saf = s.saf := rfl
@[simp] theorem setCan_net : (setCan s n x).net = s.net := rfl
@[simp] theorem setCan_can : (setCan s n x).can = tabSet {} s.can n x := rfl
@[simp] theorem setCan_host : (setCan s n x).host = s.host := rfl
@[simp] theorem setCan_res : (setCan s n x).res = s.res := rfl
@[simp] theorem setCan_enc : (setCan s n x).enc = s.enc := rfl
@[simp] theorem setCan_hall : (setCan s n x).hall = s.hall := rfl
@[simp] theorem setCan_grid : (setCan s n x).grid = s.grid := rfl
@[simp] theorem setCan_freqAt : (setCan s n x).freqAt = s.freqAt := rfl
@[simp] theorem setCan_seq : (setCan s n x).seq = s.seq := rfl
@[simp] theorem setCan_cal : (setCan s n x).cal = s.cal := rfl
@[simp] theorem setCan_pairs : (setCan s n x).pairs = s.pairs := rfl
@[simp] theorem setCan_sd : (setCan s n x).sd = s.sd := rfl
@[simp] theorem setCan_stat : (setCan s n x).stat = s.stat := rfl
@[simp] theorem setCan_tieFail : (setCan s n x).tieFail = s.tieFail := rfl
@[simp] theorem setCan_sdc : (setCan s n x).sdc = s.sdc := rfl
@[simp] theorem setCan_outc : (setCan s n x).outc = s.outc := rfl
@[simp] theorem setCan_win : (setCan s n x).win = s.win := rfl
@[simp] theorem setCan_brc : (setCan s n x).brc = s.brc := rfl
@[simp] theorem setCan_loops : (setCan s n x).loops = s.loops := rfl
@[simp] theorem setCan_mac : (setCan s n x).mac = s.mac := rfl
@[simp] theorem setCan_owned : (setCan s n x).owned = s.owned := rfl
@[simp] theorem setCan_inj : (setCan s n x).inj = s.inj := rfl
@[simp] theorem setCan_resp : (setCan s n x).resp = s.resp := rfl
@[simp] theorem setCan_evals : (setCan s n x).evals = s.evals := rfl
@[simp] theorem setCan_evalsPrev : (setCan s n x).evalsPrev = s.evalsPrev := rfl
@[simp] theorem setCan_evalMs : (setCan s n x).evalMs = s.evalMs := rfl
@[simp] theorem setCan_drv : (setCan s n x).drv = s.drv := rfl
@[simp] theorem setCan_chg : (setCan s n x).chg = s.chg := rfl
@[simp] theorem setCan_cnv : (setCan s n x).cnv = s.cnv := rfl
@[simp] theorem setCan_axle : (setCan s n x).axle = s.axle := rfl
@[simp] theorem setCan_camp : (setCan s n x).camp = s.camp := rfl
@[simp] theorem setCan_hvilCurrent : (setCan s n x).hvilCurrent = s.hvilCurrent := rfl
@[simp] theorem setCan_act : (setCan s n x).act = s.act := rfl
@[simp] theorem setCan_pump : (setCan s n x).pump = s.pump := rfl
@[simp] theorem setCan_plock : (setCan s n x).plock = s.plock := rfl
@[simp] theorem setCan_clutch : (setCan s n x).clutch = s.clutch := rfl
@[simp] theorem setCan_therm : (setCan s n x).therm = s.therm := rfl
@[simp] theorem setCan_outr : (setCan s n x).outr = s.outr := rfl
@[simp] theorem setCan_plumbHeld : (setCan s n x).plumbHeld = s.plumbHeld := rfl
@[simp] theorem setCan_formHz : (setCan s n x).formHz = s.formHz := rfl
@[simp] theorem setCan_fired : (setCan s n x).fired = s.fired := rfl
@[simp] theorem setCan_once : (setCan s n x).once = s.once := rfl
@[simp] theorem setCan_pending : (setCan s n x).pending = s.pending := rfl

end setCan

section setMan
variable (s : State) (m : Nat) (x : Manif)

@[simp] theorem setMan_dt : (setMan s m x).dt = s.dt := rfl
@[simp] theorem setMan_dtPrev : (setMan s m x).dtPrev = s.dtPrev := rfl
@[simp] theorem setMan_tick : (setMan s m x).tick = s.tick := rfl
@[simp] theorem setMan_dtLog : (setMan s m x).dtLog = s.dtLog := rfl
@[simp] theorem setMan_free : (setMan s m x).free = s.free := rfl
@[simp] theorem setMan_dev : (setMan s m x).dev = s.dev := rfl
@[simp] theorem setMan_power : (setMan s m x).power = s.power := rfl
@[simp] theorem setMan_fw : (setMan s m x).fw = s.fw := rfl
@[simp] theorem setMan_fuse : (setMan s m x).fuse = s.fuse := rfl
@[simp] theorem setMan_tally : (setMan s m x).tally = s.tally := rfl
@[simp] theorem setMan_fns : (setMan s m x).fns = s.fns := rfl
@[simp] theorem setMan_objs : (setMan s m x).objs = s.objs := rfl
@[simp] theorem setMan_pend : (setMan s m x).pend = s.pend := rfl
@[simp] theorem setMan_mram : (setMan s m x).mram = s.mram := rfl
@[simp] theorem setMan_led : (setMan s m x).led = s.led := rfl
@[simp] theorem setMan_man : (setMan s m x).man = tabSet {} s.man m x := rfl
@[simp] theorem setMan_rods : (setMan s m x).rods = s.rods := rfl
@[simp] theorem setMan_marks : (setMan s m x).marks = s.marks := rfl
@[simp] theorem setMan_disarmed : (setMan s m x).disarmed = s.disarmed := rfl
@[simp] theorem setMan_claims : (setMan s m x).claims = s.claims := rfl
@[simp] theorem setMan_lanes : (setMan s m x).lanes = s.lanes := rfl
@[simp] theorem setMan_trigs : (setMan s m x).trigs = s.trigs := rfl
@[simp] theorem setMan_sent : (setMan s m x).sent = s.sent := rfl
@[simp] theorem setMan_caps : (setMan s m x).caps = s.caps := rfl
@[simp] theorem setMan_capWait : (setMan s m x).capWait = s.capWait := rfl
@[simp] theorem setMan_sel : (setMan s m x).sel = s.sel := rfl
@[simp] theorem setMan_link : (setMan s m x).link = s.link := rfl
@[simp] theorem setMan_saf : (setMan s m x).saf = s.saf := rfl
@[simp] theorem setMan_net : (setMan s m x).net = s.net := rfl
@[simp] theorem setMan_can : (setMan s m x).can = s.can := rfl
@[simp] theorem setMan_host : (setMan s m x).host = s.host := rfl
@[simp] theorem setMan_res : (setMan s m x).res = s.res := rfl
@[simp] theorem setMan_enc : (setMan s m x).enc = s.enc := rfl
@[simp] theorem setMan_hall : (setMan s m x).hall = s.hall := rfl
@[simp] theorem setMan_grid : (setMan s m x).grid = s.grid := rfl
@[simp] theorem setMan_freqAt : (setMan s m x).freqAt = s.freqAt := rfl
@[simp] theorem setMan_seq : (setMan s m x).seq = s.seq := rfl
@[simp] theorem setMan_cal : (setMan s m x).cal = s.cal := rfl
@[simp] theorem setMan_pairs : (setMan s m x).pairs = s.pairs := rfl
@[simp] theorem setMan_sd : (setMan s m x).sd = s.sd := rfl
@[simp] theorem setMan_stat : (setMan s m x).stat = s.stat := rfl
@[simp] theorem setMan_tieFail : (setMan s m x).tieFail = s.tieFail := rfl
@[simp] theorem setMan_sdc : (setMan s m x).sdc = s.sdc := rfl
@[simp] theorem setMan_outc : (setMan s m x).outc = s.outc := rfl
@[simp] theorem setMan_win : (setMan s m x).win = s.win := rfl
@[simp] theorem setMan_brc : (setMan s m x).brc = s.brc := rfl
@[simp] theorem setMan_loops : (setMan s m x).loops = s.loops := rfl
@[simp] theorem setMan_mac : (setMan s m x).mac = s.mac := rfl
@[simp] theorem setMan_owned : (setMan s m x).owned = s.owned := rfl
@[simp] theorem setMan_inj : (setMan s m x).inj = s.inj := rfl
@[simp] theorem setMan_resp : (setMan s m x).resp = s.resp := rfl
@[simp] theorem setMan_evals : (setMan s m x).evals = s.evals := rfl
@[simp] theorem setMan_evalsPrev : (setMan s m x).evalsPrev = s.evalsPrev := rfl
@[simp] theorem setMan_evalMs : (setMan s m x).evalMs = s.evalMs := rfl
@[simp] theorem setMan_drv : (setMan s m x).drv = s.drv := rfl
@[simp] theorem setMan_chg : (setMan s m x).chg = s.chg := rfl
@[simp] theorem setMan_cnv : (setMan s m x).cnv = s.cnv := rfl
@[simp] theorem setMan_axle : (setMan s m x).axle = s.axle := rfl
@[simp] theorem setMan_camp : (setMan s m x).camp = s.camp := rfl
@[simp] theorem setMan_hvilCurrent : (setMan s m x).hvilCurrent = s.hvilCurrent := rfl
@[simp] theorem setMan_act : (setMan s m x).act = s.act := rfl
@[simp] theorem setMan_pump : (setMan s m x).pump = s.pump := rfl
@[simp] theorem setMan_plock : (setMan s m x).plock = s.plock := rfl
@[simp] theorem setMan_clutch : (setMan s m x).clutch = s.clutch := rfl
@[simp] theorem setMan_therm : (setMan s m x).therm = s.therm := rfl
@[simp] theorem setMan_outr : (setMan s m x).outr = s.outr := rfl
@[simp] theorem setMan_plumbHeld : (setMan s m x).plumbHeld = s.plumbHeld := rfl
@[simp] theorem setMan_formHz : (setMan s m x).formHz = s.formHz := rfl
@[simp] theorem setMan_fired : (setMan s m x).fired = s.fired := rfl
@[simp] theorem setMan_once : (setMan s m x).once = s.once := rfl
@[simp] theorem setMan_pending : (setMan s m x).pending = s.pending := rfl

end setMan

section setWin
variable (s : State) (w : Nat) (x : Window)

@[simp] theorem setWin_dt : (setWin s w x).dt = s.dt := rfl
@[simp] theorem setWin_dtPrev : (setWin s w x).dtPrev = s.dtPrev := rfl
@[simp] theorem setWin_tick : (setWin s w x).tick = s.tick := rfl
@[simp] theorem setWin_dtLog : (setWin s w x).dtLog = s.dtLog := rfl
@[simp] theorem setWin_free : (setWin s w x).free = s.free := rfl
@[simp] theorem setWin_dev : (setWin s w x).dev = s.dev := rfl
@[simp] theorem setWin_power : (setWin s w x).power = s.power := rfl
@[simp] theorem setWin_fw : (setWin s w x).fw = s.fw := rfl
@[simp] theorem setWin_fuse : (setWin s w x).fuse = s.fuse := rfl
@[simp] theorem setWin_tally : (setWin s w x).tally = s.tally := rfl
@[simp] theorem setWin_fns : (setWin s w x).fns = s.fns := rfl
@[simp] theorem setWin_objs : (setWin s w x).objs = s.objs := rfl
@[simp] theorem setWin_pend : (setWin s w x).pend = s.pend := rfl
@[simp] theorem setWin_mram : (setWin s w x).mram = s.mram := rfl
@[simp] theorem setWin_led : (setWin s w x).led = s.led := rfl
@[simp] theorem setWin_man : (setWin s w x).man = s.man := rfl
@[simp] theorem setWin_rods : (setWin s w x).rods = s.rods := rfl
@[simp] theorem setWin_marks : (setWin s w x).marks = s.marks := rfl
@[simp] theorem setWin_disarmed : (setWin s w x).disarmed = s.disarmed := rfl
@[simp] theorem setWin_claims : (setWin s w x).claims = s.claims := rfl
@[simp] theorem setWin_lanes : (setWin s w x).lanes = s.lanes := rfl
@[simp] theorem setWin_trigs : (setWin s w x).trigs = s.trigs := rfl
@[simp] theorem setWin_sent : (setWin s w x).sent = s.sent := rfl
@[simp] theorem setWin_caps : (setWin s w x).caps = s.caps := rfl
@[simp] theorem setWin_capWait : (setWin s w x).capWait = s.capWait := rfl
@[simp] theorem setWin_sel : (setWin s w x).sel = s.sel := rfl
@[simp] theorem setWin_link : (setWin s w x).link = s.link := rfl
@[simp] theorem setWin_saf : (setWin s w x).saf = s.saf := rfl
@[simp] theorem setWin_net : (setWin s w x).net = s.net := rfl
@[simp] theorem setWin_can : (setWin s w x).can = s.can := rfl
@[simp] theorem setWin_host : (setWin s w x).host = s.host := rfl
@[simp] theorem setWin_res : (setWin s w x).res = s.res := rfl
@[simp] theorem setWin_enc : (setWin s w x).enc = s.enc := rfl
@[simp] theorem setWin_hall : (setWin s w x).hall = s.hall := rfl
@[simp] theorem setWin_grid : (setWin s w x).grid = s.grid := rfl
@[simp] theorem setWin_freqAt : (setWin s w x).freqAt = s.freqAt := rfl
@[simp] theorem setWin_seq : (setWin s w x).seq = s.seq := rfl
@[simp] theorem setWin_cal : (setWin s w x).cal = s.cal := rfl
@[simp] theorem setWin_pairs : (setWin s w x).pairs = s.pairs := rfl
@[simp] theorem setWin_sd : (setWin s w x).sd = s.sd := rfl
@[simp] theorem setWin_stat : (setWin s w x).stat = s.stat := rfl
@[simp] theorem setWin_tieFail : (setWin s w x).tieFail = s.tieFail := rfl
@[simp] theorem setWin_sdc : (setWin s w x).sdc = s.sdc := rfl
@[simp] theorem setWin_outc : (setWin s w x).outc = s.outc := rfl
@[simp] theorem setWin_win : (setWin s w x).win = tabSet {} s.win w x := rfl
@[simp] theorem setWin_brc : (setWin s w x).brc = s.brc := rfl
@[simp] theorem setWin_loops : (setWin s w x).loops = s.loops := rfl
@[simp] theorem setWin_mac : (setWin s w x).mac = s.mac := rfl
@[simp] theorem setWin_owned : (setWin s w x).owned = s.owned := rfl
@[simp] theorem setWin_inj : (setWin s w x).inj = s.inj := rfl
@[simp] theorem setWin_resp : (setWin s w x).resp = s.resp := rfl
@[simp] theorem setWin_evals : (setWin s w x).evals = s.evals := rfl
@[simp] theorem setWin_evalsPrev : (setWin s w x).evalsPrev = s.evalsPrev := rfl
@[simp] theorem setWin_evalMs : (setWin s w x).evalMs = s.evalMs := rfl
@[simp] theorem setWin_drv : (setWin s w x).drv = s.drv := rfl
@[simp] theorem setWin_chg : (setWin s w x).chg = s.chg := rfl
@[simp] theorem setWin_cnv : (setWin s w x).cnv = s.cnv := rfl
@[simp] theorem setWin_axle : (setWin s w x).axle = s.axle := rfl
@[simp] theorem setWin_camp : (setWin s w x).camp = s.camp := rfl
@[simp] theorem setWin_hvilCurrent : (setWin s w x).hvilCurrent = s.hvilCurrent := rfl
@[simp] theorem setWin_act : (setWin s w x).act = s.act := rfl
@[simp] theorem setWin_pump : (setWin s w x).pump = s.pump := rfl
@[simp] theorem setWin_plock : (setWin s w x).plock = s.plock := rfl
@[simp] theorem setWin_clutch : (setWin s w x).clutch = s.clutch := rfl
@[simp] theorem setWin_therm : (setWin s w x).therm = s.therm := rfl
@[simp] theorem setWin_outr : (setWin s w x).outr = s.outr := rfl
@[simp] theorem setWin_plumbHeld : (setWin s w x).plumbHeld = s.plumbHeld := rfl
@[simp] theorem setWin_formHz : (setWin s w x).formHz = s.formHz := rfl
@[simp] theorem setWin_fired : (setWin s w x).fired = s.fired := rfl
@[simp] theorem setWin_once : (setWin s w x).once = s.once := rfl
@[simp] theorem setWin_pending : (setWin s w x).pending = s.pending := rfl

end setWin

section setBrc
variable (s : State) (i : Nat) (x : Brace)

@[simp] theorem setBrc_dt : (setBrc s i x).dt = s.dt := rfl
@[simp] theorem setBrc_dtPrev : (setBrc s i x).dtPrev = s.dtPrev := rfl
@[simp] theorem setBrc_tick : (setBrc s i x).tick = s.tick := rfl
@[simp] theorem setBrc_dtLog : (setBrc s i x).dtLog = s.dtLog := rfl
@[simp] theorem setBrc_free : (setBrc s i x).free = s.free := rfl
@[simp] theorem setBrc_dev : (setBrc s i x).dev = s.dev := rfl
@[simp] theorem setBrc_power : (setBrc s i x).power = s.power := rfl
@[simp] theorem setBrc_fw : (setBrc s i x).fw = s.fw := rfl
@[simp] theorem setBrc_fuse : (setBrc s i x).fuse = s.fuse := rfl
@[simp] theorem setBrc_tally : (setBrc s i x).tally = s.tally := rfl
@[simp] theorem setBrc_fns : (setBrc s i x).fns = s.fns := rfl
@[simp] theorem setBrc_objs : (setBrc s i x).objs = s.objs := rfl
@[simp] theorem setBrc_pend : (setBrc s i x).pend = s.pend := rfl
@[simp] theorem setBrc_mram : (setBrc s i x).mram = s.mram := rfl
@[simp] theorem setBrc_led : (setBrc s i x).led = s.led := rfl
@[simp] theorem setBrc_man : (setBrc s i x).man = s.man := rfl
@[simp] theorem setBrc_rods : (setBrc s i x).rods = s.rods := rfl
@[simp] theorem setBrc_marks : (setBrc s i x).marks = s.marks := rfl
@[simp] theorem setBrc_disarmed : (setBrc s i x).disarmed = s.disarmed := rfl
@[simp] theorem setBrc_claims : (setBrc s i x).claims = s.claims := rfl
@[simp] theorem setBrc_lanes : (setBrc s i x).lanes = s.lanes := rfl
@[simp] theorem setBrc_trigs : (setBrc s i x).trigs = s.trigs := rfl
@[simp] theorem setBrc_sent : (setBrc s i x).sent = s.sent := rfl
@[simp] theorem setBrc_caps : (setBrc s i x).caps = s.caps := rfl
@[simp] theorem setBrc_capWait : (setBrc s i x).capWait = s.capWait := rfl
@[simp] theorem setBrc_sel : (setBrc s i x).sel = s.sel := rfl
@[simp] theorem setBrc_link : (setBrc s i x).link = s.link := rfl
@[simp] theorem setBrc_saf : (setBrc s i x).saf = s.saf := rfl
@[simp] theorem setBrc_net : (setBrc s i x).net = s.net := rfl
@[simp] theorem setBrc_can : (setBrc s i x).can = s.can := rfl
@[simp] theorem setBrc_host : (setBrc s i x).host = s.host := rfl
@[simp] theorem setBrc_res : (setBrc s i x).res = s.res := rfl
@[simp] theorem setBrc_enc : (setBrc s i x).enc = s.enc := rfl
@[simp] theorem setBrc_hall : (setBrc s i x).hall = s.hall := rfl
@[simp] theorem setBrc_grid : (setBrc s i x).grid = s.grid := rfl
@[simp] theorem setBrc_freqAt : (setBrc s i x).freqAt = s.freqAt := rfl
@[simp] theorem setBrc_seq : (setBrc s i x).seq = s.seq := rfl
@[simp] theorem setBrc_cal : (setBrc s i x).cal = s.cal := rfl
@[simp] theorem setBrc_pairs : (setBrc s i x).pairs = s.pairs := rfl
@[simp] theorem setBrc_sd : (setBrc s i x).sd = s.sd := rfl
@[simp] theorem setBrc_stat : (setBrc s i x).stat = s.stat := rfl
@[simp] theorem setBrc_tieFail : (setBrc s i x).tieFail = s.tieFail := rfl
@[simp] theorem setBrc_sdc : (setBrc s i x).sdc = s.sdc := rfl
@[simp] theorem setBrc_outc : (setBrc s i x).outc = s.outc := rfl
@[simp] theorem setBrc_win : (setBrc s i x).win = s.win := rfl
@[simp] theorem setBrc_brc : (setBrc s i x).brc = tabSet {} s.brc i x := rfl
@[simp] theorem setBrc_loops : (setBrc s i x).loops = s.loops := rfl
@[simp] theorem setBrc_mac : (setBrc s i x).mac = s.mac := rfl
@[simp] theorem setBrc_owned : (setBrc s i x).owned = s.owned := rfl
@[simp] theorem setBrc_inj : (setBrc s i x).inj = s.inj := rfl
@[simp] theorem setBrc_resp : (setBrc s i x).resp = s.resp := rfl
@[simp] theorem setBrc_evals : (setBrc s i x).evals = s.evals := rfl
@[simp] theorem setBrc_evalsPrev : (setBrc s i x).evalsPrev = s.evalsPrev := rfl
@[simp] theorem setBrc_evalMs : (setBrc s i x).evalMs = s.evalMs := rfl
@[simp] theorem setBrc_drv : (setBrc s i x).drv = s.drv := rfl
@[simp] theorem setBrc_chg : (setBrc s i x).chg = s.chg := rfl
@[simp] theorem setBrc_cnv : (setBrc s i x).cnv = s.cnv := rfl
@[simp] theorem setBrc_axle : (setBrc s i x).axle = s.axle := rfl
@[simp] theorem setBrc_camp : (setBrc s i x).camp = s.camp := rfl
@[simp] theorem setBrc_hvilCurrent : (setBrc s i x).hvilCurrent = s.hvilCurrent := rfl
@[simp] theorem setBrc_act : (setBrc s i x).act = s.act := rfl
@[simp] theorem setBrc_pump : (setBrc s i x).pump = s.pump := rfl
@[simp] theorem setBrc_plock : (setBrc s i x).plock = s.plock := rfl
@[simp] theorem setBrc_clutch : (setBrc s i x).clutch = s.clutch := rfl
@[simp] theorem setBrc_therm : (setBrc s i x).therm = s.therm := rfl
@[simp] theorem setBrc_outr : (setBrc s i x).outr = s.outr := rfl
@[simp] theorem setBrc_plumbHeld : (setBrc s i x).plumbHeld = s.plumbHeld := rfl
@[simp] theorem setBrc_formHz : (setBrc s i x).formHz = s.formHz := rfl
@[simp] theorem setBrc_fired : (setBrc s i x).fired = s.fired := rfl
@[simp] theorem setBrc_once : (setBrc s i x).once = s.once := rfl
@[simp] theorem setBrc_pending : (setBrc s i x).pending = s.pending := rfl

end setBrc

section setLoop
variable (s : State) (l : Nat) (x : Loop)

@[simp] theorem setLoop_dt : (setLoop s l x).dt = s.dt := rfl
@[simp] theorem setLoop_dtPrev : (setLoop s l x).dtPrev = s.dtPrev := rfl
@[simp] theorem setLoop_tick : (setLoop s l x).tick = s.tick := rfl
@[simp] theorem setLoop_dtLog : (setLoop s l x).dtLog = s.dtLog := rfl
@[simp] theorem setLoop_free : (setLoop s l x).free = s.free := rfl
@[simp] theorem setLoop_dev : (setLoop s l x).dev = s.dev := rfl
@[simp] theorem setLoop_power : (setLoop s l x).power = s.power := rfl
@[simp] theorem setLoop_fw : (setLoop s l x).fw = s.fw := rfl
@[simp] theorem setLoop_fuse : (setLoop s l x).fuse = s.fuse := rfl
@[simp] theorem setLoop_tally : (setLoop s l x).tally = s.tally := rfl
@[simp] theorem setLoop_fns : (setLoop s l x).fns = s.fns := rfl
@[simp] theorem setLoop_objs : (setLoop s l x).objs = s.objs := rfl
@[simp] theorem setLoop_pend : (setLoop s l x).pend = s.pend := rfl
@[simp] theorem setLoop_mram : (setLoop s l x).mram = s.mram := rfl
@[simp] theorem setLoop_led : (setLoop s l x).led = s.led := rfl
@[simp] theorem setLoop_man : (setLoop s l x).man = s.man := rfl
@[simp] theorem setLoop_rods : (setLoop s l x).rods = s.rods := rfl
@[simp] theorem setLoop_marks : (setLoop s l x).marks = s.marks := rfl
@[simp] theorem setLoop_disarmed : (setLoop s l x).disarmed = s.disarmed := rfl
@[simp] theorem setLoop_claims : (setLoop s l x).claims = s.claims := rfl
@[simp] theorem setLoop_lanes : (setLoop s l x).lanes = s.lanes := rfl
@[simp] theorem setLoop_trigs : (setLoop s l x).trigs = s.trigs := rfl
@[simp] theorem setLoop_sent : (setLoop s l x).sent = s.sent := rfl
@[simp] theorem setLoop_caps : (setLoop s l x).caps = s.caps := rfl
@[simp] theorem setLoop_capWait : (setLoop s l x).capWait = s.capWait := rfl
@[simp] theorem setLoop_sel : (setLoop s l x).sel = s.sel := rfl
@[simp] theorem setLoop_link : (setLoop s l x).link = s.link := rfl
@[simp] theorem setLoop_saf : (setLoop s l x).saf = s.saf := rfl
@[simp] theorem setLoop_net : (setLoop s l x).net = s.net := rfl
@[simp] theorem setLoop_can : (setLoop s l x).can = s.can := rfl
@[simp] theorem setLoop_host : (setLoop s l x).host = s.host := rfl
@[simp] theorem setLoop_res : (setLoop s l x).res = s.res := rfl
@[simp] theorem setLoop_enc : (setLoop s l x).enc = s.enc := rfl
@[simp] theorem setLoop_hall : (setLoop s l x).hall = s.hall := rfl
@[simp] theorem setLoop_grid : (setLoop s l x).grid = s.grid := rfl
@[simp] theorem setLoop_freqAt : (setLoop s l x).freqAt = s.freqAt := rfl
@[simp] theorem setLoop_seq : (setLoop s l x).seq = s.seq := rfl
@[simp] theorem setLoop_cal : (setLoop s l x).cal = s.cal := rfl
@[simp] theorem setLoop_pairs : (setLoop s l x).pairs = s.pairs := rfl
@[simp] theorem setLoop_sd : (setLoop s l x).sd = s.sd := rfl
@[simp] theorem setLoop_stat : (setLoop s l x).stat = s.stat := rfl
@[simp] theorem setLoop_tieFail : (setLoop s l x).tieFail = s.tieFail := rfl
@[simp] theorem setLoop_sdc : (setLoop s l x).sdc = s.sdc := rfl
@[simp] theorem setLoop_outc : (setLoop s l x).outc = s.outc := rfl
@[simp] theorem setLoop_win : (setLoop s l x).win = s.win := rfl
@[simp] theorem setLoop_brc : (setLoop s l x).brc = s.brc := rfl
@[simp] theorem setLoop_loops : (setLoop s l x).loops = tabSet {} s.loops l x := rfl
@[simp] theorem setLoop_mac : (setLoop s l x).mac = s.mac := rfl
@[simp] theorem setLoop_owned : (setLoop s l x).owned = s.owned := rfl
@[simp] theorem setLoop_inj : (setLoop s l x).inj = s.inj := rfl
@[simp] theorem setLoop_resp : (setLoop s l x).resp = s.resp := rfl
@[simp] theorem setLoop_evals : (setLoop s l x).evals = s.evals := rfl
@[simp] theorem setLoop_evalsPrev : (setLoop s l x).evalsPrev = s.evalsPrev := rfl
@[simp] theorem setLoop_evalMs : (setLoop s l x).evalMs = s.evalMs := rfl
@[simp] theorem setLoop_drv : (setLoop s l x).drv = s.drv := rfl
@[simp] theorem setLoop_chg : (setLoop s l x).chg = s.chg := rfl
@[simp] theorem setLoop_cnv : (setLoop s l x).cnv = s.cnv := rfl
@[simp] theorem setLoop_axle : (setLoop s l x).axle = s.axle := rfl
@[simp] theorem setLoop_camp : (setLoop s l x).camp = s.camp := rfl
@[simp] theorem setLoop_hvilCurrent : (setLoop s l x).hvilCurrent = s.hvilCurrent := rfl
@[simp] theorem setLoop_act : (setLoop s l x).act = s.act := rfl
@[simp] theorem setLoop_pump : (setLoop s l x).pump = s.pump := rfl
@[simp] theorem setLoop_plock : (setLoop s l x).plock = s.plock := rfl
@[simp] theorem setLoop_clutch : (setLoop s l x).clutch = s.clutch := rfl
@[simp] theorem setLoop_therm : (setLoop s l x).therm = s.therm := rfl
@[simp] theorem setLoop_outr : (setLoop s l x).outr = s.outr := rfl
@[simp] theorem setLoop_plumbHeld : (setLoop s l x).plumbHeld = s.plumbHeld := rfl
@[simp] theorem setLoop_formHz : (setLoop s l x).formHz = s.formHz := rfl
@[simp] theorem setLoop_fired : (setLoop s l x).fired = s.fired := rfl
@[simp] theorem setLoop_once : (setLoop s l x).once = s.once := rfl
@[simp] theorem setLoop_pending : (setLoop s l x).pending = s.pending := rfl

end setLoop

section setStat
variable (s : State) (u : Nat) (x : Stat)

@[simp] theorem setStat_dt : (setStat s u x).dt = s.dt := rfl
@[simp] theorem setStat_dtPrev : (setStat s u x).dtPrev = s.dtPrev := rfl
@[simp] theorem setStat_tick : (setStat s u x).tick = s.tick := rfl
@[simp] theorem setStat_dtLog : (setStat s u x).dtLog = s.dtLog := rfl
@[simp] theorem setStat_free : (setStat s u x).free = s.free := rfl
@[simp] theorem setStat_dev : (setStat s u x).dev = s.dev := rfl
@[simp] theorem setStat_power : (setStat s u x).power = s.power := rfl
@[simp] theorem setStat_fw : (setStat s u x).fw = s.fw := rfl
@[simp] theorem setStat_fuse : (setStat s u x).fuse = s.fuse := rfl
@[simp] theorem setStat_tally : (setStat s u x).tally = s.tally := rfl
@[simp] theorem setStat_fns : (setStat s u x).fns = s.fns := rfl
@[simp] theorem setStat_objs : (setStat s u x).objs = s.objs := rfl
@[simp] theorem setStat_pend : (setStat s u x).pend = s.pend := rfl
@[simp] theorem setStat_mram : (setStat s u x).mram = s.mram := rfl
@[simp] theorem setStat_led : (setStat s u x).led = s.led := rfl
@[simp] theorem setStat_man : (setStat s u x).man = s.man := rfl
@[simp] theorem setStat_rods : (setStat s u x).rods = s.rods := rfl
@[simp] theorem setStat_marks : (setStat s u x).marks = s.marks := rfl
@[simp] theorem setStat_disarmed : (setStat s u x).disarmed = s.disarmed := rfl
@[simp] theorem setStat_claims : (setStat s u x).claims = s.claims := rfl
@[simp] theorem setStat_lanes : (setStat s u x).lanes = s.lanes := rfl
@[simp] theorem setStat_trigs : (setStat s u x).trigs = s.trigs := rfl
@[simp] theorem setStat_sent : (setStat s u x).sent = s.sent := rfl
@[simp] theorem setStat_caps : (setStat s u x).caps = s.caps := rfl
@[simp] theorem setStat_capWait : (setStat s u x).capWait = s.capWait := rfl
@[simp] theorem setStat_sel : (setStat s u x).sel = s.sel := rfl
@[simp] theorem setStat_link : (setStat s u x).link = s.link := rfl
@[simp] theorem setStat_saf : (setStat s u x).saf = s.saf := rfl
@[simp] theorem setStat_net : (setStat s u x).net = s.net := rfl
@[simp] theorem setStat_can : (setStat s u x).can = s.can := rfl
@[simp] theorem setStat_host : (setStat s u x).host = s.host := rfl
@[simp] theorem setStat_res : (setStat s u x).res = s.res := rfl
@[simp] theorem setStat_enc : (setStat s u x).enc = s.enc := rfl
@[simp] theorem setStat_hall : (setStat s u x).hall = s.hall := rfl
@[simp] theorem setStat_grid : (setStat s u x).grid = s.grid := rfl
@[simp] theorem setStat_freqAt : (setStat s u x).freqAt = s.freqAt := rfl
@[simp] theorem setStat_seq : (setStat s u x).seq = s.seq := rfl
@[simp] theorem setStat_cal : (setStat s u x).cal = s.cal := rfl
@[simp] theorem setStat_pairs : (setStat s u x).pairs = s.pairs := rfl
@[simp] theorem setStat_sd : (setStat s u x).sd = s.sd := rfl
@[simp] theorem setStat_stat : (setStat s u x).stat = tabSet {} s.stat u x := rfl
@[simp] theorem setStat_tieFail : (setStat s u x).tieFail = s.tieFail := rfl
@[simp] theorem setStat_sdc : (setStat s u x).sdc = s.sdc := rfl
@[simp] theorem setStat_outc : (setStat s u x).outc = s.outc := rfl
@[simp] theorem setStat_win : (setStat s u x).win = s.win := rfl
@[simp] theorem setStat_brc : (setStat s u x).brc = s.brc := rfl
@[simp] theorem setStat_loops : (setStat s u x).loops = s.loops := rfl
@[simp] theorem setStat_mac : (setStat s u x).mac = s.mac := rfl
@[simp] theorem setStat_owned : (setStat s u x).owned = s.owned := rfl
@[simp] theorem setStat_inj : (setStat s u x).inj = s.inj := rfl
@[simp] theorem setStat_resp : (setStat s u x).resp = s.resp := rfl
@[simp] theorem setStat_evals : (setStat s u x).evals = s.evals := rfl
@[simp] theorem setStat_evalsPrev : (setStat s u x).evalsPrev = s.evalsPrev := rfl
@[simp] theorem setStat_evalMs : (setStat s u x).evalMs = s.evalMs := rfl
@[simp] theorem setStat_drv : (setStat s u x).drv = s.drv := rfl
@[simp] theorem setStat_chg : (setStat s u x).chg = s.chg := rfl
@[simp] theorem setStat_cnv : (setStat s u x).cnv = s.cnv := rfl
@[simp] theorem setStat_axle : (setStat s u x).axle = s.axle := rfl
@[simp] theorem setStat_camp : (setStat s u x).camp = s.camp := rfl
@[simp] theorem setStat_hvilCurrent : (setStat s u x).hvilCurrent = s.hvilCurrent := rfl
@[simp] theorem setStat_act : (setStat s u x).act = s.act := rfl
@[simp] theorem setStat_pump : (setStat s u x).pump = s.pump := rfl
@[simp] theorem setStat_plock : (setStat s u x).plock = s.plock := rfl
@[simp] theorem setStat_clutch : (setStat s u x).clutch = s.clutch := rfl
@[simp] theorem setStat_therm : (setStat s u x).therm = s.therm := rfl
@[simp] theorem setStat_outr : (setStat s u x).outr = s.outr := rfl
@[simp] theorem setStat_plumbHeld : (setStat s u x).plumbHeld = s.plumbHeld := rfl
@[simp] theorem setStat_formHz : (setStat s u x).formHz = s.formHz := rfl
@[simp] theorem setStat_fired : (setStat s u x).fired = s.fired := rfl
@[simp] theorem setStat_once : (setStat s u x).once = s.once := rfl
@[simp] theorem setStat_pending : (setStat s u x).pending = s.pending := rfl

end setStat

section setSeq
variable (s : State) (q : Nat) (x : SeqInst)

@[simp] theorem setSeq_dt : (setSeq s q x).dt = s.dt := rfl
@[simp] theorem setSeq_dtPrev : (setSeq s q x).dtPrev = s.dtPrev := rfl
@[simp] theorem setSeq_tick : (setSeq s q x).tick = s.tick := rfl
@[simp] theorem setSeq_dtLog : (setSeq s q x).dtLog = s.dtLog := rfl
@[simp] theorem setSeq_free : (setSeq s q x).free = s.free := rfl
@[simp] theorem setSeq_dev : (setSeq s q x).dev = s.dev := rfl
@[simp] theorem setSeq_power : (setSeq s q x).power = s.power := rfl
@[simp] theorem setSeq_fw : (setSeq s q x).fw = s.fw := rfl
@[simp] theorem setSeq_fuse : (setSeq s q x).fuse = s.fuse := rfl
@[simp] theorem setSeq_tally : (setSeq s q x).tally = s.tally := rfl
@[simp] theorem setSeq_fns : (setSeq s q x).fns = s.fns := rfl
@[simp] theorem setSeq_objs : (setSeq s q x).objs = s.objs := rfl
@[simp] theorem setSeq_pend : (setSeq s q x).pend = s.pend := rfl
@[simp] theorem setSeq_mram : (setSeq s q x).mram = s.mram := rfl
@[simp] theorem setSeq_led : (setSeq s q x).led = s.led := rfl
@[simp] theorem setSeq_man : (setSeq s q x).man = s.man := rfl
@[simp] theorem setSeq_rods : (setSeq s q x).rods = s.rods := rfl
@[simp] theorem setSeq_marks : (setSeq s q x).marks = s.marks := rfl
@[simp] theorem setSeq_disarmed : (setSeq s q x).disarmed = s.disarmed := rfl
@[simp] theorem setSeq_claims : (setSeq s q x).claims = s.claims := rfl
@[simp] theorem setSeq_lanes : (setSeq s q x).lanes = s.lanes := rfl
@[simp] theorem setSeq_trigs : (setSeq s q x).trigs = s.trigs := rfl
@[simp] theorem setSeq_sent : (setSeq s q x).sent = s.sent := rfl
@[simp] theorem setSeq_caps : (setSeq s q x).caps = s.caps := rfl
@[simp] theorem setSeq_capWait : (setSeq s q x).capWait = s.capWait := rfl
@[simp] theorem setSeq_sel : (setSeq s q x).sel = s.sel := rfl
@[simp] theorem setSeq_link : (setSeq s q x).link = s.link := rfl
@[simp] theorem setSeq_saf : (setSeq s q x).saf = s.saf := rfl
@[simp] theorem setSeq_net : (setSeq s q x).net = s.net := rfl
@[simp] theorem setSeq_can : (setSeq s q x).can = s.can := rfl
@[simp] theorem setSeq_host : (setSeq s q x).host = s.host := rfl
@[simp] theorem setSeq_res : (setSeq s q x).res = s.res := rfl
@[simp] theorem setSeq_enc : (setSeq s q x).enc = s.enc := rfl
@[simp] theorem setSeq_hall : (setSeq s q x).hall = s.hall := rfl
@[simp] theorem setSeq_grid : (setSeq s q x).grid = s.grid := rfl
@[simp] theorem setSeq_freqAt : (setSeq s q x).freqAt = s.freqAt := rfl
@[simp] theorem setSeq_seq : (setSeq s q x).seq = tabSet {} s.seq q x := rfl
@[simp] theorem setSeq_cal : (setSeq s q x).cal = s.cal := rfl
@[simp] theorem setSeq_pairs : (setSeq s q x).pairs = s.pairs := rfl
@[simp] theorem setSeq_sd : (setSeq s q x).sd = s.sd := rfl
@[simp] theorem setSeq_stat : (setSeq s q x).stat = s.stat := rfl
@[simp] theorem setSeq_tieFail : (setSeq s q x).tieFail = s.tieFail := rfl
@[simp] theorem setSeq_sdc : (setSeq s q x).sdc = s.sdc := rfl
@[simp] theorem setSeq_outc : (setSeq s q x).outc = s.outc := rfl
@[simp] theorem setSeq_win : (setSeq s q x).win = s.win := rfl
@[simp] theorem setSeq_brc : (setSeq s q x).brc = s.brc := rfl
@[simp] theorem setSeq_loops : (setSeq s q x).loops = s.loops := rfl
@[simp] theorem setSeq_mac : (setSeq s q x).mac = s.mac := rfl
@[simp] theorem setSeq_owned : (setSeq s q x).owned = s.owned := rfl
@[simp] theorem setSeq_inj : (setSeq s q x).inj = s.inj := rfl
@[simp] theorem setSeq_resp : (setSeq s q x).resp = s.resp := rfl
@[simp] theorem setSeq_evals : (setSeq s q x).evals = s.evals := rfl
@[simp] theorem setSeq_evalsPrev : (setSeq s q x).evalsPrev = s.evalsPrev := rfl
@[simp] theorem setSeq_evalMs : (setSeq s q x).evalMs = s.evalMs := rfl
@[simp] theorem setSeq_drv : (setSeq s q x).drv = s.drv := rfl
@[simp] theorem setSeq_chg : (setSeq s q x).chg = s.chg := rfl
@[simp] theorem setSeq_cnv : (setSeq s q x).cnv = s.cnv := rfl
@[simp] theorem setSeq_axle : (setSeq s q x).axle = s.axle := rfl
@[simp] theorem setSeq_camp : (setSeq s q x).camp = s.camp := rfl
@[simp] theorem setSeq_hvilCurrent : (setSeq s q x).hvilCurrent = s.hvilCurrent := rfl
@[simp] theorem setSeq_act : (setSeq s q x).act = s.act := rfl
@[simp] theorem setSeq_pump : (setSeq s q x).pump = s.pump := rfl
@[simp] theorem setSeq_plock : (setSeq s q x).plock = s.plock := rfl
@[simp] theorem setSeq_clutch : (setSeq s q x).clutch = s.clutch := rfl
@[simp] theorem setSeq_therm : (setSeq s q x).therm = s.therm := rfl
@[simp] theorem setSeq_outr : (setSeq s q x).outr = s.outr := rfl
@[simp] theorem setSeq_plumbHeld : (setSeq s q x).plumbHeld = s.plumbHeld := rfl
@[simp] theorem setSeq_formHz : (setSeq s q x).formHz = s.formHz := rfl
@[simp] theorem setSeq_fired : (setSeq s q x).fired = s.fired := rfl
@[simp] theorem setSeq_once : (setSeq s q x).once = s.once := rfl
@[simp] theorem setSeq_pending : (setSeq s q x).pending = s.pending := rfl

end setSeq

section setAct
variable (s : State) (n : Nat) (x : Act)

@[simp] theorem setAct_dt : (setAct s n x).dt = s.dt := rfl
@[simp] theorem setAct_dtPrev : (setAct s n x).dtPrev = s.dtPrev := rfl
@[simp] theorem setAct_tick : (setAct s n x).tick = s.tick := rfl
@[simp] theorem setAct_dtLog : (setAct s n x).dtLog = s.dtLog := rfl
@[simp] theorem setAct_free : (setAct s n x).free = s.free := rfl
@[simp] theorem setAct_dev : (setAct s n x).dev = s.dev := rfl
@[simp] theorem setAct_power : (setAct s n x).power = s.power := rfl
@[simp] theorem setAct_fw : (setAct s n x).fw = s.fw := rfl
@[simp] theorem setAct_fuse : (setAct s n x).fuse = s.fuse := rfl
@[simp] theorem setAct_tally : (setAct s n x).tally = s.tally := rfl
@[simp] theorem setAct_fns : (setAct s n x).fns = s.fns := rfl
@[simp] theorem setAct_objs : (setAct s n x).objs = s.objs := rfl
@[simp] theorem setAct_pend : (setAct s n x).pend = s.pend := rfl
@[simp] theorem setAct_mram : (setAct s n x).mram = s.mram := rfl
@[simp] theorem setAct_led : (setAct s n x).led = s.led := rfl
@[simp] theorem setAct_man : (setAct s n x).man = s.man := rfl
@[simp] theorem setAct_rods : (setAct s n x).rods = s.rods := rfl
@[simp] theorem setAct_marks : (setAct s n x).marks = s.marks := rfl
@[simp] theorem setAct_disarmed : (setAct s n x).disarmed = s.disarmed := rfl
@[simp] theorem setAct_claims : (setAct s n x).claims = s.claims := rfl
@[simp] theorem setAct_lanes : (setAct s n x).lanes = s.lanes := rfl
@[simp] theorem setAct_trigs : (setAct s n x).trigs = s.trigs := rfl
@[simp] theorem setAct_sent : (setAct s n x).sent = s.sent := rfl
@[simp] theorem setAct_caps : (setAct s n x).caps = s.caps := rfl
@[simp] theorem setAct_capWait : (setAct s n x).capWait = s.capWait := rfl
@[simp] theorem setAct_sel : (setAct s n x).sel = s.sel := rfl
@[simp] theorem setAct_link : (setAct s n x).link = s.link := rfl
@[simp] theorem setAct_saf : (setAct s n x).saf = s.saf := rfl
@[simp] theorem setAct_net : (setAct s n x).net = s.net := rfl
@[simp] theorem setAct_can : (setAct s n x).can = s.can := rfl
@[simp] theorem setAct_host : (setAct s n x).host = s.host := rfl
@[simp] theorem setAct_res : (setAct s n x).res = s.res := rfl
@[simp] theorem setAct_enc : (setAct s n x).enc = s.enc := rfl
@[simp] theorem setAct_hall : (setAct s n x).hall = s.hall := rfl
@[simp] theorem setAct_grid : (setAct s n x).grid = s.grid := rfl
@[simp] theorem setAct_freqAt : (setAct s n x).freqAt = s.freqAt := rfl
@[simp] theorem setAct_seq : (setAct s n x).seq = s.seq := rfl
@[simp] theorem setAct_cal : (setAct s n x).cal = s.cal := rfl
@[simp] theorem setAct_pairs : (setAct s n x).pairs = s.pairs := rfl
@[simp] theorem setAct_sd : (setAct s n x).sd = s.sd := rfl
@[simp] theorem setAct_stat : (setAct s n x).stat = s.stat := rfl
@[simp] theorem setAct_tieFail : (setAct s n x).tieFail = s.tieFail := rfl
@[simp] theorem setAct_sdc : (setAct s n x).sdc = s.sdc := rfl
@[simp] theorem setAct_outc : (setAct s n x).outc = s.outc := rfl
@[simp] theorem setAct_win : (setAct s n x).win = s.win := rfl
@[simp] theorem setAct_brc : (setAct s n x).brc = s.brc := rfl
@[simp] theorem setAct_loops : (setAct s n x).loops = s.loops := rfl
@[simp] theorem setAct_mac : (setAct s n x).mac = s.mac := rfl
@[simp] theorem setAct_owned : (setAct s n x).owned = s.owned := rfl
@[simp] theorem setAct_inj : (setAct s n x).inj = s.inj := rfl
@[simp] theorem setAct_resp : (setAct s n x).resp = s.resp := rfl
@[simp] theorem setAct_evals : (setAct s n x).evals = s.evals := rfl
@[simp] theorem setAct_evalsPrev : (setAct s n x).evalsPrev = s.evalsPrev := rfl
@[simp] theorem setAct_evalMs : (setAct s n x).evalMs = s.evalMs := rfl
@[simp] theorem setAct_drv : (setAct s n x).drv = s.drv := rfl
@[simp] theorem setAct_chg : (setAct s n x).chg = s.chg := rfl
@[simp] theorem setAct_cnv : (setAct s n x).cnv = s.cnv := rfl
@[simp] theorem setAct_axle : (setAct s n x).axle = s.axle := rfl
@[simp] theorem setAct_camp : (setAct s n x).camp = s.camp := rfl
@[simp] theorem setAct_hvilCurrent : (setAct s n x).hvilCurrent = s.hvilCurrent := rfl
@[simp] theorem setAct_act : (setAct s n x).act = tabSet {} s.act n (actDriven s x) := rfl
@[simp] theorem setAct_pump : (setAct s n x).pump = s.pump := rfl
@[simp] theorem setAct_plock : (setAct s n x).plock = s.plock := rfl
@[simp] theorem setAct_clutch : (setAct s n x).clutch = s.clutch := rfl
@[simp] theorem setAct_therm : (setAct s n x).therm = s.therm := rfl
@[simp] theorem setAct_outr : (setAct s n x).outr = s.outr := rfl
@[simp] theorem setAct_plumbHeld : (setAct s n x).plumbHeld = s.plumbHeld := rfl
@[simp] theorem setAct_formHz : (setAct s n x).formHz = s.formHz := rfl
@[simp] theorem setAct_fired : (setAct s n x).fired = s.fired := rfl
@[simp] theorem setAct_once : (setAct s n x).once = s.once := rfl
@[simp] theorem setAct_pending : (setAct s n x).pending = s.pending := rfl

end setAct

section setEnc
variable (s : State) (e : Nat) (x : Encoder)

@[simp] theorem setEnc_dt : (setEnc s e x).dt = s.dt := rfl
@[simp] theorem setEnc_dtPrev : (setEnc s e x).dtPrev = s.dtPrev := rfl
@[simp] theorem setEnc_tick : (setEnc s e x).tick = s.tick := rfl
@[simp] theorem setEnc_dtLog : (setEnc s e x).dtLog = s.dtLog := rfl
@[simp] theorem setEnc_free : (setEnc s e x).free = s.free := rfl
@[simp] theorem setEnc_dev : (setEnc s e x).dev = s.dev := rfl
@[simp] theorem setEnc_power : (setEnc s e x).power = s.power := rfl
@[simp] theorem setEnc_fw : (setEnc s e x).fw = s.fw := rfl
@[simp] theorem setEnc_fuse : (setEnc s e x).fuse = s.fuse := rfl
@[simp] theorem setEnc_tally : (setEnc s e x).tally = s.tally := rfl
@[simp] theorem setEnc_fns : (setEnc s e x).fns = s.fns := rfl
@[simp] theorem setEnc_objs : (setEnc s e x).objs = s.objs := rfl
@[simp] theorem setEnc_pend : (setEnc s e x).pend = s.pend := rfl
@[simp] theorem setEnc_mram : (setEnc s e x).mram = s.mram := rfl
@[simp] theorem setEnc_led : (setEnc s e x).led = s.led := rfl
@[simp] theorem setEnc_man : (setEnc s e x).man = s.man := rfl
@[simp] theorem setEnc_rods : (setEnc s e x).rods = s.rods := rfl
@[simp] theorem setEnc_marks : (setEnc s e x).marks = s.marks := rfl
@[simp] theorem setEnc_disarmed : (setEnc s e x).disarmed = s.disarmed := rfl
@[simp] theorem setEnc_claims : (setEnc s e x).claims = s.claims := rfl
@[simp] theorem setEnc_lanes : (setEnc s e x).lanes = s.lanes := rfl
@[simp] theorem setEnc_trigs : (setEnc s e x).trigs = s.trigs := rfl
@[simp] theorem setEnc_sent : (setEnc s e x).sent = s.sent := rfl
@[simp] theorem setEnc_caps : (setEnc s e x).caps = s.caps := rfl
@[simp] theorem setEnc_capWait : (setEnc s e x).capWait = s.capWait := rfl
@[simp] theorem setEnc_sel : (setEnc s e x).sel = s.sel := rfl
@[simp] theorem setEnc_link : (setEnc s e x).link = s.link := rfl
@[simp] theorem setEnc_saf : (setEnc s e x).saf = s.saf := rfl
@[simp] theorem setEnc_net : (setEnc s e x).net = s.net := rfl
@[simp] theorem setEnc_can : (setEnc s e x).can = s.can := rfl
@[simp] theorem setEnc_host : (setEnc s e x).host = s.host := rfl
@[simp] theorem setEnc_res : (setEnc s e x).res = s.res := rfl
@[simp] theorem setEnc_enc : (setEnc s e x).enc = tabSet {} s.enc e x := rfl
@[simp] theorem setEnc_hall : (setEnc s e x).hall = s.hall := rfl
@[simp] theorem setEnc_grid : (setEnc s e x).grid = s.grid := rfl
@[simp] theorem setEnc_freqAt : (setEnc s e x).freqAt = s.freqAt := rfl
@[simp] theorem setEnc_seq : (setEnc s e x).seq = s.seq := rfl
@[simp] theorem setEnc_cal : (setEnc s e x).cal = s.cal := rfl
@[simp] theorem setEnc_pairs : (setEnc s e x).pairs = s.pairs := rfl
@[simp] theorem setEnc_sd : (setEnc s e x).sd = s.sd := rfl
@[simp] theorem setEnc_stat : (setEnc s e x).stat = s.stat := rfl
@[simp] theorem setEnc_tieFail : (setEnc s e x).tieFail = s.tieFail := rfl
@[simp] theorem setEnc_sdc : (setEnc s e x).sdc = s.sdc := rfl
@[simp] theorem setEnc_outc : (setEnc s e x).outc = s.outc := rfl
@[simp] theorem setEnc_win : (setEnc s e x).win = s.win := rfl
@[simp] theorem setEnc_brc : (setEnc s e x).brc = s.brc := rfl
@[simp] theorem setEnc_loops : (setEnc s e x).loops = s.loops := rfl
@[simp] theorem setEnc_mac : (setEnc s e x).mac = s.mac := rfl
@[simp] theorem setEnc_owned : (setEnc s e x).owned = s.owned := rfl
@[simp] theorem setEnc_inj : (setEnc s e x).inj = s.inj := rfl
@[simp] theorem setEnc_resp : (setEnc s e x).resp = s.resp := rfl
@[simp] theorem setEnc_evals : (setEnc s e x).evals = s.evals := rfl
@[simp] theorem setEnc_evalsPrev : (setEnc s e x).evalsPrev = s.evalsPrev := rfl
@[simp] theorem setEnc_evalMs : (setEnc s e x).evalMs = s.evalMs := rfl
@[simp] theorem setEnc_drv : (setEnc s e x).drv = s.drv := rfl
@[simp] theorem setEnc_chg : (setEnc s e x).chg = s.chg := rfl
@[simp] theorem setEnc_cnv : (setEnc s e x).cnv = s.cnv := rfl
@[simp] theorem setEnc_axle : (setEnc s e x).axle = s.axle := rfl
@[simp] theorem setEnc_camp : (setEnc s e x).camp = s.camp := rfl
@[simp] theorem setEnc_hvilCurrent : (setEnc s e x).hvilCurrent = s.hvilCurrent := rfl
@[simp] theorem setEnc_act : (setEnc s e x).act = s.act := rfl
@[simp] theorem setEnc_pump : (setEnc s e x).pump = s.pump := rfl
@[simp] theorem setEnc_plock : (setEnc s e x).plock = s.plock := rfl
@[simp] theorem setEnc_clutch : (setEnc s e x).clutch = s.clutch := rfl
@[simp] theorem setEnc_therm : (setEnc s e x).therm = s.therm := rfl
@[simp] theorem setEnc_outr : (setEnc s e x).outr = s.outr := rfl
@[simp] theorem setEnc_plumbHeld : (setEnc s e x).plumbHeld = s.plumbHeld := rfl
@[simp] theorem setEnc_formHz : (setEnc s e x).formHz = s.formHz := rfl
@[simp] theorem setEnc_fired : (setEnc s e x).fired = s.fired := rfl
@[simp] theorem setEnc_once : (setEnc s e x).once = s.once := rfl
@[simp] theorem setEnc_pending : (setEnc s e x).pending = s.pending := rfl

end setEnc

section setHall
variable (s : State) (h : Nat) (x : Hall)

@[simp] theorem setHall_dt : (setHall s h x).dt = s.dt := rfl
@[simp] theorem setHall_dtPrev : (setHall s h x).dtPrev = s.dtPrev := rfl
@[simp] theorem setHall_tick : (setHall s h x).tick = s.tick := rfl
@[simp] theorem setHall_dtLog : (setHall s h x).dtLog = s.dtLog := rfl
@[simp] theorem setHall_free : (setHall s h x).free = s.free := rfl
@[simp] theorem setHall_dev : (setHall s h x).dev = s.dev := rfl
@[simp] theorem setHall_power : (setHall s h x).power = s.power := rfl
@[simp] theorem setHall_fw : (setHall s h x).fw = s.fw := rfl
@[simp] theorem setHall_fuse : (setHall s h x).fuse = s.fuse := rfl
@[simp] theorem setHall_tally : (setHall s h x).tally = s.tally := rfl
@[simp] theorem setHall_fns : (setHall s h x).fns = s.fns := rfl
@[simp] theorem setHall_objs : (setHall s h x).objs = s.objs := rfl
@[simp] theorem setHall_pend : (setHall s h x).pend = s.pend := rfl
@[simp] theorem setHall_mram : (setHall s h x).mram = s.mram := rfl
@[simp] theorem setHall_led : (setHall s h x).led = s.led := rfl
@[simp] theorem setHall_man : (setHall s h x).man = s.man := rfl
@[simp] theorem setHall_rods : (setHall s h x).rods = s.rods := rfl
@[simp] theorem setHall_marks : (setHall s h x).marks = s.marks := rfl
@[simp] theorem setHall_disarmed : (setHall s h x).disarmed = s.disarmed := rfl
@[simp] theorem setHall_claims : (setHall s h x).claims = s.claims := rfl
@[simp] theorem setHall_lanes : (setHall s h x).lanes = s.lanes := rfl
@[simp] theorem setHall_trigs : (setHall s h x).trigs = s.trigs := rfl
@[simp] theorem setHall_sent : (setHall s h x).sent = s.sent := rfl
@[simp] theorem setHall_caps : (setHall s h x).caps = s.caps := rfl
@[simp] theorem setHall_capWait : (setHall s h x).capWait = s.capWait := rfl
@[simp] theorem setHall_sel : (setHall s h x).sel = s.sel := rfl
@[simp] theorem setHall_link : (setHall s h x).link = s.link := rfl
@[simp] theorem setHall_saf : (setHall s h x).saf = s.saf := rfl
@[simp] theorem setHall_net : (setHall s h x).net = s.net := rfl
@[simp] theorem setHall_can : (setHall s h x).can = s.can := rfl
@[simp] theorem setHall_host : (setHall s h x).host = s.host := rfl
@[simp] theorem setHall_res : (setHall s h x).res = s.res := rfl
@[simp] theorem setHall_enc : (setHall s h x).enc = s.enc := rfl
@[simp] theorem setHall_hall : (setHall s h x).hall = tabSet {} s.hall h x := rfl
@[simp] theorem setHall_grid : (setHall s h x).grid = s.grid := rfl
@[simp] theorem setHall_freqAt : (setHall s h x).freqAt = s.freqAt := rfl
@[simp] theorem setHall_seq : (setHall s h x).seq = s.seq := rfl
@[simp] theorem setHall_cal : (setHall s h x).cal = s.cal := rfl
@[simp] theorem setHall_pairs : (setHall s h x).pairs = s.pairs := rfl
@[simp] theorem setHall_sd : (setHall s h x).sd = s.sd := rfl
@[simp] theorem setHall_stat : (setHall s h x).stat = s.stat := rfl
@[simp] theorem setHall_tieFail : (setHall s h x).tieFail = s.tieFail := rfl
@[simp] theorem setHall_sdc : (setHall s h x).sdc = s.sdc := rfl
@[simp] theorem setHall_outc : (setHall s h x).outc = s.outc := rfl
@[simp] theorem setHall_win : (setHall s h x).win = s.win := rfl
@[simp] theorem setHall_brc : (setHall s h x).brc = s.brc := rfl
@[simp] theorem setHall_loops : (setHall s h x).loops = s.loops := rfl
@[simp] theorem setHall_mac : (setHall s h x).mac = s.mac := rfl
@[simp] theorem setHall_owned : (setHall s h x).owned = s.owned := rfl
@[simp] theorem setHall_inj : (setHall s h x).inj = s.inj := rfl
@[simp] theorem setHall_resp : (setHall s h x).resp = s.resp := rfl
@[simp] theorem setHall_evals : (setHall s h x).evals = s.evals := rfl
@[simp] theorem setHall_evalsPrev : (setHall s h x).evalsPrev = s.evalsPrev := rfl
@[simp] theorem setHall_evalMs : (setHall s h x).evalMs = s.evalMs := rfl
@[simp] theorem setHall_drv : (setHall s h x).drv = s.drv := rfl
@[simp] theorem setHall_chg : (setHall s h x).chg = s.chg := rfl
@[simp] theorem setHall_cnv : (setHall s h x).cnv = s.cnv := rfl
@[simp] theorem setHall_axle : (setHall s h x).axle = s.axle := rfl
@[simp] theorem setHall_camp : (setHall s h x).camp = s.camp := rfl
@[simp] theorem setHall_hvilCurrent : (setHall s h x).hvilCurrent = s.hvilCurrent := rfl
@[simp] theorem setHall_act : (setHall s h x).act = s.act := rfl
@[simp] theorem setHall_pump : (setHall s h x).pump = s.pump := rfl
@[simp] theorem setHall_plock : (setHall s h x).plock = s.plock := rfl
@[simp] theorem setHall_clutch : (setHall s h x).clutch = s.clutch := rfl
@[simp] theorem setHall_therm : (setHall s h x).therm = s.therm := rfl
@[simp] theorem setHall_outr : (setHall s h x).outr = s.outr := rfl
@[simp] theorem setHall_plumbHeld : (setHall s h x).plumbHeld = s.plumbHeld := rfl
@[simp] theorem setHall_formHz : (setHall s h x).formHz = s.formHz := rfl
@[simp] theorem setHall_fired : (setHall s h x).fired = s.fired := rfl
@[simp] theorem setHall_once : (setHall s h x).once = s.once := rfl
@[simp] theorem setHall_pending : (setHall s h x).pending = s.pending := rfl

end setHall

section setChg
variable (s : State) (f : Charger → Charger)

@[simp] theorem setChg_dt : (setChg s f).dt = s.dt := rfl
@[simp] theorem setChg_dtPrev : (setChg s f).dtPrev = s.dtPrev := rfl
@[simp] theorem setChg_tick : (setChg s f).tick = s.tick := rfl
@[simp] theorem setChg_dtLog : (setChg s f).dtLog = s.dtLog := rfl
@[simp] theorem setChg_free : (setChg s f).free = s.free := rfl
@[simp] theorem setChg_dev : (setChg s f).dev = s.dev := rfl
@[simp] theorem setChg_power : (setChg s f).power = s.power := rfl
@[simp] theorem setChg_fw : (setChg s f).fw = s.fw := rfl
@[simp] theorem setChg_fuse : (setChg s f).fuse = s.fuse := rfl
@[simp] theorem setChg_tally : (setChg s f).tally = s.tally := rfl
@[simp] theorem setChg_fns : (setChg s f).fns = s.fns := rfl
@[simp] theorem setChg_objs : (setChg s f).objs = s.objs := rfl
@[simp] theorem setChg_pend : (setChg s f).pend = s.pend := rfl
@[simp] theorem setChg_mram : (setChg s f).mram = s.mram := rfl
@[simp] theorem setChg_led : (setChg s f).led = s.led := rfl
@[simp] theorem setChg_man : (setChg s f).man = s.man := rfl
@[simp] theorem setChg_rods : (setChg s f).rods = s.rods := rfl
@[simp] theorem setChg_marks : (setChg s f).marks = s.marks := rfl
@[simp] theorem setChg_disarmed : (setChg s f).disarmed = s.disarmed := rfl
@[simp] theorem setChg_claims : (setChg s f).claims = s.claims := rfl
@[simp] theorem setChg_lanes : (setChg s f).lanes = s.lanes := rfl
@[simp] theorem setChg_trigs : (setChg s f).trigs = s.trigs := rfl
@[simp] theorem setChg_sent : (setChg s f).sent = s.sent := rfl
@[simp] theorem setChg_caps : (setChg s f).caps = s.caps := rfl
@[simp] theorem setChg_capWait : (setChg s f).capWait = s.capWait := rfl
@[simp] theorem setChg_sel : (setChg s f).sel = s.sel := rfl
@[simp] theorem setChg_link : (setChg s f).link = s.link := rfl
@[simp] theorem setChg_saf : (setChg s f).saf = s.saf := rfl
@[simp] theorem setChg_net : (setChg s f).net = s.net := rfl
@[simp] theorem setChg_can : (setChg s f).can = s.can := rfl
@[simp] theorem setChg_host : (setChg s f).host = s.host := rfl
@[simp] theorem setChg_res : (setChg s f).res = s.res := rfl
@[simp] theorem setChg_enc : (setChg s f).enc = s.enc := rfl
@[simp] theorem setChg_hall : (setChg s f).hall = s.hall := rfl
@[simp] theorem setChg_grid : (setChg s f).grid = s.grid := rfl
@[simp] theorem setChg_freqAt : (setChg s f).freqAt = s.freqAt := rfl
@[simp] theorem setChg_seq : (setChg s f).seq = s.seq := rfl
@[simp] theorem setChg_cal : (setChg s f).cal = s.cal := rfl
@[simp] theorem setChg_pairs : (setChg s f).pairs = s.pairs := rfl
@[simp] theorem setChg_sd : (setChg s f).sd = s.sd := rfl
@[simp] theorem setChg_stat : (setChg s f).stat = s.stat := rfl
@[simp] theorem setChg_tieFail : (setChg s f).tieFail = s.tieFail := rfl
@[simp] theorem setChg_sdc : (setChg s f).sdc = s.sdc := rfl
@[simp] theorem setChg_outc : (setChg s f).outc = s.outc := rfl
@[simp] theorem setChg_win : (setChg s f).win = s.win := rfl
@[simp] theorem setChg_brc : (setChg s f).brc = s.brc := rfl
@[simp] theorem setChg_loops : (setChg s f).loops = s.loops := rfl
@[simp] theorem setChg_mac : (setChg s f).mac = s.mac := rfl
@[simp] theorem setChg_owned : (setChg s f).owned = s.owned := rfl
@[simp] theorem setChg_inj : (setChg s f).inj = s.inj := rfl
@[simp] theorem setChg_resp : (setChg s f).resp = s.resp := rfl
@[simp] theorem setChg_evals : (setChg s f).evals = s.evals := rfl
@[simp] theorem setChg_evalsPrev : (setChg s f).evalsPrev = s.evalsPrev := rfl
@[simp] theorem setChg_evalMs : (setChg s f).evalMs = s.evalMs := rfl
@[simp] theorem setChg_drv : (setChg s f).drv = s.drv := rfl
@[simp] theorem setChg_chg : (setChg s f).chg = f s.chg := rfl
@[simp] theorem setChg_cnv : (setChg s f).cnv = s.cnv := rfl
@[simp] theorem setChg_axle : (setChg s f).axle = s.axle := rfl
@[simp] theorem setChg_camp : (setChg s f).camp = s.camp := rfl
@[simp] theorem setChg_hvilCurrent : (setChg s f).hvilCurrent = s.hvilCurrent := rfl
@[simp] theorem setChg_act : (setChg s f).act = s.act := rfl
@[simp] theorem setChg_pump : (setChg s f).pump = s.pump := rfl
@[simp] theorem setChg_plock : (setChg s f).plock = s.plock := rfl
@[simp] theorem setChg_clutch : (setChg s f).clutch = s.clutch := rfl
@[simp] theorem setChg_therm : (setChg s f).therm = s.therm := rfl
@[simp] theorem setChg_outr : (setChg s f).outr = s.outr := rfl
@[simp] theorem setChg_plumbHeld : (setChg s f).plumbHeld = s.plumbHeld := rfl
@[simp] theorem setChg_formHz : (setChg s f).formHz = s.formHz := rfl
@[simp] theorem setChg_fired : (setChg s f).fired = s.fired := rfl
@[simp] theorem setChg_once : (setChg s f).once = s.once := rfl
@[simp] theorem setChg_pending : (setChg s f).pending = s.pending := rfl

end setChg

section setCnv
variable (s : State) (f : Converter → Converter)

@[simp] theorem setCnv_dt : (setCnv s f).dt = s.dt := rfl
@[simp] theorem setCnv_dtPrev : (setCnv s f).dtPrev = s.dtPrev := rfl
@[simp] theorem setCnv_tick : (setCnv s f).tick = s.tick := rfl
@[simp] theorem setCnv_dtLog : (setCnv s f).dtLog = s.dtLog := rfl
@[simp] theorem setCnv_free : (setCnv s f).free = s.free := rfl
@[simp] theorem setCnv_dev : (setCnv s f).dev = s.dev := rfl
@[simp] theorem setCnv_power : (setCnv s f).power = s.power := rfl
@[simp] theorem setCnv_fw : (setCnv s f).fw = s.fw := rfl
@[simp] theorem setCnv_fuse : (setCnv s f).fuse = s.fuse := rfl
@[simp] theorem setCnv_tally : (setCnv s f).tally = s.tally := rfl
@[simp] theorem setCnv_fns : (setCnv s f).fns = s.fns := rfl
@[simp] theorem setCnv_objs : (setCnv s f).objs = s.objs := rfl
@[simp] theorem setCnv_pend : (setCnv s f).pend = s.pend := rfl
@[simp] theorem setCnv_mram : (setCnv s f).mram = s.mram := rfl
@[simp] theorem setCnv_led : (setCnv s f).led = s.led := rfl
@[simp] theorem setCnv_man : (setCnv s f).man = s.man := rfl
@[simp] theorem setCnv_rods : (setCnv s f).rods = s.rods := rfl
@[simp] theorem setCnv_marks : (setCnv s f).marks = s.marks := rfl
@[simp] theorem setCnv_disarmed : (setCnv s f).disarmed = s.disarmed := rfl
@[simp] theorem setCnv_claims : (setCnv s f).claims = s.claims := rfl
@[simp] theorem setCnv_lanes : (setCnv s f).lanes = s.lanes := rfl
@[simp] theorem setCnv_trigs : (setCnv s f).trigs = s.trigs := rfl
@[simp] theorem setCnv_sent : (setCnv s f).sent = s.sent := rfl
@[simp] theorem setCnv_caps : (setCnv s f).caps = s.caps := rfl
@[simp] theorem setCnv_capWait : (setCnv s f).capWait = s.capWait := rfl
@[simp] theorem setCnv_sel : (setCnv s f).sel = s.sel := rfl
@[simp] theorem setCnv_link : (setCnv s f).link = s.link := rfl
@[simp] theorem setCnv_saf : (setCnv s f).saf = s.saf := rfl
@[simp] theorem setCnv_net : (setCnv s f).net = s.net := rfl
@[simp] theorem setCnv_can : (setCnv s f).can = s.can := rfl
@[simp] theorem setCnv_host : (setCnv s f).host = s.host := rfl
@[simp] theorem setCnv_res : (setCnv s f).res = s.res := rfl
@[simp] theorem setCnv_enc : (setCnv s f).enc = s.enc := rfl
@[simp] theorem setCnv_hall : (setCnv s f).hall = s.hall := rfl
@[simp] theorem setCnv_grid : (setCnv s f).grid = s.grid := rfl
@[simp] theorem setCnv_freqAt : (setCnv s f).freqAt = s.freqAt := rfl
@[simp] theorem setCnv_seq : (setCnv s f).seq = s.seq := rfl
@[simp] theorem setCnv_cal : (setCnv s f).cal = s.cal := rfl
@[simp] theorem setCnv_pairs : (setCnv s f).pairs = s.pairs := rfl
@[simp] theorem setCnv_sd : (setCnv s f).sd = s.sd := rfl
@[simp] theorem setCnv_stat : (setCnv s f).stat = s.stat := rfl
@[simp] theorem setCnv_tieFail : (setCnv s f).tieFail = s.tieFail := rfl
@[simp] theorem setCnv_sdc : (setCnv s f).sdc = s.sdc := rfl
@[simp] theorem setCnv_outc : (setCnv s f).outc = s.outc := rfl
@[simp] theorem setCnv_win : (setCnv s f).win = s.win := rfl
@[simp] theorem setCnv_brc : (setCnv s f).brc = s.brc := rfl
@[simp] theorem setCnv_loops : (setCnv s f).loops = s.loops := rfl
@[simp] theorem setCnv_mac : (setCnv s f).mac = s.mac := rfl
@[simp] theorem setCnv_owned : (setCnv s f).owned = s.owned := rfl
@[simp] theorem setCnv_inj : (setCnv s f).inj = s.inj := rfl
@[simp] theorem setCnv_resp : (setCnv s f).resp = s.resp := rfl
@[simp] theorem setCnv_evals : (setCnv s f).evals = s.evals := rfl
@[simp] theorem setCnv_evalsPrev : (setCnv s f).evalsPrev = s.evalsPrev := rfl
@[simp] theorem setCnv_evalMs : (setCnv s f).evalMs = s.evalMs := rfl
@[simp] theorem setCnv_drv : (setCnv s f).drv = s.drv := rfl
@[simp] theorem setCnv_chg : (setCnv s f).chg = s.chg := rfl
@[simp] theorem setCnv_cnv : (setCnv s f).cnv = f s.cnv := rfl
@[simp] theorem setCnv_axle : (setCnv s f).axle = s.axle := rfl
@[simp] theorem setCnv_camp : (setCnv s f).camp = s.camp := rfl
@[simp] theorem setCnv_hvilCurrent : (setCnv s f).hvilCurrent = s.hvilCurrent := rfl
@[simp] theorem setCnv_act : (setCnv s f).act = s.act := rfl
@[simp] theorem setCnv_pump : (setCnv s f).pump = s.pump := rfl
@[simp] theorem setCnv_plock : (setCnv s f).plock = s.plock := rfl
@[simp] theorem setCnv_clutch : (setCnv s f).clutch = s.clutch := rfl
@[simp] theorem setCnv_therm : (setCnv s f).therm = s.therm := rfl
@[simp] theorem setCnv_outr : (setCnv s f).outr = s.outr := rfl
@[simp] theorem setCnv_plumbHeld : (setCnv s f).plumbHeld = s.plumbHeld := rfl
@[simp] theorem setCnv_formHz : (setCnv s f).formHz = s.formHz := rfl
@[simp] theorem setCnv_fired : (setCnv s f).fired = s.fired := rfl
@[simp] theorem setCnv_once : (setCnv s f).once = s.once := rfl
@[simp] theorem setCnv_pending : (setCnv s f).pending = s.pending := rfl

end setCnv

section setCamp
variable (s : State) (f : Camp → Camp)

@[simp] theorem setCamp_dt : (setCamp s f).dt = s.dt := rfl
@[simp] theorem setCamp_dtPrev : (setCamp s f).dtPrev = s.dtPrev := rfl
@[simp] theorem setCamp_tick : (setCamp s f).tick = s.tick := rfl
@[simp] theorem setCamp_dtLog : (setCamp s f).dtLog = s.dtLog := rfl
@[simp] theorem setCamp_free : (setCamp s f).free = s.free := rfl
@[simp] theorem setCamp_dev : (setCamp s f).dev = s.dev := rfl
@[simp] theorem setCamp_power : (setCamp s f).power = s.power := rfl
@[simp] theorem setCamp_fw : (setCamp s f).fw = s.fw := rfl
@[simp] theorem setCamp_fuse : (setCamp s f).fuse = s.fuse := rfl
@[simp] theorem setCamp_tally : (setCamp s f).tally = s.tally := rfl
@[simp] theorem setCamp_fns : (setCamp s f).fns = s.fns := rfl
@[simp] theorem setCamp_objs : (setCamp s f).objs = s.objs := rfl
@[simp] theorem setCamp_pend : (setCamp s f).pend = s.pend := rfl
@[simp] theorem setCamp_mram : (setCamp s f).mram = s.mram := rfl
@[simp] theorem setCamp_led : (setCamp s f).led = s.led := rfl
@[simp] theorem setCamp_man : (setCamp s f).man = s.man := rfl
@[simp] theorem setCamp_rods : (setCamp s f).rods = s.rods := rfl
@[simp] theorem setCamp_marks : (setCamp s f).marks = s.marks := rfl
@[simp] theorem setCamp_disarmed : (setCamp s f).disarmed = s.disarmed := rfl
@[simp] theorem setCamp_claims : (setCamp s f).claims = s.claims := rfl
@[simp] theorem setCamp_lanes : (setCamp s f).lanes = s.lanes := rfl
@[simp] theorem setCamp_trigs : (setCamp s f).trigs = s.trigs := rfl
@[simp] theorem setCamp_sent : (setCamp s f).sent = s.sent := rfl
@[simp] theorem setCamp_caps : (setCamp s f).caps = s.caps := rfl
@[simp] theorem setCamp_capWait : (setCamp s f).capWait = s.capWait := rfl
@[simp] theorem setCamp_sel : (setCamp s f).sel = s.sel := rfl
@[simp] theorem setCamp_link : (setCamp s f).link = s.link := rfl
@[simp] theorem setCamp_saf : (setCamp s f).saf = s.saf := rfl
@[simp] theorem setCamp_net : (setCamp s f).net = s.net := rfl
@[simp] theorem setCamp_can : (setCamp s f).can = s.can := rfl
@[simp] theorem setCamp_host : (setCamp s f).host = s.host := rfl
@[simp] theorem setCamp_res : (setCamp s f).res = s.res := rfl
@[simp] theorem setCamp_enc : (setCamp s f).enc = s.enc := rfl
@[simp] theorem setCamp_hall : (setCamp s f).hall = s.hall := rfl
@[simp] theorem setCamp_grid : (setCamp s f).grid = s.grid := rfl
@[simp] theorem setCamp_freqAt : (setCamp s f).freqAt = s.freqAt := rfl
@[simp] theorem setCamp_seq : (setCamp s f).seq = s.seq := rfl
@[simp] theorem setCamp_cal : (setCamp s f).cal = s.cal := rfl
@[simp] theorem setCamp_pairs : (setCamp s f).pairs = s.pairs := rfl
@[simp] theorem setCamp_sd : (setCamp s f).sd = s.sd := rfl
@[simp] theorem setCamp_stat : (setCamp s f).stat = s.stat := rfl
@[simp] theorem setCamp_tieFail : (setCamp s f).tieFail = s.tieFail := rfl
@[simp] theorem setCamp_sdc : (setCamp s f).sdc = s.sdc := rfl
@[simp] theorem setCamp_outc : (setCamp s f).outc = s.outc := rfl
@[simp] theorem setCamp_win : (setCamp s f).win = s.win := rfl
@[simp] theorem setCamp_brc : (setCamp s f).brc = s.brc := rfl
@[simp] theorem setCamp_loops : (setCamp s f).loops = s.loops := rfl
@[simp] theorem setCamp_mac : (setCamp s f).mac = s.mac := rfl
@[simp] theorem setCamp_owned : (setCamp s f).owned = s.owned := rfl
@[simp] theorem setCamp_inj : (setCamp s f).inj = s.inj := rfl
@[simp] theorem setCamp_resp : (setCamp s f).resp = s.resp := rfl
@[simp] theorem setCamp_evals : (setCamp s f).evals = s.evals := rfl
@[simp] theorem setCamp_evalsPrev : (setCamp s f).evalsPrev = s.evalsPrev := rfl
@[simp] theorem setCamp_evalMs : (setCamp s f).evalMs = s.evalMs := rfl
@[simp] theorem setCamp_drv : (setCamp s f).drv = s.drv := rfl
@[simp] theorem setCamp_chg : (setCamp s f).chg = s.chg := rfl
@[simp] theorem setCamp_cnv : (setCamp s f).cnv = s.cnv := rfl
@[simp] theorem setCamp_axle : (setCamp s f).axle = s.axle := rfl
@[simp] theorem setCamp_camp : (setCamp s f).camp = f s.camp := rfl
@[simp] theorem setCamp_hvilCurrent : (setCamp s f).hvilCurrent = s.hvilCurrent := rfl
@[simp] theorem setCamp_act : (setCamp s f).act = s.act := rfl
@[simp] theorem setCamp_pump : (setCamp s f).pump = s.pump := rfl
@[simp] theorem setCamp_plock : (setCamp s f).plock = s.plock := rfl
@[simp] theorem setCamp_clutch : (setCamp s f).clutch = s.clutch := rfl
@[simp] theorem setCamp_therm : (setCamp s f).therm = s.therm := rfl
@[simp] theorem setCamp_outr : (setCamp s f).outr = s.outr := rfl
@[simp] theorem setCamp_plumbHeld : (setCamp s f).plumbHeld = s.plumbHeld := rfl
@[simp] theorem setCamp_formHz : (setCamp s f).formHz = s.formHz := rfl
@[simp] theorem setCamp_fired : (setCamp s f).fired = s.fired := rfl
@[simp] theorem setCamp_once : (setCamp s f).once = s.once := rfl
@[simp] theorem setCamp_pending : (setCamp s f).pending = s.pending := rfl

end setCamp

section setLink
variable (s : State) (f : Link → Link)

@[simp] theorem setLink_dt : (setLink s f).dt = s.dt := rfl
@[simp] theorem setLink_dtPrev : (setLink s f).dtPrev = s.dtPrev := rfl
@[simp] theorem setLink_tick : (setLink s f).tick = s.tick := rfl
@[simp] theorem setLink_dtLog : (setLink s f).dtLog = s.dtLog := rfl
@[simp] theorem setLink_free : (setLink s f).free = s.free := rfl
@[simp] theorem setLink_dev : (setLink s f).dev = s.dev := rfl
@[simp] theorem setLink_power : (setLink s f).power = s.power := rfl
@[simp] theorem setLink_fw : (setLink s f).fw = s.fw := rfl
@[simp] theorem setLink_fuse : (setLink s f).fuse = s.fuse := rfl
@[simp] theorem setLink_tally : (setLink s f).tally = s.tally := rfl
@[simp] theorem setLink_fns : (setLink s f).fns = s.fns := rfl
@[simp] theorem setLink_objs : (setLink s f).objs = s.objs := rfl
@[simp] theorem setLink_pend : (setLink s f).pend = s.pend := rfl
@[simp] theorem setLink_mram : (setLink s f).mram = s.mram := rfl
@[simp] theorem setLink_led : (setLink s f).led = s.led := rfl
@[simp] theorem setLink_man : (setLink s f).man = s.man := rfl
@[simp] theorem setLink_rods : (setLink s f).rods = s.rods := rfl
@[simp] theorem setLink_marks : (setLink s f).marks = s.marks := rfl
@[simp] theorem setLink_disarmed : (setLink s f).disarmed = s.disarmed := rfl
@[simp] theorem setLink_claims : (setLink s f).claims = s.claims := rfl
@[simp] theorem setLink_lanes : (setLink s f).lanes = s.lanes := rfl
@[simp] theorem setLink_trigs : (setLink s f).trigs = s.trigs := rfl
@[simp] theorem setLink_sent : (setLink s f).sent = s.sent := rfl
@[simp] theorem setLink_caps : (setLink s f).caps = s.caps := rfl
@[simp] theorem setLink_capWait : (setLink s f).capWait = s.capWait := rfl
@[simp] theorem setLink_sel : (setLink s f).sel = s.sel := rfl
@[simp] theorem setLink_link : (setLink s f).link = f s.link := rfl
@[simp] theorem setLink_saf : (setLink s f).saf = s.saf := rfl
@[simp] theorem setLink_net : (setLink s f).net = s.net := rfl
@[simp] theorem setLink_can : (setLink s f).can = s.can := rfl
@[simp] theorem setLink_host : (setLink s f).host = s.host := rfl
@[simp] theorem setLink_res : (setLink s f).res = s.res := rfl
@[simp] theorem setLink_enc : (setLink s f).enc = s.enc := rfl
@[simp] theorem setLink_hall : (setLink s f).hall = s.hall := rfl
@[simp] theorem setLink_grid : (setLink s f).grid = s.grid := rfl
@[simp] theorem setLink_freqAt : (setLink s f).freqAt = s.freqAt := rfl
@[simp] theorem setLink_seq : (setLink s f).seq = s.seq := rfl
@[simp] theorem setLink_cal : (setLink s f).cal = s.cal := rfl
@[simp] theorem setLink_pairs : (setLink s f).pairs = s.pairs := rfl
@[simp] theorem setLink_sd : (setLink s f).sd = s.sd := rfl
@[simp] theorem setLink_stat : (setLink s f).stat = s.stat := rfl
@[simp] theorem setLink_tieFail : (setLink s f).tieFail = s.tieFail := rfl
@[simp] theorem setLink_sdc : (setLink s f).sdc = s.sdc := rfl
@[simp] theorem setLink_outc : (setLink s f).outc = s.outc := rfl
@[simp] theorem setLink_win : (setLink s f).win = s.win := rfl
@[simp] theorem setLink_brc : (setLink s f).brc = s.brc := rfl
@[simp] theorem setLink_loops : (setLink s f).loops = s.loops := rfl
@[simp] theorem setLink_mac : (setLink s f).mac = s.mac := rfl
@[simp] theorem setLink_owned : (setLink s f).owned = s.owned := rfl
@[simp] theorem setLink_inj : (setLink s f).inj = s.inj := rfl
@[simp] theorem setLink_resp : (setLink s f).resp = s.resp := rfl
@[simp] theorem setLink_evals : (setLink s f).evals = s.evals := rfl
@[simp] theorem setLink_evalsPrev : (setLink s f).evalsPrev = s.evalsPrev := rfl
@[simp] theorem setLink_evalMs : (setLink s f).evalMs = s.evalMs := rfl
@[simp] theorem setLink_drv : (setLink s f).drv = s.drv := rfl
@[simp] theorem setLink_chg : (setLink s f).chg = s.chg := rfl
@[simp] theorem setLink_cnv : (setLink s f).cnv = s.cnv := rfl
@[simp] theorem setLink_axle : (setLink s f).axle = s.axle := rfl
@[simp] theorem setLink_camp : (setLink s f).camp = s.camp := rfl
@[simp] theorem setLink_hvilCurrent : (setLink s f).hvilCurrent = s.hvilCurrent := rfl
@[simp] theorem setLink_act : (setLink s f).act = s.act := rfl
@[simp] theorem setLink_pump : (setLink s f).pump = s.pump := rfl
@[simp] theorem setLink_plock : (setLink s f).plock = s.plock := rfl
@[simp] theorem setLink_clutch : (setLink s f).clutch = s.clutch := rfl
@[simp] theorem setLink_therm : (setLink s f).therm = s.therm := rfl
@[simp] theorem setLink_outr : (setLink s f).outr = s.outr := rfl
@[simp] theorem setLink_plumbHeld : (setLink s f).plumbHeld = s.plumbHeld := rfl
@[simp] theorem setLink_formHz : (setLink s f).formHz = s.formHz := rfl
@[simp] theorem setLink_fired : (setLink s f).fired = s.fired := rfl
@[simp] theorem setLink_once : (setLink s f).once = s.once := rfl
@[simp] theorem setLink_pending : (setLink s f).pending = s.pending := rfl

end setLink

section setFn
variable (s : State) (f : Fn) (x : FnSt)

@[simp] theorem setFn_dt : (setFn s f x).dt = s.dt := rfl
@[simp] theorem setFn_dtPrev : (setFn s f x).dtPrev = s.dtPrev := rfl
@[simp] theorem setFn_tick : (setFn s f x).tick = s.tick := rfl
@[simp] theorem setFn_dtLog : (setFn s f x).dtLog = s.dtLog := rfl
@[simp] theorem setFn_free : (setFn s f x).free = s.free := rfl
@[simp] theorem setFn_dev : (setFn s f x).dev = s.dev := rfl
@[simp] theorem setFn_power : (setFn s f x).power = s.power := rfl
@[simp] theorem setFn_fw : (setFn s f x).fw = s.fw := rfl
@[simp] theorem setFn_fuse : (setFn s f x).fuse = s.fuse := rfl
@[simp] theorem setFn_tally : (setFn s f x).tally = s.tally := rfl
@[simp] theorem setFn_fns : (setFn s f x).fns = tabSet .idle s.fns (fnCode f) x := rfl
@[simp] theorem setFn_objs : (setFn s f x).objs = s.objs := rfl
@[simp] theorem setFn_pend : (setFn s f x).pend = s.pend := rfl
@[simp] theorem setFn_mram : (setFn s f x).mram = s.mram := rfl
@[simp] theorem setFn_led : (setFn s f x).led = s.led := rfl
@[simp] theorem setFn_man : (setFn s f x).man = s.man := rfl
@[simp] theorem setFn_rods : (setFn s f x).rods = s.rods := rfl
@[simp] theorem setFn_marks : (setFn s f x).marks = s.marks := rfl
@[simp] theorem setFn_disarmed : (setFn s f x).disarmed = s.disarmed := rfl
@[simp] theorem setFn_claims : (setFn s f x).claims = s.claims := rfl
@[simp] theorem setFn_lanes : (setFn s f x).lanes = s.lanes := rfl
@[simp] theorem setFn_trigs : (setFn s f x).trigs = s.trigs := rfl
@[simp] theorem setFn_sent : (setFn s f x).sent = s.sent := rfl
@[simp] theorem setFn_caps : (setFn s f x).caps = s.caps := rfl
@[simp] theorem setFn_capWait : (setFn s f x).capWait = s.capWait := rfl
@[simp] theorem setFn_sel : (setFn s f x).sel = s.sel := rfl
@[simp] theorem setFn_link : (setFn s f x).link = s.link := rfl
@[simp] theorem setFn_saf : (setFn s f x).saf = s.saf := rfl
@[simp] theorem setFn_net : (setFn s f x).net = s.net := rfl
@[simp] theorem setFn_can : (setFn s f x).can = s.can := rfl
@[simp] theorem setFn_host : (setFn s f x).host = s.host := rfl
@[simp] theorem setFn_res : (setFn s f x).res = s.res := rfl
@[simp] theorem setFn_enc : (setFn s f x).enc = s.enc := rfl
@[simp] theorem setFn_hall : (setFn s f x).hall = s.hall := rfl
@[simp] theorem setFn_grid : (setFn s f x).grid = s.grid := rfl
@[simp] theorem setFn_freqAt : (setFn s f x).freqAt = s.freqAt := rfl
@[simp] theorem setFn_seq : (setFn s f x).seq = s.seq := rfl
@[simp] theorem setFn_cal : (setFn s f x).cal = s.cal := rfl
@[simp] theorem setFn_pairs : (setFn s f x).pairs = s.pairs := rfl
@[simp] theorem setFn_sd : (setFn s f x).sd = s.sd := rfl
@[simp] theorem setFn_stat : (setFn s f x).stat = s.stat := rfl
@[simp] theorem setFn_tieFail : (setFn s f x).tieFail = s.tieFail := rfl
@[simp] theorem setFn_sdc : (setFn s f x).sdc = s.sdc := rfl
@[simp] theorem setFn_outc : (setFn s f x).outc = s.outc := rfl
@[simp] theorem setFn_win : (setFn s f x).win = s.win := rfl
@[simp] theorem setFn_brc : (setFn s f x).brc = s.brc := rfl
@[simp] theorem setFn_loops : (setFn s f x).loops = s.loops := rfl
@[simp] theorem setFn_mac : (setFn s f x).mac = s.mac := rfl
@[simp] theorem setFn_owned : (setFn s f x).owned = s.owned := rfl
@[simp] theorem setFn_resp : (setFn s f x).resp = s.resp := rfl
@[simp] theorem setFn_evals : (setFn s f x).evals = s.evals := rfl
@[simp] theorem setFn_evalsPrev : (setFn s f x).evalsPrev = s.evalsPrev := rfl
@[simp] theorem setFn_evalMs : (setFn s f x).evalMs = s.evalMs := rfl
@[simp] theorem setFn_drv : (setFn s f x).drv = s.drv := rfl
@[simp] theorem setFn_chg : (setFn s f x).chg = s.chg := rfl
@[simp] theorem setFn_cnv : (setFn s f x).cnv = s.cnv := rfl
@[simp] theorem setFn_axle : (setFn s f x).axle = s.axle := rfl
@[simp] theorem setFn_camp : (setFn s f x).camp = s.camp := rfl
@[simp] theorem setFn_hvilCurrent : (setFn s f x).hvilCurrent = s.hvilCurrent := rfl
@[simp] theorem setFn_act : (setFn s f x).act = s.act := rfl
@[simp] theorem setFn_pump : (setFn s f x).pump = s.pump := rfl
@[simp] theorem setFn_plock : (setFn s f x).plock = s.plock := rfl
@[simp] theorem setFn_clutch : (setFn s f x).clutch = s.clutch := rfl
@[simp] theorem setFn_therm : (setFn s f x).therm = s.therm := rfl
@[simp] theorem setFn_outr : (setFn s f x).outr = s.outr := rfl
@[simp] theorem setFn_plumbHeld : (setFn s f x).plumbHeld = s.plumbHeld := rfl
@[simp] theorem setFn_formHz : (setFn s f x).formHz = s.formHz := rfl
@[simp] theorem setFn_fired : (setFn s f x).fired = s.fired := rfl
@[simp] theorem setFn_once : (setFn s f x).once = s.once := rfl
@[simp] theorem setFn_pending : (setFn s f x).pending = s.pending := rfl

end setFn

section irq
variable (s : State) (m : Nat)

@[simp] theorem irq_dt : (irq s m).dt = s.dt := rfl
@[simp] theorem irq_dtPrev : (irq s m).dtPrev = s.dtPrev := rfl
@[simp] theorem irq_tick : (irq s m).tick = s.tick := rfl
@[simp] theorem irq_dtLog : (irq s m).dtLog = s.dtLog := rfl
@[simp] theorem irq_free : (irq s m).free = s.free := rfl
@[simp] theorem irq_dev : (irq s m).dev = s.dev := rfl
@[simp] theorem irq_power : (irq s m).power = s.power := rfl
@[simp] theorem irq_fw : (irq s m).fw = s.fw := rfl
@[simp] theorem irq_fuse : (irq s m).fuse = s.fuse := rfl
@[simp] theorem irq_tally : (irq s m).tally = s.tally := rfl
@[simp] theorem irq_fns : (irq s m).fns = s.fns := rfl
@[simp] theorem irq_objs : (irq s m).objs = s.objs := rfl
@[simp] theorem irq_pend : (irq s m).pend = s.pend := rfl
@[simp] theorem irq_mram : (irq s m).mram = s.mram := rfl
@[simp] theorem irq_led : (irq s m).led = s.led := rfl
@[simp] theorem irq_man : (irq s m).man = s.man := rfl
@[simp] theorem irq_rods : (irq s m).rods = s.rods := rfl
@[simp] theorem irq_marks : (irq s m).marks = s.marks := rfl
@[simp] theorem irq_disarmed : (irq s m).disarmed = s.disarmed := rfl
@[simp] theorem irq_claims : (irq s m).claims = s.claims := rfl
@[simp] theorem irq_lanes : (irq s m).lanes = s.lanes := rfl
@[simp] theorem irq_trigs : (irq s m).trigs = s.trigs := rfl
@[simp] theorem irq_sent : (irq s m).sent = s.sent := rfl
@[simp] theorem irq_caps : (irq s m).caps = s.caps := rfl
@[simp] theorem irq_capWait : (irq s m).capWait = s.capWait := rfl
@[simp] theorem irq_sel : (irq s m).sel = s.sel := rfl
@[simp] theorem irq_link : (irq s m).link = s.link := rfl
@[simp] theorem irq_saf : (irq s m).saf = s.saf := rfl
@[simp] theorem irq_net : (irq s m).net = s.net := rfl
@[simp] theorem irq_can : (irq s m).can = s.can := rfl
@[simp] theorem irq_host : (irq s m).host = { s.host with irqPend := Nat.lor s.host.irqPend m } := rfl
@[simp] theorem irq_res : (irq s m).res = s.res := rfl
@[simp] theorem irq_enc : (irq s m).enc = s.enc := rfl
@[simp] theorem irq_hall : (irq s m).hall = s.hall := rfl
@[simp] theorem irq_grid : (irq s m).grid = s.grid := rfl
@[simp] theorem irq_freqAt : (irq s m).freqAt = s.freqAt := rfl
@[simp] theorem irq_seq : (irq s m).seq = s.seq := rfl
@[simp] theorem irq_cal : (irq s m).cal = s.cal := rfl
@[simp] theorem irq_pairs : (irq s m).pairs = s.pairs := rfl
@[simp] theorem irq_sd : (irq s m).sd = s.sd := rfl
@[simp] theorem irq_stat : (irq s m).stat = s.stat := rfl
@[simp] theorem irq_tieFail : (irq s m).tieFail = s.tieFail := rfl
@[simp] theorem irq_sdc : (irq s m).sdc = s.sdc := rfl
@[simp] theorem irq_outc : (irq s m).outc = s.outc := rfl
@[simp] theorem irq_win : (irq s m).win = s.win := rfl
@[simp] theorem irq_brc : (irq s m).brc = s.brc := rfl
@[simp] theorem irq_loops : (irq s m).loops = s.loops := rfl
@[simp] theorem irq_mac : (irq s m).mac = s.mac := rfl
@[simp] theorem irq_owned : (irq s m).owned = s.owned := rfl
@[simp] theorem irq_inj : (irq s m).inj = s.inj := rfl
@[simp] theorem irq_resp : (irq s m).resp = s.resp := rfl
@[simp] theorem irq_evals : (irq s m).evals = s.evals := rfl
@[simp] theorem irq_evalsPrev : (irq s m).evalsPrev = s.evalsPrev := rfl
@[simp] theorem irq_evalMs : (irq s m).evalMs = s.evalMs := rfl
@[simp] theorem irq_drv : (irq s m).drv = s.drv := rfl
@[simp] theorem irq_chg : (irq s m).chg = s.chg := rfl
@[simp] theorem irq_cnv : (irq s m).cnv = s.cnv := rfl
@[simp] theorem irq_axle : (irq s m).axle = s.axle := rfl
@[simp] theorem irq_camp : (irq s m).camp = s.camp := rfl
@[simp] theorem irq_hvilCurrent : (irq s m).hvilCurrent = s.hvilCurrent := rfl
@[simp] theorem irq_act : (irq s m).act = s.act := rfl
@[simp] theorem irq_pump : (irq s m).pump = s.pump := rfl
@[simp] theorem irq_plock : (irq s m).plock = s.plock := rfl
@[simp] theorem irq_clutch : (irq s m).clutch = s.clutch := rfl
@[simp] theorem irq_therm : (irq s m).therm = s.therm := rfl
@[simp] theorem irq_outr : (irq s m).outr = s.outr := rfl
@[simp] theorem irq_plumbHeld : (irq s m).plumbHeld = s.plumbHeld := rfl
@[simp] theorem irq_formHz : (irq s m).formHz = s.formHz := rfl
@[simp] theorem irq_fired : (irq s m).fired = s.fired := rfl
@[simp] theorem irq_once : (irq s m).once = s.once := rfl
@[simp] theorem irq_pending : (irq s m).pending = s.pending := rfl

end irq

end Sys2Proof.Machine
end

