-- ==== Sys2Proof/WellFormed.lean ====
section
/-! DEFINITION. Which commands are well-formed: the operands name an element that the block has. -/

namespace Sys2Proof

/-- A request names a session slot, and its data fits the largest carrier (R88, R113). -/
def reqOk (r : Req) : Bool := decide (r.ses < 8) && decide (r.data.length ≤ 262144)

/-- A channel number names a step of a sequence or a demodulator (R222). -/
def chanOk (ch : Nat) : Bool := decide (ch < 512) || (decide (512 ≤ ch) && decide (ch < 536))

/-- A command is well-formed: every element it names exists. -/
def Instr.wf : Instr → Bool
  | .vbatRise => true
  | .vbatFall => true
  | .porstNLow => true
  | .porstNRelease => true
  | .pmicPgLoss => true
  | .pmicPgRise => true
  | .vddRefSample _ => true
  | .crystalQualified => true
  | .pllLock _ => true
  | .powerUpAttemptFail => true
  | .powerUpRetry => true
  | .wakeRestart => true
  | .sealFuseLoad => true
  | .firmwareVerified => true
  | .checkComplete _ => true
  | .srstNAccept => true
  | .srstNRelease => true
  | .x32Qualified => true
  | .x32Timeout => true
  | .x32Loss => true
  | .clockSupervisionFault => true
  | .ledgerFrameRx x => decide (x.plen < 65536)
  | .read r idx sub => reqOk r && decide (idx < 65536) && decide (sub < 256)
  | .write r idx sub => reqOk r && decide (idx < 65536) && decide (sub < 256)
  | .blockRead r idx sub => reqOk r && decide (idx < 65536) && decide (sub < 256)
  | .blockWrite r idx sub => reqOk r && decide (idx < 65536) && decide (sub < 256)
  | .blockTransferTimeout ses => decide (ses < 8)
  | .subscribe r idx sub => reqOk r && decide (idx < 65536) && decide (sub < 256)
  | .unsubscribe r => reqOk r
  | .subscriptionSample ses n => decide (ses < 8) && decide (n < 16)
  | .time r => reqOk r
  | .open _ => true
  | .pendingSessionTimeout ses => decide (ses < 8)
  | .close r => reqOk r
  | .sessionTimeout ses => decide (ses < 8)
  | .stateRequest r => reqOk r
  | .arm r _ => reqOk r
  | .run r _ => reqOk r
  | .stop r _ => reqOk r
  | .disarm r _ => reqOk r
  | .shore r => reqOk r
  | .shoreComplete blk => decide (blk < 65536)
  | .strike r => reqOk r
  | .strikeRelease => true
  | .strikePersist => true
  | .abandon r => reqOk r
  | .store r => reqOk r
  | .restore r => reqOk r
  | .manifestEnable r m => reqOk r && decide (m < 32)
  | .manifestDisable r m => reqOk r && decide (m < 32)
  | .manifestPublish m => decide (m < 32)
  | .manifestConsumeFrame m => decide (m < 32)
  | .manifestConsumeApply m => decide (m < 32)
  | .markFire k j => decide (k < 1024) && decide (j < 256)
  | .oneshotEnd l => decide (l < 128)
  | .gateTimeout l => decide (l < 128)
  | .rodSourceUpdate rod => decide (rod < 8)
  | .rodTimeout rod => decide (rod < 8)
  | .carrierWrapApply rod => decide (rod < 8)
  | .laneReadbackCompare x => decide (x.lane < 114)
  | .captureEdge u _ phase => decide (u < 16) && decide (phase < 32)
  | .captureNextRead r u => reqOk r && decide (u < 16)
  | .resolverUpdate i _ => decide (i < 2)
  | .encoderEdge e _ _ => decide (e < 2)
  | .encoderIndex e => decide (e < 2)
  | .encoderUpdate e => decide (e < 2)
  | .hallEdge h code => decide (h < 3) && decide (code < 8)
  | .hallRateUpdate h => decide (h < 3)
  | .gridPllStep => true
  | .frequencyWordUpdate rod => decide (rod < 8)
  | .seqTrigger q => decide (q < 32)
  | .converterFree cv => decide (cv < 16)
  | .seqWaitDrop q => decide (q < 32)
  | .conversionComplete q k _ _ => decide (q < 32) && decide (k < 16)
  | .calCaptureLow r ch => reqOk r && chanOk ch
  | .calCaptureHigh r ch => reqOk r && chanOk ch
  | .calCompute r ch => reqOk r && chanOk ch
  | .calClear r ch => reqOk r && chanOk ch
  | .calAbandon r ch => reqOk r && chanOk ch
  | .calCaptureDone ch => chanOk ch
  | .calCaptureTimeout ch => chanOk ch
  | .pairCheck p _ _ => decide (p < 8)
  | .sdOutput dm _ _ => decide (dm < 24)
  | .sdcFault x => decide (x.clock < 6)
  | .sdStuck dm => decide (dm < 24)
  | .statBoundary u => decide (u < 32)
  | .statTimeout u => decide (u < 32)
  | .windowCrossing w _ phase => decide (w < 32) && decide (phase < 32)
  | .blankMaxTimeout w => decide (w < 32)
  | .blankTimeEnd w => decide (w < 32)
  | .winClear r w => reqOk r && decide (w < 32)
  | .winPeriodClear w => decide (w < 32)
  | .windowCheck w _ => decide (w < 32)
  | .windowCheckReadback w codeL codeH => decide (w < 32) && decide (codeL < 65536) && decide (codeH < 65536)
  | .windowCheckEnd w _ => decide (w < 32)
  | .loopTrigger lp => decide (lp < 32)
  | .braceCoefWrite r i bank k => reqOk r && decide (i < 192) && decide (bank < 2) && decide (k < 7)
  | .braceSelect r i => reqOk r && decide (i < 192)
  | .bracePreset r i => reqOk r && decide (i < 192)
  | .injectStart r => reqOk r
  | .injectStop r => reqOk r
  | .injectDone => true
  | .respArm r => reqOk r
  | .respTrigger r => reqOk r
  | .respStop r => reqOk r
  | .respFull => true
  | .driveRelease _ => true
  | .driveSettleEnd _ => true
  | .driveStopComplete _ => true
  | .driveFaultRampEnd _ => true
  | .directionSelect r _ => reqOk r
  | .derateUpdate _ => true
  | .faultInputEdge k => decide (k < 24)
  | .collectClose _ => true
  | .ascApply _ => true
  | .linkWord => true
  | .linkStaleTimeout => true
  | .dumpObserveTimeout => true
  | .dumpMaxonTimeout => true
  | .dumpTest _ _ => true
  | .pilotEval => true
  | .proximityEval => true
  | .sessionPilotReady => true
  | .sessionGridReady => true
  | .sessionAcTimeout => true
  | .sessionPrechargeDone => true
  | .sessionPrechargeTimeout => true
  | .sessionPfcLive => true
  | .sessionBusReady => true
  | .chargerLimitStage => true
  | .sessionPause => true
  | .sessionResume => true
  | .sessionComplete => true
  | .safetyTimerTick => true
  | .sessionDabOff => true
  | .pfcZeroCrossOff ph => decide (ph < 3)
  | .sessionEnd => true
  | .gridRidethroughTimeout => true
  | .dabFswWrite r => reqOk r
  | .v2lBackfeedCheck => true
  | .v2lRampEnd => true
  | .v2lOverload => true
  | .converterLimitStage => true
  | .dcxSoftstartStep => true
  | .dcxSoftstartEnd => true
  | .buckLive => true
  | .prechargeReached => true
  | .prechargeHoldEnd => true
  | .prechargeTimeout => true
  | .converterStopDone => true
  | .dcxFswWrite r => reqOk r
  | .axleEval => true
  | .hvilCurrentLoss => true
  | .campEnter r => reqOk r
  | .campLinkLow => true
  | .campLinkTimeout => true
  | .campEntryComplete _ => true
  | .campWake _ => true
  | .actPeriodStart n => decide (n < 3)
  | .actIlimit x => decide (x.drive < 3)
  | .actItrip x => decide (x.drive < 3)
  | .actRefresh n leg => decide (n < 3) && decide (leg < 3)
  | .vgdLockout => true
  | .vgdLockoutRelease => true
  | .pumpEval => true
  | .pumpStart => true
  | .pumpBrakeEnd => true
  | .pumpBrakeTimeout => true
  | .parklockReport => true
  | .parklockEngage r => reqOk r
  | .parklockRelease r => reqOk r
  | .parklockTargetReached => true
  | .parklockTravelTimeout => true
  | .parklockInterlock => true
  | .clutchClose r => reqOk r
  | .clutchTorqueUpdate => true
  | .clutchMatch => true
  | .clutchClosed => true
  | .clutchRetry => true
  | .clutchSyncTimeout => true
  | .clutchTravelTimeout => true
  | .clutchOpen r => reqOk r
  | .clutchUnload => true
  | .lockstepFault => true
  | .watchdogWindow proc _ => decide (proc < 2)
  | .waybillCommand _ => true
  | .waybillStatusTimer p => decide (p < 32)
  | .waybillWatchdog p => decide (p < 32)
  | .waybillConnect r => reqOk r
  | .dischargeDone => true
  | .dischargeTimeout => true
  | .lockoutResetWrite r => reqOk r
  | .tkOpen r => reqOk r
  | .tkPropose r => reqOk r
  | .tkApprove r => reqOk r
  | .tkCommit r => reqOk r
  | .tkCommitDone _ => true
  | .tkAbort r => reqOk r
  | .tkTimeout => true
  | .sealStageWrite r g => reqOk r && decide (g < 11)
  | .checkValueRecompute => true
  | .faultRaise _ lvl scope rank _ => decide (lvl < 6) && decide (scope < 8) && decide (rank < 8)
  | .faultCommit => true
  | .tallyAck r => reqOk r
  | .ethFrameRx _ => true
  | .ethLinkPoll _ => true
  | .mdioRead r _ => reqOk r
  | .mdioWrite r _ => reqOk r
  | .arpRx _ => true
  | .arpRetry _ => true
  | .icmpEcho _ _ _ => true
  | .ptpSync _ => true
  | .ptpFollowUp _ => true
  | .ptpAnnounce _ => true
  | .ptpPdelayTimer _ => true
  | .ptpPdelayReqRx _ => true
  | .ptpPdelayRespRx _ => true
  | .ptpReceiptTimeout _ => true
  | .timeSourceLost => true
  | .timeSourceWrite r => reqOk r
  | .canFrameRx cn _ => decide (cn < 2)
  | .canRefMessage cn _ _ => decide (cn < 2)
  | .canTxAttemptDone cn _ _ => decide (cn < 2)
  | .canBusOff cn => decide (cn < 2)
  | .canBusOffRecovery cn => decide (cn < 2)
  | .canDetectAccept cn _ => decide (cn < 2)
  | .canDetectDwell cn _ => decide (cn < 2)
  | .canDetectTimeout cn => decide (cn < 2)
  | .canRefCycle cn => decide (cn < 2)
  | .thermalSample sensor _ => decide (sensor < 20)
  | .shutdownComparator sensor => decide (sensor < 8)
  | .outriderCycle => true
  | .outriderTest t _ _ _ _ => decide (t < 10)
  | .spiFrame _ => true
  | .spiFrameDiscard => true
  | .registerWrite addr _ => decide (addr < 16384)
  | .mboxSubmit _ => true
  | .mboxResponse => true
  | .notePop _ => true
  | .irqPendClear _ => true
  | .windowBind w _ => decide (w < 16)
  | .windowValWrite w _ _ => decide (w < 16)
  | .windowRefresh w => decide (w < 16)
  | .lowWordRead addr => decide (addr < 16384)
  | .laneTick => true
  | .faultInputRise k => decide (k < 24)
  | .clutchReport => true
  | .canBusIntegration cn => decide (cn < 2)
  | .canReceiveError cn => decide (cn < 2)
  | .ethTxDone => true
  | .sdcClockReturn k => decide (k < 6)
  | .hvilCurrentReturn => true
  | .arpEntryExpiry _ => true

end Sys2Proof
end

