-- ==== Sys2Proof/Tests/Slice0.lean ====
section
/-! SUPPORT. Small tests: ill-formed commands that WellFormed refuses, worked examples of the spec, and a witness for the
hypotheses of every statement. -/

namespace Sys2Proof.Tests

open Sys2Proof Sys2Proof.Machine

set_option Elab.async false

/-- A state with another power controller. -/
def withPower (s : State) (p : Power) : State := { s with power := p }

/-- A running device in OPERATIONAL. -/
def wOper : State := { dev := .operational, power := { ctl := .running, laneR64 := false, errnHeld := false } }

/-- A device in BOOT before its seals are loaded, and after, and in CHECK. -/
def wBoot : State := { dev := .boot, power := { ctl := .running } }
def wBootFw : State := { dev := .boot, power := { ctl := .running, laneR64 := false } }
def wCheck : State := { dev := .check, power := { ctl := .running, laneR64 := false } }

/-- Checks that find nothing. -/
def noFind : CheckFind :=
  { lockstepFail := false, safeClkOff := false, recUncorr := false, corrected := 0, dieMilliC := (25000, 25000),
    cfgUncorr := [], selfTest := [] }

/-- The host port's session in slot 0. -/
def sHost : Session := { st := 2, tr := .host, keySlot := 0xFF }

/-- OPERATIONAL and PREOP with the host port's session; OPERATIONAL with none; PREOP with a running manifest of none. -/
def wHost : State := { wOper with led := { sessions := [(0, sHost)] } }
def wPre : State := { wHost with dev := .preop }
def wOperS : State := wOper

/-- Session 1 open on UDP with all five roles of key slot 1. -/
def wUdp : State := { wOper with net := { served := true }, led := {
  sessions := [(1, { st := 2, tr := .udp, keySlot := 1 })], keySlots := [(1, { state := 1, roles := 31, keyId := 7 })] } }

/-- A frame to session 1, and the same with the tag that its session's key gives. -/
def wFrame : LFrame := { tr := .udp, peer := 0, mac := 0, ident := 0, xl := false, classical := false, vk := 0x11, session := 1,
                         fresh := 1, plen := 6, payload := [7, 1, 0, 0, 0, 0], tag := 0 }
def wTagged (s : State) : LFrame := { wFrame with tag := Config.cmac (sess s 1).key (frameBody wFrame) }

/-- An OPEN over UDP with key slot 1, and the same with the tag that the slot's key gives. -/
def wOpen : OpenReq := {
  frame := { wFrame with session := 0xFF, fresh := 0, plen := 18, payload := [8, 1, 0, 0, 0, 0, 1, 0, 0, 0, 5, 0, 0, 0, 0, 0, 0, 0] },
  devNonce := 6 }
def wOpenT : OpenReq := { wOpen with frame := { wOpen.frame with tag := Config.cmac (Config.slotKey 1) (frameBody wOpen.frame) } }

/-- The same over the host port with a key slot, and one whose reserved byte is not 0. -/
def wOpenH (k : Byte) : OpenReq := { wOpen with frame := { wOpen.frame with
  tr := .host, payload := [8, 1, 0, 0, 0, 0, k, 0, 0, 0, 5, 0, 0, 0, 0, 0, 0, 0] } }
def wOpenBad : OpenReq := { wOpen with frame := { wOpen.frame with payload := [8, 1, 0, 0, 0, 0, 1, 9, 0, 0, 5, 0, 0, 0, 0, 0, 0, 0] } }

/-- All eight slots in use. -/
def wFull : State := { wUdp with led := { wUdp.led with
  sessions := (List.range 8).map (fun n => (n, { st := 2, tr := .udp, keySlot := 1 })) } }

/-- A request on the host port, and one of a session. -/
def wReq (data : List Byte) (ty : Nat) : Req := { ses := 0, reqid := 1, ty := BitVec.ofNat 8 ty, data := data }
def wReqN (ses : Nat) (data : List Byte) (ty : Nat) : Req := { ses := ses, reqid := 1, ty := BitVec.ofNat 8 ty, data := data }

/-- A block the host port's session has shored. -/
def shoredBlk (b : Nat) : Shored := { blk := b, owner := some 0, done := true, stamp := 0, req := none }

/-- Block 0x6000 shored by session 1. -/
def wSh1 : Shored := let x := shoredBlk 0x6000; { x with owner := some 1 }

/-- Session 1 is the keeper of an open twin-key transaction in PREOP, with block 0x6000 shored. -/
def wTk : State := { wUdp with dev := .preop, saf := { tk := 1, keeper := some 1 }, led := { wUdp.led with shored := [wSh1] } }

/-- It writes Tk seal data with a block transfer of two bytes. -/
def wTkX : State := { wTk with led := { wTk.led with
  xfers := [(1, some { write := true, idx := 0x6202, sub := 1, total := 2, bytes := [], lastAt := 0, timedOut := false })] } }

/-- The host port's session reads Tally.Queue by a block transfer of ten bytes. -/
def wRdX : State := { wHost with led := { wHost.led with xfers := [(0, some {
  write := false, idx := 0x6801, sub := 0, total := 10, bytes := List.replicate 10 0, lastAt := 0, timedOut := false })] } }

/-- The host port's session holds a subscription that is due. -/
def wSub : State := { wHost with led := { wHost.led with
  subs := [{ ses := 0, num := 0, idx := 0x1030, sub := 1, periodic := true, interval := 10, last := 0, due := 0 }] } }

/-- PREOP with block 0x2A00 shored by the host port's session, with a checked strike of it, and with a claimed loop's
block shored beside one of its members. -/
def wShored : State := { wPre with led := { wPre.led with shored := [shoredBlk 0x2A00] } }
def wStrike : State := { wShored with led := { wShored.led with strikes :=
  [{ req := { ses := 0, reqid := 1, stamp := 0, svc := 2, idx := 0x1011, sub := 0, ty := 3, data := [0, 0x2A], xl := false },
     live := true, from_ := 0, blocks := [0x2A00], abandon := false, built := true }] } }

/-- Session 1 with publication 0 running. -/
def wPub : State := putOb (putOb wUdp 0x1400 1 1) 0x1400 4 1

/-- OPERATIONAL with the pre-driver regulators up. -/
def wArm : State := putOb wHost 0x5E00 1 0

/-- Functions in ARMED with their start conditions met: Drive A, the Converter, the Charger with a cable. -/
def wRunDrv : State :=
  let s := match chanAddr 0 with | some a => putOb (setFn wHost .driveA .armed) (a / 256) (a % 256) 0x447A0000 | none => wHost
  { putOb s 0x4004 1 0 with plock := { report := 1 }, rods := [(1, { stl := false, inv := false })] }
def wRunCnv : State :=
  match chanAddr 0 with | some a => putOb (putOb (setFn wHost .converter .armed) (a / 256) (a % 256) 0x447A0000) 0x2100 1 0 | none => wHost
def wRunChg : State := putOb (setFn wHost .charger .armed) 0x5101 6 2

def wTorn : State := { wPre with
  owned := [(0, 0x4000)], led := { wPre.led with shored := [shoredBlk 0x3C80, shoredBlk 0x4000] } }

/-- Rod 0 has just passed position 3, where a mark of block 0x2A00 stands. -/
def wMark : State := { wHost with
  marks := [{ blk := 0x2A00, src := 0, pos := 3, posAt := 0, dir := 2, action := 7, target := 0, reps := 1 }],
  rods := [(0, { pos := 5 * 2 ^ 32, prev := 0, moved := 5 * 2 ^ 32 })] }

/-- The same with a second mark of the same source and position after it in the order of R171. -/
def wMark2 : State := { wMark with marks := wMark.marks ++ wMark.marks }

/-- Lane 0, claimed in a mode, whose pulse has reached its end; and lane 0 driven under a loaded seal. -/
def wLane (mode : Nat) : State := { wHost with
  claims := [(0, { blk := 0x4000, cfg := mode * 2 ^ 28 })], lanes := [(0, { cmd := true, endAt := 5 })], tick := 9 }
def wLevel : State := { wHost with fuse := { state := [(0, 1)] }, lanes := [(0, { miss := 2, edgeAt := 1, eds := [1] })], tick := 19 }

/-- An update under way to rod 1, and a wrap of its carrier with a setting waiting. -/
def wUpd : State := { wHost with sent := [(1, { ts := 0, pos := some 7, rate := 1, accel := 0 })] }
def wWrap : State := { wHost with rods := [(1, { cpend := true, cprev := BitVec.ofNat 64 (2 ^ 64 - 3), cmoved := 8 })] }

/-- A resolver, an encoder, a Hall interface (also between two edges) and the grid PLL enabled; a frequency word source. -/
def wRes : State := putOb wHost (resBase 0) 1 1
def wEnc : State := putOb wHost (encBase 0) 1 1
def wEncZ : State := { wEnc with dt := 2 ^ 70, enc := [(0, { cz := some 0, io := { lock := true } })] }
def wEncW : State := { wEnc with enc := [(0, { cz := some 0, count := 100 })] }
def wHall : State := putOb wHost (hallBase 0) 1 1
def wHall2 : State := { wHall with dt := 2 ^ 50, hall := [(0, { io := { lock := true }, edgeAt := 2 ^ 50, sentAt := 0 })] }
def wGrid : State := { putOb (putOb wHost 0x3300 1 1) 0x3300 9 1 with dt := 2 ^ 60 }
def wFreq : State := { wHost with dt := 2 ^ 60, fuse := { loaded := [(640, 0x9999)] } }

/-- A sequence with its trigger under way; a calibration with both captures held, and a channel the Charger uses. -/
def wSeq : State := { (List.range 2).foldl (fun t q => putOb (putOb t (seqBase q) 2 1) (seqBase q) 3 1) wHost with
  trigs := [{ kind := 0, num := 0, stamp := 0, phase := 0 }] }
def wCal : State := putCalState (setCal wHost 0 { step := 0, low := some 0, high := some (256 * 2000) }) 0 4
def wCalUse : State := setFn (putOb wHost 0x5100 1 512) .charger .run

/-- A demodulator, a statistic unit and windows enabled; a window whose clear source has just passed. -/
def wSd : State := { putOb wHost (sdBase 0) 1 1 with dt := 2 ^ 80 }
def wStat : State := putOb wHost (statBase 0) 7 1
def wWin : State := putOb (putOb (putOb wHost (winBase 0) 1 1) (winBase 0) 2 0) (winBase 1) 2 0
def wWinP : State := { putOb (putOb (putOb wWin (winBase 0) 0xB 2) (winBase 0) 0xC 0) (winBase 0) 0xD 3 with rods := wMark.rods }

/-- A claimed loop with its trigger under way; a session without CONFIG; a claimed brace; a capture of one loop. -/
def wLoop : State := { wHost with owned := [(0, 0x3C00)], dt := 2 ^ 60, trigs := [{ kind := 1, num := 0, stamp := 1, phase := 0 }] }
def wUdp2 : State := { wUdp with led := { wUdp.led with keySlots := [(1, { state := 1, roles := 3, keyId := 7 })] } }
def wInj : State := putOb (putOb (putOb { wHost with owned := [(0, 0x4100)] } (loopBase 0) 7 1) (loopBase 0 + 1) 1 0) 0x3C20 1 0
def wRespA : State := { putOb (putOb (putOb wHost 0x3C29 2 0) 0x3C29 1 1) 0x3C28 1 0x40000000 with owned := [(0, 0x4100)] }

/-- Drive A in RUN; a fault input sealed to a function; a guarded link, and its dump path commanded. -/
def wDrv (x : Drive) : State := setDrv (setFn wHost .driveA .run) .a x
def wFlt (f : Nat) : State := { wHost with fuse := { loaded := [(0, BitVec.ofNat 16 (f * 16)), (576, 0x8000)] } }
def wLink : State := putOb wHost 0x2100 1 0
def wDump : State := { wLink with dt := 2 ^ 80, fuse := { loaded := [(600, 0x8000)] }, link := { dumpOn := true } }

/-- A Charger in RUN with a session state; the grid locked with its phases in their limits; the bus measured at its set point. -/
def wChg (x : Charger) : State := { setFn wHost .charger .run with chg := x }
def wGridOk : State := { (List.range 3).foldl (fun t k => putOb t 0x5203 (4 + k) 0x43660000)
  (putOb (putOb (wChg { step := 2 }) 0x5203 1 0x43480000) 0x5203 2 0x43800000) with grid := { io := { lock := true } } }
def wBus : State := putOb (putOb (wChg { step := 3 }) 0x5200 11 0) 0x5203 7 0

/-- A Converter in RUN with a sequencer state; a camp entry; the device in CAMP. -/
def wCnv (x : Converter) : State := { setFn wHost .converter .run with cnv := x }
def wCamp (k : Nat) : State := { wHost with camp := { step := k } }
def wCamped : State := { wHost with dev := .camp, power := { ctl := .idle } }

def wHvil (b : Bool) : State := putOb wHost 0x2201 1 b.toNat

/-- Channel 0 has a value and neither STL nor INV. -/
def chan0 (s : State) (v : Nat) : State := match chanAddr 0 with
  | some a => putOb s (a / 256) (a % 256) v
  | none => s

/-- Actuator drive 0 at a period start of the latest tick; its PWM leg U high; the Pump in RUN with a demand that ends. -/
def wAct : State := { wHost with dt := 25000 * 2 ^ 32 * 8, dtPrev := 25000 * 2 ^ 32 * 8 - 1 }
def wPwm : State := setAct wHost 0 { mode := .drive, sector := some 0, legs := [(0, { hi := true })] }
def wPump : State := { setFn (putOb (putOb (chan0 wHost 0) 0x5C03 2 0) 0x5C03 3 0x42A00000) .pump .run with
  pump := { on := true, start := true, brake := true }, hall := [(0, { io := { motion := 2 } })] }

/-- The Park lock in RUN; with rod words free of STL and its vehicle speed in its limit; at its target; on a tooth. -/
def wPark : State := setFn wHost .parkLock .run
def wParkOk : State := { putOb (putOb wPark 0x5C14 2 0x3C23D70A) 0x5C14 4 100 with rods := [(1, { stl := false, inv := false })] }
def wParkAt : State := putOb (putOb (putOb (chan0 wPark 0) 0x5C13 2 0) 0x5C13 5 0xC2C80000) 0x5C13 6 0x42C80000
def wTooth : State := putOb (putOb (chan0 wPark 0) 0x5C13 2 0) 0x5C13 7 0

/-- The Clutch and Drive B in RUN with fresh rod words, and the same with a slip beyond its band. -/
def wClu (x : Clutch) : State := { setFn (setFn wHost .clutch .run) .driveB .run with
  clutch := x, rods := [(1, { stl := false, inv := false }), (2, { stl := false, inv := false })] }
def wSlip : State := { wClu { st := 2 } with
  rods := [(1, { stl := false, inv := false }), (2, { stl := false, inv := false, rate := 2 ^ 50 })] }

/-- Waybill: a frame of a wrong form; profile 0 enabled on UDP with peer 0; a well-formed frame of it with a SEQ; no free slot. -/
def wbBad : WbFrame := { tr := .udp, peer := 0, mac := 0, bytes := [] }
def wWb : State := putOb wHost (wbIdx 0) 1 1
def wbGood (seq : Nat) : WbFrame :=
  let b := leBytes 1 0x11 ++ leBytes 1 0 ++ leBytes 2 seq ++ leBytes 8 0
  { tr := .udp, peer := BitVec.ofNat 64 (ob64 wWb (wbIdx 0) 3), mac := 0, bytes := b ++ leBytes 4 (wbCrc (ob wWb (wbIdx 0) 4) b) }
def wWbFull : State := { wWb with saf := { wb := (List.range 24).map (fun k => (k + 1, { st := 2, slot := some k })) } }

/-- Twin-key: a session without CONFIG in PREOP; block 0x6000 shored; a second session with another key on a proposal of 5. -/
def wTkR : State := { wTk with saf := {}, led := { wTk.led with keySlots := [(1, { state := 1, roles := 27, keyId := 7 })] } }
def wTkShored : State := { wTk with saf := {}, led := { wTk.led with shored := [wSh1] } }
def wTk2 : State := { wTk with saf := { wTk.saf with tk := 2, proposed := 5 }, led := { wTk.led with
  sessions := [(1, { st := 2, tr := .udp, keySlot := 1 }), (2, { st := 2, tr := .udp, keySlot := 2 })],
  keySlots := [(1, { state := 1, roles := 31, keyId := 7 }), (2, { state := 1, roles := 31, keyId := 8 })] } }
def wTkStage : State := wTk
def wStage (g : Nat) : Req := wReqN 1 (List.replicate (2 * groupLen g) 0) 12

/-- A conversion of die sensor 0 at 0 V. -/
def wAdc : AdcMeas := { src := .die 0, uv := 0, uv2 := 0 }

/-- A raise whose commit instant has come. -/
def wRaised : State := { wHost with tally := { wHost.tally with raised := [{
  cls := .clk, lvl := 1, eff := 1, scope := 0, stamp := 0, rank := 0, detail := 0, merged := false, count := 1, seq := 0,
  due := 0 }] } }
def wSame : State := { wRaised with tally := { wRaised.tally with raised := wRaised.tally.raised.map (fun r => { r with stamp := now wHost }) } }

/-- The MAC in use with an address of its own, in OPERATIONAL; a frame to another address; a gPTP message; a look-up at its
third request. -/
def wNet : State := { wHost with led := { wHost.led with
  boot := (wHost.led.boot |> (tabPut · (oaddr 0x6C00 1) 1) |> (tabPut · (oaddr 0x6C00 2) 5) |> (tabPut · (oaddr 0x6C00 3) 9)) } }
def wMac : BitVec 48 := 5
def wEth : EthFrame := {
  dst := 1, src := 0, length := 64, fcsOk := true, vid := none, ethertype := 0x0800, ipDst := 9, ipSrc := 0, ihl := 20,
  ipSumOk := true, fragment := false, proto := 17, dport := bootOb wNet 0x1030 1, sport := 0, udpSumOk := true, payload := [] }
def wPtp (n : Nat) : PtpMsg := {
  domain := ob wNet 0x6C41 1, seq := n, logInterval := -3, twoStep := false, timeNs := 0, corrNs := 0, rxNs := 0, clock := 0 }
def wArpW : State := { wHost with net := { arpWait := [(9, 3, 0, 0,
  { kind := 0, mac := 0, ip := 9, dport := 0, sport := 0, bytes := [] })] } }

/-- CAN controller 0 with a state; a CAN FD frame with a base identifier. -/
def wCan (c : Can) : State := setCan wHost 0 c
def wFd (n : Nat) : CanFrame := { ide := false, ident := n, fdf := true, brs := true, xl := false, sec := false, vcid := 0, data := [] }

/-- A die sensor whose next sample is not due; the Outrider in its first cycle. -/
def wSens : State := { wHost with therm := { sensors := [(0, { seen := true, due := 7 })] } }
def wOutr : State := { wHost with outr := { startAt := 1, cycle := 10 } }


theorem witness_StepRunsFront_1 : State.reset.pending = [] :=
  by decide +kernel

theorem witness_CanonicalKept_1 : step State.reset = .next State.reset :=
  rfl

theorem witness_QueueKept_1 : exec .vbatFall State.reset = .next (toOff State.reset 1) :=
  rfl

theorem witness_FusesOnlyByCommit_1 : (∀ b, Instr.vbatFall ≠ .tkCommitDone b) ∧ exec .vbatFall State.reset = .next (toOff State.reset 1) :=
  ⟨fun b h => (by cases h), rfl⟩

theorem witness_KeySlotsNeverChange_1 : exec .vbatFall State.reset = .next (toOff State.reset 1) :=
  rfl

theorem witness_PowerUpSequence_1 : State.reset.dev = .off ∧ State.reset.power.ctl = .idle ∧ State.reset.power.porstLow = false :=
  by decide +kernel

theorem witness_PowerUpSequence_2 : (withPower {} { porstLow := true }).power.porstLow = true :=
  by decide +kernel

theorem witness_PowerUpSequence_3 : (withPower {} { vbat := true }).dev = .off ∧ (withPower {} { vbat := true }).power.ctl = .idle ∧ (withPower {} { vbat := true }).power.vbat = true :=
  by decide +kernel

theorem witness_PowerUpSequence_4 : (withPower {} { ctl := .waitPg }).power.ctl = .waitPg ∧ (withPower {} { ctl := .waitXtal }).power.ctl = .waitXtal :=
  by decide +kernel

theorem witness_PowerUpSequence_5 : (withPower {} { ctl := .retryWait }).power.ctl = .retryWait ∧ (withPower {} { ctl := .parked }).power.ctl = .parked :=
  by decide +kernel

theorem witness_PowerLossEntersOff_1 : wOper.dev ≠ .off ∧ wOper.dev ≠ .camp ∧ State.reset.dev = .off :=
  by decide +kernel

theorem witness_ResetAndPllLockEnterBoot_1 : (withPower {} { ctl := .waitPll }).power.ctl = .waitPll :=
  by decide +kernel

theorem witness_ResetAndPllLockEnterBoot_2 : (withPower { dev := .lockout } { srstHeld := true }).power.srstHeld = true ∧ (withPower wOper { srstHeld := true }).power.srstHeld = true ∧ wOper.dev ≠ .lockout :=
  by decide +kernel

theorem witness_ResetAndPllLockEnterBoot_3 : running wOper = true ∧ running State.reset = false ∧ State.reset.power.x32Lost = false :=
  by decide +kernel

theorem witness_StartUpToCheck_1 : wBoot.dev = .boot ∧ wBoot.power.laneR64 = true ∧ wBoot.power.srstHeld = false :=
  by decide +kernel

theorem witness_StartUpToCheck_2 : bankChoice wBootFw = some 0 ∧ wBootFw.dev = .boot ∧ wBootFw.power.laneR64 = false ∧ wBootFw.power.srstHeld = false :=
  by decide +kernel

theorem witness_StartUpToCheck_3 : bankChoice { wBootFw with fw := { bankA := { signed := false, rollback := 0 }, bankB := { signed := false, rollback := 0 } } } = none :=
  by decide +kernel

theorem witness_StartUpToCheck_4 : (withPower {} { pmicPg := true }).power.pmicPg = true ∧ (withPower {} { pmicPg := true }).power.refSampled = false ∧ running (withPower {} { pmicPg := true }) = false :=
  by decide +kernel

theorem witness_StartUpToCheck_5 : running (withPower wOper { wOper.power with pmicPg := true }) = true ∧ (withPower wOper { wOper.power with pmicPg := true }).power.refSampled = false :=
  by decide +kernel

theorem witness_StartUpToCheck_6 : wOper.dev ≠ .off ∧ wOper.power.x32Given = false :=
  by decide +kernel

theorem witness_StartUpToCheck_7 : running (withPower wOper { x32On := true }) = true ∧ (withPower wOper { x32On := true }).power.x32On = true :=
  by decide +kernel

theorem witness_StartUpToCheck_8 : running (withPower wOper { srstHeld := true, x32On := true }) = false :=
  by decide +kernel

theorem witness_CheckEndsInLockoutOrPreop_1 : wCheck.dev = .check ∧ wCheck.power.srstHeld = false ∧ wCheck.tally.raised = [] ∧ wCheck.tally.keys = [] ∧ checkLockout wCheck { noFind with lockstepFail := true } = some (14, .tst, 0, 0) :=
  by decide +kernel

theorem witness_CheckEndsInLockoutOrPreop_2 : (checkLockout wCheck noFind).isNone = true :=
  by decide +kernel

theorem witness_CheckEndsInLockoutOrPreop_3 : wOper.dev ≠ .check ∧ running wOper = true ∧ wOper.dev ≠ .lockout ∧ running State.reset = false :=
  by decide +kernel

theorem witness_FrameAcceptedOrDropped_1 : serving State.reset = false :=
  by decide +kernel

theorem witness_FrameAcceptedOrDropped_2 : serving wUdp = true ∧ framePathOk wUdp wFrame = true ∧ rxReady wUdp wFrame.tr (frameBody wFrame ++ (leBytes 8 wFrame.tag.toNat).reverse) = true ∧ wFrame.fresh.toNat ≤ (sess (setSess wUdp 1 { sess wUdp 1 with rxFresh := 9 }) 1).rxFresh :=
  by decide +kernel

theorem witness_FrameAcceptedOrDropped_3 : serving wUdp = true ∧ framePathOk wUdp (wTagged wUdp) = true ∧ (∀ bs, rxReady wUdp (wTagged wUdp).tr bs = true) ∧ Config.cmac (sess wUdp 1).key (frameBody (wTagged wUdp)) = (wTagged wUdp).tag ∧ (sess wUdp 1).rxFresh < (wTagged wUdp).fresh.toNat ∧ (wTagged wUdp).vk.toNat % 16 = 1 :=
  ⟨by decide +kernel, by decide +kernel, fun _ => rfl, rfl, by decide +kernel, by decide +kernel⟩

theorem witness_ReadAnswersValue_1 : (match admitted wHost (wReq [] 0) 1 0x1030 1 with | (s1, some q) => decide (checkRead s1 q = 0) && decide (q.data = []) && decide (readCond s1 0x1030 1 = 0) && (rowOf 0x1030 1).isSome | _ => false) = true :=
  by decide +kernel

theorem witness_ReadAnswersValue_2 : (match admitted wHost (wReq [] 0) 1 0x0FFF 1 with | (s1, some q) => decide (checkRead s1 q = 0x02000007) | _ => false) = true :=
  by decide +kernel

theorem witness_ReadAnswersValue_3 : (match admitted wHost (wReq [1] 0) 1 0x1030 1 with | (s1, some q) => decide (checkRead s1 q = 0) && decide (q.data ≠ []) | _ => false) = true :=
  by decide +kernel

theorem witness_ReadAnswersValue_4 : (match admitted { wHost with resp := { st := 2 } } (wReq [] 0) 1 0x3C2A 0 with | (s1, some q) => decide (checkRead s1 q = 0) && decide (q.data = []) && decide (readCond s1 0x3C2A 0 ≠ 0) | _ => false) = true :=
  by decide +kernel

theorem witness_ReadAnswersValue_5 : (match admitted wHost (wReq [0, 0, 0, 0, 200, 0] 0) 3 0x6801 0 with | (s1, some q) => decide (checkRead s1 q = 0) && decide (q.data.length = 6) && decide (leNat (q.data.take 4) = 0) && (xferOf s1 q.ses).isNone && decide (readCond s1 0x6801 0 = 0) && (rowOf 0x6801 0).isSome | _ => false) = true :=
  by decide +kernel

theorem witness_ReadAnswersValue_6 : (match admitted wRdX (wReq [4, 0, 0, 0, 200, 0] 0) 3 0x6801 0 with | (s1, some q) => decide (checkRead s1 q = 0) && decide (q.data.length = 6) && decide (leNat (q.data.take 4) = 4) && (xferOf s1 q.ses).any (fun x => !x.timedOut && !x.write && decide (x.idx = 0x6801) && decide (x.sub = 0) && decide (4 < x.total)) | _ => false) = true :=
  by decide +kernel

theorem witness_WriteTakesEffectAndAnswers_1 : (match admitted wHost (wReq [7] 1) 2 0x2201 1 with | (s1, some q) => decide (checkWrite s1 q = 0x02000006) | _ => false) = true :=
  by decide +kernel

theorem witness_WriteTakesEffectAndAnswers_2 : (served wHost (wReq [0] 1) 0x2201 1).isSome = true ∧ (rowOf 0x2201 1).isSome = true :=
  by decide +kernel

theorem witness_WriteTakesEffectAndAnswers_3 : tabWf dfltAt wHost.objs = true ∧ isShored wHost 0x2200 = false :=
  by decide +kernel

theorem witness_BlockWriteAppliesWhole_1 : (match admitted wTk (wReqN 1 [255, 255, 255, 255, 16, 0, 0, 0] 12) 4 0x6202 1 with | (s1, some q) => decide (checkBlock s1 q = 0) && decide (4 ≤ q.data.length) && (xferOf s1 q.ses).isNone | _ => false) = true :=
  by decide +kernel

theorem witness_BlockWriteAppliesWhole_2 : (match admitted wTkX (wReqN 1 [0, 0, 0, 0, 1, 2] 12) 4 0x6202 1 with | (s1, some q) => decide (checkBlock s1 q = 0) && decide (4 ≤ q.data.length) && (match xferOf s1 q.ses with | none => false | some x => decide (x.timedOut = false) && x.write && decide (x.idx = q.idx) && decide (x.sub = q.sub) && decide (x.bytes.length + (q.data.drop 4).length = x.total)) | _ => false) = true :=
  by decide +kernel

theorem witness_BlockWriteAppliesWhole_3 : (match admitted wTkX (wReqN 1 [0, 0, 0, 0, 1] 12) 4 0x6202 1 with | (s1, some q) => (match xferOf s1 q.ses with | none => false | some x => decide (leNat (q.data.take 4) = x.bytes.length) && decide (x.bytes.length + (q.data.drop 4).length < x.total)) | _ => false) = true :=
  by decide +kernel

theorem witness_BlockWriteAppliesWhole_4 : (match admitted wTkX (wReqN 1 [9, 0, 0, 0, 1] 12) 4 0x6202 1 with | (s1, some q) => (match xferOf s1 q.ses with | none => false | some x => decide (leNat (q.data.take 4) ≠ x.bytes.length)) | _ => false) = true :=
  by decide +kernel

theorem witness_BlockWriteAppliesWhole_5 : (match admitted wTkX (wReqN 1 [255, 255, 255, 255, 1, 0, 0, 0] 4) 4 0x2800 1 with | (s1, some q) => (match xferOf s1 q.ses with | none => false | some x => decide (x.idx ≠ q.idx)) | _ => false) = true :=
  by decide +kernel

theorem witness_BlockWriteAppliesWhole_6 : (xferOf { wTkX with dt := 2 ^ 63 } 1).any (fun x => decide (x.lastAt + 1000000000 < now { wTkX with dt := 2 ^ 63 })) = true :=
  by decide +kernel

theorem witness_SubscriptionsNotify_1 : (match admitted wHost (wReq [1, 0, 10, 0] 0) 5 0x1030 1 with | (s1, some q) => decide (checkRead s1 q = 0) && decide (q.data.length = 4) && decide (leNat ((q.data.drop 1).take 1) = 0) && decide (leNat (q.data.take 1) ≤ 1) && decide (10 ≤ leNat (q.data.drop 2)) && decide (leNat (q.data.drop 2) ≤ 60000) && (rowOf 0x1030 1).any (fun w => decide (w.ty ≠ 11) && decide (w.ty ≠ 12)) && decide (s1.led.subs.length < 16) | _ => false) = true :=
  by decide +kernel

theorem witness_SubscriptionsNotify_2 : (match admitted wHost (wReq [0] 0) 6 0 0 with | (_, some q) => decide (q.data.length = 1) | _ => false) = true :=
  by decide +kernel

theorem witness_SubscriptionsNotify_3 : wSub.led.subs.find? (fun e => decide (e.ses = 0) && decide (e.num = 0)) ≠ none ∧ serving wSub = true ∧ (wSub.led.subs.all (fun u => decide (u.due ≤ now wSub))) = true :=
  by decide +kernel

theorem witness_SubscriptionsNotify_4 : (match admitted wHost (wReq [] 0) 7 0 0 with | (s1, some q) => hasRole s1 q.ses 1 && decide (q.data = []) | _ => false) = true :=
  by decide +kernel

theorem witness_SessionsOpenAndClose_1 : serving wUdp = true ∧ openPathOk wUdp wOpen = true ∧ openBad wOpen = false ∧ openBad wOpenBad = true ∧ openPathOk wUdp wOpenBad = true ∧ wOpen.frame.tr ≠ .host ∧ openSlotNo wOpen = 1 ∧ (tabGet ({} : KeySlot) wUdp.led.keySlots 1).state = 1 ∧ freeSession wUdp = some 0 :=
  by decide +kernel

theorem witness_SessionsOpenAndClose_2 : (tabGet ({} : KeySlot) wOper.led.keySlots 1).state ≠ 1 ∧ serving State.reset = false :=
  by decide +kernel

theorem witness_SessionsOpenAndClose_3 : openPathOk wUdp wOpenT = true ∧ Config.cmac (Config.slotKey (openSlotNo wOpenT)) (frameBody wOpenT.frame) = wOpenT.frame.tag :=
  ⟨by decide +kernel, rfl⟩

theorem witness_SessionsOpenAndClose_4 : serving wOperS = true ∧ openPathOk wOperS (wOpenH 0xFF) = true ∧ openBad (wOpenH 0xFF) = false ∧ openSlotNo (wOpenH 0xFF) = 0xFF ∧ freeSession wOperS = some 0 ∧ hostOpen wOperS = false ∧ hostOpen wHost = true :=
  by decide +kernel

theorem witness_SessionsOpenAndClose_5 : freeSession wFull = none ∧ serving wFull = true ∧ openPathOk wFull wOpenT = true :=
  by decide +kernel

theorem witness_SessionsOpenAndClose_6 : (match admitted wHost (wReq [] 0) 9 0 0 with | (_, some q) => decide (q.data = []) | _ => false) = true :=
  by decide +kernel

theorem witness_SessionsOpenAndClose_7 : (sess { wUdp with dt := 2 ^ 64 } 1).st ≠ 0 ∧ (sess { wUdp with dt := 2 ^ 64 } 1).lastRx + (sess { wUdp with dt := 2 ^ 64 } 1).timeout * 1000000 ≤ now { wUdp with dt := 2 ^ 64 } :=
  by decide +kernel

theorem witness_SessionsOpenAndClose_8 : (sess (setSess { wUdp with dt := 2 ^ 64 } 2 { st := 1 }) 2).st = 1 ∧ (sess (setSess { wUdp with dt := 2 ^ 64 } 2 { st := 1 }) 2).opened + 100000000 ≤ now { wUdp with dt := 2 ^ 64 } :=
  by decide +kernel

theorem witness_StateRequestDecides_1 : (served wHost (wReq [5] 2) 0x2001 0).any (fun p => decide (leNat p.2.data = devCode p.1.dev)) = true :=
  by decide +kernel

theorem witness_StateRequestDecides_2 : (served wPre (wReq [5] 2) 0x2001 0).any (fun p => decide (leNat p.2.data ≠ devCode p.1.dev) && !isShored p.1 0x6000 && decide (p.1.saf.computed = p.1.saf.confirmed)) = true :=
  by decide +kernel

theorem witness_StateRequestDecides_3 : (served { wPre with led := { wPre.led with shored := [shoredBlk 0x6000] } } (wReq [5] 2) 0x2001 0).any (fun p => isShored p.1 0x6000) = true :=
  by decide +kernel

theorem witness_StateRequestDecides_4 : (served { wPre with saf := { wPre.saf with computed := 1 } } (wReq [5] 2) 0x2001 0).any (fun p => decide (p.1.saf.computed ≠ p.1.saf.confirmed)) = true :=
  by decide +kernel

theorem witness_StateRequestDecides_5 : (served wHost (wReq [4] 2) 0x2001 0).any (fun p => !fnAll.any (fnLive p.1)) = true :=
  by decide +kernel

theorem witness_StateRequestDecides_6 : (served (setFn wHost .pump .run) (wReq [4] 2) 0x2001 0).any (fun p => fnAll.any (fnLive p.1)) = true :=
  by decide +kernel

theorem witness_FunctionCommandsDecide_1 : armOk wArm .pump = true :=
  by decide +kernel

theorem witness_FunctionCommandsDecide_2 : (served wArm (byteReq (wReq [] 0) 2 1) (cmdIdx .pump) 0).any (fun p => armOk p.1 .pump) = true :=
  by decide +kernel

theorem witness_FunctionCommandsDecide_3 : (served wPre (byteReq (wReq [] 0) 2 1) (cmdIdx .pump) 0).any (fun p => !armOk p.1 .pump) = true :=
  by decide +kernel

theorem witness_FunctionCommandsDecide_4 : runOk (setFn wHost .pump .armed) .pump = true :=
  by decide +kernel

theorem witness_FunctionCommandsDecide_5 : [Fn.pump, .parkLock, .clutch].all (fun f => (served (setFn wHost f .armed) (byteReq (wReq [] 0) 2 2) (cmdIdx f) 0).any (fun p => runOk p.1 f)) = true :=
  by decide +kernel

theorem witness_FunctionCommandsDecide_6 : (served wRunDrv (byteReq (wReq [] 0) 2 2) (cmdIdx .driveA) 0).any (fun p => runOk p.1 .driveA) = true :=
  by decide +kernel

theorem witness_FunctionCommandsDecide_7 : (served wRunCnv (byteReq (wReq [] 0) 2 2) (cmdIdx .converter) 0).any (fun p => runOk p.1 .converter) = true :=
  by decide +kernel

theorem witness_FunctionCommandsDecide_8 : (served wRunChg (byteReq (wReq [] 0) 2 2) (cmdIdx .charger) 0).any (fun p => runOk p.1 .charger) = true :=
  by decide +kernel

theorem witness_FunctionCommandsDecide_9 : (served wHost (byteReq (wReq [] 0) 2 2) (cmdIdx .pump) 0).any (fun p => !runOk p.1 .pump) = true :=
  by decide +kernel

theorem witness_FunctionCommandsDecide_10 : (served wHost (byteReq (wReq [] 0) 2 3) (cmdIdx .driveA) 0).any (fun p => decide (fnState p.1 .driveA ≠ .run)) = true :=
  by decide +kernel

theorem witness_FunctionCommandsDecide_11 : [Fn.driveA, .driveB, .charger, .converter, .pump, .parkLock, .clutch].all (fun f => (served (setFn wHost f .run) (byteReq (wReq [] 0) 2 3) (cmdIdx f) 0).any (fun p => decide (fnState p.1 f = .run))) = true :=
  by decide +kernel

theorem witness_FunctionCommandsDecide_12 : (served (setFn wHost .pump .armed) (byteReq (wReq [] 0) 2 4) (cmdIdx .pump) 0).any (fun p => decide (fnState p.1 .pump = .armed)) = true :=
  by decide +kernel

theorem witness_FunctionCommandsDecide_13 : (served wHost (byteReq (wReq [] 0) 2 4) (cmdIdx .pump) 0).any (fun p => decide (fnState p.1 .pump = .idle)) = true :=
  by decide +kernel

theorem witness_FunctionCommandsDecide_14 : [Fn.driveA, .driveB, .charger, .converter, .pump, .parkLock, .clutch].all (fun f => (served (setFn wHost f .run) (byteReq (wReq [] 0) 2 4) (cmdIdx f) 0).any (fun p => decide (fnState p.1 f = .run))) = true :=
  by decide +kernel

theorem witness_ShoreAndComplete_1 : (match admitted wPre (wReq [1, 0] 3) 2 0x1010 0 with | (u, some q) => shoreNoBlock q && decide (u.dev ≠ .lockout) | _ => false) = true :=
  by decide +kernel

theorem witness_ShoreAndComplete_2 : seqRunning wPre 0x2A00 = false ∧ running State.reset = false :=
  by decide +kernel

theorem witness_ShoreAndComplete_3 : (fun s : State => (shoreOf s 0x2A00).any (fun e => !e.done) = true) { wPre with led := { wPre.led with shored := [{ shoredBlk 0x2A00 with done := false }] } } :=
  by decide +kernel

theorem witness_ShoreAndComplete_4 : (served wPre (wReq [0, 0x22] 3) 0x1010 0).any (fun p => isBlock (leNat p.2.data) && decide (shoreCode p.1 (leNat p.2.data) ≠ 0)) = true :=
  by decide +kernel

theorem witness_ShoreAndComplete_5 : (served wPre (wReq [0, 0x2A] 3) 0x1010 0).any (fun p => isBlock (leNat p.2.data) && decide (shoreCode p.1 (leNat p.2.data) = 0) && (fnOfBlock (leNat p.2.data)).isNone) = true :=
  by decide +kernel

theorem witness_ShoreAndComplete_6 : (served wPre (wReq [0, 0x40] 3) 0x1010 0).any (fun p => isBlock (leNat p.2.data) && decide (shoreCode p.1 (leNat p.2.data) = 0) && (fnOfBlock (leNat p.2.data)).isSome) = true :=
  by decide +kernel

theorem witness_ShoreAndComplete_7 : running wPre = true ∧ shoreOf wPre 0x2A00 = none :=
  by decide +kernel

theorem witness_StrikeAndAbandon_1 : (served wPre (wReq [1, 0] 3) 0x1011 0).any (fun p => decide (leNat p.2.data ≠ 0xFFFF) && !isBlock (leNat p.2.data)) = true :=
  by decide +kernel

theorem witness_StrikeAndAbandon_2 : (served wPre (wReq [0, 0x2A] 3) 0x1012 0).any (fun p => isBlock (leNat p.2.data) && decide ((opBlocks p.1 p.2.ses (leNat p.2.data)).2 ≠ 0)) = true :=
  by decide +kernel

theorem witness_StrikeAndAbandon_3 : (served wShored (wReq [0, 0x2A] 3) 0x1011 0).any (fun p => decide ((opBlocks p.1 p.2.ses (leNat p.2.data)).2 = 0) && !tornFamily p.1 (opBlocks p.1 p.2.ses (leNat p.2.data)).1) = true :=
  by decide +kernel

theorem witness_StrikeAndAbandon_4 : (served wTorn (wReq [0x80, 0x3C] 3) 0x1011 0).any (fun p => decide ((opBlocks p.1 p.2.ses (leNat p.2.data)).2 = 0) && tornFamily p.1 (opBlocks p.1 p.2.ses (leNat p.2.data)).1) = true :=
  by decide +kernel

theorem witness_StrikeAndAbandon_5 : wPre.led.strikes = [] :=
  by decide +kernel

theorem witness_StrikeAndAbandon_6 : (fun s : State => s.led.strikes.any (fun o => o.built && decide (releaseAt o ≤ now s) && o.blocks.all (shoreDone s)) = true ∧ running s = true) { wStrike with dt := 2 ^ 60 } :=
  by decide +kernel

theorem witness_StrikeAndAbandon_7 : wStrike.led.strikes.any (fun o => decide (now wStrike < releaseAt o)) = true :=
  by decide +kernel

theorem witness_StrikeAndAbandon_8 : ({ wPre with led := { wPre.led with persist := [(0, [0x2A00], [])] } } : State).led.persist = [(0, [0x2A00], [])] :=
  by decide +kernel

theorem witness_StoreAndRestore_1 : (served wPre (wReq [1, 0] 3) 0x1013 0).any (fun p => decide (leNat p.2.data ≠ 0x1000) && !isBlock (leNat p.2.data)) = true :=
  by decide +kernel

theorem witness_StoreAndRestore_2 : (served { wPre with led := { wPre.led with stored := [(0x2A00, 1)] } } (wReq [0, 0x2A] 3) 0x1013 0).any (fun p => decide (tabGet 0 p.1.led.stored (leNat p.2.data) ≠ 0) && decide (now p.1 < tabGet 0 p.1.led.stored (leNat p.2.data) - 1 + 10000000000)) = true :=
  by decide +kernel

theorem witness_StoreAndRestore_3 : (served wPre (wReq [0, 0x10] 3) 0x1013 0).any (fun p => decide (leNat p.2.data = 0x1000) && decide (tabGet 0 p.1.led.stored (leNat p.2.data) = 0)) = true :=
  by decide +kernel

theorem witness_StoreAndRestore_4 : (served wPre (wReq [0, 0x2A] 3) 0x1013 0).any (fun p => isBlock (leNat p.2.data) && decide (tabGet 0 p.1.led.stored (leNat p.2.data) = 0)) = true :=
  by decide +kernel

theorem witness_StoreAndRestore_5 : (served wPre (wReq [0, 0x2A] 3) 0x1014 0).any (fun p => (shoreOf p.1 (leNat p.2.data)).isNone) = true :=
  by decide +kernel

theorem witness_StoreAndRestore_6 : (served { wShored with led := { wShored.led with shored := [{ shoredBlk 0x2A00 with owner := none }] } } (wReq [0, 0x2A] 3) 0x1014 0).any (fun p => (shoreOf p.1 (leNat p.2.data)).any (fun e => decide (e.owner ≠ some p.2.ses))) = true :=
  by decide +kernel

theorem witness_StoreAndRestore_7 : (served wShored (wReq [0, 0x2A] 3) 0x1014 0).any (fun p => (shoreOf p.1 (leNat p.2.data)).any (fun e => decide (e.owner = some p.2.ses))) = true :=
  by decide +kernel

theorem witness_ManifestsRun_1 : (fun s : State => serving s = true ∧ ob s (0x1400 + 0) 1 = 1 ∧ ob s (0x1400 + 0) 2 = 1 ∧ (manOf s 0).due ≤ now s ∧ manWaiting s 0 = [] ∧ (manOf s 0).held = none) (putOb wPub 0x1400 2 1) :=
  by decide +kernel

theorem witness_ManifestsRun_2 : (manOf (setMan wPub 0 { held := some [0] }) 0).held = some [0] ∧ now wPub < (manOf (setMan wPub 0 { due := 2 ^ 63 }) 0).due :=
  by decide +kernel

theorem witness_ManifestsRun_3 : (served wUdp (byteReq (wReqN 1 [] 0) 1 0) 0x1400 1).isSome = true :=
  by decide +kernel

theorem witness_ManifestsRun_4 : (served (putOb wUdp 0x1400 4 1) (byteReq (wReqN 1 [] 0) 1 1) 0x1410 1).any (fun p => decide (ob p.1 0x1410 1 ≠ 1) && decide (manCode p.1 16 = 0x03000005)) = true :=
  by decide +kernel

theorem witness_ManifestsRun_5 : (served (putOb wUdp 0x1400 1 1) (byteReq (wReqN 1 [] 0) 1 1) 0x1400 1).any (fun p => decide (ob p.1 0x1400 1 = 1)) = true :=
  by decide +kernel

theorem witness_ManifestsRun_6 : (served (putOb wUdp 0x1400 4 1) (byteReq (wReqN 1 [] 0) 1 1) 0x1400 1).any (fun p => decide (ob p.1 0x1400 1 ≠ 1) && decide (manCode p.1 0 = 0)) = true :=
  by decide +kernel

theorem witness_ManifestsRun_7 : serving wPub = true ∧ ob wPub 0x1400 1 = 1 ∧ ob wPub 0x1400 2 = 0 ∧ (manOf wPub 0).due ≤ now wPub ∧ (sess wPub (ob wPub 0x1400 4)).txFresh + 1 ≠ 0xFFFFFFFF :=
  by decide +kernel

theorem witness_ManifestsRun_8 : manWaiting wPub 0 = [] ∧ manWaiting { wPub with led := { wPub.led with manRx := [(1, 0, [0])] } } 0 = [(1, 0, [0])] :=
  by decide +kernel

theorem witness_LaneTickAdvancesRods_1 : running State.reset = false :=
  by decide +kernel

theorem witness_LaneTickAdvancesRods_2 : running wOper = true ∧ isShored wOper 0x2810 = false :=
  by decide +kernel

theorem witness_LaneTickAdvancesRods_3 : isShored { wPre with led := { wPre.led with shored := [shoredBlk 0x2810] } } 0x2810 = true :=
  by decide +kernel

theorem witness_MarksFireInTheInterval_1 : ((wMark.marks)[0]?).any (fun m => (fireDist wMark 0 m 0).any (fun d => !firesBefore wMark (fireKey wMark 0 m d))) = true ∧ running wMark = true :=
  by decide +kernel

theorem witness_MarksFireInTheInterval_2 : ((wMark2.marks)[1]?).any (fun m => (fireDist wMark2 1 m 0).any (fun d => firesBefore wMark2 (fireKey wMark2 1 m d))) = true :=
  by decide +kernel

theorem witness_MarksFireInTheInterval_3 : (fun s : State => ((s.marks)[0]?).any (fun m => (fireDist s 0 m 0).isNone) = true) { wMark with rods := [] } :=
  by decide +kernel

theorem witness_MarksFireInTheInterval_4 : winRuns wWin 0 = true :=
  by decide +kernel

theorem witness_MarksFireInTheInterval_5 : passPhase 5 3 = 19 ∧ passPhase (-5) 5 = 32 :=
  by decide +kernel

theorem witness_MarksFireInTheInterval_6 : passDist (2 ^ 64 - 1) 5 3 = some 4 ∧ passDist 3 (-5) (2 ^ 64 - 1) = some 4 ∧ passDist 3 5 3 = none ∧ passDist 3 5 8 = some 5 :=
  by decide +kernel

theorem witness_LanePulsesEnd_1 : running (wLane 3) = true ∧ laneMode (wLane 3) 0 = 3 ∧ (laneAt (wLane 3) 0).cmd = true ∧ (laneAt (wLane 3) 0).endAt ≠ 0 ∧ (laneAt (wLane 3) 0).endAt ≤ phases (wLane 3) :=
  by decide +kernel

theorem witness_LanePulsesEnd_2 : running (wLane 4) = true ∧ laneMode (wLane 4) 0 = 4 :=
  by decide +kernel

theorem witness_LanePulsesEnd_3 : (laneAt wOper 0).cmd = false ∧ phases { wLane 3 with tick := 0 } < (laneAt { wLane 3 with tick := 0 } 0).endAt :=
  by decide +kernel

theorem witness_RodSourcesAndCarriers_1 : (takeUpd wUpd 1).isSome = true ∧ running wUpd = true ∧ isShored wUpd (rodBase 1) = false :=
  by decide +kernel

theorem witness_RodSourcesAndCarriers_2 : (takeUpd { wUpd with led := { wUpd.led with shored := [shoredBlk 0x2810] } } 1).any (fun e => e.1.pos.isSome && isShored e.2 (rodBase 1)) = true :=
  by decide +kernel

theorem witness_RodSourcesAndCarriers_3 : (takeUpd { wUpd with sent := [(1, { ts := 0, pos := none, rate := 1, accel := 0 })], led := { wUpd.led with shored := [shoredBlk 0x2810] } } 1).any (fun e => e.1.pos.isNone && isShored e.2 (rodBase 1)) = true :=
  by decide +kernel

theorem witness_RodSourcesAndCarriers_4 : (rodAt { wUpd with dt := 2 ^ 70 } 1).updAt + ob { wUpd with dt := 2 ^ 70 } (rodBase 1 + 1) 7 * 1000 ≤ now { wUpd with dt := 2 ^ 70 } :=
  by decide +kernel

theorem witness_RodSourcesAndCarriers_5 : (passDist (rodAt wWrap 1).cprev.toNat (rodAt wWrap 1).cmoved 0).isSome = true ∧ running wWrap = true ∧ (rodAt wWrap 1).cpend = true ∧ isShored wWrap (rodBase 1) = false :=
  by decide +kernel

theorem witness_ReadbackAndCapture_1 : running wLevel = true ∧ laneLevel wLevel 0 ≠ .hiZ ∧ (laneAt wLevel 0).miss = 2 ∧ readbackDue wLevel 0 = true :=
  by decide +kernel

theorem witness_ReadbackAndCapture_2 : laneLevel wOper 0 = .hiZ ∧ readbackDue (setLane wLevel 0 { miss := 0, edgeAt := 1, eds := [1], seenAt := 20 }) 0 = false :=
  by decide +kernel

theorem witness_ReadbackAndCapture_3 : ob wHost 0x2A00 1 ≤ 0x86 ∧ 0x86 < ob (putOb wHost 0x2A00 1 0x87) 0x2A00 1 :=
  by decide +kernel

theorem witness_ReadbackAndCapture_4 : (fun s : State => capRuns s 0 = true ∧ tabGet none s.capWait 0 = none ∧ ob s 0x2A00 2 = 1 ∧ ob s 0x2A00 3 = 0 ∧ (0 : Nat) ≠ ob s 0x5100 3 ∧ (tabGet [] s.caps 0).length < 16) (putOb (putOb wHost 0x2A00 5 1) 0x2A00 2 1) :=
  by decide +kernel

theorem witness_ReadbackAndCapture_5 : ob (putOb wHost 0x2A00 3 7) 0x2A00 3 ≠ 0 :=
  by decide +kernel

theorem witness_ReadbackAndCapture_6 : 16 ≤ (tabGet [] ({ wHost with caps := [(0, List.replicate 16 { stamp := 0, phase := 0, edge := 0, pos := 0 })] } : State).caps 0).length :=
  by decide +kernel

theorem witness_ReadbackAndCapture_7 : (match admitted wHost (wReq [] 0) 1 0x2A00 8 with | (s1, some q) => decide (checkRead s1 q = 0) && decide (q.data = []) && decide (readCond s1 0x2A00 8 = 0) && (rowOf 0x2A00 8).any (fun w => decide ((valueBytes s1 (oaddr 0x2A00 8) w).length ≤ maxData (sess s1 q.ses).tr q.xl) && !addrDone (reply s1 q (tyAt s1 (oaddr 0x2A00 8) w.ty) (valueBytes s1 (oaddr 0x2A00 8) w)) (oaddr 0x2A00 8)) | _ => false) = true :=
  by decide +kernel

theorem witness_ReadbackAndCapture_8 : (match admitted wShored (wReq [] 0) 1 0x2A00 8 with | (s1, some q) => decide (checkRead s1 q = 0) && (rowOf 0x2A00 8).any (fun w => addrDone (reply s1 q (tyAt s1 (oaddr 0x2A00 8) w.ty) (valueBytes s1 (oaddr 0x2A00 8) w)) (oaddr 0x2A00 8)) | _ => false) = true :=
  by decide +kernel

theorem witness_ResolverMeasures_1 : posRuns State.reset (resBase 0) = false :=
  by decide +kernel

theorem witness_ResolverMeasures_2 : posRuns wRes (resBase 0) = true ∧ (tabGet ({} : Resolver) wRes.res 0).half = 0 :=
  by decide +kernel

theorem witness_EncoderFollowsItsEdges_1 : posRuns State.reset (encBase 0) = false :=
  by decide +kernel

theorem witness_EncoderFollowsItsEdges_2 : posRuns wEnc (encBase 0) = true ∧ (tabGet ({} : Encoder) wEnc.enc 0).ab = none ∧ ob wEnc (encBase 0) 6 = 0 ∧ (tabGet ({} : Encoder) wEnc.enc 0).cz = none :=
  by decide +kernel

theorem witness_EncoderFollowsItsEdges_3 : quadStep (false, false) (true, true) = none ∧ quadStep (false, false) (true, false) = some 1 ∧ quadStep (true, false) (false, false) = some (-1) ∧ quadStep (true, true) (true, true) = some 0 :=
  by decide +kernel

theorem witness_EncoderFollowsItsEdges_4 : posRuns (putOb wEnc (encBase 0) 6 1) (encBase 0) = true ∧ ob (putOb wEnc (encBase 0) 6 1) (encBase 0) 6 ≠ 0 :=
  by decide +kernel

theorem witness_EncoderFollowsItsEdges_5 : posRuns wEncZ (encBase 0) = true ∧ ob wEncZ (encBase 0) 6 = 0 ∧ (tabGet ({} : Encoder) wEncZ.enc 0).cz = some 0 ∧ min (((tabGet ({} : Encoder) wEncZ.enc 0).count - 0) % (4 * ob wEncZ (encBase 0) 2 : Int)) (4 * ob wEncZ (encBase 0) 2 - ((tabGet ({} : Encoder) wEncZ.enc 0).count - 0) % (4 * ob wEncZ (encBase 0) 2 : Int)) ≤ ob wEncZ (encBase 0) 7 :=
  by decide +kernel

theorem witness_EncoderFollowsItsEdges_6 : ((ob wEncW (encBase 0) 7 : Nat) : Int) < min (((tabGet ({} : Encoder) wEncW.enc 0).count - 0) % (4 * ob wEncW (encBase 0) 2 : Int)) (4 * ob wEncW (encBase 0) 2 - ((tabGet ({} : Encoder) wEncW.enc 0).count - 0) % (4 * ob wEncW (encBase 0) 2 : Int)) :=
  by decide +kernel

theorem witness_EncoderFollowsItsEdges_7 : (tabGet ({} : Encoder) wEncZ.enc 0).updAt + ob wEncZ (encBase 0) 8 * 1000 ≤ now wEncZ ∧ (tabGet ({} : Encoder) wEncZ.enc 0).io.lock = true ∧ (tabGet ({} : Encoder) wEncZ.enc 0).io.faults = 0 :=
  by decide +kernel

theorem witness_EncoderFollowsItsEdges_8 : now wEnc < (tabGet ({} : Encoder) wEnc.enc 0).updAt + ob wEnc (encBase 0) 8 * 1000 :=
  by decide +kernel

theorem witness_HallGridAndFrequency_1 : posRuns State.reset (hallBase 0) = false ∧ posRuns State.reset 0x3300 = false :=
  by decide +kernel

theorem witness_HallGridAndFrequency_2 : posRuns wHall (hallBase 0) = true ∧ hallSector (decide (ob wHall (hallBase 0) 3 = 1)) 7 = none ∧ hallSector (decide (ob wHall (hallBase 0) 3 = 1)) 1 = some 0 ∧ (tabGet ({} : Hall) wHall.hall 0).sector = none :=
  by decide +kernel

theorem witness_HallGridAndFrequency_3 : bit (tabGet ({} : Hall) wHall.hall 0).io.faults 2 = false ∧ bit (tabGet ({} : Hall) { wHall with hall := [(0, { io := { faults := 4 } })] }.hall 0).io.faults 2 = true :=
  by decide +kernel

theorem witness_HallGridAndFrequency_4 : hallSector (decide (ob wHall (hallBase 0) 3 = 1)) 3 = some 1 ∧ (tabGet ({} : Hall) { wHall with hall := [(0, { sector := some 0 })] }.hall 0).sector = some 0 :=
  by decide +kernel

theorem witness_HallGridAndFrequency_5 : (tabGet ({} : Hall) wHall2.hall 0).sentAt + 100000 ≤ now wHall2 ∧ posRuns wHall2 (hallBase 0) = true :=
  by decide +kernel

theorem witness_HallGridAndFrequency_6 : now wHall < (tabGet ({} : Hall) wHall.hall 0).sentAt + 100000 :=
  by decide +kernel

theorem witness_HallGridAndFrequency_7 : posRuns wGrid 0x3300 = true ∧ wGrid.grid.stepAt + ob wGrid 0x3300 7 * 1000 ≤ now wGrid ∧ ob wGrid 0x3300 9 = 1 :=
  by decide +kernel

theorem witness_HallGridAndFrequency_8 : posRuns (putOb wGrid 0x3300 9 0) 0x3300 = true ∧ ob (putOb wGrid 0x3300 9 0) 0x3300 9 ≠ 1 :=
  by decide +kernel

theorem witness_HallGridAndFrequency_9 : running wFreq = true ∧ wFreq.dev = .operational ∧ 9 ≤ rodSource wFreq 3 ∧ rodSource wFreq 3 ≤ 11 ∧ tabGet 0 wFreq.freqAt 3 + 100000 ≤ now wFreq :=
  by decide +kernel

theorem witness_HallGridAndFrequency_10 : ¬ 9 ≤ rodSource wHost 3 :=
  by decide +kernel

theorem witness_SequencesConvert_1 : (takeTrig wHost 0 0).isNone = true :=
  by decide +kernel

theorem witness_SequencesConvert_2 : (takeTrig wSeq 0 0).any (fun p => trigFirst wSeq p.1 && seqRuns p.2 0 && !seqBusy (abortOut p.2 (seqConvs p.2 0) (trigTime p.1)) 0 && !convBusy (abortOut p.2 (seqConvs p.2 0) (trigTime p.1)) 0) = true :=
  by decide +kernel

theorem witness_SequencesConvert_3 : (takeTrig { wSeq with trigs := wSeq.trigs ++ [{ kind := 0, num := 1, stamp := 0, phase := 0 }] } 0 1).any (fun p => !trigFirst { wSeq with trigs := wSeq.trigs ++ [{ kind := 0, num := 1, stamp := 0, phase := 0 }] } p.1) = true :=
  by decide +kernel

theorem witness_SequencesConvert_4 : (takeTrig { wHost with trigs := wSeq.trigs } 0 0).any (fun p => trigFirst { wHost with trigs := wSeq.trigs } p.1 && !seqRuns p.2 0) = true :=
  by decide +kernel

theorem witness_SequencesConvert_5 : (takeTrig (setSeq wSeq 0 { st := 2 }) 0 0).any (fun p => seqRuns p.2 0 && seqBusy (abortOut p.2 (seqConvs p.2 0) (trigTime p.1)) 0) = true :=
  by decide +kernel

theorem witness_SequencesConvert_6 : (takeTrig (setSeq wSeq 1 { st := 2 }) 0 0).any (fun p => seqRuns p.2 0 && !seqBusy p.2 0 && convBusy (abortOut p.2 (seqConvs p.2 0) (trigTime p.1)) 0 && decide (ob p.2 (seqBase 0) 4 ≠ 1)) = true :=
  by decide +kernel

theorem witness_SequencesConvert_7 : (takeTrig (putOb (setSeq wSeq 1 { st := 2 }) (seqBase 0) 4 1) 0 0).any (fun p => convBusy (abortOut p.2 (seqConvs p.2 0) (trigTime p.1)) 0 && decide (ob p.2 (seqBase 0) 4 = 1)) = true :=
  by decide +kernel

theorem witness_SequencesConvert_8 : (List.range 32).find? (fun q => decide ((seqOf (setSeq wSeq 0 { st := 1 }) q).st = 1) && seqUses (viewNow (setSeq wSeq 0 { st := 1 })) q 0 && convFree (setSeq wSeq 0 { st := 1 }) q) = some 0 :=
  by decide +kernel

theorem witness_SequencesConvert_9 : isShored (setSeq wSeq 0 { st := 1 }) (seqBase 0) = false ∧ freeAt (setSeq wSeq 0 { st := 1 }) 0 ≤ (seqOf (setSeq wSeq 0 { st := 1 }) 0).due + nsTime (ob wSeq (seqBase 0) 5) :=
  by decide +kernel

theorem witness_SequencesConvert_10 : ((List.range 32).find? (fun q => decide ((seqOf wHost q).st = 1) && seqUses (viewNow wHost) q 0 && convFree wHost q)).isNone = true :=
  by decide +kernel

theorem witness_SequencesConvert_11 : running wSeq = true ∧ (seqOf (setSeq (setSeq wSeq 1 { st := 2 }) 0 { st := 1 }) 0).st = 1 ∧ (seqOf (setSeq wSeq 0 { st := 1 }) 0).due + nsTime (ob wSeq (seqBase 0) 5) ≤ 2 ^ 80 ∧ (seqOf wSeq 0).st ≠ 1 ∧ convFree (setSeq (setSeq wSeq 1 { st := 2 }) 0 { st := 1 }) 0 = false :=
  by decide +kernel

theorem witness_ConversionWritesItsChannel_1 : (seqOf wHost 0).st ≠ 2 :=
  by decide +kernel

theorem witness_ConversionWritesItsChannel_2 : running (setSeq wHost 0 { st := 2 }) = true ∧ (seqOf (setSeq wHost 0 { st := 2 }) 0).st = 2 ∧ (seqOf (setSeq wHost 0 { st := 2 }) 0).step = 0 ∧ (seqOf (setSeq wHost 0 { st := 2 }) 0).hold + nsTime (125 * 0) ≤ (setSeq wHost 0 { st := 2 }).dt ∧ (muxInput (ob (setSeq wHost 0 { st := 2 }) (seqBase 0) 1) (ob (setSeq wHost 0 { st := 2 }) (seqBase 0 + 1) 1)).isSome = true :=
  by decide +kernel

theorem witness_ConversionWritesItsChannel_3 : isShored wHost 0x3400 = false ∧ pairDue wHost 0 = true ∧ (muxInput 0 (ob wHost 0x3403 1)).isSome = true :=
  by decide +kernel

theorem witness_ConversionWritesItsChannel_4 : outDone { wHost with outc := [(0, some { job := 1, num := 0, until_ := 0 }), (1, some { job := 1, num := 0, until_ := 0 })] } 1 0 [0, 1] = true ∧ (outConv { wHost with outc := [(0, some { job := 1, num := 0, until_ := 0 }), (1, some { job := 1, num := 0, until_ := 0 })] } 1 0 [0, 1] 1).2 = true :=
  by decide +kernel

theorem witness_ConversionWritesItsChannel_5 : (outConv wHost 1 0 [0, 1] 1).2 = false ∧ (!outDone wHost 1 0 [0, 1] && [0, 1].any (thermDue wHost)) = false :=
  by decide +kernel

theorem witness_ConversionWritesItsChannel_6 : thermDue { wHost with therm := { wHost.therm with sensors := [(0, { seen := true })] } } 0 = true :=
  by decide +kernel

theorem witness_ConversionWritesItsChannel_7 : isShored { wHost with led := { wHost.led with shored := [shoredBlk 0x3400] } } 0x3400 = true :=
  by decide +kernel

theorem witness_CalibrationCaptures_1 : (served wHost (byteReq (wReq [] 0) 2 1) (calCmdAt 0).1 (calCmdAt 0).2).any (fun p => !isShored p.1 (chanBlock 0) && !((chanUsers p.1 0).any (fnLive p.1)) && decide (chanMode p.1 0 = 0) && decide (calState p.1 0 = 0) && decide (leNat p.2.data = 1)) = true ∧ (rowOf (calCmdAt 0).1 (calCmdAt 0).2).isSome = true ∧ (rowOf (calCmdAt 512).1 (calCmdAt 512).2).isSome = true :=
  by decide +kernel

theorem witness_CalibrationCaptures_2 : (served { wHost with led := { wHost.led with shored := [shoredBlk (chanBlock 0)] } } (byteReq (wReq [] 0) 2 1) (calCmdAt 0).1 (calCmdAt 0).2).any (fun p => isShored p.1 (chanBlock 0)) = true :=
  by decide +kernel

theorem witness_CalibrationCaptures_3 : (served wCalUse (byteReq (wReq [] 0) 2 2) (calCmdAt 512).1 (calCmdAt 512).2).any (fun p => !isShored p.1 (chanBlock 512) && (chanUsers p.1 512).any (fnLive p.1)) = true :=
  by decide +kernel

theorem witness_CalibrationCaptures_4 : (served (putOb wHost (chanSet wHost 0 0).1 (chanSet wHost 0 0).2 1) (byteReq (wReq [] 0) 2 1) (calCmdAt 0).1 (calCmdAt 0).2).any (fun p => decide (chanMode p.1 0 ≠ 0)) = true :=
  by decide +kernel

theorem witness_CalibrationCaptures_5 : (served (putCalState (setCal wHost 0 { step := 1, taking := 1 }) 0 1) (byteReq (wReq [] 0) 2 1) (calCmdAt 0).1 (calCmdAt 0).2).any (fun p => decide (calState p.1 0 = 1) && decide ((calOf p.1 0).taking ≠ 0) && decide ((calOf p.1 0).step ≠ 0)) = true :=
  by decide +kernel

theorem witness_CalibrationCaptures_6 : (served wCal (byteReq (wReq [] 0) 2 3) (calCmdAt 0).1 (calCmdAt 0).2).any (fun p => decide (calState p.1 0 = 4) && decide ((calOf p.1 0).step = 0) && decide (tabGet 0 p.1.led.stored (chanBlock 0) = 0) && (calOf p.1 0).low.isSome && (calOf p.1 0).high.isSome) = true :=
  by decide +kernel

theorem witness_CalibrationCaptures_7 : (served wCal (byteReq (wReq [] 0) 2 4) (calCmdAt 0).1 (calCmdAt 0).2).any (fun p => decide (leNat p.2.data = 4)) = true ∧ (served wCal (byteReq (wReq [] 0) 2 5) (calCmdAt 0).1 (calCmdAt 0).2).any (fun p => decide (leNat p.2.data = 5)) = true :=
  by decide +kernel

theorem witness_CalibrationCaptures_8 : running wCal = true ∧ (calOf (setCal wCal 0 { step := 0, taking := 1, n := 256 }) 0).taking = 1 ∧ (calOf (setCal wCal 0 { step := 0, taking := 1, n := 256 }) 0).n = 256 ∧ (calOf (setCal wCal 0 { step := 0, taking := 2, n := 256 }) 0).taking = 2 ∧ (calOf wCal 0).taking = 0 :=
  by decide +kernel

theorem witness_CalibrationCaptures_9 : running { setCal wCal 0 { step := 0, taking := 1, n := 255 } with dt := 2 ^ 80 } = true ∧ (calOf (setCal wCal 0 { step := 0, taking := 1, n := 255 }) 0).n < 256 ∧ 10000000000 ≤ now { wCal with dt := 2 ^ 80 } :=
  by decide +kernel

theorem witness_DemodulatorsAndStatistics_1 : sdRuns wHost 0 = false ∧ sdOn wHost 0 = false ∧ sdOn wSd 0 = true :=
  by decide +kernel

theorem witness_DemodulatorsAndStatistics_2 : sdRuns wSd 0 = true ∧ (sdOf wSd 0).clk = false ∧ (sdOf wSd 0).startAt + sdClocks wSd 0 ((sdOf wSd 0).clocks + 1) ≤ now wSd ∧ ob wSd (sdBase 0) 4 ≠ 1 :=
  by decide +kernel

theorem witness_DemodulatorsAndStatistics_3 : now (setSd { wSd with dt := 0 } 0 { startAt := 9 }) < (sdOf (setSd { wSd with dt := 0 } 0 { startAt := 9 }) 0).startAt + sdClocks (setSd { wSd with dt := 0 } 0 { startAt := 9 }) 0 1 :=
  by decide +kernel

theorem witness_DemodulatorsAndStatistics_4 : sdRuns (setSd wSd 0 { clk := true }) 0 = true ∧ (sdOf (setSd wSd 0 { clk := true }) 0).clk = true ∧ (sdOf (setSd wSd 0 { clk := true }) 0).lastAt + sdClocks wSd 0 (ob wSd (sdBase 0) 3) ≤ now wSd ∧ (sdOf (setSd { wSd with dt := 0 } 0 { clk := true, lastAt := 9 }) 0).lastAt = 9 :=
  by decide +kernel

theorem witness_DemodulatorsAndStatistics_5 : sdRuns (putOb wSd (sdBase 0) 4 1) 0 = true ∧ (takeTrig (putOb wSd (sdBase 0) 4 1) 2 0).isNone = true ∧ (takeTrig { putOb wSd (sdBase 0) 4 1 with trigs := [{ kind := 2, num := 0, stamp := 0, phase := 0 }] } 2 0).isSome = true :=
  by decide +kernel

theorem witness_DemodulatorsAndStatistics_6 : sdRuns (setSd wSd 0 { same := 10 ^ 9 }) 0 = true ∧ ob (setSd wSd 0 { same := 10 ^ 9 }) (sdBase 0) 7 ≤ (sdOf (setSd wSd 0 { same := 10 ^ 9 }) 0).same :=
  by decide +kernel

theorem witness_DemodulatorsAndStatistics_7 : running (putOb wHost 0x3700 1 1) = true ∧ ob (putOb wHost 0x3700 1 1) 0x3700 1 ≠ 0 ∧ isShored (putOb wHost 0x3700 1 1) 0x3700 = false ∧ ob (putOb wHost 0x3701 1 2) 0x3701 1 = 2 ∧ ob wHost 0x3701 1 ≠ 2 :=
  by decide +kernel

theorem witness_DemodulatorsAndStatistics_8 : (List.range 24).any (fun d => (sdOf (putOb wHost 0x3701 1 2) d).clk) = false ∧ (List.range 24).any (fun d => (sdOf (setSd (putOb wHost 0x3701 1 2) 0 { clk := true }) d).clk && decide (ob wHost (sdBase d) 2 = 0)) = true :=
  by decide +kernel

theorem witness_DemodulatorsAndStatistics_9 : statRuns wStat 0 = true ∧ (statOf wStat 0).due = none ∧ (statOf wStat 0).on = false ∧ statRuns wHost 0 = false :=
  by decide +kernel

theorem witness_DemodulatorsAndStatistics_10 : (statOf (setStat { wStat with dt := 2 ^ 40 } 0 { due := some 5 }) 0).due = some 5 ∧ 5 + nsTime 5 ≤ ({ wStat with dt := 2 ^ 40 } : State).dt ∧ wStat.dt < 5 + nsTime 5 :=
  by decide +kernel

theorem witness_DemodulatorsAndStatistics_11 : (statOf (setStat wStat 0 { on := true }) 0).on = true ∧ (statOf (setStat wStat 0 { on := true }) 0).start + ob wStat (statBase 0) 6 * 1000000 ≤ 2 ^ 70 ∧ now wStat < (statOf (setStat wStat 0 { on := true }) 0).start + ob wStat (statBase 0) 6 * 1000000 :=
  by decide +kernel

theorem witness_WindowsAssertAndClear_1 : winRuns wWin 0 = true ∧ ob wWin (winBase 0) 2 ≠ 0xFF ∧ winDemod (ob wWin (winBase 0) 2) = false ∧ (winOf wWin 0).rawH = false ∧ (winOf wWin 0).outH = false ∧ (winOf wWin 0).cmpH = false :=
  by decide +kernel

theorem witness_WindowsAssertAndClear_2 : (winOf (setWin wWin 0 { waitH := some (0, false) }) 0).waitH = some (0, false) ∧ (winOf (setWin wWin 0 { waitL := some (0, true) }) 0).waitL = some (0, true) :=
  by decide +kernel

theorem witness_WindowsAssertAndClear_3 : (winOf (setWin wWin 0 { rawH := true, outH := true }) 0).outH = true ∧ (winOf (setWin wWin 0 { rawL := true, outL := true }) 0).rawL = true ∧ winRuns wHost 0 = false :=
  by decide +kernel

theorem witness_WindowsAssertAndClear_4 : (winOf (setWin wWin 0 { markOpen := some 0 }) 0).markOpen = some 0 ∧ winRuns { setWin wWin 0 { markOpen := some 0 } with tick := 2 ^ 40 } 0 = true ∧ 0 + nsPhases (ob wWin (winBase 0) 0xA) ≤ outNow { wWin with tick := 2 ^ 40 } ∧ (winOf wWin 0).markOpen = none :=
  by decide +kernel

theorem witness_WindowsAssertAndClear_5 : (winOf (setWin wWin 0 { laneOpen := some 0 }) 0).laneOpen = some 0 ∧ 0 + ob wWin (winBase 0) 9 ≤ outNow { wWin with tick := 2 ^ 40 } :=
  by decide +kernel

theorem witness_WindowsAssertAndClear_6 : (winOf wWin 0).laneOpen = none ∧ outNow (setWin (putOb wWin (winBase 0) 9 5) 0 { laneOpen := some 0 }) < 0 + ob (putOb wWin (winBase 0) 9 5) (winBase 0) 9 :=
  by decide +kernel

theorem witness_WindowsAssertAndClear_7 : (served wHost (byteReq (wReq [] 0) 2 3) (winBase 0) 0x15).isSome = true ∧ (rowOf (winBase 0) 0x15).isSome = true :=
  by decide +kernel

theorem witness_WindowsAssertAndClear_8 : ((served (putOb wHost (winBase 0) 0xB 1) (byteReq (wReq [] 0) 2 3) (winBase 0) 0x15).map (fun p => ob p.1 (winBase 0) 0xB)) = some 1 :=
  by decide +kernel

theorem witness_WindowsAssertAndClear_9 : ((served wHost (byteReq (wReq [] 0) 2 3) (winBase 0) 0x15).map (fun p => ob p.1 (winBase 0) 0xB)) = some 0 :=
  by decide +kernel

theorem witness_WindowsAssertAndClear_10 : winRuns wWinP 0 = true ∧ ob wWinP (winBase 0) 0xB = 2 ∧ (winOf wWinP 0).armed = true ∧ (outPass wWinP (ob wWinP (winBase 0) 0xC) (ob wWinP (winBase 0) 0xD * 2 ^ 32)).isSome = true :=
  by decide +kernel

theorem witness_WindowsAssertAndClear_11 : (outPass wWin (ob wWin (winBase 0) 0xC) (ob wWin (winBase 0) 0xD * 2 ^ 32)).isNone = true :=
  by decide +kernel

theorem witness_WindowsAssertAndClear_12 : (winOf (setWin wWin 0 { outL := true }) 0).outL = true ∧ (winOf (setWin wWin 0 { outL := true }) 0).rawL = false ∧ (winOf (setWin wWin 0 { outL := true }) 0).asL ≠ wWin.tick + 1 :=
  by decide +kernel

theorem witness_WindowsAssertAndClear_13 : (winOf (setWin wWin 0 { outH := true, asH := wWin.tick + 1 }) 0).asH = wWin.tick + 1 :=
  by decide +kernel

theorem witness_WindowChecksMoveToRelief_1 : winRuns wWin 0 = true ∧ (winOf wWin 0).chk = 0 ∧ reliefTaken wWin 0 = false ∧ winRuns wHost 0 = false :=
  by decide +kernel

theorem witness_WindowChecksMoveToRelief_2 : winRuns (setWin wWin 1 { relief := true }) 0 = true ∧ reliefTaken (setWin wWin 1 { relief := true }) 0 = true :=
  by decide +kernel

theorem witness_WindowChecksMoveToRelief_3 : (winOf (setWin wWin 0 { chk := 1 }) 0).chk = 1 ∧ winRuns (setWin wWin 0 { chk := 1 }) 0 = true ∧ (List.range 16).any (gapFree (setWin wWin 0 { chk := 1 })) = true :=
  by decide +kernel

theorem witness_WindowChecksMoveToRelief_4 : (winOf (setWin wWin 0 { chk := 2 }) 0).chk = 2 ∧ winRuns (setWin wWin 0 { chk := 2 }) 0 = true :=
  by decide +kernel

theorem witness_WindowChecksMoveToRelief_5 : winRuns wWin 0 = true ∧ ob wWin (winBase 0) 2 ≠ 0xFF ∧ winDemod (ob wWin (winBase 0) 2) = false ∧ (winOf wWin 0).markOpen = none ∧ (winOf wWin 0).laneOpen = none :=
  by decide +kernel

theorem witness_WindowChecksMoveToRelief_6 : (served (putOb wHost (winBase 0) 0xB 1) (byteReq (wReq [] 0) 2 3) (winBase 0) 0x15).any (fun p => decide (ob p.1 (winBase 0) 0xB = 1) && decide (leNat p.2.data = 3)) = true ∧ (rowOf (winBase 0) 0x15).isSome = true :=
  by decide +kernel

theorem witness_WindowChecksMoveToRelief_7 : winRuns wWinP 0 = true ∧ ob wWinP (winBase 0) 0xB = 2 ∧ (winOf wWinP 0).armed = true ∧ (outPass wWinP (ob wWinP (winBase 0) 0xC) (ob wWinP (winBase 0) 0xD * 2 ^ 32)).isSome = true :=
  by decide +kernel

theorem witness_LoopsEvaluateOnTheirTrigger_1 : (wHost.trigs.find? (fun e => decide (e.kind = 1) && decide (e.num = 0))).isNone = true :=
  by decide +kernel

theorem witness_LoopsEvaluateOnTheirTrigger_2 : (wLoop.trigs.find? (fun e => decide (e.kind = 1) && decide (e.num = 0))).any (fun e => decide (evTime e + nsTime (ob wLoop (loopBase 0) 2 + 10) ≤ wLoop.dt) && loopFirst wLoop e && decide ((loopAt (dueLoops 3 { wLoop with trigs := wLoop.trigs.erase e } 0).1 0).busyUntil ≤ evTime e)) = true ∧ loopActive { wLoop with trigs := [] } 0 = true ∧ (loopDrv { wLoop with trigs := [] } 0).isNone = true :=
  by decide +kernel

theorem witness_LoopsEvaluateOnTheirTrigger_3 : (({ wLoop with owned := [] } : State).trigs.find? (fun e => decide (e.kind = 1) && decide (e.num = 0))).isSome = true ∧ loopActive { wLoop with owned := [] } 0 = false :=
  by decide +kernel

theorem witness_LoopsEvaluateOnTheirTrigger_4 : ({ wLoop with dt := 0 } : State).dt < evTime { kind := 1, num := 0, stamp := 1, phase := 0 } + nsTime (ob { wLoop with dt := 0 } (loopBase 0) 2 + 10) :=
  by decide +kernel

theorem witness_LoopsEvaluateOnTheirTrigger_5 : loopActive (setLoop wLoop 0 { busyUntil := 2 ^ 64 }) 0 = true ∧ evTime { kind := 1, num := 0, stamp := 1, phase := 0 } < (loopAt (dueLoops 3 (setLoop wLoop 0 { busyUntil := 2 ^ 64 }) 0).1 0).busyUntil ∧ (loopAt (dueLoops 3 (setLoop wLoop 0 { busyUntil := 2 ^ 64 }) 0).1 0).drops ≠ 3 :=
  by decide +kernel

theorem witness_LoopsEvaluateOnTheirTrigger_6 : (loopAt (dueLoops 3 (setLoop wLoop 0 { busyUntil := 2 ^ 64, drops := 3 }) 0).1 0).drops = 3 :=
  by decide +kernel

theorem witness_BenchAndBraceWrites_1 : (served wHost (wReq [0, 0, 0, 0] 10) (braceBase 0 + 1) 1).isSome = true ∧ (rowOf (braceBase 0 + 1) 1).isSome = true ∧ (served wHost (wReq [0, 0, 0, 0] 10) (braceBase 191 + 2) 7).isSome = true :=
  by decide +kernel

theorem witness_BenchAndBraceWrites_2 : (served wHost (wReq [1] 2) (braceBase 0 + 3) 1).any (fun p => decide (leNat p.2.data = 1) && decide (vw (viewOf p.1 [braceBase 0]) (braceBase 0) 9 = 0)) = true ∧ (rowOf (braceBase 0 + 3) 1).isSome = true :=
  by decide +kernel

theorem witness_BenchAndBraceWrites_3 : (served wHost (wReq [0] 2) (braceBase 0 + 3) 1).any (fun p => decide (leNat p.2.data ≠ 1) && decide (ob p.1 (braceBase 0 + 3) 2 = 0)) = true :=
  by decide +kernel

theorem witness_BenchAndBraceWrites_4 : (served (putOb (putOb wHost (braceBase 0 + 3) 1 1) (braceBase 0 + 3) 2 1) (wReq [0] 2) (braceBase 0 + 3) 1).any (fun p => decide (leNat p.2.data ≠ 1) && !isShored p.1 (braceBase 0) && decide (leNat p.2.data ≠ ob p.1 (braceBase 0 + 3) 1) && decide (ob p.1 (braceBase 0 + 3) 2 ≠ 0)) = true :=
  by decide +kernel

theorem witness_BenchAndBraceWrites_5 : (served wHost (wReq [0, 0, 0, 0] 9) (braceBase 0 + 3) 7).isSome = true ∧ (rowOf (braceBase 0 + 3) 7).isSome = true :=
  by decide +kernel

theorem witness_BenchAndBraceWrites_6 : (served wUdp2 (byteReq (wReqN 1 [] 0) 2 1) 0x3C20 9).any (fun p => !hasRole p.1 p.2.ses 4) = true :=
  by decide +kernel

theorem witness_BenchAndBraceWrites_7 : (served { wHost with inj := { st := 1 } } (byteReq (wReq [] 0) 2 1) 0x3C20 9).any (fun p => hasRole p.1 p.2.ses 4 && decide (p.1.inj.st = 1)) = true :=
  by decide +kernel

theorem witness_BenchAndBraceWrites_8 : (served wHost (byteReq (wReq [] 0) 2 1) 0x3C20 9).any (fun p => hasRole p.1 p.2.ses 4 && decide (p.1.inj.st ≠ 1) && (if ob p.1 0x3C20 1 < 192 then memberLoop (viewNow p.1) p.1.owned (ob p.1 0x3C20 1) else none).isNone) = true :=
  by decide +kernel

theorem witness_BenchAndBraceWrites_9 : (served wInj (byteReq (wReq [] 0) 2 1) 0x3C20 9).any (fun p => hasRole p.1 p.2.ses 4 && decide (p.1.inj.st ≠ 1) && decide (ob p.1 0x3C20 1 < 192) && (memberLoop (viewNow p.1) p.1.owned (ob p.1 0x3C20 1)).isSome && decide (ob p.1 0x3C20 3 ≠ 3)) = true :=
  by decide +kernel

theorem witness_BenchAndBraceWrites_10 : (served (putOb wInj 0x3C20 3 3) (byteReq (wReq [] 0) 2 1) 0x3C20 9).any (fun p => (memberLoop (viewNow p.1) p.1.owned (ob p.1 0x3C20 1)).isSome && decide (ob p.1 0x3C20 3 = 3) && decide ((ob p.1 (braceBase (ob p.1 0x3C20 1) + 3) 11 : Rat) ≤ 2 * obF p.1 0x3C20 5)) = true :=
  by decide +kernel

theorem witness_BenchAndBraceWrites_11 : (served wHost (byteReq (wReq [] 0) 2 2) 0x3C20 9).isSome = true ∧ (served wHost (byteReq (wReq [] 0) 2 2) 0x3C29 7).isSome = true ∧ (served wHost (byteReq (wReq [] 0) 2 3) 0x3C29 7).isSome = true :=
  by decide +kernel

theorem witness_BenchAndBraceWrites_12 : ({ wHost with inj := { st := 1, n := 2 ^ 40 } } : State).inj.st = 1 ∧ ob wHost 0x3C20 8 ≤ 2 ^ 40 ∧ wHost.inj.st ≠ 1 ∧ wHost.resp.st ≠ 2 :=
  by decide +kernel

theorem witness_BenchAndBraceWrites_13 : (List.replicate 2 ({ stamp := 0, side := 0, vals := [] } : RespRow)).foldl (fun a x => a + rowBytes x.vals.length) 0 + rowBytes (max 1 (ob (putOb wHost 0x3C29 1 16) 0x3C29 1)) ≤ 262144 :=
  by decide +kernel

theorem witness_BenchAndBraceWrites_14 : 262144 < (List.replicate 1 ({ stamp := 0, side := 0, vals := List.replicate 65536 0 } : RespRow)).foldl (fun a x => a + rowBytes x.vals.length) 0 :=
  by decide +kernel

theorem witness_BenchAndBraceWrites_15 : (served wUdp2 (byteReq (wReqN 1 [] 0) 2 1) 0x3C29 7).any (fun p => !hasRole p.1 p.2.ses 4) = true :=
  by decide +kernel

theorem witness_BenchAndBraceWrites_16 : (served wHost (byteReq (wReq [] 0) 2 1) 0x3C29 7).any (fun p => hasRole p.1 p.2.ses 4 && decide (loopOwner p.1.owned (ob p.1 0x3C29 2) = 0)) = true :=
  by decide +kernel

theorem witness_BenchAndBraceWrites_17 : (served { wRespA with resp := { st := 1 } } (byteReq (wReq [] 0) 2 1) 0x3C29 7).any (fun p => hasRole p.1 p.2.ses 4 && decide (p.1.resp.st = 1) && decide (loopOwner p.1.owned (ob p.1 0x3C29 2) ≠ 0) && (respSrc p.1).all (respSrcOk p.1) && decide (mkRat (ob p.1 (loopBase (ob p.1 0x3C29 2) + 2) 1) (max 1 (ob p.1 0x3C29 3)) * (8 + 4 * ob p.1 0x3C29 1 : Nat) ≤ 100000000)) = true :=
  by decide +kernel

theorem witness_BenchAndBraceWrites_18 : (served wRespA (byteReq (wReq [] 0) 2 1) 0x3C29 7).any (fun p => hasRole p.1 p.2.ses 4 && decide (p.1.resp.st ≠ 1) && decide (p.1.resp.st ≠ 2) && decide (loopOwner p.1.owned (ob p.1 0x3C29 2) ≠ 0) && (respSrc p.1).all (respSrcOk p.1) && decide (mkRat (ob p.1 (loopBase (ob p.1 0x3C29 2) + 2) 1) (max 1 (ob p.1 0x3C29 3)) * (8 + 4 * ob p.1 0x3C29 1 : Nat) ≤ 100000000)) = true :=
  by decide +kernel

theorem witness_DriveSequencerSteps_1 : running (wDrv {}) = true ∧ fnState (wDrv {}) .driveA = .run ∧ (drvOf (wDrv {}) .a).rel ≠ 2 ∧ (drvOf (wDrv {}) .a).rel ≠ 3 ∧ (drvOf (wDrv {}) .a).stopping = false ∧ (drvOf (wDrv {}) .a).ramp = none :=
  by decide +kernel

theorem witness_DriveSequencerSteps_2 : (drvOf (wDrv { rel := 2 }) .a).rel = 2 ∧ (drvOf (wDrv { rel := 2 }) .a).latches + 2 ≤ tabGet 0 { wDrv { rel := 2 } with fired := [(drvLatch (wDrv { rel := 2 }) .a, 2)] }.fired (drvLatch { wDrv { rel := 2 } with fired := [(drvLatch (wDrv { rel := 2 }) .a, 2)] } .a) :=
  by decide +kernel

theorem witness_DriveSequencerSteps_3 : (drvOf (wDrv { rel := 3 }) .a).rel = 3 ∧ (drvOf (wDrv { rel := 3 }) .a).relAt + ob (wDrv { rel := 3 }) (drvBase .a + 6) 1 * 1000 ≤ 2 ^ 40 :=
  by decide +kernel

theorem witness_DriveSequencerSteps_4 : (drvOf (wDrv { stopping := true }) .a).stopping = true ∧ (drvOf (wDrv { stopping := true }) .a).tref = 0 ∧ emfRatio (wDrv { stopping := true }) .a < obF (wDrv { stopping := true }) (drvBase .a + 6) 2 :=
  by decide +kernel

theorem witness_DriveSequencerSteps_5 : (drvOf (wDrv { ramp := some (0, 0) }) .a).ramp = some (0, 0) ∧ (drvOf (wDrv { ramp := some (0, 0) }) .a).tref = 0 ∧ running (wDrv { ramp := some (0, 0) }) = true ∧ (drvOf (wDrv { ramp := some (0, 9), tref := 9 }) .a).tref ≠ 0 ∧ now (wDrv { ramp := some (0, 9), tref := 9 }) < 0 + ob (wDrv {}) (drvBase .a + 6) 3 * 1000000 :=
  by decide +kernel

theorem witness_DriveSequencerSteps_6 : (served wHost (wReq [1] 2) (drvBase .a + 5) 1).any (fun p => decide (¬ ((if ob p.1 (drvBase .a + 5) 2 = 1 then (-1 : Rat) else 1) * drvRpm p.1 .a < 0))) = true :=
  by decide +kernel

theorem witness_DriveSequencerSteps_7 : (served { wHost with rods := [(1, { rate := -(2 ^ 40), stl := false, inv := false })] } (wReq [1] 2) (drvBase .a + 5) 1).any (fun p => decide ((ob p.1 (drvBase .a + 5) 3 : Rat) < rabs (drvRpm p.1 .a)) && decide ((if ob p.1 (drvBase .a + 5) 2 = 1 then (-1 : Rat) else 1) * drvRpm p.1 .a < 0)) = true :=
  by decide +kernel

theorem witness_DriveSequencerSteps_8 : (drvOf wHost .a).derAt + 1000000 ≤ 2 ^ 40 ∧ isShored wHost 0x4400 = false ∧ wHost.chg.derAt + 1000000 ≤ 2 ^ 40 ∧ isShored wHost 0x5000 = false ∧ now wHost < (drvOf wHost .b).derAt + 1000000 ∧ now wHost < wHost.chg.derAt + 1000000 ∧ drvFn .b = .driveB ∧ Fn.pump ≠ .charger :=
  by decide +kernel

theorem witness_FaultInputsCollectAndLatch_1 : running State.reset = false ∧ running wHost = true ∧ (fltLane wHost 0).isNone = true :=
  by decide +kernel

theorem witness_FaultInputsCollectAndLatch_2 : fltLane (wFlt 3) 0 = some 0 ∧ fnOf (sealFunc (wFlt 3) 0) = some .charger ∧ fnDrv .charger = none :=
  by decide +kernel

theorem witness_FaultInputsCollectAndLatch_3 : fltLane (wFlt 0) 0 = some 0 ∧ (fnOf (sealFunc (wFlt 0) 0)).isNone = true :=
  by decide +kernel

theorem witness_FaultInputsCollectAndLatch_4 : fltLane (wFlt 1) 0 = some 0 ∧ fnOf (sealFunc (wFlt 1) 0) = some .driveA ∧ fnDrv .driveA = some .a :=
  by decide +kernel

theorem witness_FaultInputsCollectAndLatch_5 : wHost.dev ≠ .lockout ∧ (selOf wHost .a).collecting = false ∧ (selOf wHost .a).twoBank = false ∧ (selOf wHost .a).oneBank = false ∧ (selOf wHost .a).ascDue = none :=
  by decide +kernel

theorem witness_FaultInputsCollectAndLatch_6 : (selOf (setSel wHost .a { twoBank := true }) .a).twoBank = true ∧ (selOf (setSel wHost .a { oneBank := true }) .a).oneBank = true ∧ (selOf (setSel wHost .a { oneBank := true }) .a).highBank = suspectHigh wHost 0 ∧ (selOf (setSel wHost .a { oneBank := true, highBank := true }) .a).highBank ≠ suspectHigh wHost 0 :=
  by decide +kernel

theorem witness_FaultInputsCollectAndLatch_7 : (selOf (setSel wHost .a { collecting := true }) .a).collecting = true ∧ (selOf (setSel wHost .a { collecting := true }) .a).openedAt + ob wHost (drvBase .a + 0x700) 5 ≤ 2 ^ 40 :=
  by decide +kernel

theorem witness_FaultInputsCollectAndLatch_8 : (selOf (setSel wHost .a { ascDue := some .ascLow, choice := .freewheel }) .a).ascDue = some .ascLow ∧ (selOf (setSel wHost .a { ascDue := some .ascLow, choice := .freewheel }) .a).choice = .freewheel :=
  by decide +kernel

theorem witness_LinkGuardWatchesTheLink_1 : running wHost = true ∧ running wLink = true ∧ ob wLink 0x2100 1 ≠ 0xFFFF ∧ ob wHost 0x2100 1 = 0xFFFF ∧ guardRuns wHost = false :=
  by decide +kernel

theorem witness_LinkGuardWatchesTheLink_2 : guardRuns wLink = true ∧ wLink.link.stale = false ∧ wLink.link.wordAt + ob wLink 0x2100 5 * 1000 ≤ 2 ^ 40 :=
  by decide +kernel

theorem witness_LinkGuardWatchesTheLink_3 : guardRuns wDump = true ∧ running wDump = true ∧ dumpCmd wDump = true ∧ wDump.link.dumpOn = true ∧ wDump.link.dumpSeen = false ∧ wDump.link.dumpAt + nsTime 50000 ≤ wDump.dt ∧ wDump.link.guardAt + nsTime (ob wDump 0x2100 8 * 1000000) ≤ wDump.dt :=
  by decide +kernel

theorem witness_LinkGuardWatchesTheLink_4 : wHost.link.pulse = none ∧ dumpReady wHost = false ∧ dumpReady { putOb (putOb wDump 0x2100 6 0) 0x2102 0 0x7F000000 with link := {}, outr := { startAt := 1 } } = true :=
  by decide +kernel

theorem witness_LinkGuardWatchesTheLink_5 : (fun s : State => s.link.pulse = some (2 ^ 80, false) ∧ running s = true ∧ pulseOn s = true ∧ isShored s 0x2100 = false ∧ (muxInput (ob s (seqBase 0) 1) (ob s (seqBase 0 + 1) 1)).isSome = true ∧ ob s 0x2100 6 = 0) { putOb wDump 0x2100 6 0 with link := { pulse := some (2 ^ 80, false) } } :=
  by decide +kernel

theorem witness_LinkGuardWatchesTheLink_6 : (fun s : State => s.link.pulse = some (0, false) ∧ pulseOn s = false) { wDump with link := { pulse := some (0, false) } } :=
  by decide +kernel

theorem witness_LinkGuardWatchesTheLink_7 : f32Val (scaleCode (putOb wHost 0x2100 7 0x7F000000) (ob (putOb wHost 0x2100 7 0x7F000000) 0x2100 6) 0).1 < obF (putOb wHost 0x2100 7 0x7F000000) 0x2100 7 ∧ ¬ (f32Val (scaleCode (putOb wHost 0x2100 7 0xFF000000) (ob (putOb wHost 0x2100 7 0xFF000000) 0x2100 6) 0).1 < obF (putOb wHost 0x2100 7 0xFF000000) 0x2100 7) :=
  by decide +kernel

theorem witness_ChargingSessionSteps_1 : (fun s : State => atStep s 1 = true ∧ ob s 0x5101 1 = 2 ∧ s.chg.pwm = true ∧ 6 ≤ obF s 0x5101 5 ∧ ob s 0x5102 2 = 1) (putOb (putOb (putOb (wChg { step := 1, pwm := true }) 0x5101 1 2) 0x5101 5 0x41200000) 0x5102 2 1) :=
  by decide +kernel

theorem witness_ChargingSessionSteps_2 : atStep (wChg { step := 2 }) 1 = false ∧ atStep (wChg { step := 2 }) 2 = true ∧ gridReady (wChg { step := 2 }) = false ∧ (wChg { step := 2 }).chg.t0 + ob wHost 0x5003 3 * 1000000 ≤ 2 ^ 60 :=
  by decide +kernel

theorem witness_ChargingSessionSteps_3 : gridReady wGridOk = true ∧ atStep wGridOk 2 = true :=
  by decide +kernel

theorem witness_ChargingSessionSteps_4 : atStep (wChg { step := 3 }) 3 = true ∧ atStep (wChg { step := 3 }) 2 = false ∧ atStep (wChg { step := 2 }) 3 = false :=
  by decide +kernel

theorem witness_ChargingSessionSteps_5 : atStep wBus 3 = true ∧ busPrecharged wBus = true ∧ busPrecharged { wBus with objs := tabSetD dfltAt wBus.objs (oaddr 0x5203 7) 0x43000000 } = false :=
  by decide +kernel

theorem witness_ChargingSessionSteps_6 : (wChg { step := 4 }).chg.gridSince = 0 ∧ atStep (wChg { step := 4 }) 4 = true ∧ 0 + 20000000 ≤ now { wChg { step := 4 } with dt := 2 ^ 62 } ∧ atStep (wChg { step := 5 }) 4 = false ∧ atStep (wChg { step := 5 }) 23 = false :=
  by decide +kernel

theorem witness_ChargingSessionSteps_7 : (fun s : State => atStep s 5 = true ∧ s.chg.gridSince = 0 ∧ busAtRef s = true) (setChg wBus (fun y => { y with step := 5 })) :=
  by decide +kernel

theorem witness_ChargingSessionSteps_8 : (fun s : State => atStep s 5 = false ∧ atStep s 22 = true ∧ busAtRef s = true) (setChg wBus (fun y => { y with step := 22 })) :=
  by decide +kernel

theorem witness_ChargingSessionPausesAndEnds_1 : atStep (wChg { step := 6, zeroSince := 1, endSince := 1 }) 6 = true ∧ ob wHost 0x5004 4 * 1000000000 ≤ 2 ^ 60 :=
  by decide +kernel

theorem witness_ChargingSessionPausesAndEnds_2 : atStep (wChg { step := 7, posSince := 1 }) 7 = true ∧ (wChg { step := 7, posSince := 1 }).chg.gridSince = 0 ∧ atStep (wChg { step := 6 }) 7 = false ∧ (wChg { step := 6 }).chg.endSince = 0 ∧ (wChg { step := 6 }).chg.zeroSince = 0 :=
  by decide +kernel

theorem witness_ChargingSessionPausesAndEnds_3 : running (wChg { timerOn := true, bind := 8 }) = true ∧ (wChg { timerOn := true, bind := 8 }).chg.timerOn = true ∧ (wChg { bind := 7 }).chg.bind ≠ 8 ∧ (wChg {}).chg.timerOn = false :=
  by decide +kernel

theorem witness_ChargingSessionPausesAndEnds_4 : obF (wChg { step := 8 }) 0x5005 8 = 0 ∧ running (wChg { step := 8 }) = true ∧ 0 + 100000000 ≤ now { wChg { step := 8 } with dt := 2 ^ 62 } :=
  by decide +kernel

theorem witness_ChargingSessionPausesAndEnds_5 : bit (wChg { pfcEnd := true, pfc := 1 }).chg.pfc 0 = true ∧ (zeroCrossings 0).any (fun z => (srcPass { wChg { pfcEnd := true, pfc := 1 } with rods := [(3, { pos := 5, prev := 0 - 5, moved := 10 })] } 3 (z * 2 ^ 32)).isSome) = true :=
  by decide +kernel

theorem witness_ChargingSessionPausesAndEnds_6 : (wChg { step := 9, pfc := 0 }).chg.pfc = 0 ∧ (wChg { step := 9 }).chg.v2l = false ∧ running (wChg { step := 9 }) = true ∧ (wChg {}).chg.step ≠ 9 ∧ (wChg {}).chg.step ≠ 8 ∧ (wChg {}).chg.pfcEnd = false :=
  by decide +kernel

theorem witness_ChargingSessionPausesAndEnds_7 : fnState (wChg { step := 5, gridSince := 1 }) .charger = .run ∧ ob wHost 0x5203 3 * 1000000 ≤ 2 ^ 60 :=
  by decide +kernel

theorem witness_ChargingSessionPausesAndEnds_8 : (wChg { step := 9, reason := 5, reasonAt := 7 }).chg.reasonAt ≠ now (wChg { step := 9, reason := 5, reasonAt := 7 }) :=
  by decide +kernel

theorem witness_InletLimitsAndVehicleToLoad_1 : inletRuns wHost = true ∧ now wHost < wHost.chg.pilotAt + 10000000 ∧ now wHost < wHost.chg.ppAt + 10000000 ∧ now wHost < wHost.chg.limAt + 50000 ∧ wHost.chg.pilotAt + 10000000 ≤ now { wHost with dt := 2 ^ 62 } ∧ wHost.chg.ppAt + 10000000 ≤ now { wHost with dt := 2 ^ 62 } ∧ wHost.chg.limAt + 50000 ≤ now { wHost with dt := 2 ^ 62 } :=
  by decide +kernel

theorem witness_InletLimitsAndVehicleToLoad_2 : wHost.chg.pilotRun < 2 ∧ 2 ≤ (wChg { pilotRun := 2, pilotCand := 1 }).chg.pilotRun ∧ (3 : Nat) ≤ 4 :=
  by decide +kernel

theorem witness_InletLimitsAndVehicleToLoad_3 : isShored wHost 0x5000 = false ∧ isShored wHost 0x5200 = false ∧ isShored wHost 0x5300 = false ∧ isShored wHost 0x5400 = false :=
  by decide +kernel

theorem witness_InletLimitsAndVehicleToLoad_4 : (served wHost (wReq [0, 0, 0, 0x48] 9) 0x5300 1).any (fun p => !isShored p.1 0x5300 && decide (f32Val (storedOf 9 p.2.data) ≤ rodMaxHz (viewNow p.1) 4) && decide (f32Val (storedOf 9 p.2.data) * (ob p.1 0x5300 5 : Nat) ≤ 2000000)) = true :=
  by decide +kernel

theorem witness_InletLimitsAndVehicleToLoad_5 : (served (putOb wHost 0x5300 5 16) (wReq [0, 0x50, 0xC3, 0x48] 9) 0x5300 1).any (fun p => !isShored p.1 0x5300 && decide (2000000 < f32Val (storedOf 9 p.2.data) * (ob p.1 0x5300 5 : Nat))) = true :=
  by decide +kernel

theorem witness_InletLimitsAndVehicleToLoad_6 : (served { wPre with led := { wPre.led with shored := [shoredBlk 0x5300] } } (wReq [0, 0, 0, 0x48] 9) 0x5300 1).any (fun p => isShored p.1 0x5300) = true :=
  by decide +kernel

theorem witness_InletLimitsAndVehicleToLoad_7 : atStep (wChg { step := 21, backfeed := true }) 21 = true ∧ atStep (wChg { step := 22 }) 21 = false ∧ 0 + 100000000 ≤ now { wChg { step := 21 } with dt := 2 ^ 62 } :=
  by decide +kernel

theorem witness_InletLimitsAndVehicleToLoad_8 : atStep (wChg { step := 24 }) 24 = true ∧ atStep (wChg { step := 26 }) 24 = false ∧ atStep (wChg { step := 26 }) 26 = true ∧ ob wHost 0x5400 6 * 1000000 ≤ 2 ^ 60 ∧ 0 < ob wHost 0x5400 6 * 1000000 ∧ atStep wHost 24 = false ∧ atStep wHost 26 = false :=
  by decide +kernel

theorem witness_InletLimitsAndVehicleToLoad_9 : atStep (wChg { step := 25, overSince := 1 }) 25 = true ∧ ob wHost 0x5400 7 * 1000000 ≤ 2 ^ 60 :=
  by decide +kernel

theorem witness_ConverterStartsAndStops_1 : running wHost = true ∧ isShored wHost 0x5800 = false ∧ isShored wHost 0x5900 = false ∧ now wHost < wHost.cnv.limAt + 50000 ∧ wHost.cnv.limAt + 50000 ≤ now { wHost with dt := 2 ^ 62 } :=
  by decide +kernel

theorem witness_ConverterStartsAndStops_2 : cnvStep (wCnv { step := 1 }) 1 = true ∧ 0 + ob wHost 0x5900 4 * 1000000 ≤ 2 ^ 60 ∧ busAtLink (wCnv { step := 1 }) = true :=
  by decide +kernel

theorem witness_ConverterStartsAndStops_3 : cnvStep (wCnv { step := 2 }) 2 = true ∧ cnvStep (wCnv { step := 2 }) 1 = false ∧ cnvStep (wCnv { step := 12 }) 12 = true ∧ cnvStep (wCnv { step := 11 }) 11 = true ∧ linkAtTarget (putOb (wCnv { step := 12 }) 0x5804 1 0) = true ∧ linkAtTarget (putOb wHost 0x5804 1 0x43000000) = false :=
  by decide +kernel

theorem witness_ConverterStartsAndStops_4 : cnvStep (wCnv { step := 13 }) 13 = true ∧ cnvStep (wCnv { step := 12 }) 13 = false ∧ ob wHost 0x5804 5 * 1000000 ≤ 2 ^ 60 ∧ 0 < ob wHost 0x5804 4 * 1000000 :=
  by decide +kernel

theorem witness_ConverterStartsAndStops_5 : tabGet 0 { wHost with fired := [(latchIndex wHost.marks 0x5900 (ob wHost 0x5901 8), 2)] }.fired (latchIndex wHost.marks 0x5900 (ob wHost 0x5901 8)) = 2 :=
  by decide +kernel

theorem witness_ConverterStartsAndStops_6 : (wCnv { step := 20 }).cnv.step = 20 ∧ 0 + 10000000 ≤ now { wCnv { step := 20 } with dt := 2 ^ 62 } ∧ running (wCnv { step := 20 }) = true :=
  by decide +kernel

theorem witness_ConverterStartsAndStops_7 : (srcPass { wCnv { step := 21 } with rods := [(5, { pos := 5, prev := 0 - 5, moved := 10 })] } 5 0).isSome = true ∧ (wCnv { step := 21 }).cnv.buckEnd = false ∧ fnState (cnvOff (wCnv { step := 21 })) .converter = .run ∧ (srcPass (wCnv { step := 21 }) 5 0).isSome = false :=
  by decide +kernel

theorem witness_ConverterStartsAndStops_8 : (served wHost (wReq [0, 0, 0, 0x48] 9) 0x5900 2).any (fun p => !isShored p.1 0x5900 && decide (f32Val (storedOf 9 p.2.data) ≤ rodMaxHz (viewNow p.1) 5)) = true :=
  by decide +kernel

theorem witness_ConverterStartsAndStops_9 : (served { wPre with led := { wPre.led with shored := [shoredBlk 0x5900] } } (wReq [0, 0, 0, 0x48] 9) 0x5900 2).any (fun p => isShored p.1 0x5900) = true :=
  by decide +kernel

theorem witness_ConverterStartsAndStops_10 : (served (putOb wHost 0x2851 2 22334) (wReq [0, 0, 0, 0x48] 9) 0x5900 2).any (fun p => !isShored p.1 0x5900 && decide (rodMaxHz (viewNow p.1) 5 < f32Val (storedOf 9 p.2.data))) = true :=
  by decide +kernel

theorem witness_AxleHvilAndCamp_1 : running { wHost with link := { ov1 := true } } = true ∧ now wHost < wHost.axle.t0 + 1000000 ∧ wHost.link.ov1 = false ∧ wHost.axle.ramp = 0 ∧ running State.reset = false :=
  by decide +kernel

theorem witness_AxleHvilAndCamp_2 : fnLive (setFn (setFn wHost .driveA .run) .driveB .run) .driveA = true ∧ fnLive (setFn (setFn wHost .driveA .run) .driveB .run) .driveB = true :=
  by decide +kernel

theorem witness_AxleHvilAndCamp_3 : (served wHost (wReq [1] 2) 0x2200 1).any (fun p => decide (p.1.dev = .operational) && !fnAll.any (fnLive p.1) && decide (p.1.camp.step = 0)) = true :=
  by decide +kernel

theorem witness_AxleHvilAndCamp_4 : (served (wCamp 1) (wReq [1] 2) 0x2200 1).any (fun p => decide (p.1.camp.step ≠ 0)) = true :=
  by decide +kernel

theorem witness_AxleHvilAndCamp_5 : (served (setFn wHost .driveA .run) (wReq [1] 2) 0x2200 1).any (fun p => fnAll.any (fnLive p.1)) = true :=
  by decide +kernel

theorem witness_AxleHvilAndCamp_6 : running (wCamp 1) = true ∧ (wCamp 1).camp.step = 1 ∧ campLinkOk (wCamp 1) = true ∧ campLinkOk (putOb (putOb (wCamp 1) 0x2100 1 0) 0x2200 2 0) = false ∧ (wCamp 1).camp.t0 + ob (wCamp 1) 0x2200 3 * 1000000 ≤ 2 ^ 60 :=
  by decide +kernel

theorem witness_AxleHvilAndCamp_7 : (wCamp 2).camp.step = 2 ∧ (wCamp 2).camp.t0 + 1000000 ≤ now { wCamp 2 with dt := 2 ^ 62 } ∧ now (wCamp 2) < (wCamp 2).camp.t0 + 1000000 :=
  by decide +kernel

theorem witness_AxleHvilAndCamp_8 : running (wCamp 3) = true ∧ (wCamp 3).camp.step = 3 ∧ (wCamp 3).camp.woken = none ∧ (setCamp (wCamp 3) (fun x => { x with woken := some { codes := [1], wins := [], periodsX32 := 0, periodsRc := 0 } })).camp.woken = some { codes := [1], wins := [], periodsX32 := 0, periodsRc := 0 } ∧ (wCamp 2).camp.step ≠ 3 :=
  by decide +kernel

theorem witness_AxleHvilAndCamp_9 : wakeCodes (campArm (wCamp 1)) { codes := [1], wins := [], periodsX32 := 0, periodsRc := 0 } ≠ [] ∧ (wCamp 1).dev ≠ .camp ∧ wakeCodes (campArm (wCamp 3)) { codes := [1], wins := [], periodsX32 := 0, periodsRc := 0 } ≠ [] ∧ wHost.camp.step = 0 :=
  by decide +kernel

theorem witness_AxleHvilAndCamp_10 : wCamped.dev = .camp ∧ wCamped.power.ctl = .idle ∧ wakeCodes wCamped { codes := [1], wins := [], periodsX32 := 0, periodsRc := 0 } = [1] ∧ wakeCodes wCamped { codes := [7], wins := [], periodsX32 := 0, periodsRc := 0 } = [] :=
  by decide +kernel

theorem witness_CommutatorsAndPump_1 : (periodStart wHost 0).isNone = true ∧ (periodStart wAct 0).any (fun t => decide ((actOf wAct 0).startAt ≠ t)) = true ∧ running wAct = true ∧ isShored wAct (actBase 0) = false :=
  by decide +kernel

theorem witness_CommutatorsAndPump_2 : (periodStart wAct 0).any (fun t => decide ((actOf (setAct wAct 0 { startAt := t }) 0).startAt = t)) = true :=
  by decide +kernel

theorem witness_CommutatorsAndPump_3 : (pwmOn wPwm 0).any (fun g => decide (g.hiAt + phasesOf (ob wPwm (actBase 0) 9) ≤ phases { wPwm with tick := 2 ^ 40 })) = true ∧ (actOf wPwm 0).ilim = false ∧ (pwmOn wHost 0).isNone = true :=
  by decide +kernel

theorem witness_CommutatorsAndPump_4 : actAbove wPwm 0 7 (2 ^ 40) = true ∧ actAbove wPwm 0 8 (2 ^ 40) = true ∧ actAbove (putOb wPwm (actBase 0) 7 0x42C80000) 0 7 (- 2 ^ 40) = false :=
  by decide +kernel

theorem witness_CommutatorsAndPump_5 : (tabGet ({} : ActLeg) (actOf wPwm 0).legs 0).hi = true ∧ (tabGet ({} : ActLeg) (actOf wPwm 0).legs 0).ref = false ∧ (tabGet ({} : ActLeg) (actOf wHost 0).legs 0).hi = false :=
  by decide +kernel

theorem witness_CommutatorsAndPump_6 : ob wArm 0x5E00 1 ≠ 1 ∧ running wArm = true ∧ ob wHost 0x5E00 1 = 1 :=
  by decide +kernel

theorem witness_CommutatorsAndPump_7 : running wPump = true ∧ fnLive wPump .pump = true ∧ chanGood wPump (ob wPump 0x5C03 2) = true ∧ wPump.pump.on = true ∧ chanVal wPump (ob wPump 0x5C03 2) < obF wPump 0x5C03 3 - obF wPump 0x5C03 4 ∧ obF wPump 0x5C03 6 = 0 ∧ fnLive wHost .pump = false ∧ wPump.pump.evalAt + 10000000 ≤ 2 ^ 60 :=
  by decide +kernel

theorem witness_CommutatorsAndPump_8 : fnState wPump .pump = .run ∧ wPump.pump.start = true ∧ (tabGet ({} : Hall) wPump.hall 0).io.motion = 2 ∧ wHost.pump.start = false :=
  by decide +kernel

theorem witness_CommutatorsAndPump_9 : wPump.pump.brake = true ∧ (tabGet ({} : Hall) { wPump with hall := [(0, { io := { motion := 0 } })] }.hall 0).io.motion = 0 ∧ wPump.pump.brakeAt + ob wPump 0x5C03 9 * 1000000 ≤ 2 ^ 60 :=
  by decide +kernel

theorem witness_ParkLockSequence_1 : (served wHost (byteReq (wReq [] 0) 2 1) 0x5C13 1).any (fun p => decide (fnState p.1 .parkLock ≠ .run)) = true :=
  by decide +kernel

theorem witness_ParkLockSequence_2 : (served (setFn wPark .driveA .run) (byteReq (wReq [] 0) 2 1) 0x5C13 1).any (fun p => decide (fnState p.1 .parkLock = .run) && decide (fnState p.1 .driveA = .run)) = true :=
  by decide +kernel

theorem witness_ParkLockSequence_3 : (served wPark (byteReq (wReq [] 0) 2 1) 0x5C13 1).any (fun p => decide (fnState p.1 .driveA ≠ .run) && parkInterlock p.1) = true :=
  by decide +kernel

theorem witness_ParkLockSequence_4 : (served wParkOk (byteReq (wReq [] 0) 2 1) 0x5C13 1).any (fun p => decide (fnState p.1 .driveB ≠ .run) && !parkInterlock p.1 && decide (parkReport p.1 ≠ 2) && decide (p.1.plock.seq ≠ 1)) = true :=
  by decide +kernel

theorem witness_ParkLockSequence_5 : (served { wParkOk with plock := { seq := 1 } } (byteReq (wReq [] 0) 2 1) 0x5C13 1).any (fun p => !parkInterlock p.1 && decide (p.1.plock.seq = 1)) = true :=
  by decide +kernel

theorem witness_ParkLockSequence_6 : (served (setFn wPark .charger .armed) (byteReq (wReq [] 0) 2 2) 0x5C13 1).any (fun p => fnLive p.1 .charger && decide (fnState p.1 .parkLock = .run)) = true :=
  by decide +kernel

theorem witness_ParkLockSequence_7 : (served wPark (byteReq (wReq [] 0) 2 2) 0x5C13 1).any (fun p => !fnLive p.1 .charger && decide (parkReport p.1 ≠ 1) && decide (p.1.plock.seq ≠ 2)) = true :=
  by decide +kernel

theorem witness_ParkLockSequence_8 : (served { wPark with plock := { seq := 2 } } (byteReq (wReq [] 0) 2 2) 0x5C13 1).any (fun p => !fnLive p.1 .charger && decide (p.1.plock.seq = 2)) = true :=
  by decide +kernel

theorem witness_ParkLockSequence_9 : running wPark = true ∧ parkThere { wPark with plock := { seq := 1 } } = false ∧ ob wPark 0x5C13 10 * 1000000 ≤ 2 ^ 60 ∧ parkThere { wParkAt with plock := { seq := 1 } } = true :=
  by decide +kernel

theorem witness_ParkLockSequence_10 : chanGood wTooth (ob wTooth 0x5C13 2) = true ∧ obF wTooth 0x5C13 7 ≤ chanVal wTooth (ob wTooth 0x5C13 2) ∧ parkThere { wTooth with plock := { seq := 1 } } = false :=
  by decide +kernel

theorem witness_ParkLockSequence_11 : parkInterlock wPark = true ∧ wPark.plock.seq = 0 ∧ fnState wPark .parkLock ≠ .shored ∧ fnState wPark .parkLock ≠ .lockout ∧ now wPark < wPark.plock.repAt + 1000000 :=
  by decide +kernel

theorem witness_ParkLockSequence_12 : (served wHost (byteReq (wReq [] 0) 2 2) 0x5C13 1).any (fun p => decide (fnState p.1 .parkLock ≠ .run)) = true :=
  by decide +kernel

theorem witness_ClutchSequence_1 : (served wHost (byteReq (wReq [] 0) 2 1) 0x5C23 1).any (fun p => decide (fnState p.1 .clutch ≠ .run)) = true :=
  by decide +kernel

theorem witness_ClutchSequence_2 : (served (wClu {}) (byteReq (wReq [] 0) 2 1) 0x5C23 1).any (fun p => decide (fnState p.1 .clutch = .run) && decide (fnState p.1 .driveB = .run) && clutchRodsOk p.1 && decide (p.1.clutch.st = 0)) = true :=
  by decide +kernel

theorem witness_ClutchSequence_3 : (served (wClu {}) (byteReq (wReq [] 0) 2 2) 0x5C23 1).any (fun p => decide (fnState p.1 .clutch = .run) && decide (fnState p.1 .driveB = .run)) = true :=
  by decide +kernel

theorem witness_ClutchSequence_4 : (served (setFn (wClu {}) .driveB .armed) (byteReq (wReq [] 0) 2 2) 0x5C23 1).any (fun p => decide (fnState p.1 .clutch = .run) && decide (fnState p.1 .driveB ≠ .run)) = true :=
  by decide +kernel

theorem witness_ClutchSequence_5 : clutchAt (wClu { st := 1, bandSince := 1 }) 1 = true ∧ rabs (clutchSlip (wClu { st := 1 })) ≤ obF (wClu {}) 0x5C24 3 ∧ ob wHost 0x5C24 4 * 1000000 ≤ 2 ^ 60 ∧ ob wHost 0x5C24 9 * 1000000 ≤ 2 ^ 60 :=
  by decide +kernel

theorem witness_ClutchSequence_6 : clutchAt (wClu { st := 2 }) 2 = true ∧ clutchAt (wClu { st := 2 }) 1 = false ∧ clutchAt (wClu { st := 2 }) 5 = false ∧ clutchAt (wClu { st := 5 }) 2 = false ∧ 0 < ob wHost 0x5C23 9 * 1000000 :=
  by decide +kernel

theorem witness_ClutchSequence_7 : 2 * obF (wSlip) 0x5C24 3 < rabs (clutchSlip wSlip) ∧ clutchAt wSlip 2 = true :=
  by decide +kernel

theorem witness_ClutchSequence_8 : posIn (putOb (putOb (putOb (chan0 (wClu { st := 2 }) 0) 0x5C23 2 0) 0x5C23 5 0xC2C80000) 0x5C23 6 0x42C80000) 0x5C23 2 5 = true :=
  by decide +kernel

theorem witness_ClutchSequence_9 : clutchAt (wClu { st := 5 }) 5 = true ∧ rabs (drvOf (wClu { st := 5 }) .b).tref ≤ obF wHost 0x5C24 8 :=
  by decide +kernel

theorem witness_ClutchSequence_10 : (wClu { st := 3 }).clutch.torqueAt + 1000000 ≤ 2 ^ 60 ∧ clutchAt (wClu { st := 3 }) 3 = true ∧ clutchRodsOk (wClu { st := 3 }) = true ∧ fnState (wClu {}) .driveB = .run :=
  by decide +kernel

theorem witness_ClutchSequence_11 : now wHost < wHost.clutch.torqueAt + 1000000 ∧ running State.reset = false ∧ fnState (wClu {}) .clutch ≠ .shored :=
  by decide +kernel

theorem witness_ClutchSequence_12 : (served (wClu { st := 2 }) (byteReq (wReq [] 0) 2 1) 0x5C23 1).any (fun p => decide (fnState p.1 .clutch = .run) && decide (fnState p.1 .driveB = .run) && clutchRodsOk p.1 && decide (p.1.clutch.st = 2)) = true :=
  by decide +kernel

theorem witness_ClutchSequence_13 : fnState (setFn (wClu { st := 3 }) .driveB .armed) .driveB ≠ .run ∧ clutchAt (setFn (wClu { st := 3 }) .driveB .armed) 3 = true :=
  by decide +kernel

theorem witness_ClutchSequence_14 : (served (wClu { st := 2 }) (byteReq (wReq [] 0) 2 1) 0x5C23 1).any (fun p => decide (fnState p.1 .clutch = .run) && decide (fnState p.1 .driveB = .run) && clutchRodsOk p.1 && decide (p.1.clutch.st = 2)) = true :=
  by decide +kernel

theorem witness_ClutchSequence_15 : fnState (setFn (wClu { st := 3 }) .driveB .armed) .driveB ≠ .run ∧ clutchAt (setFn (wClu { st := 3 }) .driveB .armed) 3 = true :=
  by decide +kernel

theorem witness_ClutchSequence_16 : (served (wClu { st := 2 }) (byteReq (wReq [] 0) 2 1) 0x5C23 1).any (fun p => decide (fnState p.1 .clutch = .run) && decide (fnState p.1 .driveB = .run) && clutchRodsOk p.1 && decide (p.1.clutch.st = 2)) = true :=
  by decide +kernel

theorem witness_ClutchSequence_17 : fnState (setFn (wClu { st := 3 }) .driveB .armed) .driveB ≠ .run ∧ clutchAt (setFn (wClu { st := 3 }) .driveB .armed) 3 = true :=
  by decide +kernel

theorem witness_ClutchSequence_18 : (served (wClu { st := 2 }) (byteReq (wReq [] 0) 2 1) 0x5C23 1).any (fun p => decide (fnState p.1 .clutch = .run) && decide (fnState p.1 .driveB = .run) && clutchRodsOk p.1 && decide (p.1.clutch.st = 2)) = true :=
  by decide +kernel

theorem witness_ClutchSequence_19 : fnState (setFn (wClu { st := 3 }) .driveB .armed) .driveB ≠ .run ∧ clutchAt (setFn (wClu { st := 3 }) .driveB .armed) 3 = true :=
  by decide +kernel

theorem witness_SupervisionAndWaybill_1 : running wHost = true ∧ running State.reset = false ∧ serving State.reset = false ∧ serving wHost = true ∧ SignIn.early ≠ .inWindow :=
  by decide +kernel

theorem witness_SupervisionAndWaybill_2 : wbFormOk (takeRx wHost wbBad.tr wbBad.bytes).2 wbBad = false :=
  by decide +kernel

theorem witness_SupervisionAndWaybill_3 : wbFormOk (takeRx wWb (wbGood 1).tr (wbGood 1).bytes).2 (wbGood 1) = true ∧ wbSeqOk (wbOf (takeRx wWb (wbGood 1).tr (wbGood 1).bytes).2 0) (wbField (wbGood 1) 2 2) = true ∧ (wbOf (takeRx wWb (wbGood 1).tr (wbGood 1).bytes).2 0).slot = none ∧ (wbFreeSlot (takeRx wWb (wbGood 1).tr (wbGood 1).bytes).2).isSome = true :=
  by decide +kernel

theorem witness_SupervisionAndWaybill_4 : wbFormOk (takeRx wWb (wbGood 9).tr (wbGood 9).bytes).2 (wbGood 9) = true ∧ wbSeqOk (wbOf (takeRx wWb (wbGood 9).tr (wbGood 9).bytes).2 0) (wbField (wbGood 9) 2 2) = false :=
  by decide +kernel

theorem witness_SupervisionAndWaybill_5 : (wbOf (takeRx (setWb wWb 0 { st := 3, slot := some 0 }) (wbGood 1).tr (wbGood 1).bytes).2 0).slot = some 0 ∧ wbSeqOk (wbOf (takeRx (setWb wWb 0 { st := 3, slot := some 0 }) (wbGood 1).tr (wbGood 1).bytes).2 0) (wbField (wbGood 1) 2 2) = true ∧ wbFormOk (takeRx (setWb wWb 0 { st := 3, slot := some 0 }) (wbGood 1).tr (wbGood 1).bytes).2 (wbGood 1) = true :=
  by decide +kernel

theorem witness_SupervisionAndWaybill_6 : (wbFreeSlot (takeRx wWbFull (wbGood 1).tr (wbGood 1).bytes).2).isNone = true ∧ (wbOf (takeRx wWbFull (wbGood 1).tr (wbGood 1).bytes).2 0).slot = none ∧ wbFormOk (takeRx wWbFull (wbGood 1).tr (wbGood 1).bytes).2 (wbGood 1) = true ∧ wbSeqOk (wbOf (takeRx wWbFull (wbGood 1).tr (wbGood 1).bytes).2 0) (wbField (wbGood 1) 2 2) = true :=
  by decide +kernel

theorem witness_SupervisionAndWaybill_7 : (wbOf (setWb wWb 0 { st := 2 }) 0).st = 2 ∧ (wbOf wWb 0).st = 0 ∧ serving (setWb wWb 0 { st := 2 }) = true ∧ max (wbOf (setWb wWb 0 { st := 2 }) 0).lastRx (wbOf (setWb wWb 0 { st := 2 }) 0).since + wbWatchdog wWb 0 * 97 / 100 ≤ 2 ^ 60 :=
  by decide +kernel

theorem witness_SupervisionAndWaybill_8 : (served wHost (wReq [0] 2) 0x6040 6).any (fun p => decide (ob p.1 (wbIdx (leNat p.2.data)) 1 ≠ 1)) = true :=
  by decide +kernel

theorem witness_SupervisionAndWaybill_9 : (served wWb (wReq [0] 2) 0x6040 6).any (fun p => decide (ob p.1 (wbIdx (leNat p.2.data)) 1 = 1) && decide ((wbOf p.1 (leNat p.2.data)).slot = none) && (wbFreeSlot p.1).isSome) = true :=
  by decide +kernel

theorem witness_SupervisionAndWaybill_10 : (served wWbFull (wReq [0] 2) 0x6040 6).any (fun p => decide (ob p.1 (wbIdx (leNat p.2.data)) 1 = 1) && decide ((wbOf p.1 (leNat p.2.data)).slot = none) && (wbFreeSlot p.1).isNone) = true :=
  by decide +kernel

theorem witness_SupervisionAndWaybill_11 : running { wHost with saf := { disAt := 1, lowSince := 1 } } = true ∧ wHost.saf.disAt = 0 ∧ wHost.saf.discharged = false ∧ wHost.saf.sf3Fail = false ∧ 0 + ob wHost 0x6006 1 * 970000 ≤ 2 ^ 60 :=
  by decide +kernel

theorem witness_SupervisionAndWaybill_12 : (admitted wHost (wReq [0, 0, 0, 0] 4) 2 0x6007 0).2.any (fun q => decide (q.idx = 0x6007) && decide (q.sub = 0)) = true ∧ hasRole wHost 0 2 = true :=
  by decide +kernel

theorem witness_SupervisionAndWaybill_13 : rxReady wHost wbBad.tr wbBad.bytes = true ∧ rxReady wWb (wbGood 1).tr (wbGood 1).bytes = true ∧ serving wWb = true :=
  by decide +kernel

theorem witness_TwinKeyTransaction_1 : (served wTk (byteReq (wReqN 1 [] 0) 2 1) 0x6001 1).any (fun p => decide (p.1.saf.tk ≠ 0)) = true :=
  by decide +kernel

theorem witness_TwinKeyTransaction_2 : (served { wTk with saf := {}, led := { wTk.led with shored := [] } } (byteReq (wReqN 1 [] 0) 2 1) 0x6001 1).any (fun p => decide (p.1.saf.tk = 0) && !shoredBy p.1 0x6000 p.2.ses) = true :=
  by decide +kernel

theorem witness_TwinKeyTransaction_3 : (served wTkShored (byteReq (wReqN 1 [] 0) 2 1) 0x6001 1).any (fun p => decide (p.1.saf.tk = 0) && decide (p.1.dev = .preop) && shoredBy p.1 0x6000 p.2.ses) = true :=
  by decide +kernel

theorem witness_TwinKeyTransaction_4 : (served wTk (byteReq (wReqN 1 [] 0) 2 2) 0x6001 1).any (fun p => decide (p.1.saf.tk = 1) && decide (p.1.saf.keeper = some p.2.ses) && decide (tkCheck p.1 (tkView p.1) p.1.saf.tkList = 0)) = true :=
  by decide +kernel

theorem witness_TwinKeyTransaction_5 : (served { wTk with saf := {} } (byteReq (wReqN 1 [] 0) 2 2) 0x6001 1).any (fun p => decide (p.1.saf.tk ≠ 1)) = true :=
  by decide +kernel

theorem witness_TwinKeyTransaction_6 : (served wTk (wReqN 1 [0, 0, 0, 0] 4) 0x6001 5).any (fun p => decide (p.1.saf.tk ≠ 2)) = true :=
  by decide +kernel

theorem witness_TwinKeyTransaction_7 : (served { wTk with saf := { wTk.saf with tk := 2 } } (wReqN 1 [0, 0, 0, 0] 4) 0x6001 5).any (fun p => decide (p.1.saf.tk = 2) && !tkDistinct p.1 p.2.ses) = true :=
  by decide +kernel

theorem witness_TwinKeyTransaction_8 : (served wTk2 (wReqN 2 [5, 0, 0, 0] 4) 0x6001 5).any (fun p => decide (p.1.saf.tk = 2) && tkDistinct p.1 p.2.ses && decide (leNat p.2.data = p.1.saf.proposed)) = true :=
  by decide +kernel

theorem witness_TwinKeyTransaction_9 : (served wTk2 (wReqN 2 [6, 0, 0, 0] 4) 0x6001 5).any (fun p => tkDistinct p.1 p.2.ses && decide (leNat p.2.data ≠ p.1.saf.proposed)) = true :=
  by decide +kernel

theorem witness_TwinKeyTransaction_10 : (served wTk (byteReq (wReqN 1 [] 0) 2 3) 0x6001 1).any (fun p => decide (p.1.saf.tk ≠ 3)) = true :=
  by decide +kernel

theorem witness_TwinKeyTransaction_11 : (served { wTk with saf := { wTk.saf with tk := 3 } } (byteReq (wReqN 1 [] 0) 2 3) 0x6001 1).any (fun p => decide (p.1.saf.tk = 3) && decide (p.1.saf.keeper = some p.2.ses) && decide (p.1.saf.committing = none)) = true :=
  by decide +kernel

theorem witness_TwinKeyTransaction_12 : wTk.saf.committing = none ∧ ({ wTk with saf := { wTk.saf with committing := some ({ ses := 1, reqid := 0, stamp := 0, svc := 2, idx := 0x6001, sub := 1, ty := 2, data := [3], xl := false, mac := 0 }, 0) } } : State).saf.committing ≠ none ∧ running wTk = true ∧ wTk.saf.staged = [] ∧ 0 + (10 * 0 + 20) * 970000 ≤ now { wTk with dt := 2 ^ 62 } :=
  by decide +kernel

theorem witness_TwinKeyTransaction_13 : (served wTk (byteReq (wReqN 1 [] 0) 2 4) 0x6001 1).any (fun p => decide (p.1.saf.tk ≠ 0) && decide (p.1.saf.committing = none) && decide (p.1.saf.keeper = some p.2.ses)) = true :=
  by decide +kernel

theorem witness_TwinKeyTransaction_14 : (served { wTk with saf := {} } (byteReq (wReqN 1 [] 0) 2 4) 0x6001 1).any (fun p => decide (p.1.saf.tk = 0)) = true :=
  by decide +kernel

theorem witness_TwinKeyTransaction_15 : wTk.saf.tk ≠ 0 ∧ wTk.saf.tkOpened + ob wTk 0x6001 6 * 970000000 ≤ 2 ^ 62 ∧ wHost.saf.tk = 0 ∧ wHost.dev = .operational ∧ running wHost = true :=
  by decide +kernel

theorem witness_TwinKeyTransaction_16 : (served wTkStage (wStage 0) 0x6202 1).any (fun p => decide (p.2.data.length = 2 * groupLen 0) && groupBlank p.1.fuse 0) = true ∧ (rowOf 0x6202 1).isSome = true :=
  by decide +kernel

theorem witness_TwinKeyTransaction_17 : (served wTkStage (wStage 6) 0x6202 7).any (fun p => decide (p.2.data.length = 2 * groupLen 6)) = true :=
  by decide +kernel

theorem witness_TwinKeyTransaction_18 : (served wTkStage { wStage 0 with data := [1, 2] } 0x6202 1).any (fun p => decide (p.2.data.length ≠ 2 * groupLen 0)) = true :=
  by decide +kernel

theorem witness_TwinKeyTransaction_19 : (served { wTk with saf := { wTk.saf with tk := 1, tkList := [oaddr 0x6202 1], staged := [] }, led := wTk.led } (byteReq (wReqN 1 [] 0) 2 2) 0x6001 1).any (fun p => decide (p.1.saf.tk = 1)) = true :=
  by decide +kernel

theorem witness_TwinKeyTransaction_20 : (served wTk2 (byteReq (wReqN 2 [] 0) 2 4) 0x6001 1).any (fun p => decide (p.1.saf.keeper ≠ some p.2.ses) && hasRole p.1 p.2.ses 16 && tkDistinct p.1 p.2.ses) = true :=
  by decide +kernel

theorem witness_TwinKeyTransaction_21 : (served { wTk2 with led := { wTk2.led with keySlots := [(1, { state := 1, roles := 31, keyId := 7 }), (2, { state := 1, roles := 31, keyId := 7 })] } } (byteReq (wReqN 2 [] 0) 2 4) 0x6001 1).any (fun p => decide (p.1.saf.keeper ≠ some p.2.ses) && hasRole p.1 p.2.ses 16 && !tkDistinct p.1 p.2.ses) = true :=
  by decide +kernel

theorem witness_TwinKeyTransaction_22 : (served { wTk2 with led := { wTk2.led with keySlots := [(1, { state := 1, roles := 31, keyId := 7 }), (2, { state := 1, roles := 15, keyId := 8 })] } } (byteReq (wReqN 2 [] 0) 2 4) 0x6001 1).any (fun p => decide (p.1.saf.keeper ≠ some p.2.ses) && !hasRole p.1 p.2.ses 16) = true :=
  by decide +kernel

theorem witness_FaultsEscalateAndRetire_1 : running State.reset = false ∧ running wHost = true ∧ wHost.tally.raised = [] ∧ wHost.dev ≠ .lockout ∧ effLevel (keyAt wHost 17) 5 = 5 :=
  by decide +kernel

theorem witness_FaultsEscalateAndRetire_2 : (keyAt (setKey wHost 17 { active := true, unack := true, eff := 2 }) 17).active = true ∧ (keyAt wHost 17).active = false :=
  by decide +kernel

theorem witness_FaultsEscalateAndRetire_3 : (nextCommit wRaised).isSome = true ∧ running wRaised = true ∧ nextCommit wHost = none :=
  by decide +kernel

theorem witness_FaultsEscalateAndRetire_4 : (served wHost (wReq [0xFF, 0xFF] 3) 0x6810 0).isSome = true ∧ (served wHost (wReq [0x1A, 0] 3) 0x6810 0).isSome = true :=
  by decide +kernel

theorem witness_FaultsEscalateAndRetire_5 : (wSame.tally.raised.find? (fun r => decide (r.cls = .clk) && decide (r.scope = 0) && decide (r.stamp = now wSame))).isSome = true :=
  by decide +kernel

theorem witness_FaultsEscalateAndRetire_6 : (keyAt (setKey wHost 17 { active := true, unack := false, eff := 2 }) 17).unack = false :=
  by decide +kernel

theorem witness_EthernetFiltersAndAnswers_1 : running wNet = true ∧ bootOb wNet 0x6C00 1 ≠ 0 ∧ ethDstOk wNet wEth = false ∧ running State.reset = false ∧ serving wNet = true :=
  by decide +kernel

theorem witness_EthernetFiltersAndAnswers_2 : ethDstOk wNet { wEth with dst := wMac } = true ∧ ethVlanOk wNet { wEth with dst := wMac } = true ∧ ethVlanOk wNet { wEth with dst := wMac, vid := some 9 } = false ∧ ipOk wNet { wEth with dst := wMac } = true ∧ ipOk wNet { wEth with ihl := 24 } = false ∧ wEth.dport = bootOb wNet 0x1030 1 ∧ wEth.udpSumOk = true :=
  by decide +kernel

theorem witness_EthernetFiltersAndAnswers_3 : pollUp wNet { sgmiiSync := false, anLink := true, fullDuplex := true, speed := 3, reg := 0 } = false ∧ wNet.net.link = false :=
  by decide +kernel

theorem witness_EthernetFiltersAndAnswers_4 : pollUp wNet { sgmiiSync := true, anLink := true, fullDuplex := true, speed := 3, reg := 0xFFFF } = true ∨ pollUp wNet { sgmiiSync := true, anLink := true, fullDuplex := true, speed := 3, reg := 0 } = true :=
  by decide +kernel

theorem witness_EthernetFiltersAndAnswers_5 : bootOb wNet 0x6C00 3 ≠ 0 ∧ (BitVec.ofNat 32 (bootOb wNet 0x6C00 3)).toNat = bootOb wNet 0x6C00 3 :=
  by decide +kernel

theorem witness_EthernetFiltersAndAnswers_6 : (served wHost (wReq [0, 0, 0, 0, 0, 0, 0, 0] 5) 0x6C03 0).any (fun p => mdioOk (leNat p.2.data) && !bit (leNat p.2.data) 63) = true :=
  by decide +kernel

theorem witness_EthernetFiltersAndAnswers_7 : (served wHost (wReq [0, 0, 0, 0, 0, 0, 0, 0x80] 5) 0x6C03 0).any (fun p => mdioOk (leNat p.2.data) && bit (leNat p.2.data) 63) = true :=
  by decide +kernel

theorem witness_EthernetFiltersAndAnswers_8 : (served wHost (wReq [0, 0, 0, 0, 0, 0, 0, 0x3F] 5) 0x6C03 0).any (fun p => !mdioOk (leNat p.2.data)) = true :=
  by decide +kernel

theorem witness_EthernetFiltersAndAnswers_9 : wHost.net.arpWait.find? (fun e => e.1 == 0) = none ∧ (wArpW.net.arpWait.find? (fun e => e.1 == 9)).any (fun e => decide (3 ≤ e.2.1)) = true ∧ 1000000000 ≤ now { wArpW with dt := 2 ^ 63 } :=
  by decide +kernel

theorem witness_EthernetFiltersAndAnswers_10 : wHost.net.wire = none ∧ ({ wHost with net := { wire := some 2 } } : State).net.wire = some 2 :=
  by decide +kernel

theorem witness_GptpAndDeviceTime_1 : ptpLate { wNet with dt := 2 ^ 64, net := { annAt := 1, syncAt := 1 } } true = true ∧ ptpLate { wNet with dt := 2 ^ 64, net := { annAt := 1, syncAt := 1 } } false = true ∧ ptpLate wNet true = false ∧ ptpLate wNet false = false :=
  by decide +kernel

theorem witness_GptpAndDeviceTime_2 : ptpMine wNet (wPtp 3) = true ∧ ptpMine wNet { wPtp 3 with domain := 9 } = false ∧ ({ wPtp 3 with twoStep := true } : PtpMsg).twoStep = true ∧ (wPtp 3).twoStep = false :=
  by decide +kernel

theorem witness_GptpAndDeviceTime_3 : ({ wNet with net := { sync := some (wPtp 3) } } : State).net.sync = some (wPtp 3) ∧ (wPtp 3).seq ≠ (wPtp 4).seq :=
  by decide +kernel

theorem witness_GptpAndDeviceTime_4 : serving { wNet with net := { link := true } } = true ∧ wNet.net.link = false ∧ wNet.net.pdAt = 0 ∧ wNet.net.pdPrev = none ∧ (wPtp 0).seq = wNet.net.pdSeq ∧ (wPtp 3).seq ≠ wNet.net.pdSeq ∧ wNet.net.seen = false :=
  by decide +kernel

theorem witness_GptpAndDeviceTime_5 : sourceGone (putOb { wNet with net := { seen := true } } 0x6C40 1 1) = true ∧ ob (putOb { wNet with net := { seen := true } } 0x6C40 1 1) 0x6C40 5 ≠ 3 ∧ sourceGone (putOb wNet 0x6C40 1 0) = false :=
  by decide +kernel

theorem witness_GptpAndDeviceTime_6 : (served wHost (wReq [1] 2) 0x6C40 1).any (fun p => decide (leNat p.2.data = 1)) = true ∧ (served wHost (wReq [0] 2) 0x6C40 1).isSome = true :=
  by decide +kernel

theorem witness_GptpAndDeviceTime_7 : (served (putOb wHost (canBaseIdx 0 + 1) 1 1) (wReq [2] 2) 0x6C40 1).any (fun p => decide (2 ≤ leNat p.2.data) && decide (ob p.1 (canBaseIdx (leNat p.2.data - 2) + 1) 1 = 1)) = true :=
  by decide +kernel

theorem witness_GptpAndDeviceTime_8 : (served wHost (wReq [2] 2) 0x6C40 1).any (fun p => decide (2 ≤ leNat p.2.data) && decide (ob p.1 (canBaseIdx (leNat p.2.data - 2) + 1) 1 ≠ 1)) = true :=
  by decide +kernel

theorem witness_GptpAndDeviceTime_9 : serving State.reset = false ∧ (10 : Nat) < { wPtp 0 with rxNs := 20 + ob wNet 0x6C00 9 }.rxNs - ob wNet 0x6C00 9 :=
  by decide +kernel

theorem witness_CanControllersAct_1 : (fun c => running (wCan c) = true ∧ (canOf (wCan c) 0).on = true ∧ (canOf (wCan c) 0).busOff = false) { on := true } :=
  by decide +kernel

theorem witness_CanControllersAct_2 : (List.range 4).find? (fun k => hpfMatch (ob64 (wCan { on := true }) (canBaseIdx 0 + 3) (k + 1)) (wFd 0x7F)) = none ∧ isUserId (wCan { on := true }) 0 (wFd 0x7F) = false ∧ isUserId (wCan { on := true }) 0 (wFd (ob (wCan { on := true }) (canBaseIdx 0 + 1) 2)) = true :=
  by decide +kernel

theorem witness_CanControllersAct_3 : ((List.range 4).find? (fun k => hpfMatch (ob64 (putOb (wCan { on := true }) (canBaseIdx 0 + 3) 1 (2 ^ 63)) (canBaseIdx 0 + 3) (k + 1)) (wFd 0x7F))) = some 0 :=
  by decide +kernel

theorem witness_CanControllersAct_4 : (canOf (wCan { on := true, fifo := (List.range 28).map (fun n => (n, wFd 1)) }) 0).fifo.length = 28 :=
  by decide +kernel

theorem witness_CanControllersAct_5 : (fun c : Can => c.listen = false ∧ c.integ = true ∧ canOffer c.tx = some { ident := 5, classical := true, xl := false, bytes := [], use := 0, num := 0 }) { on := true, integ := true, tx := [{ ident := 5, classical := true, xl := false, bytes := [], use := 0, num := 0 }] } :=
  by decide +kernel

theorem witness_CanControllersAct_6 : (canOf (wCan {}) 0).on = false ∧ (canOf (wCan { on := true, busOff := true }) 0).busOff = true ∧ (canOf (wCan { detecting := true }) 0).detecting = true ∧ (canOf (wCan {}) 0).detecting = false :=
  by decide +kernel

theorem witness_CanControllersAct_7 : ob (wCan {}) (canBaseIdx 0 + 2) 9 ≤ 1000 ∧ ob (wCan {}) (canBaseIdx 0 + 2) 0xB * 1000000 ≤ 2 ^ 60 :=
  by decide +kernel

theorem witness_CanControllersAct_8 : (fun s : State => ob s 0x6C40 1 = 2 ∧ ob s (canBaseIdx 0 + 1) 1 ≠ 1 ∧ (canOf s 0).on = true ∧ canTaken s 0 (wFd 0x10) = s) (putOb (wCan { on := true }) 0x6C40 1 2) :=
  by decide +kernel

theorem witness_CanControllersAct_9 : ob (canTaken (putOb (wCan {}) (canBaseIdx 0 + 1) 1 1) 0 (wFd 0x10)) (canBaseIdx 0 + 1) 1 = 1 ∧ ob (wCan {}) (canBaseIdx 0 + 1) 1 = 0 ∧ (canOf (wCan { on := true }) 0).refDue ≤ now (wCan { on := true }) ∧ (canOf (wCan { on := true }) 0).tx.any (fun f => decide (f.use = 3)) = false :=
  by decide +kernel

theorem witness_CanControllersAct_10 : isLedgerId wHost 0 (bootOb wHost 0x1030 2) = true ∨ isLedgerId wHost 1 (bootOb wHost 0x1030 2) = true :=
  by decide +kernel

theorem witness_CanControllersAct_11 : ¬ ((wFd 5).xl = true) ∧ ({ wFd 5 with xl := true } : CanFrame).xl = true ∧ bootOb wHost (canBaseIdx 0) 6 = 0 :=
  by decide +kernel

theorem witness_CanControllersAct_12 : (ob (putOb (wCan { on := true }) (canBaseIdx 0 + 1) 1 1) (canBaseIdx 0 + 1) 1 ≠ 0) ∧ now (putOb (wCan { on := true }) (canBaseIdx 0 + 1) 1 1) % max 1 (ob (wCan { on := true }) (canBaseIdx 0 + 1) 3 * 1000000) < 6 :=
  by decide +kernel

theorem witness_ThermalAndOutriderAct_1 : running wHost = true ∧ (sensOf wHost 0).seen = false ∧ sensInput wHost 0 = some (.die 0) ∧ running State.reset = false ∧ outrRuns wHost = true ∧ outrDue wHost ≤ now wHost ∧ wHost.outr.startAt = 0 :=
  by decide +kernel

theorem witness_ThermalAndOutriderAct_2 : (outConv wHost 0 0 (sensConvs wHost 0) 1).2 = false ∧ outDone wHost 0 0 (sensConvs wHost 0) = false :=
  by decide +kernel

theorem witness_ThermalAndOutriderAct_3 : (outConv { wHost with outc := [(0, some { job := 0, num := 0, until_ := 0 })] } 0 0 (sensConvs { wHost with outc := [(0, some { job := 0, num := 0, until_ := 0 })] } 0) 1).2 = true ∧ outDone { wHost with outc := [(0, some { job := 0, num := 0, until_ := 0 })] } 0 0 (sensConvs { wHost with outc := [(0, some { job := 0, num := 0, until_ := 0 })] } 0) = true :=
  by decide +kernel

theorem witness_ThermalAndOutriderAct_4 : (sensOf wSens 0).seen = true ∧ now wSens < (sensOf wSens 0).due :=
  by decide +kernel

theorem witness_ThermalAndOutriderAct_5 : outrRuns wOutr = true ∧ wOutr.outr.startAt ≠ 0 ∧ elemShored wOutr 4 0 = false ∧ ((testLeft wOutr 4).filter (fun k => !elemShored wOutr 4 k)).head? = some 0 ∧ (testLeft (setTest (incOb wOutr (0x7410 + 4) 2) 4 { tested := [0] }) 4).isEmpty = false ∧ (tieTaken wOutr 4 0).2 = true :=
  by decide +kernel

theorem witness_ThermalAndOutriderAct_6 : ((testLeft wOutr 6).filter (fun k => !elemShored wOutr 6 k)).head? = some 0 ∧ (testLeft (setTest (incOb wOutr (0x7410 + 6) 2) 6 { tested := [0] }) 6).isEmpty = true ∧ (tieTaken wOutr 6 0).2 = true :=
  by decide +kernel

theorem witness_ThermalAndOutriderAct_7 : ((testLeft wOutr 2).filter (fun k => !elemShored wOutr 2 k)).head? = some 0 ∧ (tieTaken wOutr 2 0).2 = false :=
  by decide +kernel

theorem witness_ThermalAndOutriderAct_8 : elemShored wShored 1 0 = false ∧ elemShored { wShored with led := { wShored.led with shored := [shoredBlk 0x3400] } } 1 0 = true :=
  by decide +kernel

theorem witness_ThermalAndOutriderAct_9 : now wOutr < outrDue { wOutr with outr := { startAt := 1, cycle := 10 } } :=
  by decide +kernel

theorem witness_HostPortAnswersFrames_1 : running wHost = true ∧ running State.reset = false ∧ serving wHost = true ∧ serving State.reset = false ∧ hostSession wHost = some 0 ∧ hostSession wOper = none :=
  by decide +kernel

theorem witness_HostPortAnswersFrames_2 : crc8 (crcBytes 0 0) ≠ 1 ∧ (List.range 256).any (fun c => decide (crc8 (crcBytes c 0) = c)) = true ∧ (List.range 256).any (fun c => decide (crc8 (crcBytes (2 ^ 31 + c) 0) = c)) = true :=
  by decide +kernel

theorem witness_HostPortAnswersFrames_3 : serving (touchHost wBootFw) = false ∧ running wBootFw = true ∧ serving (touchHost wHost) = true :=
  by decide +kernel

theorem witness_HostPortAnswersFrames_4 : ({ wHost with host := { busy := true } } : State).host.busy = true ∧ wHost.host.busy = false ∧ bits (8 : Word).toNat 8 0 = 8 ∧ (reqBytes wHost 8).getD 0 0 ≠ 8 :=
  by decide +kernel

theorem witness_HostPortAnswersFrames_5 : (slotAt (setSlot wHost 0 { pend := true }) 0).pend = true ∧ (slotAt wHost 0).pend = false ∧ bit (slotAt wHost 0).sel 0 = false :=
  by decide +kernel

theorem witness_HostPortAnswersFrames_6 : (fun x : Slot => bit x.sel 0 = true ∧ tySize x.ty = 8 ∧ x.pend = false) { sel := 0x10000001, ty := 5 } ∧ (fun x : Slot => bit x.sel 0 = true ∧ tySize x.ty ≠ 8 ∧ x.pend = false) { sel := 0x10000001, ty := 2 } ∧ (rowAt (oaddr 0x1000 0)).any (fun r => r.ridge) = false ∧ (rowOf 0x1000 0).any (fun r => decide (r.acc ≠ .wo)) = true :=
  by decide +kernel

theorem witness_HostPortAnswersFrames_7 : wHost.host.answer = none ∧ ({ wHost with host := { answer := some [1] } } : State).host.answer = some [1] :=
  by decide +kernel

theorem witness_HostPortAnswersFrames_8 : bindCode wHost 0 0x1000 0 = 0 ∧ bindCode wHost 0 0xFFFF 0 ≠ 0 ∧ isLowWord 2 = true ∧ isLowWord 3 = false :=
  by decide +kernel

theorem witness_HostPortAnswersFrames_9 : (List.range 256).any (fun c => decide (crc8 (crcBytes (2 ^ 30 + c) 0) = c)) = true ∧ (List.range 256).any (fun c => decide (crc8 (crcBytes (3 * 2 ^ 30 + c) 0) = c)) = true :=
  by decide +kernel

theorem witness_HostPortAnswersFrames_10 : (rowAt (oaddr 0x1000 0)).any (fun r => r.ridge) = false ∧ (BitVec.toNat ((reqBytes { wHost with host := { req := [(0, 8)] } } 8).getD 0 0)) = 8 :=
  by decide +kernel

/-! WellFormed refuses an ill-formed term of each check. -/

/-- Every request that names a session slot beyond 7 is refused. -/
theorem test_wf_requests : ([.read (wReqN 8 [] 1) 0 0, .write (wReqN 8 [] 1) 0 0, .blockRead (wReqN 8 [] 1) 0 0, .blockWrite (wReqN 8 [] 1) 0 0,
    .subscribe (wReqN 8 [] 1) 0 0, .unsubscribe (wReqN 8 [] 1), .time (wReqN 8 [] 1), .close (wReqN 8 [] 1),
    .stateRequest (wReqN 8 [] 1), .arm (wReqN 8 [] 1) .driveA, .run (wReqN 8 [] 1) .driveA,
    .stop (wReqN 8 [] 1) .driveA, .disarm (wReqN 8 [] 1) .driveA, .shore (wReqN 8 [] 1), .strike (wReqN 8 [] 1),
    .abandon (wReqN 8 [] 1), .store (wReqN 8 [] 1), .restore (wReqN 8 [] 1), .manifestEnable (wReqN 8 [] 1) 0,
    .manifestDisable (wReqN 8 [] 1) 0, .captureNextRead (wReqN 8 [] 1) 0, .calCaptureLow (wReqN 8 [] 1) 0,
    .calCaptureHigh (wReqN 8 [] 1) 0, .calCompute (wReqN 8 [] 1) 0, .calClear (wReqN 8 [] 1) 0,
    .calAbandon (wReqN 8 [] 1) 0, .winClear (wReqN 8 [] 1) 0, .braceCoefWrite (wReqN 8 [] 1) 0 0 0,
    .braceSelect (wReqN 8 [] 1) 0, .bracePreset (wReqN 8 [] 1) 0, .injectStart (wReqN 8 [] 1),
    .injectStop (wReqN 8 [] 1), .respArm (wReqN 8 [] 1), .respTrigger (wReqN 8 [] 1), .respStop (wReqN 8 [] 1),
    .directionSelect (wReqN 8 [] 1) .a, .dabFswWrite (wReqN 8 [] 1), .dcxFswWrite (wReqN 8 [] 1),
    .campEnter (wReqN 8 [] 1), .parklockEngage (wReqN 8 [] 1), .parklockRelease (wReqN 8 [] 1),
    .clutchClose (wReqN 8 [] 1), .clutchOpen (wReqN 8 [] 1), .waybillConnect (wReqN 8 [] 1),
    .lockoutResetWrite (wReqN 8 [] 1), .tkOpen (wReqN 8 [] 1), .tkPropose (wReqN 8 [] 1), .tkApprove (wReqN 8 [] 1),
    .tkCommit (wReqN 8 [] 1), .tkAbort (wReqN 8 [] 1), .sealStageWrite (wReqN 8 [] 1) 0, .tallyAck (wReqN 8 [] 1),
    .mdioRead (wReqN 8 [] 1) none, .mdioWrite (wReqN 8 [] 1) false, .timeSourceWrite (wReqN 8 [] 1)] : List Instr).all (fun i => !i.wf) = true := by decide

/-- Every command that names an element the block does not have is refused, first half. -/
theorem test_wf_elements1 : ([.ledgerFrameRx { wFrame with plen := 65536 }, .read (wReq [] 1) 65536 0, .read (wReq [] 1) 0 256,
    .write (wReq [] 1) 65536 0, .write (wReq [] 1) 0 256, .blockRead (wReq [] 1) 65536 0, .blockRead (wReq [] 1) 0 256,
    .blockWrite (wReq [] 1) 65536 0, .blockWrite (wReq [] 1) 0 256, .blockTransferTimeout 8,
    .subscribe (wReq [] 1) 65536 0, .subscribe (wReq [] 1) 0 256, .subscriptionSample 8 0, .subscriptionSample 0 16,
    .pendingSessionTimeout 8, .sessionTimeout 8, .shoreComplete 65536, .manifestEnable (wReq [] 1) 32,
    .manifestDisable (wReq [] 1) 32, .manifestPublish 32, .manifestConsumeFrame 32, .manifestConsumeApply 32,
    .markFire 1024 0, .markFire 0 256, .oneshotEnd 128, .gateTimeout 128, .rodSourceUpdate 8, .rodTimeout 8,
    .carrierWrapApply 8, .laneReadbackCompare { lane := 114, seen := false }, .captureEdge 16 false 0,
    .captureEdge 0 false 32, .captureNextRead (wReq [] 1) 16,
    .resolverUpdate 2 { sin := [], cos := [], excMv := 0, strobeMissing := false, t0 := 0 },
    .encoderEdge 2 (false, false) (true, false), .encoderIndex 2, .encoderUpdate 2, .hallEdge 3 0, .hallEdge 0 8, .hallRateUpdate 3,
    .frequencyWordUpdate 8, .seqTrigger 32, .converterFree 16, .seqWaitDrop 32, .conversionComplete 32 0 (.die 0) (0, 0),
    .conversionComplete 0 16 (.die 0) (0, 0), .calCaptureLow (wReq [] 1) 536, .calCaptureHigh (wReq [] 1) 536,
    .calCompute (wReq [] 1) 536, .calClear (wReq [] 1) 536, .calAbandon (wReq [] 1) 536, .calCaptureDone 536,
    .calCaptureTimeout 536, .pairCheck 8 (.die 0) (0, 0), .sdOutput 24 [] []] : List Instr).all (fun i => !i.wf) = true := by decide

/-- The second half. -/
theorem test_wf_elements2 : ([.sdcFault ⟨6, 4, 0⟩, .sdStuck 24, .statBoundary 32, .statTimeout 32, .windowCrossing 32 0 0, .windowCrossing 0 0 32, .blankMaxTimeout 32,
    .blankTimeEnd 32, .winClear (wReq [] 1) 32, .winPeriodClear 32, .windowCheck 32 false, .windowCheckReadback 32 0 0,
    .windowCheckReadback 0 65536 0, .windowCheckReadback 0 0 65536, .windowCheckEnd 32 false, .loopTrigger 32,
    .braceCoefWrite (wReq [] 1) 192 0 0, .braceCoefWrite (wReq [] 1) 0 2 0, .braceCoefWrite (wReq [] 1) 0 0 7,
    .braceSelect (wReq [] 1) 192, .bracePreset (wReq [] 1) 192, .faultInputEdge 24, .pfcZeroCrossOff 3,
    .actPeriodStart 3, .actIlimit ⟨3, 0⟩, .actItrip ⟨3, 0⟩, .actRefresh 3 0, .actRefresh 0 3, .watchdogWindow 2 .early,
    .waybillStatusTimer 32, .waybillWatchdog 32, .sealStageWrite (wReq [] 1) 11, .faultRaise .clk 6 0 0 0,
    .faultRaise .clk 0 8 0 0, .faultRaise .clk 0 0 8 0, .canFrameRx 2 (wFd 0), .canRefMessage 2 (wFd 0) 0,
    .canTxAttemptDone 2 .sent 0, .canBusOff 2, .canBusOffRecovery 2, .canDetectAccept 2 false, .canDetectDwell 2 false,
    .canDetectTimeout 2, .canRefCycle 2, .thermalSample 20 wAdc, .shutdownComparator 8, .outriderTest 10 0 false 0 0,
    .registerWrite 16384 0, .windowBind 16 0, .windowValWrite 16 false 0, .windowRefresh 16, .lowWordRead 16384,
    .faultInputRise 24, .canBusIntegration 2, .canReceiveError 2, .sdcClockReturn 6] : List Instr).all (fun i => !i.wf) = true := by decide

/-- A request whose data is longer than the largest carrier is refused, and one that just fits is not. -/
theorem test_wf_data_long (d : List Byte) (h : d.length = 262145) : reqOk (wReq d 1) = false := by simp [reqOk, wReq, h]

theorem test_wf_data_fits (d : List Byte) (h : d.length = 262144) : reqOk (wReq d 1) = true := by simp [reqOk, wReq, h]

/-- The same commands with operands in range are well-formed. -/
theorem test_wf_good : ([.ledgerFrameRx wFrame, .read (wReq [] 1) 0 0, .write (wReq [] 1) 0 0, .blockRead (wReq [] 1) 0 0,
    .blockWrite (wReq [] 1) 0 0, .blockTransferTimeout 0, .subscribe (wReq [] 1) 0 0, .unsubscribe (wReq [] 1),
    .subscriptionSample 0 0, .time (wReq [] 1), .pendingSessionTimeout 0, .close (wReq [] 1), .sessionTimeout 0,
    .stateRequest (wReq [] 1), .arm (wReq [] 1) .driveA, .run (wReq [] 1) .driveA, .stop (wReq [] 1) .driveA,
    .disarm (wReq [] 1) .driveA, .shore (wReq [] 1), .shoreComplete 0, .strike (wReq [] 1), .abandon (wReq [] 1),
    .store (wReq [] 1), .restore (wReq [] 1), .manifestEnable (wReq [] 1) 0, .manifestDisable (wReq [] 1) 0,
    .manifestPublish 0, .manifestConsumeFrame 0, .manifestConsumeApply 0, .markFire 0 0, .oneshotEnd 0, .gateTimeout 0,
    .rodSourceUpdate 0, .rodTimeout 0, .carrierWrapApply 0, .laneReadbackCompare { lane := 0, seen := false },
    .captureEdge 0 false 0, .captureNextRead (wReq [] 1) 0,
    .resolverUpdate 0 { sin := [], cos := [], excMv := 0, strobeMissing := false, t0 := 0 },
    .encoderEdge 0 (false, false) (true, false), .encoderIndex 0, .encoderUpdate 0, .hallEdge 0 0, .hallRateUpdate 0,
    .frequencyWordUpdate 0, .seqTrigger 0, .converterFree 0, .seqWaitDrop 0, .conversionComplete 0 0 (.die 0) (0, 0),
    .calCaptureLow (wReq [] 1) 0, .calCaptureHigh (wReq [] 1) 0, .calCompute (wReq [] 1) 0, .calClear (wReq [] 1) 0,
    .calAbandon (wReq [] 1) 0, .calCaptureDone 0, .calCaptureTimeout 0, .pairCheck 0 (.die 0) (0, 0), .sdOutput 0 [] [], .sdcFault ⟨0, 4, 0⟩,
    .sdStuck 0, .statBoundary 0, .statTimeout 0, .windowCrossing 0 0 0, .blankMaxTimeout 0, .blankTimeEnd 0,
    .winClear (wReq [] 1) 0, .winPeriodClear 0, .windowCheck 0 false, .windowCheckReadback 0 0 0,
    .windowCheckEnd 0 false, .loopTrigger 0, .braceCoefWrite (wReq [] 1) 0 0 0, .braceSelect (wReq [] 1) 0,
    .bracePreset (wReq [] 1) 0, .injectStart (wReq [] 1), .injectStop (wReq [] 1), .respArm (wReq [] 1),
    .respTrigger (wReq [] 1), .respStop (wReq [] 1), .directionSelect (wReq [] 1) .a, .faultInputEdge 0,
    .pfcZeroCrossOff 0, .dabFswWrite (wReq [] 1), .dcxFswWrite (wReq [] 1), .campEnter (wReq [] 1), .actPeriodStart 0,
    .actIlimit ⟨0, 0⟩, .actItrip ⟨0, 0⟩, .actRefresh 0 0, .parklockEngage (wReq [] 1), .parklockRelease (wReq [] 1),
    .clutchClose (wReq [] 1), .clutchOpen (wReq [] 1), .watchdogWindow 0 .early, .waybillStatusTimer 0,
    .waybillWatchdog 0, .waybillConnect (wReq [] 1), .lockoutResetWrite (wReq [] 1), .tkOpen (wReq [] 1),
    .tkPropose (wReq [] 1), .tkApprove (wReq [] 1), .tkCommit (wReq [] 1), .tkAbort (wReq [] 1),
    .sealStageWrite (wReq [] 1) 0, .faultRaise .clk 0 0 0 0, .tallyAck (wReq [] 1), .mdioRead (wReq [] 1) none,
    .mdioWrite (wReq [] 1) false, .timeSourceWrite (wReq [] 1), .canFrameRx 0 (wFd 0), .canRefMessage 0 (wFd 0) 0,
    .canTxAttemptDone 0 .sent 0, .canBusOff 0, .canBusOffRecovery 0, .canDetectAccept 0 false, .canDetectDwell 0 false,
    .canDetectTimeout 0, .canRefCycle 0, .thermalSample 0 wAdc, .shutdownComparator 0, .outriderTest 0 0 false 0 0,
    .registerWrite 0 0, .windowBind 0 0, .windowValWrite 0 false 0, .windowRefresh 0, .lowWordRead 0,
    .faultInputRise 0, .canBusIntegration 0, .canReceiveError 0, .sdcClockReturn 0] : List Instr).all (fun i => i.wf) = true := by decide

/-! Worked examples of the spec. -/

/-- The BF32 words of the example after R91: 0xD800_0000 and 0xF600_0002 are both -0.3125, and the second goes out as
02 00 00 F6. -/
theorem test_bf32 : bf32Val 0xD8000000 = -0.3125 ∧ bf32Val 0xF6000002 = -0.3125 ∧ leBytes 4 0xF6000002 = [2, 0, 0, 0xF6] := by
  decide +kernel

/-- The header of the response in the READ example of the Ledger chapter. -/
theorem test_frame_head : frameHead 0x12 2 0xC8 7 = [0x12, 2, 0xC8, 0, 0, 0, 7, 0] := by decide

/-- The refused WRITE of the Ledger chapter: 26 bytes are padded with six bytes of 0xCC to 32; 23 bytes with one. -/
theorem test_fd_pad : fdPad (List.replicate 26 0) = List.replicate 26 0 ++ List.replicate 6 0xCC ∧
    fdPad (List.replicate 23 0) = List.replicate 23 0 ++ [0xCC] := by decide

/-- Rates of the rod examples: 1333.33 Hz reads 458,130, and 933.33 Hz reads 320,691. -/
theorem test_rate_words : hzWord (mkRat 4000 3) = 0x0006FD92 ∧ hzWord (mkRat 2800 3) = 0x0004E4B3 := by decide +kernel

/-- The edge of the mark at 210 degrees falls on phase 24. -/
theorem test_pass_phase : passPhase 28633115 21845000 = 24 := by decide

/-- The counts of 210 degrees. -/
theorem test_degrees : rround (mkRat 210 360 * (2 ^ 32 : Nat)) = 0x95555555 := by decide +kernel

/-- Loop 6 of the latency example: Clarke unit 0, Park on unit 8, braces 40 and 41 published and read by unit 9, with a
delay of 160 ns, has a latency of 405 ns; with loop 7 and brace 42 nested under it, 465 ns. -/
def wLat : State :=
  let p (t : State) (x : Nat × Nat × Nat) : State := putOb t x.1 x.2.1 x.2.2
  let members (l : Nat) (cs : List Nat) : List (Nat × Nat × Nat) := cs.mapIdx (fun k c => (loopBase l + 1, k + 1, c))
  let src (i : Nat) : Nat := 2 ^ 28 + braceOut i
  ([(loopBase 6, 2, 160), (loopBase 6, 7, 5), (loopBase 7, 7, 1), (loopBase 7, 3, 6), (braceBase 40, 8, 1), (braceBase 41, 8, 1), (braceBase 42, 8, 1),
    (xfBase 9, 1, src 40), (xfBase 9, 2, src 41)] ++
   members 6 [0x100, 0x108, 40, 41, 0x109] ++ members 7 [42]).foldl p {}

theorem test_loop_latency : loopLatency (viewNow wLat) [] 0 6 = 405 ∧ loopLatency (viewNow wLat) [(7, 0x3C80)] 0 6 = 465 := by
  decide

/-- A reset state is canonical, owes no command and stands in OFF. -/
theorem test_reset : State.reset.dev = .off ∧ State.reset.pending = [] := by decide

end Sys2Proof.Tests
end

section
/-! PROOFS. Power loss, resets, the state request and the commands of the functions (01_architecture). OFF and BOOT start
from `bootState`, so one set of facts about it says what a power loss or a reset clears and keeps; a served request is
concluded with the effect of its row. -/

namespace Sys2Proof.Machine

/-- With no twin-key commit past its commit instant, nothing is put into effect by a reset (R519). -/
theorem commitKept_of_committing_none {s : State} (h : s.saf.committing = none) : commitKept s = s := by
  simp [commitKept, h]

/-- A state with the ledger's sessions and shores and the function table of `bootState` is cleared. -/
theorem cleared_of_eq_bootState {s t : State} (hled : t.led = (bootState s).led) (hfns : t.fns = (bootState s).fns) :
    cleared t := by
  refine ⟨fun n => ?_, ?_, fun f => ?_⟩
  · rw [sess, hled]; rfl
  · rw [hled]; rfl
  · rw [fnState, hfns]; rfl

/-- `bootState` keeps everything that survives a reset (R45, R93, R118, R519, R542). -/
theorem survives_bootState (s : State) : survives s (bootState s) :=
  ⟨rfl, rfl, rfl, rfl, rfl, rfl, rfl, rfl⟩

@[simp] theorem setDev_dev (s : State) (d : Dev) : (setDev s d).dev = d := by
  unfold setDev
  split
  · assumption
  · rfl

/-- A change of the device state changes nothing but that state and the interrupt it pends. -/
theorem setDev_eq (s : State) (d : Dev) : setDev s d = { s with dev := d, host := (setDev s d).host } := by
  unfold setDev
  split
  · rename_i h; subst h; rfl
  · rfl

@[simp] theorem setDev_power (s : State) (d : Dev) : (setDev s d).power = s.power := by rw [setDev_eq]

@[simp] theorem setDev_dt (s : State) (d : Dev) : (setDev s d).dt = s.dt := by rw [setDev_eq]

@[simp] theorem setDev_led (s : State) (d : Dev) : (setDev s d).led = s.led := by rw [setDev_eq]

@[simp] theorem setDev_fns (s : State) (d : Dev) : (setDev s d).fns = s.fns := by rw [setDev_eq]

/-- What survives does not speak of the device state. -/
theorem survives_setDev {s t : State} (d : Dev) (h : survives s t) : survives s (setDev t d) := by
  rw [setDev_eq]; exact h

theorem cleared_toOff (s : State) (c : Nat) : cleared (toOff s c) :=
  cleared_of_eq_bootState (s := s) (setDev_led _ _) (setDev_fns _ _)

theorem survives_toOff (s : State) (c : Nat) : survives s (toOff s c) :=
  survives_setDev .off (survives_bootState s)

/-- The power-up controller and device time in OFF (R62, R64). -/
theorem toOff_power (s : State) (c : Nat) :
    (toOff s c).dev = .off ∧ (toOff s c).power.ctl = .idle ∧ (toOff s c).power.pmicEn = false
      ∧ (toOff s c).power.laneR64 = true ∧ (toOff s c).dt = 0 := by
  simp [toOff]

theorem cleared_enterBoot (s : State) (c us : Nat) : cleared (enterBoot s c us) :=
  cleared_of_eq_bootState (s := s) rfl rfl

theorem survives_enterBoot (s : State) (c us : Nat) : survives s (enterBoot s c us) := survives_bootState s

/-- A cell just written reads as written, where the keys of the object store rise. -/
theorem cellAt_setCell_self {s : State} (a : Nat) (x : Cell) (h : tabSorted s.objs = true) :
    cellAt (setCell s a x) a = x := by
  simp only [cellAt, setCell, tabGetD, tabSetD]
  split
  · next hx => rw [tabFind_tabDel_self a h]; exact hx.symm
  · rw [tabFind_tabPut_self]; rfl

/-- Writing one cell leaves every other. -/
theorem cellAt_setCell_other (s : State) {a b : Nat} (x : Cell) (h : b ≠ a) : cellAt (setCell s a x) b = cellAt s b :=
  tabGetD_tabSetD_other _ _ h

/-- An object just written reads as the written value, within 32 bits. -/
theorem ob_putOb_self {s : State} (idx sub v : Nat) (h : tabSorted s.objs = true) (hv : v < 2 ^ 32) :
    ob (putOb s idx sub v) idx sub = v := by
  have h64 : v < 2 ^ 64 := Nat.lt_trans hv (by decide)
  rw [ob, putOb, cellAt_setCell_self _ _ h, BitVec.toNat_ofNat, Nat.mod_eq_of_lt h64, Nat.mod_eq_of_lt hv]

/-- Writing one object leaves the other addresses. -/
theorem ob_putOb_other (s : State) {idx sub idx' sub' : Nat} (v : Nat) (h : oaddr idx' sub' ≠ oaddr idx sub) :
    ob (putOb s idx sub v) idx' sub' = ob s idx' sub' := by
  rw [ob, putOb, cellAt_setCell_other _ _ h, ob]

/-- After a BOOT, OFF or CAMP the object store lists at most the count of failed power-ups. -/
theorem tabSorted_bootState_objs (s : State) : tabSorted (bootState s).objs = true := by
  simp only [bootState]
  cases tabFind s.objs (oaddr 0x2020 4) <;> rfl

/-- System.Boot.Cause holds the cause of the start (R86): the two later writes of the start-up record are to other
objects. -/
theorem ob_enterBoot_cause (s : State) {c : Nat} (us : Nat) (hc : c < 256) : ob (enterBoot s c us) 0x2020 1 = c := by
  have hrecord : ∀ t : State, tabSorted t.objs = true → ∀ u v,
      ob (putOb (putOb (putOb t 0x2020 1 c) 0x2020 7 u) 0x2020 8 v) 0x2020 1 = c := fun t ht u v => by
    rw [ob_putOb_other _ _ (by decide), ob_putOb_other _ _ (by decide), ob_putOb_self _ _ _ ht (by omega)]
  exact hrecord _ (tabSorted_bootState_objs s) _ _

/-- The device in BOOT: the controller runs, no reset holds it, and device time goes on only after camp (R64, R68, R449). -/
theorem enterBoot_power (s : State) (c us : Nat) :
    (enterBoot s c us).dev = .boot ∧ (enterBoot s c us).power.ctl = .running ∧ (enterBoot s c us).power.srstHeld = false
      ∧ (enterBoot s c us).power.laneR64 = true ∧ (enterBoot s c us).power.errnHeld = true
      ∧ (enterBoot s c us).dt = (if c = 6 then s.dt else 0) :=
  ⟨rfl, rfl, rfl, rfl, rfl, rfl⟩

/-- Out of LOCKOUT a deliberate reset leaves no current record (R45, R542). -/
theorem leaveLockout_lockRec (s : State) (by_ : Nat) : (leaveLockout s by_).tally.lockRec = none := by
  unfold leaveLockout
  split
  · assumption
  · rfl

/-- Settles O10: each command is its own row of R44 to R66, and OFF is `bootState` with the power fields of R62 and R64. -/
theorem powerLossEntersOff : Obligations.PowerLossEntersOff := by
  intro s
  refine ⟨rfl, rfl, fun hoff hcamp => ?_, fun hoff => ?_, fun c => ?_, commitKept_of_committing_none⟩
  · exact congrArg Host.Outcome.next (if_pos ⟨hoff, hcamp⟩)
  · exact congrArg Host.Outcome.next (if_neg fun h => h.1 hoff)
  · obtain ⟨hdev, hctl, hen, hlane, hdt⟩ := toOff_power s c
    exact ⟨hdev, hctl, hen, hlane, hdt, cleared_toOff s c, survives_toOff s c⟩

theorem exec_srstNRelease (s : State) : exec .srstNRelease s = execSrstNRelease s := rfl

/-- Settles O11: PLL_LOCK and the release of SRST_N enter BOOT through `enterBoot`, whose facts stand above. -/
theorem resetAndPllLockEnterBoot : Obligations.ResetAndPllLockEnterBoot := by
  intro s us
  refine ⟨fun hpll => ?_, fun hheld hdev => ?_, fun hheld hdev => ?_, leaveLockout_lockRec s 1, fun hx32 => ?_,
    fun hrun => ?_, fun hrun => ?_, fun c => ?_, commitKept_of_committing_none⟩
  · exact congrArg Host.Outcome.next (if_pos hpll)
  · exact (exec_srstNRelease s).trans (by simp only [execSrstNRelease, if_pos hheld, if_neg hdev])
  · exact (exec_srstNRelease s).trans (by simp only [execSrstNRelease, if_pos hheld, if_pos hdev])
  · simp [lostCrystal, hx32]
  · exact congrArg Host.Outcome.next (if_pos hrun)
  · exact congrArg Host.Outcome.next (if_neg (by simp [hrun]))
  · obtain ⟨hdev, hctl, hsrst, hlane, herrn, hdt⟩ := enterBoot_power s c us
    exact ⟨hdev, hctl, hsrst, hlane, herrn, hdt, ob_enterBoot_cause s us, cleared_enterBoot s c us, survives_enterBoot s c us⟩

/-! ### Served requests -/

section requests

variable {s s1 : State} {r : Req} {q : QReq}

/-- A served request is concluded with its effect, under the type of its row. -/
theorem serveWrite_eq_conclude {idx sub ty : Nat} (eff : State → QReq → State × Nat)
    (h : served s r idx sub = some (s1, q)) (hty : (rowOf idx sub).map Row.ty = some ty) :
    serveWrite s r idx sub eff = conclude (eff s1 q).1 q ty (eff s1 q).2 := by
  obtain ⟨w, hw, rfl⟩ := Option.map_eq_some_iff.mp hty
  rw [serveWrite_of_served eff h, hw]

/-- The request of a row that stands for one value of an object of one byte carries that value. -/
theorem leNat_of_served_byteReq {idx sub ty v : Nat} (hv : v < 256)
    (h : served s (byteReq r ty v) idx sub = some (s1, q)) : leNat q.data = v := by
  have hdata : q.data = [BitVec.ofNat 8 v] := (served_eq h).1
  simp [hdata, leNat, Nat.mod_eq_of_lt hv]

/-! ### System.StateRequest: the rows of R637 -/

/-- A served write to System.StateRequest is concluded with the decision of R637. -/
theorem exec_stateRequest_of_served (h : served s r 0x2001 0 = some (s1, q)) :
    exec (.stateRequest r) s
      = .next (conclude (stateRequest s1 (leNat q.data)).1 q 2 (stateRequest s1 (leNat q.data)).2) :=
  congrArg Host.Outcome.next (serveWrite_eq_conclude _ h rfl)

theorem stateRequest_of_eq_devCode {v : Nat} (h : v = devCode s.dev) : stateRequest s v = (s, 0) := if_pos h

/-- A request for OPERATIONAL out of another state asks for block 0x6000 first, then for the check value. -/
theorem stateRequest_operational (h : 5 ≠ devCode s.dev) :
    stateRequest s 5 = if isShored s 0x6000 then (s, 0x03000005)
      else if s.saf.computed ≠ s.saf.confirmed then (s, 0x05000001) else (setDev s .operational, 0) := by
  rw [stateRequest, if_neg h, if_neg (by decide)]

/-- A request for PREOP out of another state asks that no function is in ARMED or RUN. -/
theorem stateRequest_preop (h : 4 ≠ devCode s.dev) :
    stateRequest s 4 = if fnAll.any (fnLive s) then (s, 0x03000001)
      else (wbInitiate (ascCheck (ascCheck (hostRestore (showFailures (setDev s .preop))) .a) .b), 0) := by
  rw [stateRequest, if_neg h, if_pos rfl]

end requests

/-- Settles O20: one case for each row of R637, in the order in which the model asks them. -/
theorem stateRequestDecides : Obligations.StateRequestDecides := by
  intro s s1 r q h
  have hexec := exec_stateRequest_of_served h
  refine ⟨fun hsame => ?_, fun hv hdev hshored => ?_, fun hv hdev hshored hcheck => ?_,
    fun hv hdev hshored hcheck => ?_, fun hv hdev hlive => ?_, fun hv hdev hlive => ?_⟩
  · rw [hexec, stateRequest_of_eq_devCode hsame, conclude_zero]
  · rw [hv] at hexec hdev
    rw [hexec, stateRequest_operational hdev, if_pos hshored,
      conclude_code (c := 0x03000005) _ _ _ (by decide) (by decide)]
  · rw [hv] at hexec hdev
    rw [hexec, stateRequest_operational hdev, if_neg (by simp [hshored]), if_pos hcheck,
      conclude_code (c := 0x05000001) _ _ _ (by decide) (by decide)]
  · rw [hv] at hexec hdev
    rw [hexec, stateRequest_operational hdev, if_neg (by simp [hshored]), if_neg (by simp [hcheck]), conclude_zero]
  · rw [hv] at hexec hdev
    rw [hexec, stateRequest_preop hdev, if_pos hlive, conclude_code (c := 0x03000001) _ _ _ (by decide) (by decide)]
  · rw [hv] at hexec hdev
    rw [hexec, stateRequest_preop hdev, if_neg (by simp [hlive]), conclude_zero]

section commands

variable {s s1 : State} {r : Req} {q : QReq} {f : Fn}

/-! ### ARM, RUN, STOP and DISARM -/

/-- Every function's command object is of type 2, one byte (R49). -/
theorem rowOf_cmdIdx_ty (f : Fn) : (rowOf (cmdIdx f) 0).map Row.ty = some 2 := by
  cases f <;> rfl

/-- A served command of a function is concluded with the effect that its value names. -/
theorem serveWrite_command {v : Nat} {e : State × Nat} (hv : v < 256)
    (h : served s (byteReq r 2 v) (cmdIdx f) 0 = some (s1, q)) (heff : leNat q.data = v → doCommand f s1 q = e) :
    serveWrite s (byteReq r 2 v) (cmdIdx f) 0 (doCommand f) = conclude e.1 q 2 e.2 := by
  rw [serveWrite_eq_conclude _ h (rowOf_cmdIdx_ty f), heff (leNat_of_served_byteReq hv h)]

theorem exec_arm_of_served (h : served s (byteReq r 2 1) (cmdIdx f) 0 = some (s1, q)) :
    exec (.arm r f) s = .next (conclude (doArm s1 f).1 q 2 (doArm s1 f).2) :=
  congrArg Host.Outcome.next (serveWrite_command (by decide) h fun hv => by simp [doCommand, hv])

theorem exec_run_of_served (h : served s (byteReq r 2 2) (cmdIdx f) 0 = some (s1, q)) :
    exec (.run r f) s = .next (conclude (doRun s1 f).1 q 2 (doRun s1 f).2) :=
  congrArg Host.Outcome.next (serveWrite_command (by decide) h fun hv => by simp [doCommand, hv])

/-- STOP is always answered (R52). -/
theorem exec_stop_of_served (h : served s (byteReq r 2 3) (cmdIdx f) 0 = some (s1, q)) :
    exec (.stop r f) s = .next (reply (doStop s1 f) q 2 []) :=
  congrArg Host.Outcome.next
    (serveWrite_command (e := (doStop s1 f, 0)) (by decide) h fun hv => by simp [doCommand, hv])

/-- DISARM is always answered (R52). -/
theorem exec_disarm_of_served (h : served s (byteReq r 2 4) (cmdIdx f) 0 = some (s1, q)) :
    exec (.disarm r f) s = .next (reply (doDisarm s1 f) q 2 []) :=
  congrArg Host.Outcome.next
    (serveWrite_command (e := (doDisarm s1 f, 0)) (by decide) h fun hv => by simp [doCommand, hv])

/-- What an accepted ARM needs (R51, R137, R356). -/
theorem armOk_imp (h : armOk s f = true) :
    fnState s f = .idle ∧ s.dev = .operational ∧ fnFaulted s f = false ∧ fnHeld s f = false
      ∧ armInterlock s f = true := by
  simp only [armOk, Bool.and_eq_true, decide_eq_true_eq, Bool.not_eq_true'] at h
  obtain ⟨⟨⟨⟨⟨⟨hidle, hdev⟩, hfault⟩, hheld⟩, -⟩, -⟩, hlock⟩ := h
  exact ⟨hidle, hdev, hfault, hheld, hlock⟩

theorem fnState_of_runOk (h : runOk s f = true) : fnState s f = .armed := by
  simp only [runOk, Bool.and_eq_true, decide_eq_true_eq] at h
  exact h.1

theorem doArm_of_armOk (h : armOk s f = true) : doArm s f = (setFn (armEffect s f) f .armed, 0) := if_pos h

theorem doArm_of_not_armOk (h : armOk s f = false) : doArm s f = (s, 0x03000005) := if_neg (by simp [h])

theorem doRun_of_not_runOk (h : runOk s f = false) : doRun s f = (s, 0x03000005) := if_pos (by simp [h])

/-- An accepted RUN of a drive begins its release (R357). -/
theorem doRun_drive (d : Drv) (h : runOk s (drvFn d) = true) :
    doRun s (drvFn d) = (drvStart (setFn s (drvFn d) .run) d, 0) := by
  cases d <;> exact if_neg (by simpa using h)

/-- An accepted RUN of the Charger begins a session (R415). -/
theorem doRun_charger (h : runOk s .charger = true) :
    doRun s .charger = (startSession (sessionOver (chgOff (setFn s .charger .run)))
      (decide (ob (setFn s .charger .run) 0x5003 1 = 1)), 0) :=
  if_neg (by simp [h])

theorem doRun_converter (h : runOk s .converter = true) :
    doRun s .converter = (cnvStart (setFn s .converter .run), 0) :=
  if_neg (by simp [h])

/-- An accepted RUN of the Pump begins its start run where the pump is on (R471). -/
theorem doRun_pump (h : runOk s .pump = true) :
    doRun s .pump = (let u := setFn s .pump .run; { u with pump := { u.pump with start := u.pump.on } }, 0) :=
  if_neg (by simp [h])

/-- The Park lock and the Clutch only enter RUN. -/
theorem doRun_lock (hf : f = .parkLock ∨ f = .clutch) (h : runOk s f = true) : doRun s f = (setFn s f .run, 0) := by
  rcases hf with rfl | rfl <;> exact if_neg (by simpa using h)

theorem stopRun_drive (s : State) (d : Drv) (idle : Bool) : stopRun s (drvFn d) idle = drvStop s d idle := by
  cases d <;> rfl

/-- The stop of an actuator function leads to IDLE for DISARM and to ARMED for STOP (R472). -/
theorem stopRun_act (s : State) {n : Nat} (hn : n < 3) (idle : Bool) :
    stopRun s (actFn n) idle = actStop s n (if idle then .idle else .armed) := by
  match n, hn with
  | 0, _ => rfl
  | 1, _ => rfl
  | 2, _ => rfl

theorem doStop_of_run (h : fnState s f = .run) : doStop s f = stopRun s f false := if_pos h

theorem doStop_of_not_run (h : fnState s f ≠ .run) : doStop s f = s := if_neg h

theorem doDisarm_of_run (h : fnState s f = .run) : doDisarm s f = stopRun s f true := if_pos h

theorem doDisarm_of_armed (h : fnState s f = .armed) : doDisarm s f = setFn s f .idle := by
  simp [doDisarm, h]

theorem doDisarm_elsewhere (harmed : fnState s f ≠ .armed) (hrun : fnState s f ≠ .run) : doDisarm s f = s := by
  simp [doDisarm, harmed, hrun]

/-- An accepted RUN starts each kind of function in its own way (R357, R415, R436, R471). -/
theorem exec_run_of_runOk (h : served s (byteReq r 2 2) (cmdIdx f) 0 = some (s1, q)) (hok : runOk s1 f = true) :
    let u := setFn s1 f .run
    (∀ d, f = drvFn d → exec (.run r f) s = .next (reply (drvStart u d) q 2 []))
    ∧ (f = .charger → exec (.run r f) s
      = .next (reply (startSession (sessionOver (chgOff u)) (decide (ob u 0x5003 1 = 1))) q 2 []))
    ∧ (f = .converter → exec (.run r f) s = .next (reply (cnvStart u) q 2 []))
    ∧ (f = .pump → exec (.run r f) s = .next (reply { u with pump := { u.pump with start := u.pump.on } } q 2 []))
    ∧ (f = .parkLock ∨ f = .clutch → exec (.run r f) s = .next (reply u q 2 [])) := by
  have hexec := exec_run_of_served h
  refine ⟨fun d hf => ?_, fun hf => ?_, fun hf => ?_, fun hf => ?_, fun hf => ?_⟩
  · subst hf; rw [hexec, doRun_drive d hok, conclude_zero]
  · subst hf; rw [hexec, doRun_charger hok, conclude_zero]
  · subst hf; rw [hexec, doRun_converter hok, conclude_zero]
  · subst hf; rw [hexec, doRun_pump hok]; rfl
  · rw [hexec, doRun_lock hf hok, conclude_zero]

end commands

/-- Settles O21: the conditions of ARM and RUN, then the four commands, each through its own row. -/
theorem functionCommandsDecide : Obligations.FunctionCommandsDecide := by
  intro s s1 r f q
  refine ⟨armOk_imp, fnState_of_runOk, fun h => ⟨fun hok => ?_, fun hno => ?_⟩,
    fun h => ⟨exec_run_of_runOk h, fun hno => ?_⟩, fun h => ?_, fun h => ?_⟩
  · rw [exec_arm_of_served h, doArm_of_armOk hok, conclude_zero]
  · rw [exec_arm_of_served h, doArm_of_not_armOk hno, conclude_code (c := 0x03000005) _ _ _ (by decide) (by decide)]
  · rw [exec_run_of_served h, doRun_of_not_runOk hno, conclude_code (c := 0x03000005) _ _ _ (by decide) (by decide)]
  · rw [exec_stop_of_served h]
    refine ⟨fun hrun => by rw [doStop_of_not_run hrun], fun hrun => ?_⟩
    rw [doStop_of_run hrun]
    exact ⟨fun d hf => by rw [hf, stopRun_drive], fun hf => by subst hf; rfl, fun hf => by subst hf; rfl,
      fun n hn hf => by rw [hf, stopRun_act _ hn]; rfl⟩
  · rw [exec_disarm_of_served h]
    refine ⟨fun harmed => by rw [doDisarm_of_armed harmed],
      fun harmed hrun => by rw [doDisarm_elsewhere harmed hrun], fun hrun => ?_⟩
    rw [doDisarm_of_run hrun]
    exact ⟨fun d hf => by rw [hf, stopRun_drive], fun hf => by subst hf; rfl, fun hf => by subst hf; rfl,
      fun n hn hf => by rw [hf, stopRun_act _ hn]; rfl⟩

end Sys2Proof.Machine
end

section
/-! PROOFS. The start of the device (02_startup): the steps of the power-up controller, the steps from BOOT to CHECK, and
the end of CHECK. A command is its condition and then the one change it makes, so each case below names the branch taken;
what CHECK adds is that a first raise at L5 puts the device into LOCKOUT. -/

namespace Sys2Proof.Machine

/-- Settles O9: each command is its own row of R60 to R73, and every start is `powerUp`. -/
theorem powerUpSequence : Obligations.PowerUpSequence := by
  intro s
  refine ⟨fun hoff hidle hporst => ?_, fun hporst => ?_, fun hoff hidle hvbat => ?_, fun hpg => ?_, fun hxtal => ?_,
    fun hretry => ?_, fun hparked => ?_, fun hwaits => ?_⟩
  · exact congrArg Host.Outcome.next (if_pos ⟨hoff, hidle, hporst⟩)
  · exact congrArg Host.Outcome.next (if_neg fun h => by simp [hporst] at h)
  · exact congrArg Host.Outcome.next (if_pos ⟨hoff, hidle, hvbat⟩)
  · exact congrArg Host.Outcome.next (if_pos hpg)
  · exact congrArg Host.Outcome.next (if_pos hxtal)
  · exact congrArg Host.Outcome.next (if_pos hretry)
  · exact congrArg Host.Outcome.next (if_pos hparked)
  · have hctl : (if s.power.attempts < 2 then PowerUp.retryWait else .parked)
        = if 2 ≤ s.power.attempts then .parked else .retryWait := by
      simp only [← Nat.not_lt, ite_not]
    rw [hctl]
    exact congrArg Host.Outcome.next (if_pos hwaits)

/-! ### From BOOT to CHECK -/

section bootSteps

variable {s : State}

/-- With the seals loaded and no reset held, BOOT ends in CHECK with the first valid bank (R76, R77). -/
theorem exec_firmwareVerified_of_bankChoice {b : Nat} (hboot : s.dev = .boot) (hlane : s.power.laneR64 = false)
    (hsrst : s.power.srstHeld = false) (hbank : bankChoice s = some b) :
    exec .firmwareVerified s = .next (setDev (putOb (putOb { s with fw := { s.fw with
      running := some b, fallback := decide (b ≠ s.fw.selector % 2) } } 0x2020 2 b) 0x2020 3 (Config.fwVersion b).toNat) .check) :=
  congrArg Host.Outcome.next ((if_pos ⟨hboot, hlane, hsrst⟩).trans (by rw [hbank]))

/-- With no valid bank the device stays as it is (R76). -/
theorem exec_firmwareVerified_of_no_bank (hbank : bankChoice s = none) : exec .firmwareVerified s = .next s :=
  congrArg Host.Outcome.next (ite_eq_right_iff.mpr fun _ => by rw [hbank])

/-- The one sample of a power-up decides the reference, and shows in System.Boot where the domains run (R63). -/
theorem exec_vddRefSample_first (mv : Nat) (hpg : s.power.pmicPg = true) (href : s.power.refSampled = false) :
    let u := { s with power := { s.power with
      refSampled := true, refExternal := decide (2000 ≤ mv), refUv := if 2000 ≤ mv then mv * 1000 else 2500000 } }
    exec (.vddRefSample mv) s = .next (if running s = true then putOb u 0x2020 8 (if 2000 ≤ mv then 1 else 0) else u) :=
  congrArg Host.Outcome.next (if_pos ⟨hpg, href⟩)

end bootSteps

/-- Settles O12: each command is its own row of R63 to R85. -/
theorem startUpToCheck : Obligations.StartUpToCheck := by
  intro s mv
  refine ⟨fun hboot hlane hsrst => ?_, fun b hboot hlane hsrst hbank => ?_, exec_firmwareVerified_of_no_bank,
    fun hpg href => ⟨fun hrun => ?_, fun hrun => ?_⟩, fun hoff hgiven => ⟨?_, ?_⟩, fun hrun hx32 => ?_,
    fun hrun hsrst hx32 => ?_⟩
  · exact congrArg Host.Outcome.next (if_pos ⟨hboot, hlane, hsrst⟩)
  · exact exec_firmwareVerified_of_bankChoice hboot hlane hsrst hbank
  · rw [exec_vddRefSample_first mv hpg href, if_neg (by simp [hrun])]
  · rw [exec_vddRefSample_first mv hpg href, if_pos hrun]
  · exact congrArg Host.Outcome.next (if_pos ⟨hoff, hgiven⟩)
  · exact congrArg Host.Outcome.next (if_pos ⟨hoff, hgiven⟩)
  · exact congrArg Host.Outcome.next (if_pos ⟨hrun, hx32⟩)
  · exact congrArg Host.Outcome.next ((if_neg (by simp [hrun])).trans (if_pos ⟨hsrst, hx32⟩))

/-! ### A fault at L5 -/

@[simp] theorem lockoutAgain_dev (s : State) (r : Raise) : (lockoutAgain s r).dev = s.dev := by
  unfold lockoutAgain
  split
  · rfl
  · split <;> rfl

/-- Whatever the state before it, a fault at L5 leaves the device in LOCKOUT (R44). -/
@[simp] theorem lockout_dev (s : State) (r : Raise) : (lockout s r).dev = .lockout := by
  by_cases h : s.dev = .lockout
  · rw [lockout, if_pos h, lockoutAgain_dev, h]
  · rw [lockout, if_neg h]
    exact setDev_dev _ _

/-- The reaction to a raise of effective level 5 is the lock-out (R525). -/
theorem reaction_dev_of_eff_five (s : State) {r : Raise} (h : r.eff = 5) : (reaction s r).dev = .lockout := by
  rw [reaction, if_pos h, lockout_dev]

/-- No key of the Tally lifts a raise at L5 above it (R528). -/
theorem effLevel_five {k : Key} (h : k.eff ≤ 5) : effLevel k 5 = 5 := by
  rw [effLevel, if_neg (by decide)]
  split
  · omega
  · split
    · exact Nat.max_eq_left h
    · rfl

/-- A raise that is not merged into one still waiting for its commit reacts at the effective level of its key (R528). -/
theorem raiseEv_dev_of_five {s : State} {c : Cls} {scope : Nat} (rank detail : Nat) (hraised : s.tally.raised = [])
    (hkey : (keyAt s (keyNo c scope)).eff ≤ 5) : (raiseEv s c 5 scope rank detail).dev = .lockout := by
  rw [raiseEv, raiseAt, hraised]
  exact reaction_dev_of_eff_five _ (effLevel_five hkey)

/-- In an empty Tally every key is inactive. -/
theorem keyAt_of_keys_nil {s : State} (h : s.tally.keys = []) (k : Nat) : keyAt s k = {} := by
  rw [keyAt, h]; rfl

/-! ### CHECK_COMPLETE -/

@[simp] theorem foldl_forgetBlock_tally (bs : List Nat) (s : State) : (bs.foldl forgetBlock s).tally = s.tally := by
  induction bs generalizing s with
  | nil => rfl
  | cons b bs ih => exact ih (forgetBlock s b)

@[simp] theorem putCheck_tally (s : State) (b : Nat) : (putCheck s b).tally = s.tally := rfl

@[simp] theorem keyAt_putCheck (s : State) (b k : Nat) : keyAt (putCheck s b) k = keyAt s k := rfl

/-- The first check that ends in LOCKOUT, other than a LOCKOUT record, raises its fault at L5 (R78, R83). -/
theorem exec_checkComplete_of_lockout {s : State} {x : CheckFind} {b scope rank : Nat} {c : Cls} (hcheck : s.dev = .check)
    (hsrst : s.power.srstHeld = false)
    (hlock : checkLockout (x.cfgUncorr.foldl forgetBlock s) x = some (b, c, scope, rank)) (hb : b ≠ 15) :
    let t := raiseEv (putCheck (x.cfgUncorr.foldl forgetBlock s) (2 ^ b)) c 5 scope rank 0
    let u := mramCorrected (cfgFaults t x.cfgUncorr) x.corrected
    exec (.checkComplete x) s = .next { u with power := { u.power with errnHeld := false } } :=
  congrArg Host.Outcome.next ((if_pos ⟨hcheck, hsrst⟩).trans (by simp only [hlock, if_neg hb]))

/-- Settles O13: the branches of CHECK_COMPLETE and of CLOCK_SUPERVISION_FAULT; a first raise at L5 is the lock-out. -/
theorem checkEndsInLockoutOrPreop : Obligations.CheckEndsInLockoutOrPreop := by
  intro s x s0 done
  refine ⟨fun hcheck hsrst => ⟨fun b c scope rank hlock hb => ⟨?_, fun hraised hkeys => ?_⟩,
      fun (hlock : checkLockout (x.cfgUncorr.foldl forgetBlock s) x = none) => ?_⟩,
    fun hcheck => ?_, fun hrun hlock => ?_, fun hno => ?_⟩
  · exact exec_checkComplete_of_lockout hcheck hsrst hlock hb
  · have htally : s0.tally = s.tally := foldl_forgetBlock_tally _ _
    have hkey : keyAt s0 (keyNo c scope) = {} := keyAt_of_keys_nil (by rw [htally, hkeys]) _
    exact raiseEv_dev_of_five _ _ (by rw [putCheck_tally, htally, hraised]) (by simp [hkey])
  · exact congrArg Host.Outcome.next ((if_pos ⟨hcheck, hsrst⟩).trans (by simp only [hlock] <;> rfl))
  · exact congrArg Host.Outcome.next (if_neg fun h => hcheck h.1)
  · exact congrArg Host.Outcome.next (if_pos ⟨hrun, hlock⟩)
  · exact congrArg Host.Outcome.next (if_neg fun ⟨hrun, hlock⟩ => hno.elim (by simp [hrun]) hlock)

end Sys2Proof.Machine
end

section
/-! PROOFS. What every command keeps (03_ledger R118, R119): the queue, the key slots, the seal fuses and the canonical form of the
tables (`Kept`), but for the fuses at the end of a twin-key commit. A command that acts under one condition or serves a request
is read off its operations; each of the others has a lemma of its own. -/

namespace Sys2Proof.Machine

/-- Where an outcome is a next state, that state keeps what every operation keeps of the state a. -/
def KeptNext (a : State) (o : Host.Outcome State Fault Refusal) : Prop := ∀ t, o = .next t → Kept a t

theorem keptNext_next {a t : State} (h : Kept a t) : KeptNext a (.next t) := fun _ e => Host.Outcome.next.inj e ▸ h

/-- A command that acts only where its condition holds. -/
theorem keptNext_guard {s t : State} {c : Prop} [Decidable c] (h : Kept s t) :
    KeptNext s (.next (if c then t else s)) :=
  keptNext_next (kept_ite h (.refl s))

/-- A command that acts only where its condition fails. -/
theorem keptNext_unless {s t : State} {c : Prop} [Decidable c] (h : Kept s t) :
    KeptNext s (.next (if c then s else t)) :=
  keptNext_next (kept_ite (.refl s) h)

/-- A write-type request keeps what its effect keeps. -/
theorem keptNext_request {s : State} {r : Req} {idx sub : Nat} {eff : State → QReq → State × Nat}
    (he : ∀ t q, Kept s t → Kept s (eff t q).1) : KeptNext s (.next (serveWrite s r idx sub eff)) :=
  keptNext_next (serveWrite_kept s r idx sub eff (.refl s) he)

/-- An update of the fields that `Kept` does not speak of. -/
theorem Kept.frame {a s t : State} (h : Kept a s) (h1 : t.pending = s.pending := by rfl)
    (h2 : t.led.keySlots = s.led.keySlots := by rfl) (h3 : t.fuse.words = s.fuse.words := by rfl)
    (h4 : t.fuse.crc = s.fuse.crc := by rfl) (h5 : t.fns = s.fns := by rfl) (h6 : t.objs = s.objs := by rfl)
    (h7 : t.mram = s.mram := by rfl) : Kept a t :=
  h.of_eq h1 h2 h3 h4 h5 h6 h7

/-! ### The fuses -/

theorem loadGroup_blown (f : Fuses) (g : Nat) : (loadGroup f g).words = f.words ∧ (loadGroup f g).crc = f.crc := by
  simp only [loadGroup]
  split
  · exact ⟨rfl, rfl⟩
  · split <;> exact ⟨rfl, rfl⟩

/-- The load of the seals reads the fuses and leaves what is blown (R509). -/
theorem loadSeals_blown (f : Fuses) : (loadSeals f).words = f.words ∧ (loadSeals f).crc = f.crc :=
  List.foldlRecOn (motive := fun x : Fuses => x.words = f.words ∧ x.crc = f.crc) (List.range 11) loadGroup ⟨rfl, rfl⟩
    fun x hx g _ => ⟨(loadGroup_blown x g).1.trans hx.1, (loadGroup_blown x g).2.trans hx.2⟩

theorem execSealFuseLoad_kept (s : State) : KeptNext s (execSealFuseLoad s) :=
  keptNext_guard (.frame (.refl s) (h3 := (loadSeals_blown s.fuse).1) (h4 := (loadSeals_blown s.fuse).2))

/-- To blow a group changes nothing but the fuses and, where it is read back wrong, the free values (R511). -/
theorem blowGroup_eq (ok : Bool) (s : State) (e : Nat × List (BitVec 16)) :
    blowGroup ok s e = { s with fuse := (blowGroup ok s e).fuse, free := (blowGroup ok s e).free } := by
  cases ok <;> rfl

theorem foldl_blowGroup_eq (ok : Bool) (l : List (Nat × List (BitVec 16))) (s : State) :
    ∃ f n, l.foldl (blowGroup ok) s = { s with fuse := f, free := n } :=
  List.foldlRecOn (motive := fun t => ∃ f n, t = { s with fuse := f, free := n }) l (blowGroup ok) ⟨s.fuse, s.free, rfl⟩
    fun t ⟨f, n, ht⟩ e _ =>
      ⟨(blowGroup ok t e).fuse, (blowGroup ok t e).free, (blowGroup_eq ok t e).trans (by subst ht; rfl)⟩

/-- The end of a twin-key commit keeps everything of the state but its fuses (R518). -/
theorem execTkCommitDone_kept (ok : Bool) (s : State) :
    ∃ f n, KeptNext { s with fuse := f, free := n } (execTkCommitDone ok s) := by
  obtain ⟨f, n, hf⟩ := foldl_blowGroup_eq ok s.saf.staged s
  cases hc : s.saf.committing with
  | none =>
    refine ⟨s.fuse, s.free, ?_⟩
    simp only [execTkCommitDone, hc]
    exact keptNext_next (.refl s)
  | some c =>
    simp only [execTkCommitDone, hc]
    split
    · exact ⟨s.fuse, s.free, keptNext_next (.refl s)⟩
    · refine ⟨f, n, keptNext_next ?_⟩
      rw [hf]
      have hk := Kept.refl { s with fuse := f, free := n }
      repeat' first
        | with_reducible assumption | with_reducible apply persistAt_kept | with_reducible apply releaseBlocks_kept
        | with_reducible apply reply_kept | with_reducible apply raiseEv_kept | with_reducible apply kept_ite
        | (with_reducible apply kept_foldl; rotate_left; intro _ _ _)
        | with_reducible refine Kept.of_mk ?_ rfl rfl rfl rfl rfl rfl rfl

/-! ### Commands with more than one branch -/

theorem execPllLock_kept (us : Nat) (s : State) : KeptNext s (execPllLock us s) := by
  have hk := Kept.refl s
  refine keptNext_next ?_
  repeat' first
    | with_reducible assumption | with_reducible apply campLoad_kept | with_reducible apply enterBoot_kept
    | with_reducible apply raiseEv_kept | with_reducible apply kept_ite
    | with_reducible refine Kept.of_mk ?_ rfl rfl rfl rfl rfl rfl rfl

theorem execFirmwareVerified_kept (s : State) : KeptNext s (execFirmwareVerified s) := by
  have hk := Kept.refl s
  refine keptNext_next ?_
  repeat' first
    | with_reducible assumption | with_reducible apply setDev_kept | with_reducible apply putOb_kept
    | with_reducible apply kept_ite | split | with_reducible refine Kept.of_mk ?_ rfl rfl rfl rfl rfl rfl rfl

theorem execCheckComplete_kept (x : CheckFind) (s : State) : KeptNext s (execCheckComplete x s) := by
  have hk := Kept.refl s
  refine keptNext_next ?_
  repeat' first
    | with_reducible assumption | with_reducible apply forgetBlock_kept | with_reducible apply putCheck_kept
    | with_reducible apply countRestore_kept | with_reducible apply raiseEv_kept
    | with_reducible apply mramCorrected_kept | with_reducible apply cfgFaults_kept
    | with_reducible apply restoreCfg_kept | with_reducible apply checkFaults_kept
    | with_reducible apply enterPreop_kept | with_reducible apply kept_ite
    | (with_reducible apply kept_foldl; rotate_left; intro _ _ _) | split
    | with_reducible refine Kept.of_mk ?_ rfl rfl rfl rfl rfl rfl rfl

theorem execX32Loss_kept (s : State) : KeptNext s (execX32Loss s) :=
  keptNext_next (kept_ite (raiseEv_kept (hk := putOb_kept (hk := .frame (.refl s)) ..) ..) (kept_ite
    (putOb_kept (hk := .frame (.refl s)) ..) (.refl s)))

theorem execLedgerFrameRx_kept (x : LFrame) (s : State) : KeptNext s (execLedgerFrameRx x s) := by
  have hk := Kept.refl s
  refine keptNext_next ?_
  repeat' first
    | with_reducible assumption | with_reducible apply takeRx_kept | with_reducible apply dropFrame_kept
    | with_reducible apply setSess_kept | with_reducible apply enqueue_kept | with_reducible apply closeSession_kept
    | with_reducible apply kept_ite | with_reducible refine Kept.of_mk ?_ rfl rfl rfl rfl rfl rfl rfl

theorem execRead_kept (r : Req) (idx sub : Nat) (s : State) : KeptNext s (execRead r idx sub s) := by
  have hk := Kept.refl s
  refine keptNext_next ?_
  repeat' first
    | with_reducible assumption | with_reducible apply admitted_kept | with_reducible apply refuse_kept
    | with_reducible apply readTake_kept | with_reducible apply reply_kept | with_reducible apply kept_ite
    | refine kept_fst_of_eq (by assumption) ?_ | split

theorem execBlockRead_kept (r : Req) (idx sub : Nat) (s : State) : KeptNext s (execBlockRead r idx sub s) := by
  have hk := Kept.refl s
  refine keptNext_next ?_
  repeat' first
    | with_reducible assumption | with_reducible apply admitted_kept | with_reducible apply refuse_kept
    | with_reducible apply sendSegment_kept | with_reducible apply readTake_kept | with_reducible apply setXfer_kept
    | with_reducible apply kept_ite | refine kept_fst_of_eq (by assumption) ?_ | split

theorem execBlockWrite_kept (r : Req) (idx sub : Nat) (s : State) : KeptNext s (execBlockWrite r idx sub s) := by
  have hk := Kept.refl s
  refine keptNext_next ?_
  repeat' first
    | with_reducible assumption | with_reducible apply admitted_kept | with_reducible apply refuse_kept
    | with_reducible apply startBlock_kept | with_reducible apply nextBlock_kept | with_reducible apply kept_ite
    | refine kept_fst_of_eq (by assumption) ?_ | split

theorem execBlockTransferTimeout_kept (ses : Nat) (s : State) : KeptNext s (execBlockTransferTimeout ses s) := by
  have hk := Kept.refl s
  refine keptNext_next ?_
  repeat' first
    | with_reducible assumption | with_reducible apply setXfer_kept | with_reducible apply kept_ite | split

theorem execSubscribe_kept (r : Req) (idx sub : Nat) (s : State) : KeptNext s (execSubscribe r idx sub s) := by
  have hk := Kept.refl s
  refine keptNext_next ?_
  repeat' first
    | with_reducible assumption | with_reducible apply admitted_kept | with_reducible apply refuse_kept
    | with_reducible apply notify_kept | with_reducible apply reply_kept | with_reducible apply kept_ite
    | refine kept_fst_of_eq (by assumption) ?_ | split
    | with_reducible refine Kept.of_mk ?_ rfl rfl rfl rfl rfl rfl rfl

theorem execUnsubscribe_kept (r : Req) (s : State) : KeptNext s (execUnsubscribe r s) := by
  have hk := Kept.refl s
  refine keptNext_next ?_
  repeat' first
    | with_reducible assumption | with_reducible apply admitted_kept | with_reducible apply refuse_kept
    | with_reducible apply reply_kept | with_reducible apply kept_ite | refine kept_fst_of_eq (by assumption) ?_
    | split | with_reducible refine Kept.of_mk ?_ rfl rfl rfl rfl rfl rfl rfl

theorem execSubscriptionSample_kept (ses n : Nat) (s : State) : KeptNext s (execSubscriptionSample ses n s) := by
  have hk := Kept.refl s
  refine keptNext_next ?_
  repeat' first
    | with_reducible assumption | with_reducible apply notify_kept | with_reducible apply kept_ite | split
    | with_reducible refine Kept.of_mk ?_ rfl rfl rfl rfl rfl rfl rfl

theorem execTime_kept (r : Req) (s : State) : KeptNext s (execTime r s) := by
  have hk := Kept.refl s
  refine keptNext_next ?_
  repeat' first
    | with_reducible assumption | with_reducible apply admitted_kept | with_reducible apply refuse_kept
    | with_reducible apply reply_kept | with_reducible apply kept_ite | refine kept_fst_of_eq (by assumption) ?_
    | split

theorem execOpen_kept (x : OpenReq) (s : State) : KeptNext s (execOpen x s) := by
  have hk := Kept.refl s
  refine keptNext_next ?_
  repeat' first
    | with_reducible assumption | with_reducible apply refuseOpen_kept | with_reducible apply openNoSlot_kept
    | with_reducible apply sendOpen_kept | with_reducible apply openSlot_kept | with_reducible apply kept_ite | split
    | with_reducible refine Kept.of_mk ?_ rfl rfl rfl rfl rfl rfl rfl

theorem execClose_kept (r : Req) (s : State) : KeptNext s (execClose r s) := by
  have hk := Kept.refl s
  refine keptNext_next ?_
  repeat' first
    | with_reducible assumption | with_reducible apply admitted_kept | with_reducible apply refuse_kept
    | with_reducible apply closeSession_kept | with_reducible apply reply_kept | with_reducible apply kept_ite
    | refine kept_fst_of_eq (by assumption) ?_ | split

theorem execStrikeRelease_kept (s : State) : KeptNext s (execStrikeRelease s) := by
  have hk := Kept.refl s
  refine keptNext_next ?_
  repeat' first
    | with_reducible assumption | with_reducible apply releaseOp_kept | with_reducible apply kept_ite | split

theorem execStrikePersist_kept (s : State) : KeptNext s (execStrikePersist s) := by
  have hk := Kept.refl s
  refine keptNext_next ?_
  repeat' first
    | with_reducible assumption | with_reducible apply persistStruck_kept | with_reducible apply kept_ite | split
    | with_reducible refine Kept.of_mk ?_ rfl rfl rfl rfl rfl rfl rfl

theorem execManifestPublish_kept (m : Nat) (s : State) : KeptNext s (execManifestPublish m s) := by
  have hk := Kept.refl s
  refine keptNext_next ?_
  repeat' first
    | with_reducible assumption | with_reducible apply setMan_kept | with_reducible apply setSess_kept
    | with_reducible apply manSend_kept | with_reducible apply closeSession_kept | with_reducible apply kept_ite

theorem execManifestConsumeFrame_kept (m : Nat) (s : State) : KeptNext s (execManifestConsumeFrame m s) := by
  have hk := Kept.refl s
  refine keptNext_next ?_
  repeat' first
    | with_reducible assumption | with_reducible apply manTake_kept | with_reducible apply kept_ite | split

theorem execManifestConsumeApply_kept (m : Nat) (s : State) : KeptNext s (execManifestConsumeApply m s) := by
  have hk := Kept.refl s
  refine keptNext_next ?_
  repeat' first
    | with_reducible assumption | with_reducible apply manTake_kept | with_reducible apply manMiss_kept
    | with_reducible apply manApply_kept | with_reducible apply manEnding_kept | with_reducible apply setMan_kept
    | with_reducible apply kept_ite | (with_reducible apply kept_foldl; rotate_left; intro _ _ _) | split

theorem execMarkFire_kept (k j : Nat) (s : State) : KeptNext s (execMarkFire k j s) := by
  have hk := Kept.refl s
  refine keptNext_next ?_
  repeat' first
    | with_reducible assumption | with_reducible apply fireMark_kept | with_reducible apply kept_ite | split
    | with_reducible refine Kept.of_mk ?_ rfl rfl rfl rfl rfl rfl rfl

theorem execRodSourceUpdate_kept (rod : Nat) (s : State) : KeptNext s (execRodSourceUpdate rod s) := by
  have hk := Kept.refl s
  refine keptNext_next ?_
  repeat' first
    | with_reducible assumption | refine takeUpd_kept ?_ (by assumption) | with_reducible apply setRod_kept
    | with_reducible apply applyUpd_kept | with_reducible apply kept_ite | split

theorem execCarrierWrapApply_kept (rod : Nat) (s : State) : KeptNext s (execCarrierWrapApply rod s) := by
  have hk := Kept.refl s
  refine keptNext_next ?_
  repeat' first
    | with_reducible assumption | with_reducible apply carrierTake_kept | with_reducible apply setRod_kept
    | with_reducible apply kept_ite | split

theorem execLaneReadbackCompare_kept (x : Readback) (s : State) : KeptNext s (execLaneReadbackCompare x s) := by
  have hk := Kept.refl s
  refine keptNext_next ?_
  repeat' first
    | with_reducible assumption | with_reducible apply clearDet_kept | with_reducible apply setLane_kept
    | with_reducible apply condRaise_kept | with_reducible apply incOb_kept | with_reducible apply kept_ite

theorem execResolverUpdate_kept (i : Nat) (m : ResMeas) (s : State) : KeptNext s (execResolverUpdate i m s) := by
  have hk := Kept.refl s
  refine keptNext_next ?_
  repeat' first
    | with_reducible assumption | with_reducible apply putOb_kept | with_reducible apply ifaceDone_kept
    | with_reducible apply sendUpd_kept | with_reducible apply rodInvalid_kept | with_reducible apply kept_ite
    | with_reducible refine Kept.of_mk ?_ rfl rfl rfl rfl rfl rfl rfl

theorem execEncoderEdge_kept (e : Nat) (was lv : Bool × Bool) (s : State) :
    KeptNext s (execEncoderEdge e was lv s) := by
  have hk := Kept.refl s
  refine keptNext_next ?_
  repeat' first
    | with_reducible assumption | with_reducible apply rodInvalid_kept | with_reducible apply ifaceDone_kept
    | with_reducible apply setEnc_kept | with_reducible apply putOb_kept | with_reducible apply kept_ite | split

theorem execEncoderIndex_kept (e : Nat) (s : State) : KeptNext s (execEncoderIndex e s) := by
  have hk := Kept.refl s
  refine keptNext_next ?_
  repeat' first
    | with_reducible assumption | with_reducible apply ifaceDone_kept | with_reducible apply setEnc_kept
    | with_reducible apply rodInvalid_kept | with_reducible apply kept_ite | split

theorem execEncoderUpdate_kept (e : Nat) (s : State) : KeptNext s (execEncoderUpdate e s) := by
  have hk := Kept.refl s
  refine keptNext_next ?_
  repeat' first
    | with_reducible assumption | with_reducible apply putIface_kept | with_reducible apply setEnc_kept
    | with_reducible apply rodInvalid_kept | with_reducible apply sendUpd_kept | with_reducible apply kept_ite
    | split

theorem execHallEdge_kept (h code : Nat) (s : State) : KeptNext s (execHallEdge h code s) := by
  have hk := Kept.refl s
  refine keptNext_next ?_
  repeat' first
    | with_reducible assumption | with_reducible apply rodInvalid_kept | with_reducible apply ifaceDone_kept
    | with_reducible apply putOb_kept | with_reducible apply setHall_kept | with_reducible apply freshWord_kept
    | with_reducible apply sendUpd_kept | with_reducible apply kept_ite | split

theorem execHallRateUpdate_kept (h : Nat) (s : State) : KeptNext s (execHallRateUpdate h s) :=
  keptNext_unless (kept_ite (sendUpd_kept (hk := ifaceDone_kept (hk := setHall_kept (hk := .refl s) ..) ..) ..)
    (rodInvalid_kept (hk := ifaceDone_kept (hk := setHall_kept (hk := .refl s) ..) ..) ..))

theorem execGridPllStep_kept (s : State) : KeptNext s (execGridPllStep s) := by
  have hk := Kept.refl s
  refine keptNext_next ?_
  repeat' first
    | with_reducible assumption | with_reducible apply ifaceDone_kept | with_reducible apply putOb_kept
    | with_reducible apply sendUpd_kept | with_reducible apply gridUnbalance_kept
    | with_reducible apply rodInvalid_kept | with_reducible apply kept_ite
    | with_reducible refine Kept.of_mk ?_ rfl rfl rfl rfl rfl rfl rfl

theorem execSeqTrigger_kept (q : Nat) (s : State) : KeptNext s (execSeqTrigger q s) := by
  have hk := Kept.refl s
  refine keptNext_next ?_
  repeat' first
    | with_reducible assumption | refine takeTrig_kept ?_ (by assumption) | with_reducible apply seqEvent_kept
    | with_reducible apply kept_ite | split

theorem execConverterFree_kept (cv : Nat) (s : State) : KeptNext s (execConverterFree cv s) := by
  have hk := Kept.refl s
  refine keptNext_next ?_
  repeat' first
    | with_reducible assumption | with_reducible apply startSeq_kept | with_reducible apply kept_ite | split

theorem execCalCaptureDone_kept (ch : Nat) (s : State) : KeptNext s (execCalCaptureDone ch s) :=
  keptNext_unless (kept_ite (putCalState_kept (hk := setCal_kept (hk := .refl s) ..) ..)
    (putCalState_kept (hk := setCal_kept (hk := .refl s) ..) ..))

theorem execPairCheck_kept (p : Nat) (src : AdcIn) (uv : Int × Int) (s : State) :
    KeptNext s (execPairCheck p src uv s) := by
  have hk := Kept.refl s
  refine keptNext_next ?_
  repeat' first
    | with_reducible assumption | with_reducible apply outConv_kept | with_reducible apply pairResult_kept
    | with_reducible apply putOb_kept | with_reducible apply pairStarve_kept | with_reducible apply kept_ite1
    | with_reducible apply kept_ite

theorem execSdOutput_kept (dm : Nat) (rise fall : List Bool) (s : State) :
    KeptNext s (execSdOutput dm rise fall s) := by
  have hk := Kept.refl s
  refine keptNext_next ?_
  repeat' first
    | with_reducible assumption | refine takeTrig_kept ?_ (by assumption) | with_reducible apply missChan_kept
    | with_reducible apply setSd_kept | with_reducible apply sdClocksIn_kept | with_reducible apply sdOutput_kept
    | with_reducible apply kept_ite | split

theorem execSdcFault_kept (r : SdcSeen) (s : State) : KeptNext s (execSdcFault r s) := by
  have hk := Kept.refl s
  refine keptNext_next ?_
  repeat' first
    | with_reducible assumption | with_reducible apply missChan_kept | with_reducible apply sdFault_kept
    | with_reducible apply setSd_kept | with_reducible apply putOb_kept | with_reducible apply kept_ite
    | (with_reducible apply kept_foldl; rotate_left; intro _ _ _)
    | with_reducible refine Kept.of_mk ?_ rfl rfl rfl rfl rfl rfl rfl

theorem execStatTimeout_kept (u : Nat) (s : State) : KeptNext s (execStatTimeout u s) := by
  have hk := Kept.refl s
  refine keptNext_next ?_
  repeat' first
    | with_reducible assumption | with_reducible apply statDue_kept | with_reducible apply statLatch_kept
    | with_reducible apply kept_ite | split

theorem execWinPeriodClear_kept (w : Nat) (s : State) : KeptNext s (execWinPeriodClear w s) := by
  have hk := Kept.refl s
  refine keptNext_next ?_
  repeat' first
    | with_reducible assumption | with_reducible apply winAdvance_kept | with_reducible apply winClearOut_kept
    | with_reducible apply setWin_kept | with_reducible apply kept_ite | split

theorem execWindowCheck_kept (w : Nat) (agree : Bool) (s : State) : KeptNext s (execWindowCheck w agree s) :=
  keptNext_unless (kept_ite (kept_ite (.refl s) (winCheckFail_kept (hk := .refl s) ..)) (kept_ite
    (winCheckFail_kept (hk := .refl s) ..) (setWin_kept (hk := .refl s) ..)))

theorem execWindowCheckEnd_kept (w : Nat) (agree : Bool) (s : State) : KeptNext s (execWindowCheckEnd w agree s) :=
  keptNext_guard (kept_ite (reliefFreed_kept (hk := clearDet_kept (hk := setWin_kept (hk := .refl s) ..) ..) ..)
    (winCheckFail_kept (hk := .refl s) ..))

theorem execLoopTrigger_kept (l : Nat) (s : State) : KeptNext s (execLoopTrigger l s) := by
  have hk := Kept.refl s
  refine keptNext_next ?_
  repeat' first
    | with_reducible assumption | with_reducible apply drvBefore_kept | with_reducible apply loopEvent_kept
    | with_reducible apply kept_ite | split | with_reducible refine Kept.of_mk ?_ rfl rfl rfl rfl rfl rfl rfl

theorem execDriveFaultRampEnd_kept (d : Drv) (s : State) : KeptNext s (execDriveFaultRampEnd d s) := by
  have hk := Kept.refl s
  refine keptNext_next ?_
  repeat' first
    | with_reducible assumption | with_reducible apply setDrv_kept | with_reducible apply kept_ite | split

theorem execDerateUpdate_kept (f : Fn) (s : State) : KeptNext s (execDerateUpdate f s) := by
  have hk := Kept.refl s
  refine keptNext_next ?_
  repeat' first
    | with_reducible assumption | with_reducible apply setDrv_kept | with_reducible apply drvWatch_kept
    | with_reducible apply derateEval_kept | with_reducible apply setChg_kept | with_reducible apply kept_ite | split

theorem execFaultInputEdge_kept (k : Nat) (s : State) : KeptNext s (execFaultInputEdge k s) := by
  have hk := Kept.refl s
  refine keptNext_next ?_
  repeat' first
    | with_reducible assumption | with_reducible apply incOb_kept | with_reducible apply fltHolds_kept
    | with_reducible apply drvFault_kept | with_reducible apply raise_kept | with_reducible apply kept_ite | split
    | with_reducible refine Kept.of_mk ?_ rfl rfl rfl rfl rfl rfl rfl

theorem execAscApply_kept (d : Drv) (s : State) : KeptNext s (execAscApply d s) := by
  have hk := Kept.refl s
  refine keptNext_next ?_
  repeat' first
    | with_reducible assumption | with_reducible apply setSel_kept | with_reducible apply kept_ite | split

theorem execDumpTest_kept (src : AdcIn) (uv : Int) (s : State) : KeptNext s (execDumpTest src uv s) := by
  have hk := Kept.refl s
  refine keptNext_next ?_
  repeat' first
    | with_reducible assumption | with_reducible apply setLink_kept | with_reducible apply outConv_kept
    | with_reducible apply dumpResult_kept | with_reducible apply kept_ite | split

theorem execPilotEval_kept (s : State) : KeptNext s (execPilotEval s) := by
  have hk := Kept.refl s
  refine keptNext_next ?_
  repeat' first
    | with_reducible assumption | with_reducible apply pilotForm_kept | with_reducible apply pilotAccept_kept
    | with_reducible apply plugWatch_kept | with_reducible apply pilotSession_kept
    | with_reducible apply putPilotCurrent_kept | with_reducible apply kept_ite

theorem execProximityEval_kept (s : State) : KeptNext s (execProximityEval s) := by
  have hk := Kept.refl s
  refine keptNext_next ?_
  repeat' first
    | with_reducible assumption | with_reducible apply putOb_kept | with_reducible apply setChg_kept
    | with_reducible apply freshWord_kept | with_reducible apply plugWatch_kept | with_reducible apply ppAccept_kept
    | with_reducible apply kept_ite

theorem execSessionBusReady_kept (s : State) : KeptNext s (execSessionBusReady s) :=
  keptNext_next (kept_ite (putPhase_kept (hk := dabPut_kept (hk := setChg_kept (hk := .refl s) ..) ..) ..) (kept_ite
    (relayMain_kept (hk := setChg_kept (hk := .refl s) ..) ..) (.refl s)))

theorem execSafetyTimerTick_kept (s : State) : KeptNext s (execSafetyTimerTick s) := by
  have hk := Kept.refl s
  refine keptNext_next ?_
  repeat' first
    | with_reducible assumption | with_reducible apply setChg_kept | with_reducible apply putOb_kept
    | with_reducible apply chgL3_kept | with_reducible apply kept_ite

theorem execSessionEnd_kept (s : State) : KeptNext s (execSessionEnd s) :=
  keptNext_guard (kept_ite (setFn_kept (sessionOver_kept (hk := sessionOff_kept (hk := .refl s) ..) ..) ..)
    (sessionOver_kept (hk := sessionOff_kept (hk := .refl s) ..) ..))

theorem execV2lRampEnd_kept (s : State) : KeptNext s (execV2lRampEnd s) :=
  keptNext_next (kept_ite (putPhase_kept (hk := setChg_kept (hk := .refl s) ..) ..) (kept_ite
    (setChg_kept (hk := .refl s) ..) (.refl s)))

theorem execV2lOverload_kept (s : State) : KeptNext s (execV2lOverload s) := by
  have hk := Kept.refl s
  refine keptNext_next ?_
  repeat' first
    | with_reducible assumption | with_reducible apply chgL1_kept | with_reducible apply kept_ite

theorem execConverterLimitStage_kept (s : State) : KeptNext s (execConverterLimitStage s) := by
  have hk := Kept.refl s
  refine keptNext_next ?_
  repeat' first
    | with_reducible assumption | with_reducible apply cnvWatch_kept | with_reducible apply cnvRefs_kept
    | with_reducible apply cnvLimits_kept | with_reducible apply cnvRamp_kept | with_reducible apply setCnv_kept
    | with_reducible apply kept_ite

theorem execDcxSoftstartEnd_kept (s : State) : KeptNext s (execDcxSoftstartEnd s) := by
  have hk := Kept.refl s
  refine keptNext_next ?_
  repeat' first
    | with_reducible assumption | with_reducible apply sendFreqAll_kept | with_reducible apply setCnv_kept
    | with_reducible apply presetBrace_kept | with_reducible apply cnvL3_kept | with_reducible apply kept_ite

theorem execConverterStopDone_kept (s : State) : KeptNext s (execConverterStopDone s) :=
  keptNext_unless (kept_ite (kept_ite (cnvEnd_kept (hk := .refl s) ..) (.refl s)) (kept_ite (kept_ite (setFn_kept
    (cnvOff_kept (hk := .refl s) ..) ..) (cnvOff_kept (hk := .refl s) ..)) (.refl s)))

theorem execCampLinkLow_kept (s : State) : KeptNext s (execCampLinkLow s) :=
  keptNext_next (kept_ite (setCamp_kept (hk := .refl s) ..) (kept_ite
    (setCamp_kept (hk := campClose_kept (hk := .refl s) ..) ..) (.refl s)))

theorem execCampEntryComplete_kept (rcps : Nat) (s : State) : KeptNext s (execCampEntryComplete rcps s) := by
  have hk := Kept.refl s
  refine keptNext_next ?_
  repeat' first
    | with_reducible assumption | with_reducible apply toCamp_kept | with_reducible apply campWakeUp_kept
    | with_reducible apply kept_ite | split

theorem execCampWake_kept (x : WakeEv) (s : State) : KeptNext s (execCampWake x s) :=
  keptNext_next (kept_ite (kept_ite (campWakeUp_kept (hk := .refl s) ..) (.refl s)) (kept_ite
    (campAbandon_kept (hk := .refl s) ..) (kept_ite (setCamp_kept (hk := .refl s) ..) (.refl s))))

theorem execActPeriodStart_kept (n : Nat) (s : State) : KeptNext s (execActPeriodStart n s) := by
  have hk := Kept.refl s
  refine keptNext_next ?_
  repeat' first
    | with_reducible assumption | with_reducible apply setAct_kept | with_reducible apply ridgeOut_kept
    | with_reducible apply actWaited_kept | with_reducible apply parkPlumb_kept | with_reducible apply actTick_kept
    | with_reducible apply laneAction_kept | with_reducible apply setLive_kept | with_reducible apply kept_ite
    | split

theorem execActIlimit_kept (x : ShuntMeas) (s : State) : KeptNext s (execActIlimit x s) := by
  have hk := Kept.refl s
  refine keptNext_next ?_
  repeat' first
    | with_reducible assumption | with_reducible apply actTick_kept | with_reducible apply incOb_kept
    | with_reducible apply setAct_kept | with_reducible apply kept_ite | split

theorem execVgdLockout_kept (s : State) : KeptNext s (execVgdLockout s) := by
  have hk := Kept.refl s
  refine keptNext_next ?_
  repeat' first
    | with_reducible assumption | with_reducible apply putOb_kept | with_reducible apply incOb_kept
    | with_reducible apply actOff_kept | with_reducible apply raiseAll_kept | with_reducible apply kept_ite
    | (with_reducible apply kept_foldl; rotate_left; intro _ _ _)

theorem execPumpEval_kept (s : State) : KeptNext s (execPumpEval s) := by
  have hk := Kept.refl s
  refine keptNext_next ?_
  repeat' first
    | with_reducible assumption | with_reducible apply ridgeOut_kept | with_reducible apply clearDet_kept
    | with_reducible apply condRaise_kept | with_reducible apply pumpOff_kept | with_reducible apply kept_ite
    | with_reducible refine Kept.of_mk ?_ rfl rfl rfl rfl rfl rfl rfl

theorem execParklockTravelTimeout_kept (s : State) : KeptNext s (execParklockTravelTimeout s) := by
  have hk := Kept.refl s
  refine keptNext_next ?_
  repeat' first
    | with_reducible assumption | with_reducible apply actOff_kept | with_reducible apply parkEnd_kept
    | with_reducible apply raiseEv_kept | with_reducible apply kept_ite
    | with_reducible refine Kept.of_mk ?_ rfl rfl rfl rfl rfl rfl rfl

theorem execParklockInterlock_kept (s : State) : KeptNext s (execParklockInterlock s) :=
  keptNext_unless (kept_ite (raiseEv_kept (hk := parkStart_kept (hk := .frame
    (parkPlumb_kept (hk := .refl s) ..)) ..) ..) (parkPlumb_kept (hk := .refl s) ..))

theorem execClutchMatch_kept (s : State) : KeptNext s (execClutchMatch s) := by
  have hk := Kept.refl s
  refine keptNext_next ?_
  repeat' first
    | with_reducible assumption | with_reducible apply clutchGo_kept | with_reducible apply clutchDrive_kept
    | with_reducible apply kept_ite | split | with_reducible refine Kept.of_mk ?_ rfl rfl rfl rfl rfl rfl rfl

theorem execClutchRetry_kept (s : State) : KeptNext s (execClutchRetry s) :=
  keptNext_guard (kept_ite (clutchFail_kept (hk := putOb_kept (hk := .frame (.refl s)) ..) ..)
    (clutchGo_kept (hk := clutchDrive_kept (hk := putOb_kept (hk := .frame (.refl s)) ..) ..) ..))

theorem execWatchdogWindow_kept (proc : Nat) (x : SignIn) (s : State) : KeptNext s (execWatchdogWindow proc x s) :=
  keptNext_unless (kept_ite (clearAll_kept (hk := .frame (.refl s)) ..) (kept_ite (raiseAll_kept (hk := .frame
    (.refl s)) ..) (.frame (.refl s))))

theorem execWaybillCommand_kept (x : WbFrame) (s : State) : KeptNext s (execWaybillCommand x s) := by
  have hk := Kept.refl s
  refine keptNext_next ?_
  repeat' first
    | with_reducible assumption | with_reducible apply takeRx_kept | with_reducible apply incOb_kept
    | with_reducible apply wbAccept_kept | with_reducible apply kept_ite | split

theorem execFaultCommit_kept (s : State) : KeptNext s (execFaultCommit s) := by
  have hk := Kept.refl s
  refine keptNext_next ?_
  repeat' first
    | with_reducible assumption | with_reducible apply commitRaise_kept | with_reducible apply kept_ite | split

theorem execEthFrameRx_kept (x : EthFrame) (s : State) : KeptNext s (execEthFrameRx x s) := by
  have hk := Kept.refl s
  refine keptNext_next ?_
  repeat' first
    | with_reducible assumption | with_reducible apply incOb_kept | with_reducible apply kept_ite
    | with_reducible refine Kept.of_mk ?_ rfl rfl rfl rfl rfl rfl rfl

theorem execEthLinkPoll_kept (x : LinkPoll) (s : State) : KeptNext s (execEthLinkPoll x s) := by
  have hk := Kept.refl s
  refine keptNext_next ?_
  repeat' first
    | with_reducible assumption | with_reducible apply putPtp_kept | with_reducible apply clearCause_kept
    | with_reducible apply arpAsk_kept | with_reducible apply condRaise_kept | with_reducible apply linkDown_kept
    | with_reducible apply kept_ite | with_reducible refine Kept.of_mk ?_ rfl rfl rfl rfl rfl rfl rfl

theorem execArpRx_kept (x : ArpMsg) (s : State) : KeptNext s (execArpRx x s) :=
  keptNext_unless (kept_ite (kept_ite (arpRelease_kept (hk := arpLearn_kept (hk := .refl s) ..) ..) (.refl s))
    (kept_ite (ethPush_kept (hk := arpLearn_kept (hk := .refl s) ..) ..) (.refl s)))

theorem execArpRetry_kept (ip : Word) (s : State) : KeptNext s (execArpRetry ip s) := by
  have hk := Kept.refl s
  refine keptNext_next ?_
  repeat' first
    | with_reducible assumption | with_reducible apply dropMan_kept | with_reducible apply incOb_kept
    | with_reducible apply arpAsk_kept | with_reducible apply kept_ite | split
    | with_reducible refine Kept.of_mk ?_ rfl rfl rfl rfl rfl rfl rfl

theorem execPtpFollowUp_kept (x : PtpMsg) (s : State) : KeptNext s (execPtpFollowUp x s) := by
  have hk := Kept.refl s
  refine keptNext_next ?_
  repeat' first
    | with_reducible assumption | with_reducible apply ptpUpdate_kept | with_reducible apply kept_ite | split

theorem execPtpPdelayRespRx_kept (x : PtpMsg) (s : State) : KeptNext s (execPtpPdelayRespRx x s) := by
  have hk := Kept.refl s
  refine keptNext_next ?_
  repeat' first
    | with_reducible assumption | with_reducible apply putOb_kept | with_reducible apply putPtp_kept
    | with_reducible apply kept_ite | split | with_reducible refine Kept.of_mk ?_ rfl rfl rfl rfl rfl rfl rfl

theorem execCanFrameRx_kept (cn : Nat) (x : CanFrame) (s : State) : KeptNext s (execCanFrameRx cn x s) := by
  have hk := Kept.refl s
  refine keptNext_next ?_
  repeat' first
    | with_reducible assumption | with_reducible apply canErrs_kept | with_reducible apply setCan_kept
    | with_reducible apply hpfStore_kept | with_reducible apply incOb_kept | with_reducible apply kept_ite | split

theorem execCanTxAttemptDone_kept (cn : Nat) (x : TxResult) (sof : Nat) (s : State) :
    KeptNext s (execCanTxAttemptDone cn x sof s) := by
  have hk := Kept.refl s
  refine keptNext_next ?_
  repeat' first
    | with_reducible assumption | with_reducible apply canErrs_kept | with_reducible apply incOb_kept
    | with_reducible apply setCan_kept | with_reducible apply manSent_kept | with_reducible apply kept_ite | split

theorem execCanDetectAccept_kept (cn : Nat) (brs : Bool) (s : State) : KeptNext s (execCanDetectAccept cn brs s) := by
  have hk := Kept.refl s
  refine keptNext_next ?_
  repeat' first
    | with_reducible assumption | with_reducible apply putOb_kept | with_reducible apply setCan_kept
    | with_reducible apply kept_ite | with_reducible refine Kept.of_mk ?_ rfl rfl rfl rfl rfl rfl rfl

theorem execCanRefCycle_kept (cn : Nat) (s : State) : KeptNext s (execCanRefCycle cn s) :=
  keptNext_unless (canSend_kept (hk := setCan_kept (hk := kept_ite
    (incOb_kept (hk := canCancel_kept (hk := .refl s) ..) ..) (.refl s)) ..) ..)

theorem execThermalSample_kept (sensor : Nat) (m : AdcMeas) (s : State) :
    KeptNext s (execThermalSample sensor m s) := by
  have hk := Kept.refl s
  refine keptNext_next ?_
  repeat' first
    | with_reducible assumption | with_reducible apply outConv_kept | with_reducible apply dieSample_kept
    | with_reducible apply ntcSample_kept | with_reducible apply kept_ite1 | with_reducible apply kept_ite

theorem execOutriderCycle_kept (s : State) : KeptNext s (execOutriderCycle s) :=
  keptNext_unless (.frame (kept_ite (.refl s) (incOb_kept (hk := kept_foldl _ _ _ (.refl s) fun _ _ ht =>
    testCycle_kept (hk := ht) ..) ..)))

theorem execOutriderTest_kept (t elem : Nat) (pass : Bool) (mended blk : Nat) (s : State) :
    KeptNext s (execOutriderTest t elem pass mended blk s) := by
  have hk := Kept.refl s
  refine keptNext_next ?_
  repeat' first
    | with_reducible assumption | with_reducible apply tieTaken_kept | with_reducible apply scrubbed_kept
    | with_reducible apply macTest_kept | with_reducible apply testPass_kept | with_reducible apply incOb_kept
    | with_reducible apply testFail_kept | with_reducible apply setTest_kept | with_reducible apply clearDet_kept
    | with_reducible apply putOb_kept | with_reducible apply kept_ite

theorem execSpiFrame_kept (mosi : BitVec 64) (s : State) : KeptNext s (execSpiFrame mosi s) := by
  have hk := Kept.refl s
  refine keptNext_next ?_
  repeat' first
    | with_reducible assumption | with_reducible apply setReply_kept | with_reducible apply touchHost_kept
    | with_reducible apply hostRead_kept | with_reducible apply hostWrite_kept | with_reducible apply freshWord_kept
    | with_reducible apply kept_ite | with_reducible refine Kept.of_mk ?_ rfl rfl rfl rfl rfl rfl rfl

theorem execMboxResponse_kept (s : State) : KeptNext s (execMboxResponse s) := by
  have hk := Kept.refl s
  refine keptNext_next ?_
  repeat' first
    | with_reducible assumption | with_reducible apply irq_kept | with_reducible apply answer_kept | split
    | with_reducible refine Kept.of_mk ?_ rfl rfl rfl rfl rfl rfl rfl

theorem execLaneTick_kept (s : State) : KeptNext s (execLaneTick s) := by
  have hk := Kept.refl s
  refine keptNext_next ?_
  repeat' first
    | with_reducible assumption | with_reducible apply livePos_kept | with_reducible apply rodsTick_kept
    | with_reducible apply timeTick_kept | with_reducible apply tickEnd_kept | with_reducible apply edgeTick_kept
    | with_reducible apply relayTick_kept | with_reducible apply actTick_kept | with_reducible apply winTick_kept
    | with_reducible apply outTick_kept | with_reducible apply statTick_kept | with_reducible apply rodSnoop_kept
    | with_reducible apply speedTrack_kept | with_reducible apply kept_ite
    | (with_reducible apply kept_foldl; rotate_left; intro _ _ _)

theorem execFaultInputRise_kept (k : Nat) (s : State) : KeptNext s (execFaultInputRise k s) := by
  have hk := Kept.refl s
  refine keptNext_next ?_
  repeat' first
    | with_reducible assumption | with_reducible apply clearDet_kept | with_reducible apply kept_ite
    | (with_reducible apply kept_foldl; rotate_left; intro _ _ _) | split
    | with_reducible refine Kept.of_mk ?_ rfl rfl rfl rfl rfl rfl rfl

theorem execEthTxDone_kept (s : State) : KeptNext s (execEthTxDone s) := by
  have hk := Kept.refl s
  refine keptNext_next ?_
  repeat' first
    | with_reducible assumption | with_reducible apply incOb_kept | with_reducible apply manSent_kept | split
    | with_reducible refine Kept.of_mk ?_ rfl rfl rfl rfl rfl rfl rfl

theorem execSdcClockReturn_kept (k : Nat) (s : State) : KeptNext s (execSdcClockReturn k s) := by
  have hk := Kept.refl s
  refine keptNext_next ?_
  repeat' first
    | with_reducible assumption | with_reducible apply clearDet_kept | with_reducible apply setSd_kept
    | with_reducible apply putOb_kept | with_reducible apply kept_ite
    | (with_reducible apply kept_foldl; rotate_left; intro _ _ _)
    | with_reducible refine Kept.of_mk ?_ rfl rfl rfl rfl rfl rfl rfl

/-! ### Every command -/

/-- Every command but the end of a twin-key commit keeps the queue, the key slots, the fuses and the canonical form: one case
for each row of the table. -/
theorem exec_kept (c : Instr) (s : State) (hc : ∀ b, c ≠ .tkCommitDone b) : KeptNext s (exec c s) := by
  cases c with
  | vbatRise => exact keptNext_next (kept_ite (powerUp_kept (hk := .frame (.refl s)) ..) (.frame (.refl s)))
  | vbatFall => exact keptNext_next (.frame (toOff_kept (hk := .refl s) ..))
  | porstNLow => exact keptNext_next (.frame (toOff_kept (hk := .refl s) ..))
  | porstNRelease => exact keptNext_next (kept_ite (powerUp_kept (hk := .frame (.refl s)) ..) (.frame (.refl s)))
  | pmicPgLoss => exact keptNext_next (kept_ite (toOff_kept (hk := .refl s) ..) (.frame (.refl s)))
  | pmicPgRise => exact keptNext_guard (.frame (.refl s))
  | vddRefSample _ => exact keptNext_guard (kept_ite (putOb_kept (hk := .frame (.refl s)) ..) (.frame (.refl s)))
  | crystalQualified => exact keptNext_guard (.frame (.refl s))
  | pllLock _ => exact execPllLock_kept _ _
  | powerUpAttemptFail => exact keptNext_guard (.frame (.refl s))
  | powerUpRetry => exact keptNext_guard (powerUp_kept (hk := .refl s) ..)
  | wakeRestart => exact keptNext_guard (powerUp_kept (hk := .frame (.refl s)) ..)
  | sealFuseLoad => exact execSealFuseLoad_kept _
  | firmwareVerified => exact execFirmwareVerified_kept _
  | checkComplete _ => exact execCheckComplete_kept _ _
  | srstNAccept => exact keptNext_guard (.frame (.refl s))
  | srstNRelease =>
    exact keptNext_guard (lostCrystal_kept (hk := enterBoot_kept (hk := kept_ite
      (leaveLockout_kept (hk := .refl s) ..) (.refl s)) ..) ..)
  | x32Qualified => exact keptNext_guard (putOb_kept (hk := .frame (.refl s)) ..)
  | x32Timeout => exact keptNext_guard (.frame (.refl s))
  | x32Loss => exact execX32Loss_kept _
  | clockSupervisionFault => exact keptNext_guard (raiseEv_kept (hk := .frame (.refl s)) ..)
  | ledgerFrameRx _ => exact execLedgerFrameRx_kept _ _
  | read _ _ _ => exact execRead_kept _ _ _ _
  | write _ _ _ => exact keptNext_request fun _ _ => objEffect_kept _ _
  | blockRead _ _ _ => exact execBlockRead_kept _ _ _ _
  | blockWrite _ _ _ => exact execBlockWrite_kept _ _ _ _
  | blockTransferTimeout _ => exact execBlockTransferTimeout_kept _ _
  | subscribe _ _ _ => exact execSubscribe_kept _ _ _ _
  | unsubscribe _ => exact execUnsubscribe_kept _ _
  | subscriptionSample _ _ => exact execSubscriptionSample_kept _ _ _
  | time _ => exact execTime_kept _ _
  | pendingSessionTimeout _ => exact keptNext_guard (closeSession_kept (hk := .refl s) ..)
  | close _ => exact execClose_kept _ _
  | sessionTimeout _ => exact keptNext_guard (closeSession_kept (hk := .refl s) ..)
  | stateRequest _ => exact keptNext_request fun _ _ => stateRequest_kept _ _
  | arm _ _ => exact keptNext_request fun _ _ => doCommand_kept _ _ _
  | run _ _ => exact keptNext_request fun _ _ => doCommand_kept _ _ _
  | stop _ _ => exact keptNext_request fun _ _ => doCommand_kept _ _ _
  | disarm _ _ => exact keptNext_request fun _ _ => doCommand_kept _ _ _
  | shore _ => exact keptNext_request fun _ _ => doShore_kept _ _
  | shoreComplete _ => exact keptNext_guard (completeShore_kept (hk := .refl s) ..)
  | strike _ => exact keptNext_request fun _ _ => doOp_kept _ _ _
  | strikeRelease => exact execStrikeRelease_kept _
  | strikePersist => exact execStrikePersist_kept _
  | abandon _ => exact keptNext_request fun _ _ => doOp_kept _ _ _
  | store _ => exact keptNext_request fun _ _ => doStore_kept _ _
  | restore _ => exact keptNext_request fun _ _ => doRestore_kept _ _
  | manifestEnable _ _ => exact keptNext_request fun _ _ => doManEnable_kept _ _
  | manifestDisable _ _ => exact keptNext_request fun _ _ => doManEnable_kept _ _
  | manifestPublish _ => exact execManifestPublish_kept _ _
  | manifestConsumeFrame _ => exact execManifestConsumeFrame_kept _ _
  | manifestConsumeApply _ => exact execManifestConsumeApply_kept _ _
  | markFire _ _ => exact execMarkFire_kept _ _ _
  | oneshotEnd _ => exact keptNext_guard (laneCmd_kept (hk := setLane_kept (hk := .refl s) ..) ..)
  | gateTimeout _ =>
    exact keptNext_guard (incOb_kept (hk := laneCmd_kept (hk := setLane_kept (hk := .refl s) ..) ..) ..)
  | rodSourceUpdate _ => exact execRodSourceUpdate_kept _ _
  | rodTimeout _ => exact keptNext_guard (setRod_kept (hk := .refl s) ..)
  | carrierWrapApply _ => exact execCarrierWrapApply_kept _ _
  | laneReadbackCompare _ => exact execLaneReadbackCompare_kept _ _
  | captureEdge _ _ _ => exact keptNext_guard (capEdge_kept (hk := .refl s) ..)
  | captureNextRead _ _ => exact execRead_kept _ _ _ _
  | resolverUpdate _ _ => exact execResolverUpdate_kept _ _ _
  | encoderEdge _ _ _ => exact execEncoderEdge_kept _ _ _ _
  | encoderIndex _ => exact execEncoderIndex_kept _ _
  | encoderUpdate _ => exact execEncoderUpdate_kept _ _
  | hallEdge _ _ => exact execHallEdge_kept _ _ _
  | hallRateUpdate _ => exact execHallRateUpdate_kept _ _
  | gridPllStep => exact execGridPllStep_kept _
  | frequencyWordUpdate _ => exact keptNext_guard (sendFreq_kept (hk := .refl s) ..)
  | seqTrigger _ => exact execSeqTrigger_kept _ _
  | converterFree _ => exact execConverterFree_kept _ _
  | seqWaitDrop _ =>
    exact keptNext_guard (missSeq_kept (hk := incOb_kept (hk := setSeq_kept (hk := .refl s) ..) ..) ..)
  | conversionComplete _ _ _ _ => exact keptNext_unless (stepWords_kept (hk := setSeq_kept (hk := .refl s) ..) ..)
  | calCaptureLow _ _ => exact keptNext_next (calCmd_kept (hk := .refl s) ..)
  | calCaptureHigh _ _ => exact keptNext_next (calCmd_kept (hk := .refl s) ..)
  | calCompute _ _ => exact keptNext_next (calCmd_kept (hk := .refl s) ..)
  | calClear _ _ => exact keptNext_next (calCmd_kept (hk := .refl s) ..)
  | calAbandon _ _ => exact keptNext_next (calCmd_kept (hk := .refl s) ..)
  | calCaptureDone _ => exact execCalCaptureDone_kept _ _
  | calCaptureTimeout _ => exact keptNext_guard (putCalState_kept (hk := setCal_kept (hk := .refl s) ..) ..)
  | pairCheck _ _ _ => exact execPairCheck_kept _ _ _ _
  | sdOutput _ _ _ => exact execSdOutput_kept _ _ _ _
  | sdcFault _ => exact execSdcFault_kept _ _
  | sdStuck _ => exact keptNext_guard (sdFault_kept (hk := setSd_kept (hk := .refl s) ..) ..)
  | statBoundary _ => exact keptNext_guard (statDue_kept (hk := .refl s) ..)
  | statTimeout _ => exact execStatTimeout_kept _ _
  | windowCrossing _ _ _ => exact keptNext_guard (winSample_kept (hk := .refl s) ..)
  | blankMaxTimeout _ => exact keptNext_guard (winMaxEnd_kept (hk := .refl s) ..)
  | blankTimeEnd _ => exact keptNext_guard (winLaneEnd_kept (hk := .refl s) ..)
  | winClear _ _ => exact keptNext_request fun _ _ => doWinClear_kept _ _ _
  | winPeriodClear _ => exact execWinPeriodClear_kept _ _
  | windowCheck _ _ => exact execWindowCheck_kept _ _ _
  | windowCheckReadback _ _ _ =>
    exact keptNext_guard (kept_ite (setWin_kept (hk := .refl s) ..) (winCheckFail_kept (hk := .refl s) ..))
  | windowCheckEnd _ _ => exact execWindowCheckEnd_kept _ _ _
  | loopTrigger _ => exact execLoopTrigger_kept _ _
  | braceCoefWrite _ _ _ _ => exact keptNext_request fun _ _ => doCoef_kept _ _ _ _ _
  | braceSelect _ _ => exact keptNext_request fun _ _ => doSelect_kept _ _ _
  | bracePreset _ _ => exact keptNext_request fun _ _ => doPreset_kept _ _ _
  | injectStart _ => exact keptNext_request fun _ _ => doInject_kept _ _
  | injectStop _ => exact keptNext_request fun _ _ => doInject_kept _ _
  | injectDone => exact keptNext_guard (.frame (.refl s))
  | respArm _ => exact keptNext_request fun _ _ => doResp_kept _ _
  | respTrigger _ => exact keptNext_request fun _ _ => doResp_kept _ _
  | respStop _ => exact keptNext_request fun _ _ => doResp_kept _ _
  | respFull => exact keptNext_guard (.frame (.refl s))
  | driveRelease _ => exact keptNext_guard (setDrv_kept (hk := setLive_kept (hk := .refl s) ..) ..)
  | driveSettleEnd _ => exact keptNext_guard (setDrv_kept (hk := .refl s) ..)
  | driveStopComplete _ => exact keptNext_guard (setDrv_kept (hk := .refl s) ..)
  | driveFaultRampEnd _ => exact execDriveFaultRampEnd_kept _ _
  | directionSelect _ _ => exact keptNext_request fun _ _ => doDirection_kept _ _ _
  | derateUpdate _ => exact execDerateUpdate_kept _ _
  | faultInputEdge _ => exact execFaultInputEdge_kept _ _
  | collectClose _ => exact keptNext_guard (raiseAt_kept (hk := latchShort_kept (hk := .refl s) ..) ..)
  | ascApply _ => exact execAscApply_kept _ _
  | linkWord =>
    exact keptNext_guard (kept_ite (linkWord_kept (hk := linkLow_kept (hk := .refl s) ..) ..)
      (linkLow_kept (hk := .refl s) ..))
  | linkStaleTimeout => exact keptNext_guard (condAll_kept (hk := setLink_kept (hk := .refl s) ..) ..)
  | dumpObserveTimeout =>
    exact keptNext_guard (kept_ite (ov2React_kept (hk := dumpFault_kept (hk := .refl s) ..) ..)
      (dumpFault_kept (hk := .refl s) ..))
  | dumpMaxonTimeout => exact keptNext_guard (dumpFault_kept (hk := setLink_kept (hk := .refl s) ..) ..)
  | dumpTest _ _ => exact execDumpTest_kept _ _ _
  | pilotEval => exact execPilotEval_kept _
  | proximityEval => exact execProximityEval_kept _
  | sessionPilotReady =>
    exact keptNext_guard
      (putOb_kept (hk := putPhase_kept (hk := putS2_kept (hk := setChg_kept (hk := .refl s) ..) ..) ..) ..)
  | sessionGridReady =>
    exact keptNext_guard (putPhase_kept (hk := relayPre_kept (hk := setChg_kept (hk := .refl s) ..) ..) ..)
  | sessionAcTimeout => exact keptNext_guard (chgL1_kept (hk := .refl s) ..)
  | sessionPrechargeDone =>
    exact keptNext_guard (putPhase_kept (hk := relayMain_kept (hk := setChg_kept (hk := .refl s) ..) ..) ..)
  | sessionPrechargeTimeout => exact keptNext_guard (chgL3_kept (hk := .refl s) ..)
  | sessionPfcLive => exact keptNext_guard (pfcGoLive_kept (hk := .refl s) ..)
  | sessionBusReady => exact execSessionBusReady_kept _
  | chargerLimitStage => exact keptNext_guard (chgLimitStage_kept (hk := .refl s) ..)
  | sessionPause =>
    exact keptNext_guard (putPhase_kept (hk := setChg_kept (hk := dabStop_kept (hk := .refl s) ..) ..) ..)
  | sessionResume => exact keptNext_guard (pfcGoLive_kept (hk := .refl s) ..)
  | sessionComplete => exact keptNext_guard (chgStop_kept (hk := .refl s) ..)
  | safetyTimerTick => exact execSafetyTimerTick_kept _
  | sessionDabOff => exact keptNext_guard (legsEnd_kept (hk := .refl s) ..)
  | pfcZeroCrossOff _ =>
    exact keptNext_guard (kept_ite (dabStop_kept (hk := pfcPut_kept (hk := .refl s) ..) ..)
      (pfcPut_kept (hk := .refl s) ..))
  | sessionEnd => exact execSessionEnd_kept _
  | gridRidethroughTimeout => exact keptNext_guard (chgL1_kept (hk := .refl s) ..)
  | dabFswWrite _ => exact keptNext_request fun _ _ => doDabFsw_kept _ _
  | v2lBackfeedCheck =>
    exact keptNext_guard (kept_ite (chgL3_kept (hk := .refl s) ..)
      (dabPut_kept (hk := setChg_kept (hk := .refl s) ..) ..))
  | v2lRampEnd => exact execV2lRampEnd_kept _
  | v2lOverload => exact execV2lOverload_kept _
  | converterLimitStage => exact execConverterLimitStage_kept _
  | dcxSoftstartStep => exact keptNext_guard (sendFreqAll_kept (hk := setCnv_kept (hk := .refl s) ..) ..)
  | dcxSoftstartEnd => exact execDcxSoftstartEnd_kept _
  | buckLive => exact keptNext_guard (setCnv_kept (hk := buckPut_kept (hk := .refl s) ..) ..)
  | prechargeReached => exact keptNext_guard (setCnv_kept (hk := .refl s) ..)
  | prechargeHoldEnd => exact keptNext_guard (cnvStop_kept (hk := .refl s) ..)
  | prechargeTimeout => exact keptNext_guard (cnvL3_kept (hk := .refl s) ..)
  | converterStopDone => exact execConverterStopDone_kept _
  | dcxFswWrite _ => exact keptNext_request fun _ _ => doDcxFsw_kept _ _
  | axleEval => exact keptNext_guard (axleEval_kept (hk := .refl s) ..)
  | hvilCurrentLoss => exact keptNext_guard (kept_ite (condRaise_kept (hk := .frame (.refl s)) ..) (.frame (.refl s)))
  | campEnter _ => exact keptNext_request fun _ _ => doCampEnter_kept _ _
  | campLinkLow => exact execCampLinkLow_kept _
  | campLinkTimeout => exact keptNext_guard (campAbandon_kept (hk := .refl s) ..)
  | campEntryComplete _ => exact execCampEntryComplete_kept _ _
  | campWake _ => exact execCampWake_kept _ _
  | actPeriodStart _ => exact execActPeriodStart_kept _ _
  | actIlimit _ => exact execActIlimit_kept _ _
  | actItrip _ => exact keptNext_guard (raiseEv_kept (hk := actOff_kept (hk := setAct_kept (hk := .refl s) ..) ..) ..)
  | actRefresh _ _ =>
    exact keptNext_guard (actTick_kept (hk := incOb_kept (hk := setAct_kept (hk := .refl s) ..) ..) ..)
  | vgdLockout => exact execVgdLockout_kept _
  | vgdLockoutRelease => exact keptNext_guard (clearDet_kept (hk := putOb_kept (hk := .refl s) ..) ..)
  | pumpEval => exact execPumpEval_kept _
  | pumpStart =>
    exact keptNext_unless (kept_ite (actEnter_kept (hk := .frame (.frame (.refl s))) ..) (pumpDrive_kept (hk := .frame
      (.refl s)) ..))
  | pumpBrakeEnd => exact keptNext_guard (pumpDrive_kept (hk := .refl s) ..)
  | pumpBrakeTimeout => exact keptNext_guard (pumpDrive_kept (hk := raiseEv_kept (hk := .refl s) ..) ..)
  | parklockReport => exact keptNext_unless (parkLeft_kept (hk := putOb_kept (hk := .frame (.refl s)) ..) ..)
  | parklockEngage _ => exact keptNext_request fun _ _ => doPark_kept _ _
  | parklockRelease _ => exact keptNext_request fun _ _ => doPark_kept _ _
  | parklockTargetReached => exact keptNext_guard (actOffNext_kept (hk := parkEnd_kept (hk := .refl s) ..) ..)
  | parklockTravelTimeout => exact execParklockTravelTimeout_kept _
  | parklockInterlock => exact execParklockInterlock_kept _
  | clutchClose _ => exact keptNext_request fun _ _ => doClutch_kept _ _
  | clutchTorqueUpdate =>
    exact keptNext_unless (kept_ite (clutchFail_kept (hk := .refl s) ..) (clutchTorque_kept (hk := .frame
      (.refl s)) ..))
  | clutchMatch => exact execClutchMatch_kept _
  | clutchClosed => exact keptNext_guard (clutchEnd_kept (hk := actOff_kept (hk := .refl s) ..) ..)
  | clutchRetry => exact execClutchRetry_kept _
  | clutchSyncTimeout => exact keptNext_guard (clutchFail_kept (hk := .refl s) ..)
  | clutchTravelTimeout =>
    exact keptNext_guard (raiseEv_kept (hk := clutchEnd_kept (hk := actOff_kept (hk := .refl s) ..) ..) ..)
  | clutchOpen _ => exact keptNext_request fun _ _ => doClutch_kept _ _
  | clutchUnload => exact keptNext_guard (clutchGo_kept (hk := clutchDrive_kept (hk := .refl s) ..) ..)
  | lockstepFault => exact keptNext_guard (raiseEv_kept (hk := .frame (.refl s)) ..)
  | watchdogWindow _ _ => exact execWatchdogWindow_kept _ _ _
  | waybillCommand _ => exact execWaybillCommand_kept _ _
  | waybillStatusTimer _ => exact keptNext_guard (wbSend_kept (hk := .refl s) ..)
  | waybillWatchdog _ => exact keptNext_guard (raiseAll_kept (hk := setWb_kept (hk := .refl s) ..) ..)
  | waybillConnect _ => exact keptNext_request fun _ _ => doConnect_kept _ _
  | dischargeDone => exact keptNext_guard (.frame (.refl s))
  | dischargeTimeout => exact keptNext_guard (raiseEv_kept (hk := .frame (.refl s)) ..)
  | lockoutResetWrite _ => exact keptNext_request fun _ _ ht => ht
  | tkOpen _ => exact keptNext_request fun _ _ => doTkCommand_kept _ _
  | tkPropose _ => exact keptNext_request fun _ _ => doTkCommand_kept _ _
  | tkApprove _ => exact keptNext_request fun _ _ => doTkApprove_kept _ _
  | tkCommit _ => exact keptNext_request fun _ _ => doTkCommand_kept _ _
  | tkCommitDone readOk => exact absurd rfl (hc readOk)
  | tkAbort _ => exact keptNext_request fun _ _ => doTkCommand_kept _ _
  | tkTimeout => exact keptNext_guard (abortTk_kept (hk := .refl s) ..)
  | sealStageWrite _ _ => exact keptNext_request fun _ _ => doStage_kept _ _ _
  | checkValueRecompute =>
    exact keptNext_guard (kept_ite (clearAll_kept (hk := .refl s) ..) (condAll_kept (hk := .refl s) ..))
  | faultRaise _ _ _ _ _ => exact keptNext_guard (raiseEv_kept (hk := .refl s) ..)
  | faultCommit => exact execFaultCommit_kept _
  | tallyAck _ => exact keptNext_request fun _ _ => doAck_kept _ _
  | ethFrameRx _ => exact execEthFrameRx_kept _ _
  | ethLinkPoll _ => exact execEthLinkPoll_kept _ _
  | mdioRead _ _ => exact keptNext_request fun _ _ => doMdio_kept _ _ _
  | mdioWrite _ _ => exact keptNext_request fun _ _ => doMdio_kept _ _ _
  | arpRx _ => exact execArpRx_kept _ _
  | arpRetry _ => exact execArpRetry_kept _ _
  | icmpEcho _ _ _ =>
    exact keptNext_unless (kept_ite (incOb_kept (hk := .refl s) ..) (ethPush_kept (hk := .frame (.refl s)) ..))
  | ptpSync _ => exact keptNext_unless (kept_ite (.frame (.refl s)) (ptpUpdate_kept (hk := .refl s) ..))
  | ptpFollowUp _ => exact execPtpFollowUp_kept _ _
  | ptpAnnounce _ => exact keptNext_unless (putPtp_kept (hk := putOb_kept (hk := .frame (.refl s)) ..) ..)
  | ptpPdelayTimer _ => exact keptNext_unless (ethPush_kept (hk := .frame (.refl s)) ..)
  | ptpPdelayReqRx _ => exact keptNext_unless (ethPush_kept (hk := ethPush_kept (hk := .refl s) ..) ..)
  | ptpPdelayRespRx _ => exact execPtpPdelayRespRx_kept _ _
  | ptpReceiptTimeout _ =>
    exact keptNext_unless (putPtp_kept (hk := kept_ite (putOb_kept (hk := .frame (.refl s)) ..) (.frame
      (.refl s))) ..)
  | timeSourceLost =>
    exact keptNext_guard (raiseEv_kept (hk := putOb_kept (hk := setCorr_kept (hk := .frame (.refl s)) ..) ..) ..)
  | timeSourceWrite _ => exact keptNext_request fun _ _ => doTimeSource_kept _ _
  | canFrameRx _ _ => exact execCanFrameRx_kept _ _ _
  | canRefMessage _ _ _ => exact keptNext_unless (refTake_kept (hk := canTaken_kept (hk := .refl s) ..) ..)
  | canTxAttemptDone _ _ _ => exact execCanTxAttemptDone_kept _ _ _ _
  | canBusOff _ =>
    exact keptNext_guard (condRaise_kept (hk := incOb_kept (hk := setCan_kept (hk := .refl s) ..) ..) ..)
  | canBusOffRecovery _ => exact keptNext_guard (clearCause_kept (hk := setCan_kept (hk := .refl s) ..) ..)
  | canDetectAccept _ _ => exact execCanDetectAccept_kept _ _ _
  | canDetectDwell _ _ => exact keptNext_guard (setCan_kept (hk := .refl s) ..)
  | canDetectTimeout _ =>
    exact keptNext_guard (raiseEv_kept (hk := putOb_kept (hk := setCan_kept (hk := .refl s) ..) ..) ..)
  | canRefCycle _ => exact execCanRefCycle_kept _ _
  | thermalSample _ _ => exact execThermalSample_kept _ _ _
  | shutdownComparator _ => exact keptNext_guard (raiseEv_kept (hk := .refl s) ..)
  | outriderCycle => exact execOutriderCycle_kept _
  | outriderTest _ _ _ _ _ => exact execOutriderTest_kept _ _ _ _ _ _
  | spiFrame _ => exact execSpiFrame_kept _ _
  | spiFrameDiscard => exact keptNext_guard (setReply_kept (hk := .frame (.refl s)) ..)
  | registerWrite _ _ => exact keptNext_guard (doStoreReg_kept (hk := .refl s) ..)
  | mboxSubmit _ => exact keptNext_guard (doMbox_kept (hk := .refl s) ..)
  | mboxResponse => exact execMboxResponse_kept _
  | notePop _ => exact keptNext_guard (doPop_kept (hk := .refl s) ..)
  | irqPendClear _ => exact keptNext_guard (doIrqClear_kept (hk := .refl s) ..)
  | windowBind _ _ => exact keptNext_guard (doBind_kept (hk := .refl s) ..)
  | windowValWrite _ _ _ => exact keptNext_guard (doVal_kept (hk := .refl s) ..)
  | windowRefresh _ => exact keptNext_guard (doRefresh_kept (hk := .refl s) ..)
  | lowWordRead _ => exact keptNext_guard (latchHigh_kept (hk := .refl s) ..)
  | laneTick => exact execLaneTick_kept _
  | faultInputRise _ => exact execFaultInputRise_kept _ _
  | clutchReport => exact keptNext_unless (clutchReturned_kept (hk := .frame (.refl s)) ..)
  | canBusIntegration _ => exact keptNext_guard (setCan_kept (hk := .refl s) ..)
  | canReceiveError _ => exact keptNext_guard (canErrs_kept (hk := setCan_kept (hk := .refl s) ..) ..)
  | ethTxDone => exact execEthTxDone_kept _
  | sdcClockReturn _ => exact execSdcClockReturn_kept _ _
  | hvilCurrentReturn => exact keptNext_guard (clearDet_kept (hk := .frame (.refl s)) ..)
  | arpEntryExpiry _ => exact keptNext_next (.frame (.refl s))
  | _ => exact execOpen_kept _ _ -- the command left is OPEN, whose constructor shares its name with a keyword

/-- The end of a twin-key commit leaves the key slots (R118). -/
theorem keySlots_of_execTkCommitDone {ok : Bool} {s t : State} (h : execTkCommitDone ok s = .next t) :
    t.led.keySlots = s.led.keySlots := by
  obtain ⟨f, n, hk⟩ := execTkCommitDone_kept ok s
  exact (hk t h).2.1

/-- Settles O8: no operation of the model writes the key slots, whatever command calls it. -/
theorem keySlotsNeverChange : Obligations.KeySlotsNeverChange := by
  intro c s t h
  by_cases hc : ∃ b, c = .tkCommitDone b
  · obtain ⟨b, rfl⟩ := hc
    exact keySlots_of_execTkCommitDone h
  · obtain ⟨-, hslots, -⟩ := exec_kept c s (fun b hb => hc ⟨b, hb⟩) t h
    exact hslots

end Sys2Proof.Machine
end

section
/-! PROOFS. The Ledger's services (03_ledger): frames, the read and write services with their block transfers, subscriptions,
sessions, Store and Restore, and manifests. Each command is read off its row once, under the checks that come before; a served
write is concluded with the effect of its object. -/

namespace Sys2Proof.Machine

/-! ### Frames -/

section frames

variable {s : State} {x : LFrame}

theorem exec_ledgerFrameRx_of_dropped
    (h : serving s = false ∨ framePathOk s x = false
      ∨ rxReady s x.tr (frameBody x ++ (leBytes 8 x.tag.toNat).reverse) = false) :
    exec (.ledgerFrameRx x) s = .next s :=
  congrArg Host.Outcome.next (if_pos (by rcases h with h | h | h <;> simp [h]))

/-- A frame of a session, ready in a serving device, reaches the check of its tag and its FRESH (R98, R116). -/
theorem not_frame_dropped_of_ready (hserve : serving s = true) (hpath : framePathOk s x = true)
    (hready : rxReady s x.tr (frameBody x ++ (leBytes 8 x.tag.toNat).reverse) = true) :
    ¬ ((!serving s || !framePathOk s x || !rxReady s x.tr (frameBody x ++ (leBytes 8 x.tag.toNat).reverse)) = true) := by
  simp [hserve, hpath, hready]

end frames

/-- Settles O14: a frame that is ready is decided by its tag and its FRESH, and a request frame then joins the queue. -/
theorem frameAcceptedOrDropped : Obligations.FrameAcceptedOrDropped := by
  intro s x n bytes s1 rx
  refine ⟨exec_ledgerFrameRx_of_dropped, fun hserve hpath hready hbad => ?_,
    fun hserve hpath hready htag hfresh hkind => ?_⟩
  · exact congrArg Host.Outcome.next ((if_neg (not_frame_dropped_of_ready hserve hpath hready)).trans (if_pos hbad))
  · have hgood : ¬ (Config.cmac (sess s n).key (frameBody x) ≠ x.tag ∨ x.fresh.toNat ≤ (sess s n).rxFresh) := by
      simp [htag, hfresh]
    refine congrArg Host.Outcome.next
      ((if_neg (not_frame_dropped_of_ready hserve hpath hready)).trans ((if_neg hgood).trans ((if_pos hkind).trans ?_)))
    have hend : (decide (x.fresh = 0xFFFFFFFF) && decide (x.vk.toNat % 16 = 5)) = false := by simp [hkind]
    rw [hend, if_pos hkind]

/-! ### READ and BLOCK_READ -/

section transfers

variable {s : State} {n : Nat} {x : Xfer}

theorem liveXfer_of_none (start : Bool) (h : xferOf s n = none) : liveXfer s n start = none := by
  simp only [liveXfer, h]

/-- A transfer that runs is met by every segment (R108). -/
theorem liveXfer_of_running (start : Bool) (h : xferOf s n = some x) (hrun : x.timedOut = false) :
    liveXfer s n start = some x := by
  simp [liveXfer, h, hrun]

/-- A segment that starts nothing meets the transfer that is there, ended or not (R108). -/
theorem liveXfer_of_segment (h : xferOf s n = some x) : liveXfer s n false = some x := by
  simp [liveXfer, h]

end transfers

section reads

variable {s s1 : State} {r : Req} {idx sub : Nat} {q : QReq}

/-- A READ whose checks hold, with its DATA empty, answers the value, or refuses one too long for the transport (R105,
R129). -/
theorem exec_read_of_checked {w : Row} (h : admitted s r 1 idx sub = (s1, some q)) (hcheck : checkRead s1 q = 0)
    (hdata : q.data = []) (hcond : readCond s1 idx sub = 0) (hrow : rowOf idx sub = some w) :
    exec (.read r idx sub) s = .next (
      if maxData (sess s1 q.ses).tr q.xl < (valueBytes s1 (oaddr idx sub) w).length then refuse s1 q 0x01000006
      else readTake (reply s1 q (tyAt s1 (oaddr idx sub) w.ty) (valueBytes s1 (oaddr idx sub) w)) idx sub) := by
  change execRead r idx sub s = _
  simp [execRead, h, hcheck, hdata, hcond, hrow]

/-- The first failing check of a READ gives its abort (R105). -/
theorem exec_read_of_refused (h : admitted s r 1 idx sub = (s1, some q)) :
    (checkRead s1 q ≠ 0 → exec (.read r idx sub) s = .next (refuse s1 q (checkRead s1 q)))
      ∧ (checkRead s1 q = 0 → q.data ≠ [] → exec (.read r idx sub) s = .next (refuse s1 q 0x01000002))
      ∧ (checkRead s1 q = 0 → q.data = [] → readCond s1 idx sub ≠ 0 →
          exec (.read r idx sub) s = .next (refuse s1 q (readCond s1 idx sub))) := by
  have hexec : exec (.read r idx sub) s = execRead r idx sub s := rfl
  refine ⟨fun hcheck => ?_, fun hcheck hdata => ?_, fun hcheck hdata hcond => ?_⟩
  · simp [hexec, execRead, h, hcheck]
  · simp [hexec, execRead, h, hcheck, hdata]
  · simp [hexec, execRead, h, hcheck, hdata, hcond]

/-- A BLOCK_READ whose form and checks hold meets the transfer of its session (R104, R108). -/
theorem exec_blockRead_of_checked {w : Row} (h : admitted s r 3 idx sub = (s1, some q)) (hcheck : checkRead s1 q = 0)
    (hlen : q.data.length = 6) (hcond : readCond s1 idx sub = 0) (hrow : rowOf idx sub = some w) :
    (leNat (q.data.take 4) = 0 → xferOf s1 q.ses = none →
      exec (.blockRead r idx sub) s = .next (sendSegment (if idx = 0x6801 then readTake s1 idx sub else s1) q
        { write := false, idx := idx, sub := sub, total := (valueBytes s1 (oaddr idx sub) w).length,
          bytes := valueBytes s1 (oaddr idx sub) w, lastAt := now s1, timedOut := false } 0 (leNat (q.data.drop 4))))
    ∧ (∀ x, leNat (q.data.take 4) ≠ 0 → xferOf s1 q.ses = some x → x.timedOut = false → x.write = false →
        x.idx = idx → x.sub = sub → leNat (q.data.take 4) < x.total →
        exec (.blockRead r idx sub) s = .next (sendSegment s1 q x (leNat (q.data.take 4)) (leNat (q.data.drop 4)))) := by
  have hexec : exec (.blockRead r idx sub) s = execBlockRead r idx sub s := rfl
  refine ⟨fun hoff hxfer => ?_, fun x hoff hxfer hrun hread hidx hsub htotal => ?_⟩
  · simp [hexec, execBlockRead, h, hcheck, hlen, hcond, hrow, hoff, liveXfer_of_none _ hxfer]
  · simp [hexec, execBlockRead, h, hcheck, hlen, hcond, hrow, hoff, liveXfer_of_running _ hxfer hrun, hrun, hread, hidx,
      hsub, Nat.not_le.mpr htotal]

/-- The object's own condition refuses a BLOCK_READ before its transfer is met (R105, R326). -/
theorem exec_blockRead_of_cond (h : admitted s r 3 idx sub = (s1, some q)) (hcheck : checkRead s1 q = 0)
    (hlen : q.data.length = 6) (hcond : readCond s1 idx sub ≠ 0) :
    exec (.blockRead r idx sub) s = .next (refuse s1 q (readCond s1 idx sub)) := by
  change execBlockRead r idx sub s = _
  simp [execBlockRead, h, hcheck, hlen, hcond]

end reads

/-- Settles O15: the checks of R105 one after another, then the value or the segment. -/
theorem readAnswersValue : Obligations.ReadAnswersValue := by
  intro s s1 r idx sub q
  refine ⟨fun h => ?_, fun w h hcheck hlen hoff hxfer hcond hrow => ?_,
    fun w x h hcheck hlen hoff hxfer hrun hread hidx hsub htotal hrow => ?_⟩
  · obtain ⟨hbad, hdata, hcond⟩ := exec_read_of_refused h
    exact ⟨hbad, hdata, hcond, fun w => exec_read_of_checked h⟩
  · exact (exec_blockRead_of_checked h hcheck hlen hcond hrow).1 hoff hxfer
  · by_cases hcond : readCond s1 idx sub = 0
    · rw [if_neg (fun hne => hne hcond)]
      exact (exec_blockRead_of_checked h hcheck hlen hcond hrow).2 x hoff hxfer hrun hread hidx hsub htotal
    · rw [if_pos hcond]
      exact exec_blockRead_of_cond h hcheck hlen hcond

/-! ### WRITE -/

section writes

variable {s s1 : State} {r : Req} {q : QReq}

/-- A WRITE that is admitted and fails a check is answered with that check's code (R105). -/
theorem exec_write_of_refused {idx sub : Nat} (h : admitted s r 2 idx sub = (s1, some q))
    (hcheck : checkWrite s1 q ≠ 0) :
    exec (.write r idx sub) s = .next (refuse s1 q (checkWrite s1 q)) := by
  change execWrite r idx sub s = _
  simp [execWrite, serveWrite, h, hcheck]

/-- The keys of a canonical object store rise. -/
theorem tabSorted_objs_of_canonical (h : canonical s) : tabSorted s.objs = true := by
  obtain ⟨-, hobjs, -⟩ := h
  exact (Bool.and_eq_true_iff.mp hobjs).1

/-- System.Hvil.Close is a plain RW object of the System block 0x2200 (R451). -/
theorem rowOf_hvilClose : rowOf 0x2201 1
    = some { base := 0x2201, stride := 1, count := 1, sub := 1, subs := 1, ty := 1, acc := .rw, dflt := 1, rng := .all,
             ridge := false } := rfl

/-- A WRITE of System.Hvil.Close while its block is unshored puts the value in effect and does nothing else (R106). -/
theorem objEffect_hvilClose (hshored : isShored s 0x2200 = false) (hidx : q.idx = 0x2201) (hsub : q.sub = 1) :
    objEffect s q = (putOb s 0x2201 1 (qVal q), 0) := by
  have haddr : addrShored s (oaddr 0x2201 1) = false := hshored
  have hrow : rowAt (oaddr 0x2201 1) = rowOf 0x2201 1 := rfl
  simp [objEffect, hidx, hsub, rowOf_hvilClose, accAt, writeCond, putPlain, putValue, putOb, cellOf, qAddr, haddr, hrow]

/-- The value of a WRITE of one byte to a BOOL (R88). -/
theorem qVal_bool {v : Nat} (hty : q.ty = 1) (hdata : q.data = [BitVec.ofNat 8 v]) (hv : v ≤ 1) : qVal q = v := by
  have h256 : v % 256 = v := Nat.mod_eq_of_lt (by omega)
  simp [qVal, storedOf, hty, hdata, leNat, h256]

end writes

/-- Settles O16: a served WRITE is concluded with its object's effect, and System.Hvil.Close is one such object. -/
theorem writeTakesEffectAndAnswers : Obligations.WriteTakesEffectAndAnswers := by
  intro s s1 r idx sub q
  refine ⟨exec_write_of_refused, fun w h hrow => ?_, fun v hcanon hshored hidx hsub hty hdata hv => ?_⟩
  · exact congrArg Host.Outcome.next (serveWrite_eq_conclude _ h (by rw [hrow]; rfl))
  · rw [objEffect_hvilClose hshored hidx hsub, qVal_bool hty hdata hv]
    exact ⟨rfl, ob_putOb_self _ _ _ (tabSorted_objs_of_canonical hcanon) (by omega),
      fun a ha => cellAt_setCell_other _ _ ha, rfl⟩

/-! ### BLOCK_WRITE -/

section blockWrites

variable {s s1 : State} {r : Req} {idx sub : Nat} {q : QReq} {x : Xfer}

/-- With no transfer running an admitted BLOCK_WRITE segment is a start (R104). -/
theorem exec_blockWrite_of_no_xfer (h : admitted s r 4 idx sub = (s1, some q)) (hcheck : checkBlock s1 q = 0)
    (hlen : 4 ≤ q.data.length) (hxfer : xferOf s1 q.ses = none) :
    exec (.blockWrite r idx sub) s = .next (startBlock s1 q) := by
  change execBlockWrite r idx sub s = _
  simp [execBlockWrite, h, hcheck, Nat.not_lt.mpr hlen, liveXfer_of_none _ hxfer]

/-- A segment that meets a transfer goes on with it (R108). -/
theorem exec_blockWrite_of_xfer (h : admitted s r 4 idx sub = (s1, some q)) (hcheck : checkBlock s1 q = 0)
    (hlen : 4 ≤ q.data.length) (hxfer : liveXfer s1 q.ses (decide (leNat (q.data.take 4) = 0xFFFFFFFF)) = some x) :
    exec (.blockWrite r idx sub) s = .next (nextBlock s1 q x) := by
  change execBlockWrite r idx sub s = _
  simp [execBlockWrite, h, hcheck, Nat.not_lt.mpr hlen, hxfer]

/-- The next segment of a transfer that the time-out has ended (R108). -/
theorem nextBlock_of_timedOut (h : x.timedOut = true) :
    nextBlock s q x = refuse (setXfer s q.ses none) q 0x01000004 := if_pos h

/-- A segment for another object than the running transfer's (R108). -/
theorem nextBlock_of_other (hrun : x.timedOut = false) (h : x.idx ≠ q.idx) : nextBlock s q x = refuse s q 0x0300000B := by
  simp [nextBlock, hrun, h]

/-- A segment of the running transfer of its object, by its offset and the bytes it brings (R108). -/
theorem nextBlock_of_same (hrun : x.timedOut = false) (hwrite : x.write = true) (hidx : x.idx = q.idx)
    (hsub : x.sub = q.sub) (hoff : leNat (q.data.take 4) ≠ 0xFFFFFFFF) :
    nextBlock s q x =
      if leNat (q.data.take 4) ≠ x.bytes.length ∨ x.total < leNat (q.data.take 4) + (q.data.drop 4).length then
        refuse (setXfer s q.ses none) q 0x01000003
      else if leNat (q.data.take 4) + (q.data.drop 4).length = x.total then
        applyBlock (setXfer s q.ses none) q (x.bytes ++ q.data.drop 4)
      else reply (setXfer s q.ses (some { x with bytes := x.bytes ++ q.data.drop 4, lastAt := q.stamp })) q
        q.ty.toNat [] := by
  rw [nextBlock, if_neg (by simp [hrun]), if_neg (by simp [hoff, hwrite, hidx, hsub])]

/-- More than 1 s after the latest segment the transfer ends (R108). -/
theorem exec_blockTransferTimeout_of_gap {n : Nat} (h : xferOf s n = some x) (hgap : x.lastAt + 1000000000 < now s) :
    exec (.blockTransferTimeout n) s = .next (setXfer s n (some { x with timedOut := true, bytes := [] })) := by
  change execBlockTransferTimeout n s = _
  simp [execBlockTransferTimeout, h, hgap]

end blockWrites

/-- Settles O17: a segment meets the transfer of its session, or starts one. -/
theorem blockWriteAppliesWhole : Obligations.BlockWriteAppliesWhole := by
  intro s s1 r idx sub q
  refine ⟨fun h hcheck hlen => ⟨exec_blockWrite_of_no_xfer h hcheck hlen, fun x hxfer hrun hwrite hidx hsub hoff => ?_,
    fun x hxfer hrun hidx => ?_, fun x hxfer hout hoff => ?_⟩, fun n x => exec_blockTransferTimeout_of_gap⟩
  · rw [exec_blockWrite_of_xfer h hcheck hlen (liveXfer_of_running _ hxfer hrun),
      nextBlock_of_same hrun hwrite hidx hsub hoff]
    refine ⟨fun hnext htotal => ?_, fun hnext htotal => ?_, fun hnext => ?_⟩
    · rw [hnext, if_neg (by omega), if_pos htotal]
    · rw [hnext, if_neg (by omega), if_neg (by omega)]
    · rw [if_pos (.inl hnext)]
  · rw [exec_blockWrite_of_xfer h hcheck hlen (liveXfer_of_running _ hxfer hrun), nextBlock_of_other hrun hidx]
  · rw [exec_blockWrite_of_xfer h hcheck hlen (by rw [decide_eq_false hoff]; exact liveXfer_of_segment hxfer),
      nextBlock_of_timedOut hout]

/-! ### Subscriptions and TIME -/

section subscriptions

variable {s s1 : State} {r : Req} {idx sub : Nat} {q : QReq}

/-- The subscription that a SUBSCRIBE enters: the lowest number that its session does not hold, its mode and interval, and the
value now in effect as the last notified (R109). -/
def subOf (s : State) (q : QReq) (idx sub : Nat) : Sub :=
  { ses := q.ses, num := freeSubNum s q.ses, idx := idx, sub := sub, periodic := decide (leNat (q.data.take 1) = 1),
    interval := leNat (q.data.drop 2), last := cellRead s (oaddr idx sub),
    due := now s + leNat (q.data.drop 2) * 1000000 }

/-- A SUBSCRIBE that passes the checks of a READ, is well formed and has room is answered and notified at once (R109). -/
theorem exec_subscribe_of_checked {w : Row} (h : admitted s r 5 idx sub = (s1, some q)) (hcheck : checkRead s1 q = 0)
    (hform : ¬ (q.data.length ≠ 4 ∨ leNat ((q.data.drop 1).take 1) ≠ 0))
    (hmode : ¬ (leNat (q.data.take 1) > 1 ∨ leNat (q.data.drop 2) < 10 ∨ 60000 < leNat (q.data.drop 2)))
    (hrow : rowOf idx sub = some w) (hsize : ¬ (w.ty = 11 ∨ w.ty = 12))
    (hroom : ¬ (16 ≤ (s1.led.subs.filter (fun u => decide (u.ses = q.ses))).length ∨ 64 ≤ s1.led.subs.length)) :
    let s2 := { s1 with led := { s1.led with subs := s1.led.subs ++ [subOf s1 q idx sub] } }
    exec (.subscribe r idx sub) s
      = .next (notify (reply s2 q (tyAt s2 (oaddr idx sub) w.ty) (leBytes 1 (freeSubNum s1 q.ses)))
          (subOf s1 q idx sub)) := by
  change execSubscribe r idx sub s = _
  simp only [execSubscribe, h, hcheck, ne_eq, not_true_eq_false, if_false, if_neg hform, if_neg hmode, hrow, if_neg hsize,
    if_neg hroom, subOf]

/-- An UNSUBSCRIBE of one number ends a subscription that its session holds (R109). -/
theorem exec_unsubscribe_of_admitted (h : admitted s r 6 0 0 = (s1, some q)) (hlen : q.data.length = 1) :
    exec (.unsubscribe r) s = .next (
      if s1.led.subs.any (fun u => decide (u.ses = q.ses) && decide (u.num = leNat q.data)) then
        reply { s1 with led := { s1.led with
          subs := s1.led.subs.filter (fun u => !(decide (u.ses = q.ses) && decide (u.num = leNat q.data))) } } q 0 []
      else refuse s1 q 0x02000006) := by
  change execUnsubscribe r s = _
  simp only [execUnsubscribe, h, hlen, ne_eq, not_true_eq_false, if_false]

/-- At the end of its interval a subscription samples its object (R109). -/
theorem exec_subscriptionSample_of_due {n k : Nat} {u : Sub}
    (hu : s.led.subs.find? (fun e => decide (e.ses = n) && decide (e.num = k)) = some u) (hserve : serving s = true)
    (hdue : u.due ≤ now s) :
    let v := cellRead s (oaddr u.idx u.sub)
    let u' := { u with due := u.due + u.interval * 1000000, last := v }
    let t := { s with led := { s.led with subs := s.led.subs.map (fun e => if e = u then u' else e) } }
    exec (.subscriptionSample n k) s = .next (if u.periodic || decide (v ≠ u.last) then notify t u' else t) := by
  change execSubscriptionSample n k s = _
  have hnow : ¬ ((!serving s || decide (now s < u.due)) = true) := by simp [hserve, hdue]
  simp only [execSubscriptionSample, hu, if_neg hnow]

/-- TIME without DATA answers the receive stamp and the transmit stamp (R110). -/
theorem exec_time_of_admitted (h : admitted s r 7 0 0 = (s1, some q)) (hrole : hasRole s1 q.ses 1 = true)
    (hdata : q.data = []) : exec (.time r) s = .next (reply s1 q 0 (leBytes 8 q.stamp ++ leBytes 8 (now s1))) := by
  change execTime r s = _
  simp [execTime, h, hrole, hdata]

end subscriptions

/-- Settles O18: each service through its own row of R104, R109 and R110. -/
theorem subscriptionsNotify : Obligations.SubscriptionsNotify := by
  intro s s1 r idx sub q
  refine ⟨fun w h hcheck hlen hres hmode hmin hmax hrow hstr hdom hses hall => ?_, exec_unsubscribe_of_admitted,
    fun n k u => exec_subscriptionSample_of_due, exec_time_of_admitted⟩
  exact exec_subscribe_of_checked h hcheck (by omega) (by omega) hrow (by simp [hstr, hdom]) (by omega)

/-! ### Sessions -/

section opens

variable {s : State} {x : OpenReq}

theorem exec_open_of_unreached (h : serving s = false ∨ openPathOk s x = false) : exec (.open x) s = .next s :=
  congrArg Host.Outcome.next (if_pos (by rcases h with h | h <;> simp [h]))

/-- A malformed OPEN is refused before its key slot is asked (R104). -/
theorem exec_open_of_malformed (hserve : serving s = true) (hpath : openPathOk s x = true) (hform : openBad x = true) :
    exec (.open x) s = .next (refuseOpen s x none 0x01000002) := by
  change execOpen x s = _
  simp [execOpen, hserve, hpath, hform]

section network

variable (hserve : serving s = true) (hpath : openPathOk s x = true) (hform : openBad x = false)
  (htr : x.frame.tr ≠ .host)

include hserve hpath hform htr

/-- An OPEN over a network asks first for a loaded key slot other than 0 (R115). -/
theorem exec_open_of_no_key
    (hslot : openSlotNo x = 0 ∨ (tabGet ({} : KeySlot) s.led.keySlots (openSlotNo x)).state ≠ 1) :
    exec (.open x) s = .next (refuseOpen s x none 0x04000003) := by
  change execOpen x s = _
  have hreach : ¬ ((!serving s || !openPathOk s x) = true) := by simp [hserve, hpath]
  have hkey : openSlotNo x = 0 ∨ 15 < openSlotNo x
      ∨ (tabGet ({} : KeySlot) s.led.keySlots (openSlotNo x)).state ≠ 1 := hslot.imp_right .inr
  simp only [execOpen, if_neg hreach, if_neg (Bool.eq_false_iff.mp hform), if_neg htr, if_pos hkey]

/-- With a loaded key slot its tag is checked, and then a free slot is asked for (R113 to R115). -/
theorem exec_open_of_key (hk : openSlotNo x ≠ 0) (hmax : openSlotNo x ≤ 15)
    (hstate : (tabGet ({} : KeySlot) s.led.keySlots (openSlotNo x)).state = 1) :
    (Config.cmac (Config.slotKey (openSlotNo x)) (frameBody x.frame) ≠ x.frame.tag → exec (.open x) s = .next
      (refuseOpen { s with led := { s.led with authFails := (s.led.authFails + 1) % 2 ^ 32 } } x none 0x04000001))
    ∧ (Config.cmac (Config.slotKey (openSlotNo x)) (frameBody x.frame) = x.frame.tag → freeSession s = none →
      exec (.open x) s = .next (openNoSlot s x (some (Config.slotKey (openSlotNo x)))))
    ∧ (∀ n, Config.cmac (Config.slotKey (openSlotNo x)) (frameBody x.frame) = x.frame.tag → freeSession s = some n →
      exec (.open x) s = .next (sendOpen (openSlot s x n) x n (some (Config.slotKey (openSlotNo x)))
        (msgHead 0x88 (openReqid x) 0 0 0 ++ openData s x n))) := by
  have hexec : exec (.open x) s = execOpen x s := rfl
  have hreach : ¬ ((!serving s || !openPathOk s x) = true) := by simp [hserve, hpath]
  have hkey : ¬ (openSlotNo x = 0 ∨ 15 < openSlotNo x
      ∨ (tabGet ({} : KeySlot) s.led.keySlots (openSlotNo x)).state ≠ 1) := by
    rintro (h | h | h)
    · exact hk h
    · omega
    · exact h hstate
  simp only [hexec, execOpen, if_neg hreach, if_neg (Bool.eq_false_iff.mp hform), if_neg htr, if_neg hkey]
  refine ⟨fun htag => ?_, fun htag hfree => ?_, fun n htag hfree => ?_⟩
  · rw [if_pos htag]
  · rw [if_neg (fun hne => hne htag), hfree]
  · rw [if_neg (fun hne => hne htag), hfree]

end network

/-- An OPEN on the host port asks for key slot 0xFF and takes a slot while none is open there (R120). -/
theorem exec_open_host (hserve : serving s = true) (hpath : openPathOk s x = true) (hform : openBad x = false)
    (htr : x.frame.tr = .host) (hk : openSlotNo x = 0xFF) :
    (hostOpen s = true → exec (.open x) s = .next (refuseOpen s x none 0x03000003))
    ∧ (∀ n, hostOpen s = false → freeSession s = some n → exec (.open x) s = .next (sendOpen (openSlot s x n) x n none
        (msgHead 0x88 (openReqid x) 0 0 0 ++ openData s x n))) := by
  have hexec : exec (.open x) s = execOpen x s := rfl
  refine ⟨fun hopen => ?_, fun n hopen hfree => ?_⟩
  · simp [hexec, execOpen, hserve, hpath, hform, htr, hk, hopen]
  · simp [hexec, execOpen, hserve, hpath, hform, htr, hk, hopen, hfree]

end opens

/-- CLOSE without DATA is answered, and its session closes (R117). -/
theorem exec_close_of_admitted {s s1 : State} {r : Req} {q : QReq} (h : admitted s r 9 0 0 = (s1, some q))
    (hdata : q.data = []) : exec (.close r) s = .next (closeSession (reply s1 q 0 []) q.ses) := by
  change execClose r s = _
  simp [execClose, h, hdata]

/-- Settles O19: an OPEN passes its checks in the order of R115, and each end of a session is `closeSession`. -/
theorem sessionsOpenAndClose : Obligations.SessionsOpenAndClose := by
  intro s s1 r x q n k okMsg
  refine ⟨fun hserve hpath => ⟨exec_open_of_malformed hserve hpath, fun hform htr => ?_, fun hform htr hk => ?_⟩,
    exec_open_of_unreached, exec_close_of_admitted, fun hst hlate => ?_, fun hst hlate => ?_⟩
  · refine ⟨exec_open_of_no_key hserve hpath hform htr, fun hk hmax hstate => ?_⟩
    obtain ⟨hbad, hfull, hfree⟩ := exec_open_of_key hserve hpath hform htr hk hmax hstate
    exact ⟨hbad, hfull, hfree n⟩
  · obtain ⟨htaken, hfree⟩ := exec_open_host hserve hpath hform htr hk
    exact ⟨htaken, hfree n⟩
  · exact congrArg Host.Outcome.next (if_pos ⟨hst, hlate⟩)
  · exact congrArg Host.Outcome.next (if_pos ⟨hst, hlate⟩)

/-! ### Store and Restore -/

section store

variable {s s1 : State} {r : Req} {q : QReq}

/-- A served write to Ledger.Store is concluded with the decision of R94. -/
theorem exec_store_of_served {e : State × Nat} (h : served s r 0x1013 0 = some (s1, q)) (heff : doStore s1 q = e) :
    exec (.store r) s = .next (conclude e.1 q 3 e.2) :=
  heff ▸ congrArg Host.Outcome.next (serveWrite_eq_conclude doStore h rfl)

/-- A Store names a block, or 0x1000 for the device-level objects (R94, R95). -/
theorem doStore_no_block (hdev : leNat q.data ≠ 0x1000) (hblk : isBlock (leNat q.data) = false) :
    doStore s q = (s, 0x02000006) := if_pos (by simp [hdev, hblk])

/-- A Store of a block persisted in the last 10 s (R94). -/
theorem doStore_recent (hname : leNat q.data = 0x1000 ∨ isBlock (leNat q.data) = true)
    (ht : tabGet 0 s.led.stored (leNat q.data) ≠ 0)
    (hnow : now s < tabGet 0 s.led.stored (leNat q.data) - 1 + 10000000000) : doStore s q = (s, 0x03000009) := by
  have hok : ¬ (leNat q.data ≠ 0x1000 ∧ (!isBlock (leNat q.data)) = true) := by
    rcases hname with h | h <;> simp [h]
  exact (if_neg hok).trans (if_pos ⟨ht, hnow⟩)

/-- A Store whose time has come persists the RW values in effect (R93, R95). -/
theorem doStore_due (hname : leNat q.data = 0x1000 ∨ isBlock (leNat q.data) = true)
    (hdue : tabGet 0 s.led.stored (leNat q.data) = 0
      ∨ tabGet 0 s.led.stored (leNat q.data) - 1 + 10000000000 ≤ now s) :
    doStore s q = if leNat q.data = 0x1000 then (persistDevice s, 0) else (persistBlock [.rw] s (leNat q.data), 0) := by
  have hok : ¬ (leNat q.data ≠ 0x1000 ∧ (!isBlock (leNat q.data)) = true) := by
    rcases hname with h | h <;> simp [h]
  have hlate : ¬ (tabGet 0 s.led.stored (leNat q.data) ≠ 0
      ∧ now s < tabGet 0 s.led.stored (leNat q.data) - 1 + 10000000000) := by omega
  exact (if_neg hok).trans (if_neg hlate)

end store

section restore

/-- Putting the default at each of a list of addresses: a listed one then reads its default, every other as before. -/
theorem tabFind_foldl_tabPut {α : Type} (d : Nat → α) (ks : List Nat) (t : Tab α) (a : Nat) :
    tabFind (ks.foldl (fun t k => tabPut t k (d k)) t) a = if a ∈ ks then some (d a) else tabFind t a := by
  induction ks generalizing t with
  | nil => simp
  | cons k ks ih =>
    rw [List.foldl_cons, ih]
    by_cases hks : a ∈ ks
    · simp [hks]
    · by_cases hk : a = k
      · subst hk; simp [hks, tabFind_tabPut_self]
      · simp [hks, hk, tabFind_tabPut_other _ _ hk]

/-- The addresses that a Restore of a block puts into the pending set: those of its SH and RW objects that are listed with a
value in effect or pending (R94). -/
def restoreAddrs (s : State) (b : Nat) : List Nat :=
  (s.objs ++ s.pend).filterMap (fun e =>
    if blockAt e.1 = some b ∧ [Acc.sh, .rw].contains (accOf s e.1) then some e.1 else none)

theorem mem_restoreAddrs {s : State} {b a : Nat} : a ∈ restoreAddrs s b ↔
    (blockAt a = some b ∧ (accOf s a = .sh ∨ accOf s a = .rw)) ∧ ∃ c, (a, c) ∈ s.objs ∨ (a, c) ∈ s.pend := by
  simp only [restoreAddrs, List.mem_filterMap, List.mem_append, List.contains_iff_mem, List.mem_cons, List.not_mem_nil,
    or_false]
  constructor
  · rintro ⟨⟨k, c⟩, hmem, hk⟩
    split at hk
    · next hcond => cases hk; exact ⟨hcond, c, hmem⟩
    · cases hk
  · rintro ⟨hcond, c, hmem⟩
    exact ⟨(a, c), hmem, if_pos hcond⟩

/-- The pending set after a Restore of a block. -/
def restored (s : State) (b : Nat) : Tab Cell := (restoreAddrs s b).foldl (fun t a => tabPut t a (dfltAt a)) s.pend

/-- A Restore leaves what is pending of other blocks. -/
theorem tabFind_restored_other {s : State} {b a : Nat} (h : blockAt a ≠ some b) :
    tabFind (restored s b) a = tabFind s.pend a := by
  rw [restored, tabFind_foldl_tabPut, if_neg fun hmem => h (mem_restoreAddrs.mp hmem).1.1]

/-- After a Restore each SH or RW object of the block would strike its default: it is pending, or nothing is listed for it. -/
theorem getD_tabFind_restored {s : State} {b a : Nat} (hblk : blockAt a = some b)
    (hacc : accOf s a = .sh ∨ accOf s a = .rw) : (tabFind (restored s b) a).getD (cellAt s a) = dfltAt a := by
  rw [restored, tabFind_foldl_tabPut]
  split
  · rfl
  · next hmem =>
    have hnone : ∀ t : Tab Cell, (∀ c, (a, c) ∈ t → a ∈ restoreAddrs s b) → tabFind t a = none := fun t ht =>
      Option.eq_none_iff_forall_ne_some.mpr fun c hc => hmem (ht c (tabFind_mem hc))
    have hobjs := hnone s.objs fun c hc => mem_restoreAddrs.mpr ⟨⟨hblk, hacc⟩, c, .inl hc⟩
    have hpend := hnone s.pend fun c hc => mem_restoreAddrs.mpr ⟨⟨hblk, hacc⟩, c, .inr hc⟩
    rw [hpend, cellAt, tabGetD, hobjs]
    rfl

variable {s s1 : State} {r : Req} {q : QReq}

/-- A served write to Ledger.Restore is concluded with the decision of R94. -/
theorem exec_restore_of_served {e : State × Nat} (h : served s r 0x1014 0 = some (s1, q)) (heff : doRestore s1 q = e) :
    exec (.restore r) s = .next (conclude e.1 q 3 e.2) :=
  heff ▸ congrArg Host.Outcome.next (serveWrite_eq_conclude doRestore h rfl)

theorem doRestore_unshored (hblk : isBlock (leNat q.data) = true) (hshore : shoreOf s (leNat q.data) = none) :
    doRestore s q = (s, 0x02000003) := by
  simp [doRestore, hblk, hshore]

/-- A Restore of a shored block is its owner's alone (R94, R107). -/
theorem doRestore_shored {e : Shored} (hblk : isBlock (leNat q.data) = true)
    (hshore : shoreOf s (leNat q.data) = some e) :
    doRestore s q = if e.owner ≠ some q.ses then (s, 0x03000006)
      else ({ s with pend := restored s (leNat q.data) }, 0) := by
  simp [doRestore, hblk, hshore, restored, restoreAddrs]

end restore

/-- Settles O24: the refusals of a Store and of a Restore in the order of R94, and the pending set that a Restore leaves. -/
theorem storeAndRestore : Obligations.StoreAndRestore := by
  intro s s1 r q
  refine ⟨fun h => ⟨fun hdev hblk => ?_, fun hname ht hnow => ?_, fun hdev hdue => ?_, fun hdev hblk hdue => ?_⟩,
    fun h => ⟨fun hblk hshore => ?_, fun e hblk hshore howner => ?_, fun e hblk hshore howner => ?_⟩⟩
  · rw [exec_store_of_served h (doStore_no_block hdev hblk),
      conclude_code (c := 0x02000006) _ _ _ (by decide) (by decide)]
  · rw [exec_store_of_served h (doStore_recent hname ht hnow),
      conclude_code (c := 0x03000009) _ _ _ (by decide) (by decide)]
  · rw [exec_store_of_served h (doStore_due (.inl hdev) hdue), if_pos hdev, conclude_zero]
  · rw [exec_store_of_served h (doStore_due (.inr hblk) hdue), if_neg hdev, conclude_zero]
  · rw [exec_restore_of_served h (doRestore_unshored hblk hshore),
      conclude_code (c := 0x02000003) _ _ _ (by decide) (by decide)]
  · rw [exec_restore_of_served h (doRestore_shored hblk hshore), if_pos howner,
      conclude_code (c := 0x03000006) _ _ _ (by decide) (by decide)]
  · refine ⟨restored s1 (leNat q.data), ?_, fun a => tabFind_restored_other, fun a => getD_tabFind_restored⟩
    rw [exec_restore_of_served h (doRestore_shored hblk hshore), if_neg (fun hne => hne howner), conclude_zero]

/-! ### Manifests -/

section manifests

variable {s s1 : State} {r : Req} {m : Nat} {q : QReq}

/-- Manifest.Enable is a BOOL (R122). -/
theorem rowOf_manEnable_ty : ∀ m < 32, (rowOf (0x1400 + m) 1).map Row.ty = some 1 := by decide +kernel

/-- The write of a value to Manifest.Enable is concluded with the effect it has for that value. -/
theorem serveWrite_manEnable {v : Nat} {e : State × Nat} (hm : m < 32) (hv : v < 256)
    (h : served s (byteReq r 1 v) (0x1400 + m) 1 = some (s1, q))
    (heff : leNat q.data = v → q.idx = 0x1400 + m → doManEnable s1 q = e) :
    serveWrite s (byteReq r 1 v) (0x1400 + m) 1 doManEnable = conclude e.1 q 1 e.2 := by
  obtain ⟨-, -, hidx, -, -⟩ := served_eq h
  rw [serveWrite_eq_conclude _ h (rowOf_manEnable_ty m hm), heff (leNat_of_served_byteReq hv h) hidx]

theorem doManEnable_stop (hv : leNat q.data = 0) (hidx : q.idx = 0x1400 + m) :
    doManEnable s q = (manFresh (putOb s (0x1400 + m) 1 0) m {}, 0) := by
  simp [doManEnable, hv, hidx]

theorem doManEnable_running (hv : leNat q.data = 1) (hidx : q.idx = 0x1400 + m) (hon : ob s (0x1400 + m) 1 = 1) :
    doManEnable s q = (s, 0) := by
  simp [doManEnable, hv, hidx, hon]

/-- A manifest that does not run starts where no condition of R124 refuses it. -/
theorem doManEnable_start (hv : leNat q.data = 1) (hidx : q.idx = 0x1400 + m) (hoff : ob s (0x1400 + m) 1 ≠ 1) :
    doManEnable s q =
      if manCode s m = 0x03000002 then (putOb s 0x2012 0 2, manCode s m)
      else if manCode s m ≠ 0 then (s, manCode s m)
      else (manFresh (putOb (putOb s (0x1400 + m) 1 1) (0x1500 + m) 3 0) m { due := manNext s m (now s) }, 0) := by
  have hm : 0x1400 + m - 0x1400 = m := Nat.add_sub_cancel_left ..
  simp only [doManEnable, hv, hidx, hm, if_neg Nat.one_ne_zero, if_neg hoff]

theorem exec_manifestDisable_of_served (hm : m < 32) (h : served s (byteReq r 1 0) (0x1400 + m) 1 = some (s1, q)) :
    exec (.manifestDisable r m) s = .next (reply (manFresh (putOb s1 (0x1400 + m) 1 0) m {}) q 1 []) :=
  congrArg Host.Outcome.next (serveWrite_manEnable hm (by decide) h doManEnable_stop)

theorem exec_manifestEnable_of_served {e : State × Nat} (hm : m < 32)
    (h : served s (byteReq r 1 1) (0x1400 + m) 1 = some (s1, q))
    (heff : leNat q.data = 1 → q.idx = 0x1400 + m → doManEnable s1 q = e) :
    exec (.manifestEnable r m) s = .next (conclude e.1 q 1 e.2) :=
  congrArg Host.Outcome.next (serveWrite_manEnable hm (by decide) h heff)

/-- A write of 1 to Manifest.Enable of a manifest that does not run is decided by R124. -/
theorem exec_manifestEnable_of_stopped (hm : m < 32) (h : served s (byteReq r 1 1) (0x1400 + m) 1 = some (s1, q))
    (hoff : ob s1 (0x1400 + m) 1 ≠ 1) :
    (manCode s1 m = 0 → exec (.manifestEnable r m) s = .next (reply
      (manFresh (putOb (putOb s1 (0x1400 + m) 1 1) (0x1500 + m) 3 0) m { due := manNext s1 m (now s1) }) q 1 []))
    ∧ (manCode s1 m = 0x03000002 → exec (.manifestEnable r m) s = .next (refuse (putOb s1 0x2012 0 2) q 0x03000002))
    ∧ (∀ c, c ≠ 0 → c ≠ deferred → c ≠ 0x03000002 → manCode s1 m = c →
        exec (.manifestEnable r m) s = .next (refuse s1 q c)) := by
  have hexec := exec_manifestEnable_of_served hm h fun hv hidx => doManEnable_start hv hidx hoff
  refine ⟨fun hcode => ?_, fun hcode => ?_, fun c h0 hd hb hcode => ?_⟩
  · rw [hexec, hcode, if_neg (by decide), if_neg (fun hne => hne rfl), conclude_zero]
  · rw [hexec, if_pos hcode, hcode, conclude_code (c := 0x03000002) _ _ _ (by decide) (by decide)]
  · rw [hexec, hcode, if_neg hb, if_pos h0, conclude_code _ _ _ h0 hd]

theorem exec_manifestPublish_early (h : now s < (manOf s m).due) : exec (.manifestPublish m) s = .next s :=
  congrArg Host.Outcome.next (if_pos (.inr (.inr (.inr h))))

/-- At its cycle instant an enabled publication goes out under its session's next FRESH (R125). -/
theorem exec_manifestPublish_due (hserve : serving s = true) (hon : ob s (0x1400 + m) 1 = 1)
    (hpub : ob s (0x1400 + m) 2 = 0) (hdue : (manOf s m).due ≤ now s) :
    let n := ob s (0x1400 + m) 4
    let y := { sess s n with txFresh := (sess s n).txFresh + 1 }
    let u := manSend (setMan (setSess s n y) m { manOf s m with
          cyc := ((manOf s m).cyc + 1) % 65536, due := (manOf s m).due + manCycle s m })
        m y (frameOf y.key 0x14 n y.txFresh (manPayload s m))
    exec (.manifestPublish m) s = .next (if y.txFresh = 0xFFFFFFFF then closeSession u n else u) :=
  congrArg Host.Outcome.next (if_neg (by simp [hserve, hon, hpub, hdue]))

theorem exec_manifestConsumeFrame_none (h : manWaiting s m = []) : exec (.manifestConsumeFrame m) s = .next s := by
  change execManifestConsumeFrame m s = _
  simp only [execManifestConsumeFrame, h]

theorem exec_manifestConsumeFrame_first {e : Nat × Nat × List Byte} {l : List (Nat × Nat × List Byte)}
    (h : manWaiting s m = e :: l) (hserve : serving s = true) :
    exec (.manifestConsumeFrame m) s = .next (manTake s m e) := by
  change execManifestConsumeFrame m s = _
  simp only [execManifestConsumeFrame, h, if_pos hserve]

theorem exec_manifestConsumeApply_early (h : now s < (manOf s m).due) : exec (.manifestConsumeApply m) s = .next s :=
  congrArg Host.Outcome.next (if_pos (.inr (.inr (.inr h))))

/-- At the end of a window with no frame waiting, what was taken up in it decides (R126, R127). -/
theorem exec_manifestConsumeApply_end {u : State} (hserve : serving s = true) (hon : ob s (0x1400 + m) 1 = 1)
    (hsub : ob s (0x1400 + m) 2 = 1) (hdue : (manOf s m).due ≤ now s) (hwait : manWaiting s m = [])
    (hu : (∃ d, (manOf s m).held = some d ∧ u = manApply s m d) ∨ ((manOf s m).held = none ∧ u = manMiss s m)) :
    exec (.manifestConsumeApply m) s
      = .next (manEnding (setMan u m { manOf u m with held := none, due := (manOf s m).due + manCycle u m })
          (ob s (0x1400 + m) 4)) := by
  change execManifestConsumeApply m s = _
  have hend : ¬ ((!serving s) = true ∨ ob s (0x1400 + m) 1 ≠ 1 ∨ ob s (0x1400 + m) 2 ≠ 1
      ∨ now s < (manOf s m).due) := by
    simp [hserve, hon, hsub, hdue]
  rcases hu with ⟨d, hheld, rfl⟩ | ⟨hheld, rfl⟩
  · simp only [execManifestConsumeApply, if_neg hend, hwait, List.foldl_nil, hheld]
  · simp only [execManifestConsumeApply, if_neg hend, hwait, List.foldl_nil, hheld]

end manifests

/-- Settles O25: the writes of Manifest.Enable by R124, then the cycle instant of a publication and the window of a
consumption. -/
theorem manifestsRun : Obligations.ManifestsRun := by
  intro s s1 r m q hm
  refine ⟨exec_manifestDisable_of_served hm,
    fun h => ⟨fun hon => ?_, fun hoff => ?_, fun hoff => ?_, fun c hc hoff => ?_⟩,
    fun hserve hon hpub hdue => ⟨fun hlast => ?_, fun hlast => ?_⟩, exec_manifestPublish_early,
    exec_manifestConsumeFrame_none, fun e l => exec_manifestConsumeFrame_first,
    fun hserve hon hsub hdue hwait => ⟨fun d hheld => ?_, fun hheld => ?_⟩, exec_manifestConsumeApply_early⟩
  · rw [exec_manifestEnable_of_served hm h fun hv hidx => doManEnable_running hv hidx hon, conclude_zero]
  · exact (exec_manifestEnable_of_stopped hm h hoff).1
  · exact (exec_manifestEnable_of_stopped hm h hoff).2.1
  · obtain ⟨-, -, hcode⟩ := exec_manifestEnable_of_stopped hm h hoff
    have hne : c ≠ 0 ∧ c ≠ deferred ∧ c ≠ 0x03000002 := by revert c; decide
    exact hcode c hne.1 hne.2.1 hne.2.2
  · exact (exec_manifestPublish_due hserve hon hpub hdue).trans (by rw [if_neg hlast])
  · exact (exec_manifestPublish_due hserve hon hpub hdue).trans (by rw [if_pos hlast])
  · exact exec_manifestConsumeApply_end hserve hon hsub hdue hwait (.inl ⟨d, hheld, rfl⟩)
  · exact exec_manifestConsumeApply_end hserve hon hsub hdue hwait (.inr ⟨hheld, rfl⟩)

end Sys2Proof.Machine
end

section
/-! PROOFS. Shoring, striking and abandoning (04_shoring). The writes of Ledger.Shore, Strike and Abandon are concluded with
the decisions of R135 and R107; the commands that end them are read off their rows, under the conditions they wait for. -/

namespace Sys2Proof.Machine

/-! ### SHORE -/

section shore

variable {s s1 : State} {r : Req} {q : QReq} {b : Nat}

/-- A request that is admitted has the address of the command that carries it out (R111). -/
theorem addr_of_admitted {svc idx sub : Nat} (h : admitted s r svc idx sub = (s1, some q)) :
    q.idx = idx ∧ q.sub = sub := by
  have hq : q = queued s r svc idx sub := by
    unfold admitted at h
    dsimp only at h
    split at h
    · cases h
    · split at h
      · cases h
      · split at h
        · cases h
        · exact (Option.some.inj (Prod.mk.inj h).2).symm
  subst hq
  simp only [queued]
  split
  · next e he =>
    have hfound := List.find?_some he
    simp only [Bool.and_eq_true, decide_eq_true_eq] at hfound
    obtain ⟨⟨⟨⟨-, hidx⟩, hsub⟩, -⟩, -⟩ := hfound
    exact ⟨hidx, hsub⟩
  · exact ⟨rfl, rfl⟩

/-- An admitted write that fails a check is answered with that check's code (R105). -/
theorem serveWrite_of_refused {idx sub : Nat} (eff : State → QReq → State × Nat)
    (h : admitted s r 2 idx sub = (s1, some q)) (hcheck : checkWrite s1 q ≠ 0) :
    serveWrite s r idx sub eff = refuse s1 q (checkWrite s1 q) := by
  simp [serveWrite, h, hcheck]

/-- Outside LOCKOUT a Shore that names no block is refused before the role is asked (R135). -/
theorem checkWrite_of_shoreNoBlock (hsub : q.sub = 0) (hdev : s.dev ≠ .lockout) (h : shoreNoBlock q = true) :
    checkWrite s q = 0x02000006 := by
  have hidx : q.idx = 0x1010 := by
    simp only [shoreNoBlock, Bool.and_eq_true, decide_eq_true_eq] at h
    obtain ⟨⟨⟨hidx, -⟩, -⟩, -⟩ := h
    exact hidx
  obtain ⟨w, hrow⟩ : ∃ w, rowOf 0x1010 0 = some w := ⟨_, rfl⟩
  simp [checkWrite, hidx, hsub, hrow, hdev, h]

theorem exec_shore_of_no_block (h : admitted s r 2 0x1010 0 = (s1, some q)) (hdev : s1.dev ≠ .lockout)
    (hno : shoreNoBlock q = true) : exec (.shore r) s = .next (refuse s1 q 0x02000006) := by
  have hcheck := checkWrite_of_shoreNoBlock (addr_of_admitted h).2 hdev hno
  have hserve := serveWrite_of_refused doShore h (by rw [hcheck]; decide)
  rw [hcheck] at hserve
  exact congrArg Host.Outcome.next hserve

/-- A served write to Ledger.Shore is concluded with the decision of R135. -/
theorem exec_shore_of_served {e : State × Nat} (h : served s r 0x1010 0 = some (s1, q)) (heff : doShore s1 q = e) :
    exec (.shore r) s = .next (conclude e.1 q 3 e.2) :=
  heff ▸ congrArg Host.Outcome.next (serveWrite_eq_conclude doShore h rfl)

/-- Each condition of R135 gives an abort code. -/
theorem shoreCode_ne_deferred (s : State) (b : Nat) : shoreCode s b ≠ deferred := by
  simp only [shoreCode]
  repeat' split
  all_goals decide

/-- The block that a Shore names is entered as shored for its session, with the answer waiting (R135, R136). -/
def enterShore (s : State) (q : QReq) : State :=
  let s0 := stopUnheld s (leNat q.data)
  { s0 with led := { s0.led with
    shored := s0.led.shored ++
      [{ blk := leNat q.data, owner := some q.ses, done := false, stamp := now s, req := some q }] } }

/-- The function of the shored block goes from IDLE to SHORED, and the Park lock's report is then unknown (R51, R474). -/
def shoreFn (s : State) (q : QReq) (f : Fn) : State :=
  let s2 := enterShore s q
  let u := if fnState s2 f = .idle then setFn s2 f .shored else s2
  if f = .parkLock then
    parkLeft (parkReport s) { u with plock := { u.plock with report := 0, inRel := 0, inEng := 0 } }
  else u

theorem doShore_forbidden (hblk : isBlock (leNat q.data) = true) (hcode : shoreCode s (leNat q.data) ≠ 0) :
    doShore s q = (s, shoreCode s (leNat q.data)) :=
  (if_neg (by simp [hblk])).trans (if_pos hcode)

/-- A Shore that no condition of R135 forbids enters the block, and its function where it has one. -/
theorem doShore_accepted (hblk : isBlock (leNat q.data) = true) (hcode : shoreCode s (leNat q.data) = 0) :
    doShore s q = ((fnOfBlock (leNat q.data)).elim (enterShore s q) (shoreFn s q), deferred) := by
  have haccept : ¬ shoreCode s (leNat q.data) ≠ 0 := fun hne => hne hcode
  refine (if_neg (by simp [hblk])).trans ((if_neg haccept).trans ?_)
  cases fnOfBlock (leNat q.data) <;> rfl

theorem exec_shore_of_accepted (h : served s r 0x1010 0 = some (s1, q)) (hblk : isBlock (leNat q.data) = true)
    (hcode : shoreCode s1 (leNat q.data) = 0) :
    exec (.shore r) s = .next ((fnOfBlock (leNat q.data)).elim (enterShore s1 q) (shoreFn s1 q)) :=
  exec_shore_of_served h (doShore_accepted hblk hcode)

/-! ### SHORE_COMPLETE -/

theorem completeShore_of_unshored (h : shoreOf s b = none) : completeShore s b = s := by
  simp only [completeShore, h]

theorem exec_shoreComplete_of_ended (hrun : running s = true) (hseq : seqRunning s b = false) :
    exec (.shoreComplete b) s = .next (completeShore s b) :=
  congrArg Host.Outcome.next (if_pos ⟨hrun, by simp [hseq]⟩)

/-- While the device does not run, or a conversion sequence of the block does, the elements have not stopped (R136, R228). -/
theorem exec_shoreComplete_of_waiting (h : running s = false ∨ seqRunning s b = true) :
    exec (.shoreComplete b) s = .next s :=
  congrArg Host.Outcome.next (if_neg (by rcases h with h | h <;> simp [h]))

/-- The elements of the block have stopped: its Ridge words are stale, and its rod (R24, R136). -/
def shoreStopped (s : State) (b : Nat) : State :=
  let s1 := (blockWords s b).foldl (fun t w => if w.2 = .ro then ridgeStale t w else t) (stopElems s b)
  if 0x2810 ≤ b ∧ b ≤ 0x2870 then
    setRod s1 ((b - 0x2800) / 0x10) { rodAt s1 ((b - 0x2800) / 0x10) with stl := true } else s1

/-- The shore of the block is marked done and keeps what its RO objects read (R138). -/
def shoreMarked (s : State) (b : Nat) (e : Shored) : State :=
  let s2 := shoreStopped s b
  let s3 := clearBlock s2 b
  { s3 with led := { s3.led with shored := s3.led.shored.map fun x =>
      if x.blk = b then { e with done := true, req := none, frozen := roCells s2 b } else x } }

/-- The answer of a shore, to the request that still waits for it (R136). -/
def answerShore (s : State) : Option QReq → State
  | none => s
  | some q => reply s q 3 []

theorem completeShore_of_shored {e : Shored} (h : shoreOf s b = some e) (hdone : e.done = false) :
    completeShore s b = answerShore (shoreMarked s b e) e.req := by
  simp only [completeShore, h, hdone, Bool.false_eq_true, if_false]
  cases e.req <;> rfl

theorem done_of_mem_shored_shoreMarked {e x : Shored} (hx : x ∈ (shoreMarked s b e).led.shored) (hb : x.blk = b) :
    x.done = true := by
  obtain ⟨y, -, rfl⟩ := List.mem_map.mp hx
  split
  · rfl
  · next hne => exact absurd (by rwa [if_neg hne] at hb) hne

end shore

/-- Settles O22: a Shore is refused by the checks or by R135, or enters its block; SHORE_COMPLETE is `completeShore` once
the elements have stopped. -/
theorem shoreAndComplete : Obligations.ShoreAndComplete := by
  intro s s1 r q b
  refine ⟨exec_shore_of_no_block, fun h => ⟨fun hblk hcode => ?_, fun hblk hcode hfn => ?_,
      fun f hblk hcode hfn => ?_⟩, fun hrun hshore => ?_, exec_shoreComplete_of_ended, exec_shoreComplete_of_waiting,
    fun e hshore hdone => ⟨shoreMarked s b e, ?_, fun x => done_of_mem_shored_shoreMarked⟩⟩
  · rw [exec_shore_of_served h (doShore_forbidden hblk hcode), conclude_code _ _ _ hcode (shoreCode_ne_deferred _ _)]
  · rw [exec_shore_of_accepted h hblk hcode, hfn]; rfl
  · rw [exec_shore_of_accepted h hblk hcode, hfn]; rfl
  · cases hseq : seqRunning s b with
    | false => rw [exec_shoreComplete_of_ended hrun hseq, completeShore_of_unshored hshore]
    | true => exact exec_shoreComplete_of_waiting (.inr hseq)
  · rw [completeShore_of_shored hshore hdone]
    cases e.req <;> rfl

/-! ### STRIKE and ABANDON -/

section operations

variable {s s1 : State} {r : Req} {q : QReq} {ab : Bool}

/-- A served write to Ledger.Strike or Ledger.Abandon is concluded with the decision of R107. -/
theorem exec_op_of_served {e : State × Nat} (h : served s r (if ab then 0x1012 else 0x1011) 0 = some (s1, q))
    (heff : doOp ab s1 q = e) :
    (if ab then exec (.abandon r) s else exec (.strike r) s) = .next (conclude e.1 q 3 e.2) := by
  subst heff
  cases ab with
  | false => exact congrArg Host.Outcome.next (serveWrite_eq_conclude (doOp false) h rfl)
  | true => exact congrArg Host.Outcome.next (serveWrite_eq_conclude (doOp true) h rfl)

/-- The refusals of R107 are abort codes. -/
theorem opBlocks_ne_deferred (s : State) (ses v : Nat) : (opBlocks s ses v).2 ≠ deferred := by
  unfold opBlocks
  split
  · dsimp only
    split <;> decide
  · split
    · decide
    · dsimp only
      split <;> decide

theorem doOp_no_block (hall : leNat q.data ≠ 0xFFFF) (hblk : isBlock (leNat q.data) = false) :
    doOp ab s q = (s, 0x02000006) := if_pos (by simp [hall, hblk])

/-- An operation on 0xFFFF or a block is decided by the shores of its blocks, then by the claimed elements it would tear
(R107, R284). -/
theorem doOp_named (hname : leNat q.data = 0xFFFF ∨ isBlock (leNat q.data) = true) :
    doOp ab s q =
      if (opBlocks s q.ses (leNat q.data)).2 ≠ 0 then
        (putResult s (opBlocks s q.ses (leNat q.data)).2, (opBlocks s q.ses (leNat q.data)).2)
      else if tornFamily s (opBlocks s q.ses (leNat q.data)).1 = true then (putResult s 0x03000005, 0x03000005)
      else
        let s2 := { s with led := { s.led with strikes := s.led.strikes ++
          [{ req := q, live := true, from_ := q.stamp, blocks := (opBlocks s q.ses (leNat q.data)).1,
             abandon := ab, built := false }] } }
        (startOps s2.led.strikes.length s2, deferred) :=
  if_neg (by rcases hname with h | h <;> simp [h])

end operations

/-! ### STRIKE_RELEASE and STRIKE_PERSIST -/

section releases

variable {s : State}

theorem exec_strikeRelease_of_nil (h : s.led.strikes = []) : exec .strikeRelease s = .next s := by
  change execStrikeRelease s = _
  simp only [execStrikeRelease, h]

/-- The operation at the head is released once it is checked, its instant is there and its shores are answered (R142). -/
theorem exec_strikeRelease_of_cons {o : StrikeOp} {l : List StrikeOp} (h : s.led.strikes = o :: l) :
    exec .strikeRelease s = .next (
      if o.built = true ∧ running s = true ∧ releaseAt o ≤ now s ∧ ∀ b ∈ o.blocks, shoreDone s b = true then
        releaseOp s o l else s) := by
  change execStrikeRelease s = _
  simp only [execStrikeRelease, h, List.all_eq_true]

/-- The values that a release noted are persisted at the instant it noted (step 7 of R142). -/
theorem exec_strikePersist_of_due {p : Nat × List Nat × Tab Cell} {l : List (Nat × List Nat × Tab Cell)}
    (h : s.led.persist = p :: l) (hdue : p.1 ≤ now s) :
    exec .strikePersist s = .next (persistStruck { s with led := { s.led with persist := l } } p.2) := by
  change execStrikePersist s = _
  simp only [execStrikePersist, h, if_pos hdue]

end releases

/-- Settles O23: an operation is refused by R107 or R284, or joins the queue; its release and its persistence wait for
their instants. -/
theorem strikeAndAbandon : Obligations.StrikeAndAbandon := by
  intro s s1 r q ab
  refine ⟨fun h => ⟨fun hall hblk => ?_, fun hname hcode => ?_, fun hname hcode htorn => ?_,
      fun hname hcode htorn => ?_⟩, exec_strikeRelease_of_nil, fun o l hop hbuilt hrun hdue hdone => ?_,
    fun o l hop hwait => ?_, fun p l => exec_strikePersist_of_due⟩
  · exact (exec_op_of_served h (doOp_no_block hall hblk)).trans
      (by rw [conclude_code (c := 0x02000006) _ _ _ (by decide) (by decide)])
  · exact (exec_op_of_served h (doOp_named hname)).trans
      (by rw [if_pos hcode, conclude_code _ _ _ hcode (opBlocks_ne_deferred _ _ _)])
  · exact (exec_op_of_served h (doOp_named hname)).trans
      (by rw [if_neg (fun hne => hne hcode), if_pos htorn,
        conclude_code (c := 0x03000005) _ _ _ (by decide) (by decide)])
  · exact (exec_op_of_served h (doOp_named hname)).trans
      (by rw [if_neg (fun hne => hne hcode), if_neg (Bool.eq_false_iff.mp htorn), conclude_deferred])
  · rw [exec_strikeRelease_of_cons hop, if_pos ⟨hbuilt, hrun, hdue, hdone⟩]
  · rw [exec_strikeRelease_of_cons hop, if_neg]
    rintro ⟨-, -, hdue, hdone⟩
    rcases hwait with hearly | ⟨b, hmem, hopen⟩
    · omega
    · simp [hdone b hmem] at hopen

end Sys2Proof.Machine
end

section
/-! PROOFS. Rods, marks, lanes and captures (05_rods_and_lanes). Each command is read off its row once; beside the rows
stand the arithmetic of a tick and of a passage, which the rows name by rodAdvance, passDist and passPhase. -/

namespace Sys2Proof.Machine

/-! ### LANE_TICK and the arithmetic of a rod -/

section tick

variable {s : State} {r : Nat}

theorem exec_laneTick_of_not_running (h : running s = false) : exec .laneTick s = .next s :=
  congrArg Host.Outcome.next (if_neg (by simp [h]))

/-- What LANE_TICK does after the tick before is closed and device time has advanced (R150, R160). -/
def afterTime (s : State) : State :=
  let s1 := livePos (rodsTick s)
  let s2 := (s1.claims.map (fun e => e.1)).foldl edgeTick (relayTick ((List.range 3).foldl actTick s1))
  let s3 := (List.range 32).foldl statTick ((List.range 32).foldl rodSnoop ((List.range 32).foldl winTick (outTick s2)))
  speedTrack (speedTrack s3 .a) .b

theorem exec_laneTick_of_running (h : running s = true) :
    exec .laneTick s = .next (afterTime (timeTick (tickEnd s))) :=
  congrArg Host.Outcome.next (if_pos h)

/-- Only `timeTick` advances the tick count and device time (R151). -/
theorem afterTime_time (s : State) : SameTime s (afterTime s) := by
  have hrods : SameTime s (livePos (rodsTick s)) := livePos_time _ (rodsTick_time _ (SameTime.refl s))
  have hacts : SameTime s ((List.range 3).foldl actTick (livePos (rodsTick s))) :=
    time_foldl _ _ _ hrods fun t n => actTick_time t n
  have hedges := time_foldl edgeTick ((livePos (rodsTick s)).claims.map (fun e => e.1)) _ (relayTick_time _ hacts)
    fun t l => edgeTick_time t l
  have hwins := time_foldl winTick (List.range 32) _ (outTick_time _ hedges) fun t w => winTick_time t w
  have hsnoops := time_foldl rodSnoop (List.range 32) _ hwins fun t u => rodSnoop_time t u
  have hstats := time_foldl statTick (List.range 32) _ hsnoops fun t u => statTick_time t u
  unfold afterTime
  exact speedTrack_time _ _ (speedTrack_time _ _ hstats)

/-- One tick adds 1 to the tick count and 5 ns, with the correction of the discipline, to device time (R151, R561). -/
theorem laneTick_time (s : State) :
    (afterTime (timeTick (tickEnd s))).tick = s.tick + 1
      ∧ (afterTime (timeTick (tickEnd s))).dt
        = (s.dt + (5 * 2 ^ 32 + 5 * (tickEnd s).net.corr / 256).toNat) % 2 ^ 96 := by
  obtain ⟨htick, hdt⟩ := tickEnd_time s (SameTime.refl s)
  obtain ⟨htick', hdt'⟩ := afterTime_time (timeTick (tickEnd s))
  exact ⟨by rw [htick', timeTick, htick], by rw [hdt', timeTick, hdt]⟩

theorem iclamp_eq_max_min {lo hi : Int} (h : lo ≤ hi) (x : Int) : iclamp lo hi x = max lo (min hi x) := by
  unfold iclamp
  split
  · omega
  · split <;> omega

/-- A carrier follows its rod and changes nothing of the rod's own motion (R161). -/
theorem carrierTick_rod (x : Rod) :
    (carrierTick x).pos = x.pos ∧ (carrierTick x).resid = x.resid ∧ (carrierTick x).rate = x.rate
      ∧ (carrierTick x).accel = x.accel := by
  unfold carrierTick
  split
  · exact ⟨rfl, rfl, rfl, rfl⟩
  · split <;> exact ⟨rfl, rfl, rfl, rfl⟩

theorem slewLimit_nonneg (s : State) (r : Nat) (x : Rod) : 0 ≤ slewLimit s r x :=
  Int.le_trans (Int.natCast_nonneg _) (Int.le_max_left _ _)

/-- The arithmetic of a rod in one tick, the two clamps read as a minimum and a maximum (R150, R155). -/
theorem rodAdvance_eq {lim : Int} (hlim : 0 ≤ lim) (mx jl : Nat) (x : Rod) :
    (rodAdvance lim mx jl x).pos = x.pos + BitVec.ofInt 64 (x.rate + max (-lim) (min lim x.resid))
      ∧ (rodAdvance lim mx jl x).resid = x.resid - max (-lim) (min lim x.resid)
      ∧ (rodAdvance lim mx jl x).rate = max (-(mx : Int)) (min (mx : Int) (x.rate + x.accel))
      ∧ (rodAdvance lim mx jl x).accel = x.accel := by
  rw [← iclamp_eq_max_min (by omega : -lim ≤ lim), ← iclamp_eq_max_min (by omega : -(mx : Int) ≤ mx)]
  exact carrierTick_rod _

theorem rodTick_of_not_shored (h : isShored s (rodBase r) = false) :
    rodTick s r = rodHold (setRod s r (rodAdvance (slewLimit s r (rodAt s r)) (maxRate32 s r)
      (ob s (rodBase r + 1) 5) (rodAt s r))) r
        (decide (maxRate32 s r < ((rodAt s r).rate + (rodAt s r).accel).natAbs)) :=
  if_neg (by simp [h])

theorem rodTick_of_shored (h : isShored s (rodBase r) = true) :
    rodTick s r = setRod s r { rodAt s r with
      prev := (rodAt s r).pos, moved := 0, cprev := (rodAt s r).cpos, cmoved := 0 } :=
  if_pos h

end tick

/-- `slewLimit` with its objects' indices written as the statements write them. -/
theorem slewLimit_eq (s : State) (r : Nat) (x : Rod) :
    slewLimit s r x = max ((ob s (0x2801 + 0x10 * r) 3 * x.rate.natAbs / 256 : Nat) : Int)
      ((ob s (0x2801 + 0x10 * r) 4 * 2 ^ 32 : Nat) : Int) := by
  have hblk : 0x2801 + 0x10 * r = rodBase r + 1 := by unfold rodBase; omega
  rw [hblk, slewLimit]

/-- Settles O26: the row of LANE_TICK and its time, then the arithmetic of a rod that runs or stands. -/
theorem laneTickAdvancesRods : Obligations.LaneTickAdvancesRods := by
  intro s
  refine ⟨exec_laneTick_of_not_running,
    exec_laneTick_of_running,
    fun hrun => ⟨afterTime (timeTick (tickEnd s)), exec_laneTick_of_running hrun, laneTick_time s⟩,
    fun r hblk => ?_, fun r hblk => ?_⟩
  · obtain ⟨hpos, hresid, hrate, haccel⟩ := rodAdvance_eq (slewLimit_nonneg s r (rodAt s r)) (maxRate32 s r)
      (ob s (rodBase r + 1) 5) (rodAt s r)
    have htick := rodTick_of_not_shored hblk
    rw [slewLimit_eq] at htick hpos hresid hrate haccel
    exact ⟨_, _, htick, hpos, hresid, hrate, haccel, decide_eq_decide.mpr Int.ofNat_lt.symm⟩
  · exact ⟨_, rodTick_of_shored hblk, rfl, rfl, rfl⟩

/-! ### Passages and MARK_FIRE -/

section passage

variable {prev d x : Nat} {moved : Int}

/-- A forward advance passes the positions of (P, P'] (R167). -/
theorem passDist_forward_iff (hprev : prev < 2 ^ 64) (hx : x < 2 ^ 64) (hfwd : 0 ≤ moved) (hmoved : moved < 2 ^ 63) :
    passDist prev moved x = some d ↔ 0 < d ∧ (d : Int) ≤ moved ∧ (prev + d) % 2 ^ 64 = x := by
  simp only [passDist, if_neg (Int.not_lt.mpr hfwd), Option.ite_none_right_eq_some, Option.some.injEq]
  omega

/-- A reverse advance passes the positions of [P', P) (R167). -/
theorem passDist_reverse_iff (hprev : prev < 2 ^ 64) (hx : x < 2 ^ 64) (hrev : moved < 0) (hmoved : -2 ^ 63 < moved) :
    passDist prev moved x = some d ↔ 0 < d ∧ (d : Int) ≤ -moved ∧ (x + d) % 2 ^ 64 = prev := by
  simp only [passDist, if_pos hrev, Option.ite_none_right_eq_some, Option.some.injEq]
  omega

/-- The phase of a passage is 32 d / |advance|, rounded to nearest with halves up (R169). -/
theorem passPhase_bounds (hd : 0 < d) (hle : d ≤ moved.natAbs) :
    passPhase moved d ≤ 32
      ∧ 2 * moved.natAbs * passPhase moved d ≤ 64 * d + moved.natAbs
      ∧ 64 * d + moved.natAbs < 2 * moved.natAbs * (passPhase moved d + 1) := by
  have hpos : 0 < 2 * moved.natAbs := by omega
  rw [passPhase, Nat.max_eq_right (by omega : 1 ≤ moved.natAbs)]
  refine ⟨?_, Nat.mul_div_le _ _, Nat.lt_mul_div_succ _ hpos⟩
  exact Nat.le_of_lt_succ ((Nat.div_lt_iff_lt_mul hpos).mpr (by omega))

end passage

section marks

variable {s : State} {k j d : Nat} {m : Mark}

/-- What it takes for place j of a mark to fire in the latest tick (R166 to R168, R174). -/
theorem fireDist_eq_some_iff : fireDist s k m j = some d ↔
    srcPass s m.src (instPos m j) = some d ∧ j < m.reps ∧ isShored s m.blk = false ∧ srcRuns s m.src = true
      ∧ (m.dir = 2 ∨ (m.dir = 1 ↔ (srcMove s m.src).2 < 0)) ∧ staysOff s k m j d = false := by
  unfold fireDist
  cases hpass : srcPass s m.src (instPos m j) with
  | none => simp
  | some e =>
    simp only [Option.ite_none_right_eq_some, Option.some.injEq, Bool.not_eq_true']
    constructor
    · rintro ⟨hfires, rfl⟩; exact ⟨rfl, hfires⟩
    · rintro ⟨rfl, hfires⟩; exact ⟨hfires, rfl⟩

theorem exec_markFire_of_fires (hmark : s.marks[k]? = some m) (hfires : fireDist s k m j = some d) :
    exec (.markFire k j) s = .next (if running s = true ∧ firesBefore s (fireKey s k m d) = false then
      fireMark { s with disarmed := tabSet none s.disarmed (256 * k + j) (some { tick := s.tick, again := false }) } k m
        (instPos m j) d
      else s) := by
  change execMarkFire k j s = _
  simp [execMarkFire, hmark, hfires]

theorem exec_markFire_of_none (hmark : s.marks[k]? = some m) (hnone : fireDist s k m j = none) :
    exec (.markFire k j) s = .next s := by
  change execMarkFire k j s = _
  simp [execMarkFire, hmark, hnone]

end marks

/-- Settles O27: the arithmetic of a passage, when a mark fires and in which order, and what each action does. -/
theorem marksFireInTheInterval : Obligations.MarksFireInTheInterval := by
  intro s k j
  refine ⟨fun prev d x moved => passDist_forward_iff, fun prev d x moved => passDist_reverse_iff,
    fun d moved => passPhase_bounds, fun m d => fireDist_eq_some_iff,
    fun m hmark => ⟨fun d hfires hrun hfirst => ?_, fun d hfires hafter => ?_, exec_markFire_of_none hmark⟩,
    fun m x d => ⟨fun hlane => ?_, fun hwin hruns => ?_, fun hcap => ?_⟩⟩
  · rw [exec_markFire_of_fires hmark hfires, if_pos ⟨hrun, hfirst⟩]
  · rw [exec_markFire_of_fires hmark hfires, if_neg (by simp [hafter])]
  · simp only [fireMark, if_pos hlane]
  · rcases hwin with h | h <;> simp [fireMark, h, hruns]
  · simp [fireMark, hcap]

/-! ### ONESHOT_END and GATE_TIMEOUT -/

section pulses

variable {s : State} {l : Nat}

/-- A pulse of a lane in a mode has come to its end in a running device (R179). -/
def pulseOver (s : State) (l mode : Nat) : Prop :=
  running s = true ∧ laneMode s l = mode ∧ (laneAt s l).cmd = true ∧ (laneAt s l).endAt ≠ 0
    ∧ (laneAt s l).endAt ≤ phases s

/-- The command of a lane whose pulse ends becomes inactive at that end (R179). -/
def endPulse (s : State) (l : Nat) : State :=
  laneCmd (setLane s l { laneAt s l with endAt := 0 }) l false (laneAt s l).endAt

theorem not_pulseOver_of_waiting (mode : Nat) (h : phases s < (laneAt s l).endAt ∨ (laneAt s l).cmd = false) :
    ¬ pulseOver s l mode := by
  rintro ⟨-, -, hcmd, -, hend⟩
  rcases h with h | h
  · omega
  · simp [hcmd] at h

theorem not_pulseOver_of_mode {mode : Nat} (h : laneMode s l ≠ mode) : ¬ pulseOver s l mode :=
  fun hover => h hover.2.1

theorem exec_oneshotEnd_of_over (h : pulseOver s l 3) : exec (.oneshotEnd l) s = .next (endPulse s l) :=
  congrArg Host.Outcome.next (if_pos h)

theorem exec_oneshotEnd_of_not_over (h : ¬ pulseOver s l 3) : exec (.oneshotEnd l) s = .next s :=
  congrArg Host.Outcome.next (if_neg h)

theorem exec_gateTimeout_of_over (h : pulseOver s l 4) :
    exec (.gateTimeout l) s = .next (incOb (endPulse s l) 0x2905 (funcSub (sealFunc s l))) :=
  congrArg Host.Outcome.next (if_pos h)

theorem exec_gateTimeout_of_not_over (h : ¬ pulseOver s l 4) : exec (.gateTimeout l) s = .next s :=
  congrArg Host.Outcome.next (if_neg h)

end pulses

/-- Settles O28: each row asks whether a pulse of its own mode is over. -/
theorem lanePulsesEnd : Obligations.LanePulsesEnd := by
  intro s l
  refine ⟨fun hrun hmode hcmd hset hend => exec_oneshotEnd_of_over ⟨hrun, hmode, hcmd, hset, hend⟩,
    fun hrun hmode hcmd hset hend => exec_gateTimeout_of_over ⟨hrun, hmode, hcmd, hset, hend⟩,
    fun hwait => ⟨exec_oneshotEnd_of_not_over (not_pulseOver_of_waiting 3 hwait),
      exec_gateTimeout_of_not_over (not_pulseOver_of_waiting 4 hwait)⟩,
    fun hmode => exec_oneshotEnd_of_not_over (not_pulseOver_of_mode hmode),
    fun hmode => exec_gateTimeout_of_not_over (not_pulseOver_of_mode hmode)⟩

/-! ### Rod sources and carriers -/

section sources

variable {s s1 : State} {rod : Nat}

/-- An update that reaches LANE enters a rod that runs; a stopped rod keeps a position update only (R143, R153). -/
theorem exec_rodSourceUpdate_of_taken {u : RodUpd} (h : takeUpd s rod = some (u, s1)) (hrun : running s = true)
    (h0 : 0 < rod) (h8 : rod < 8) :
    exec (.rodSourceUpdate rod) s = .next (
      if isShored s1 (rodBase rod) = true then
        (if u.pos.isSome = true then setRod s1 rod { rodAt s1 rod with last := some u } else s1)
      else applyUpd s1 rod u) := by
  change execRodSourceUpdate rod s = _
  have hlive : ¬ ((!running s) = true ∨ rod = 0 ∨ 8 ≤ rod) := by simp [hrun, Nat.ne_of_gt h0, h8]
  simp only [execRodSourceUpdate, h, if_neg hlive]

theorem exec_rodTimeout_of_late (hrun : running s = true) (h0 : 0 < rod) (h8 : rod < 8)
    (hblk : isShored s (rodBase rod) = false)
    (hlate : (rodAt s rod).updAt + ob s (rodBase rod + 1) 7 * 1000 ≤ now s) :
    exec (.rodTimeout rod) s = .next (setRod s rod { rodAt s rod with accel := 0, stl := true }) :=
  congrArg Host.Outcome.next (if_pos ⟨hrun, Nat.ne_of_gt h0, h8, by simp [hblk], hlate⟩)

end sources

/-- Settles O29: an update's way to its rod and its arithmetic, the time-out, and a carrier's setting at its wrap. -/
theorem rodSourcesAndCarriers : Obligations.RodSourcesAndCarriers := by
  intro s s1 rod
  refine ⟨fun u htake hrun h0 h8 => ⟨fun hblk => ?_, fun hblk hpos => ?_, fun hblk hfreq => ?_⟩,
    fun u p _ => ⟨rfl, rfl, rfl, rfl, rfl, rfl⟩, exec_rodTimeout_of_late, fun d hwrap hrun h8 hpend hblk => ?_⟩
  · rw [exec_rodSourceUpdate_of_taken htake hrun h0 h8, if_neg (by simp [hblk])]
  · rw [exec_rodSourceUpdate_of_taken htake hrun h0 h8, if_pos hblk, if_pos hpos]
  · rw [exec_rodSourceUpdate_of_taken htake hrun h0 h8, if_pos hblk, if_neg (by simp [hfreq])]
  · change execCarrierWrapApply rod s = _
    have htakes : running s = true ∧ rod < 8 ∧ (rodAt s rod).cpend = true
        ∧ (rod = 0 ∨ (!isShored s (rodBase rod)) = true) := ⟨hrun, h8, hpend, hblk.imp_right (by simp [·])⟩
    simp only [execCarrierWrapApply, hwrap, if_pos htakes]

/-! ### LANE_READBACK_COMPARE -/

section readback

variable {s : State} {x : Readback}

theorem exec_laneReadbackCompare_of_not_due (h : laneLevel s x.lane = .hiZ ∨ readbackDue s x.lane = false) :
    exec (.laneReadbackCompare x) s = .next s :=
  congrArg Host.Outcome.next (if_pos (by rcases h with h | h <;> simp [h]))

/-- A comparison that is due clears the mismatches, or counts one until the third raises LAN (R191). -/
theorem exec_laneReadbackCompare_of_due (hrun : running s = true) (hlane : x.lane < 114)
    (hdriven : laneLevel s x.lane ≠ .hiZ) (hdue : readbackDue s x.lane = true) :
    let y : Lane := { laneAt s x.lane with seenAt := s.tick + 1 }
    exec (.laneReadbackCompare x) s = .next (
      if decide (laneLevel s x.lane = .high) = x.seen then
        clearDet (setLane s x.lane { y with miss := 0 }) (0x290000 + x.lane)
      else if y.miss = 2 then
        condRaise (incOb (setLane s x.lane { y with miss := 3 }) 0x2903 2) .lan 3 (sealFunc s x.lane) 1
          (0x29000000 + (x.lane + 1) * 256) (0x290000 + x.lane)
      else if y.miss < 2 then setLane s x.lane { y with miss := y.miss + 1 } else s) :=
  congrArg Host.Outcome.next (if_neg (by simp [hrun, hlane, hdriven, hdue]))

end readback

/-! ### Capture units -/

section captures

variable {s : State} {u : Nat}

theorem exec_captureEdge_of_ball {rising : Bool} {ph : Nat} (h : ob s (0x2A00 + u) 1 ≤ 0x86) :
    exec (.captureEdge u rising ph) s = .next (capEdge s u rising (outNow s - 32 + ph)) :=
  congrArg Host.Outcome.next (if_pos h)

theorem exec_captureEdge_of_internal {rising : Bool} {ph : Nat} (h : 0x86 < ob s (0x2A00 + u) 1) :
    exec (.captureEdge u rising ph) s = .next s :=
  congrArg Host.Outcome.next (if_neg (Nat.not_le.mpr h))

/-- A filter that holds no edge has none to record (R194). -/
theorem capDue_of_idle {t : Nat} (h : tabGet none s.capWait u = none) : capDue s u t = s := by
  simp only [capDue, h]

/-- A filter records the edge that it holds once its time has come (R194). -/
theorem capDue_of_waiting {t : Nat} {w : CapWait} (h : tabGet none s.capWait u = some w) :
    capDue s u t = if w.due ≤ t then capPut { s with capWait := tabSet none s.capWait u none } u w.rcd else s := by
  simp only [capDue, h]

/-- The edge of a unit with its record and the end of its filter (R194, R195). -/
def edgeWait (s : State) (u : Nat) (rising : Bool) (t : Nat) : CapWait :=
  { due := t + 32 * ob s (0x2A00 + u) 3, rcd := capRec s u (if rising then 1 else 2) t }

/-- An edge of the selected polarity enters the idle filter of a running unit; a filter of 0 ends at once (R194). -/
theorem capEdge_of_selected {rising : Bool} {t : Nat} (hidle : tabGet none s.capWait u = none)
    (hrun : capRuns s u = true)
    (hsel : ob s (0x2A00 + u) 2 = 3 ∨ ob s (0x2A00 + u) 2 = if rising then 1 else 2) :
    capEdge s u rising t =
      capDue { s with capWait := tabSet none s.capWait u (some (edgeWait s u rising t)) } u t := by
  simp only [capEdge, capDue_of_idle hidle]
  rw [if_pos ⟨by simpa using hsel, hrun⟩, edgeWait]

/-- A record among the held ones, which the model keeps in the order of their times (R195). -/
def insertRec (held : List CapRec) (r : CapRec) : List CapRec :=
  let old (x : CapRec) := decide ([x.stamp, x.phase] ≤ [r.stamp, r.phase])
  held.takeWhile old ++ r :: held.dropWhile old

/-- A running unit that is not the pilot's takes a record, or counts it as lost when full (R194). -/
theorem capPut_of_runs {r : CapRec} (hrun : capRuns s u = true) (hpilot : u ≠ ob s 0x5100 3) :
    capPut s u r =
      if 16 ≤ (tabGet [] s.caps u).length then incOb s (0x2A00 + u) 7
      else { s with caps := tabSet [] s.caps u (insertRec (tabGet [] s.caps u) r) } := by
  simp [capPut, hrun, hpilot, insertRec]

/-- A READ of Capture.Next removes the records of its unit, but not while the unit's block has stopped (R196). -/
theorem readTake_captureNext (hu : u < 16) :
    readTake s (0x2A00 + u) 8 =
      if addrDone s (oaddr (0x2A00 + u) 8) = true then s else { s with caps := tabSet [] s.caps u [] } := by
  have hother : ¬ 0x2A00 + u = 0x6801 := by omega
  have hnext : 0x2A00 ≤ 0x2A00 + u ∧ 0x2A00 + u < 0x2A10 ∧ 8 = 8 := by omega
  rw [readTake, if_neg hother, if_pos hnext, Nat.add_sub_cancel_left]

theorem exec_captureNextRead (s : State) (r : Req) (u : Nat) :
    exec (.captureNextRead r u) s = exec (.read r (0x2A00 + u) 8) s := rfl

end captures

/-- Settles O30: each command through its own row; Capture.Next is the READ of O15 with its records removed. -/
theorem readbackAndCapture : Obligations.ReadbackAndCapture := by
  intro s x u ph rising r
  refine ⟨fun hrun hlane hdriven hdue => ⟨fun hsame => ?_, fun hdiff hmiss => ?_, fun hdiff hmiss => ?_⟩,
    exec_laneReadbackCompare_of_not_due, exec_captureEdge_of_ball, exec_captureEdge_of_internal,
    fun t hidle hrun hsel hheld => ⟨fun hfilter => ?_, fun hfilter => ?_⟩,
    fun e t hrun hpilot => ⟨fun hfull => ?_, fun hroom => ?_⟩, exec_captureNextRead s r u,
    fun s1 q w hu hadm => ⟨fun hbad => ?_,
      fun hcheck hdata hcond hrow hfits => ⟨fun hopen => ?_, fun hdone => ?_⟩⟩⟩
  · rw [exec_laneReadbackCompare_of_due hrun hlane hdriven hdue, if_pos hsame]
  · rw [exec_laneReadbackCompare_of_due hrun hlane hdriven hdue, if_neg hdiff,
      if_neg (Nat.ne_of_lt hmiss), if_pos hmiss]
  · rw [exec_laneReadbackCompare_of_due hrun hlane hdriven hdue, if_neg hdiff, if_pos hmiss]
  · rw [capEdge_of_selected hidle hrun hsel, capDue_of_waiting hheld, if_neg (by simp only; omega)]
    rfl
  · rw [capEdge_of_selected hidle hrun hsel, capDue_of_waiting hheld, if_pos (by simp only; omega)]
    rfl
  · rw [capture, capPut_of_runs hrun hpilot, if_pos hfull]
  · rw [capture, capPut_of_runs hrun hpilot, if_neg (Nat.not_le.mpr hroom)]
    rfl
  · exact (exec_captureNextRead s r u).trans ((exec_read_of_refused hadm).1 hbad)
  · rw [exec_captureNextRead, exec_read_of_checked hadm hcheck hdata hcond hrow, if_neg (Nat.not_lt.mpr hfits),
      readTake_captureNext hu, if_neg (by simp [hopen])]
  · rw [exec_captureNextRead, exec_read_of_checked hadm hcheck hdata hcond hrow, if_neg (Nat.not_lt.mpr hfits),
      readTake_captureNext hu, if_pos hdone]

end Sys2Proof.Machine
end

section
/-! PROOFS. Resolvers, encoders, Hall triplets, the grid PLL and the frequency words (06_position). A command of an interface
that does not run, or that comes before its time, is stopped at its row's guard; past the guard each case of a statement is
one way through the row. -/

namespace Sys2Proof.Machine

/-! ### RESOLVER_UPDATE -/

section resolver

variable {s : State} {i : Nat} {m : ResMeas}

theorem exec_resolverUpdate_of_stopped (h : posRuns s (resBase i) = false) : exec (.resolverUpdate i m) s = .next s :=
  congrArg Host.Outcome.next (if_pos (by simp [h]))

/-- The first half period after a start gives the observer its angle (R210). -/
theorem observe_theta_of_start {x : Resolver} (v : ResEnv) (h : x.half = 0) : (observe s i x v).theta = envAngle v := by
  simp only [observe, if_pos h]

end resolver

/-- Settles O31: the row of a running interface, and the observer at its start. -/
theorem resolverMeasures : Obligations.ResolverMeasures := by
  intro s i m
  refine ⟨exec_resolverUpdate_of_stopped, fun hrun => ?_, observe_theta_of_start _⟩
  exact congrArg Host.Outcome.next (if_neg (by simp [hrun]))

/-! ### ENCODER_EDGE, ENCODER_INDEX and ENCODER_UPDATE -/

section encoder

variable {s : State} {e : Nat} {was lv : Bool × Bool}

theorem exec_encoder_of_stopped (h : posRuns s (encBase e) = false) :
    exec (.encoderEdge e was lv) s = .next s ∧ exec (.encoderIndex e) s = .next s
      ∧ exec (.encoderUpdate e) s = .next s :=
  ⟨congrArg Host.Outcome.next (if_pos (by simp [h])), congrArg Host.Outcome.next (if_pos (by simp [h])),
    congrArg Host.Outcome.next (if_pos (by simp [h]))⟩

theorem exec_encoderIndex_of_no_input (h : ob s (encBase e) 6 ≠ 0) : exec (.encoderIndex e) s = .next s :=
  congrArg Host.Outcome.next (if_pos (Or.inr h))

theorem exec_encoderUpdate_of_early
    (h : now s < (tabGet ({} : Encoder) s.enc e).updAt + ob s (encBase e) 8 * 1000) :
    exec (.encoderUpdate e) s = .next s :=
  congrArg Host.Outcome.next (if_pos (Or.inr h))

end encoder

/-- Settles O32: an edge by its quadrature step, an index by whether it is the first and how far it lies from the first, and
an update by whether c_Z, LOCK and the faults let it go out. -/
theorem encoderFollowsItsEdges : Obligations.EncoderFollowsItsEdges := by
  intro s e was lv
  refine ⟨exec_encoder_of_stopped, fun hrun => ⟨fun hbad => ?_, fun hsame => ?_, fun d hstep hd => ?_,
    exec_encoderIndex_of_no_input, fun hin hfirst => ?_, fun cz hin hcz => ⟨fun hnear => ?_, fun hfar => ?_⟩,
    fun hdue => ⟨fun hheld => ?_, fun cz hcz hlock hok => ?_⟩, exec_encoderUpdate_of_early⟩⟩
  · change execEncoderEdge e was lv s = _
    simp only [execEncoderEdge, hrun, hbad]
    rfl
  · change execEncoderEdge e was lv s = _
    simp only [execEncoderEdge, hrun, hsame]
    rfl
  · change execEncoderEdge e was lv s = _
    simp only [execEncoderEdge, hrun, hstep, if_neg hd]
    rfl
  · change execEncoderIndex e s = _
    simp [execEncoderIndex, hrun, hin, hfirst]
  · change execEncoderIndex e s = _
    simp [execEncoderIndex, hrun, hin, hcz, Int.not_lt.mpr hnear]
  · change execEncoderIndex e s = _
    simp [execEncoderIndex, hrun, hin, hcz, hfar]
  · refine congrArg Host.Outcome.next ((if_neg (by simp [hrun, hdue])).trans ?_)
    split
    · rfl
    · next cz hcz =>
      refine if_neg fun ⟨hlock, hok⟩ => ?_
      rcases hheld with hnone | hunlocked | hfault
      · simp [hcz] at hnone
      · exact Bool.noConfusion (hlock.symm.trans hunlocked)
      · exact hfault hok
  · change execEncoderUpdate e s = _
    simp only [execEncoderUpdate, hrun, Nat.not_lt.mpr hdue, hcz]
    rw [if_neg (by simp), if_pos ⟨hlock, hok⟩]

/-! ### HALL_EDGE and HALL_RATE_UPDATE -/

section hall

variable {s : State} {h code : Nat}

theorem exec_hall_of_stopped (hoff : posRuns s (hallBase h) = false) :
    exec (.hallEdge h code) s = .next s ∧ exec (.hallRateUpdate h) s = .next s :=
  ⟨congrArg Host.Outcome.next (if_pos (by simp [hoff])), congrArg Host.Outcome.next (if_pos (by simp [hoff]))⟩

theorem exec_hallRateUpdate_of_early (hearly : now s < (tabGet ({} : Hall) s.hall h).sentAt + 100000) :
    exec (.hallRateUpdate h) s = .next s :=
  congrArg Host.Outcome.next (if_pos (Or.inr hearly))

/-- No motion is commanded while the actuator has not driven its motor (R217). -/
theorem hallDriven_of_idle (hidle : (tabGet ({} : Act) s.act h).drivenAt = 0) :
    execHallRateUpdate.hallDriven s h = none :=
  if_pos hidle

/-- A driven motor tells since when (R217, R462). -/
theorem hallDriven_of_driven (hdriven : (tabGet ({} : Act) s.act h).drivenAt ≠ 0) :
    execHallRateUpdate.hallDriven s h = some ((tabGet ({} : Act) s.act h).drivenAt - 1) :=
  if_neg hdriven

end hall

/-! ### GRID_PLL_STEP and FREQUENCY_WORD_UPDATE -/

theorem exec_gridPllStep_of_waiting {s : State}
    (h : posRuns s 0x3300 = false ∨ now s < s.grid.stepAt + ob s 0x3300 7 * 1000) :
    exec .gridPllStep s = .next s :=
  congrArg Host.Outcome.next (if_pos (h.imp_left (by simp [·])))

/-- A step of the PLL that is due passes its guard (R218). -/
theorem not_gridPll_waiting {s : State} (hrun : posRuns s 0x3300 = true)
    (hdue : s.grid.stepAt + ob s 0x3300 7 * 1000 ≤ now s) :
    ¬ ((!posRuns s 0x3300) = true ∨ now s < s.grid.stepAt + ob s 0x3300 7 * 1000) := by
  simp [hrun, hdue]

/-- Settles O33: an edge by the sector it names and the one before it, a rate update by whether the actuator has driven its
motor, a PLL step by the mode, and a frequency word by its row's condition. -/
theorem hallGridAndFrequency : Obligations.HallGridAndFrequency := by
  intro s h code rod
  refine ⟨exec_hall_of_stopped, fun hrun => ⟨fun hbad => ?_, fun k hk hsec hseq => ?_, fun k hk hsec hseq => ?_,
    fun k hk hsec => ?_, fun k k0 hk hsec hne => ?_, fun hdue => ?_, exec_hallRateUpdate_of_early⟩,
    exec_gridPllStep_of_waiting, fun hrun hdue hmode => ?_, fun hrun hdue hmode => ?_, fun hruns => ?_,
    fun hruns => ?_⟩
  · change execHallEdge h code s = _
    simp only [execHallEdge, hrun, hbad]
    rfl
  · change execHallEdge h code s = _
    simp only [execHallEdge, hrun, hk, hsec, hseq]
    rfl
  · change execHallEdge h code s = _
    simp only [execHallEdge, hrun, hk, hsec, hseq]
    rfl
  · change execHallEdge h code s = _
    simp [execHallEdge, hrun, hk, hsec]
  · change execHallEdge h code s = _
    simp only [execHallEdge, hrun, hk, hsec, if_neg hne, decide_eq_true_eq]
    rfl
  · change execHallRateUpdate h s = _
    by_cases hidle : (tabGet ({} : Act) s.act h).drivenAt = 0
    · simp [execHallRateUpdate, hrun, Nat.not_lt.mpr hdue, hallDriven_of_idle hidle, hidle]
    · simp [execHallRateUpdate, hrun, Nat.not_lt.mpr hdue, hallDriven_of_driven hidle, hidle]
  · exact congrArg Host.Outcome.next ((if_neg (not_gridPll_waiting hrun hdue)).trans (if_pos hmode))
  · exact congrArg Host.Outcome.next ((if_neg (not_gridPll_waiting hrun hdue)).trans (if_neg hmode))
  · exact congrArg Host.Outcome.next (if_pos hruns)
  · exact congrArg Host.Outcome.next (if_neg hruns)

end Sys2Proof.Machine
end

section
/-! PROOFS. Conversion sequences, calibration, demodulators and statistic units (07_acquisition). Each row asks a condition
first; the condition stands here as a definition with the row's two ways, and a statement's cases are then read off the
operation that the row runs. -/

namespace Sys2Proof.Machine

/-! ### SEQ_TRIGGER, CONVERTER_FREE and SEQ_WAIT_DROP -/

section sequences

variable {s s1 : State} {q cv : Nat} {ev : TrigEv}

theorem exec_seqTrigger_of_none (h : takeTrig s 0 q = none) : exec (.seqTrigger q) s = .next s := by
  change execSeqTrigger q s = _
  simp only [execSeqTrigger, h]

theorem exec_seqTrigger_of_later (h : takeTrig s 0 q = some (ev, s1)) (hlater : trigFirst s ev = false) :
    exec (.seqTrigger q) s = .next s := by
  change execSeqTrigger q s = _
  simp [execSeqTrigger, h, hlater]

/-- The first event at its converters is taken; it reaches the sequence if that runs (R175, R231). -/
theorem exec_seqTrigger_of_first (h : takeTrig s 0 q = some (ev, s1)) (hfirst : trigFirst s ev = true) :
    exec (.seqTrigger q) s = .next (if seqRuns s1 q = true then seqEvent s1 q ev else s1) := by
  change execSeqTrigger q s = _
  simp [execSeqTrigger, h, hfirst]

/-- The state once an event has aborted what the Outrider converts on the sequence's converters (R234). -/
def afterAbort (s : State) (q : Nat) (ev : TrigEv) : State := abortOut s (seqConvs s q) (trigTime ev)

/-- The first hold that an event allows: later where it aborted a conversion (R40, R234). -/
def firstHold (s : State) (q : Nat) (ev : TrigEv) : Nat :=
  if (seqConvs s q).any (fun c => !outFree s c (trigTime ev)) then trigTime ev + nsTime 50 else trigTime ev + nsTime 20

theorem seqEvent_of_busy (h : seqBusy (afterAbort s q ev) q = true) :
    seqEvent s q ev = incOb (afterAbort s q ev) (seqBase q + 15) 1 := if_pos h

/-- An event of an idle sequence starts it, is dropped or waits, by the sequence's converters and URGENT (R229, R232). -/
theorem seqEvent_of_idle (h : seqBusy (afterAbort s q ev) q = false) :
    let a := afterAbort s q ev
    seqEvent s q ev =
      if convBusy a q = true then
        if ob a (seqBase q) 4 = 1 then missSeq (incOb a 0x3400 (ob a (seqBase q) 1 + 1)) q
        else setSeq a q { seqOf a q with
          st := 1, due := trigTime ev + nsTime 20, step := 0, lims := seqLims a q, after := firstHold s q ev }
      else startSeq (setSeq a q { seqOf a q with lims := seqLims a q }) q (trigTime ev + nsTime 20) (firstHold s q ev) :=
  if_neg (Bool.eq_false_iff.mp h)

/-- The lowest-numbered sequence that waits for a converter with all its converters free (R229). -/
def firstWaiting (s : State) (cv : Nat) : Option Nat :=
  (List.range 32).find? (fun q => decide ((seqOf s q).st = 1) && seqUses (viewNow s) q cv && convFree s q)

/-- A waiting sequence may start: its block stands, and its converters were free in time (R228, R229). -/
def mayStart (s : State) (q : Nat) : Prop :=
  running s = true ∧ isShored s (seqBase q) = false ∧ freeAt s q ≤ (seqOf s q).due + nsTime (ob s (seqBase q) 5)

theorem mayStart_iff :
    mayStart s q ↔ running s = true ∧ (!isShored s (seqBase q)) = true ∧ freeInTime s q = true := by
  simp [mayStart, freeInTime]

theorem exec_converterFree_of_none (h : firstWaiting s cv = none) : exec (.converterFree cv) s = .next s := by
  change execConverterFree cv s = _
  rw [firstWaiting] at h
  simp only [execConverterFree, h]

theorem exec_converterFree_of_mayStart (h : firstWaiting s cv = some q) (hmay : mayStart s q) :
    exec (.converterFree cv) s
      = .next (startSeq s q (seqOf s q).due (max (freeAt s q) (seqOf s q).after)) := by
  change execConverterFree cv s = _
  rw [firstWaiting] at h
  simp only [execConverterFree, h, if_pos (mayStart_iff.mp hmay)]

theorem exec_converterFree_of_not_mayStart (h : firstWaiting s cv = some q) (hmay : ¬ mayStart s q) :
    exec (.converterFree cv) s = .next s := by
  change execConverterFree cv s = _
  rw [firstWaiting] at h
  simp only [execConverterFree, h, if_neg (hmay ∘ mayStart_iff.mpr)]

/-- A waiting sequence has waited Seq.MaxWait, and its converters were not free by then (R229). -/
def waitOver (s : State) (q : Nat) : Prop :=
  running s = true ∧ (seqOf s q).st = 1 ∧ (seqOf s q).due + nsTime (ob s (seqBase q) 5) ≤ s.dt
    ∧ ¬ (convFree s q = true ∧ freeAt s q ≤ (seqOf s q).due + nsTime (ob s (seqBase q) 5))

theorem waitOver_iff :
    waitOver s q ↔ running s = true ∧ (seqOf s q).st = 1 ∧ (seqOf s q).due + nsTime (ob s (seqBase q) 5) ≤ s.dt
      ∧ (!(convFree s q && freeInTime s q)) = true := by
  simp only [waitOver, freeInTime, Bool.not_eq_true', Bool.eq_false_iff, ne_eq, Bool.and_eq_true, decide_eq_true_eq]

theorem exec_seqWaitDrop_of_over (h : waitOver s q) :
    exec (.seqWaitDrop q) s
      = .next (missSeq (incOb (setSeq s q { seqOf s q with st := 0 }) (seqBase q + 15) 2) q) :=
  congrArg Host.Outcome.next (if_pos (waitOver_iff.mp h))

theorem exec_seqWaitDrop_of_not_over (h : ¬ waitOver s q) : exec (.seqWaitDrop q) s = .next s :=
  congrArg Host.Outcome.next (if_neg (h ∘ waitOver_iff.mpr))

end sequences

/-- Settles O34: an event by its place among the others and by what its sequence and converters do, then the two ways of a
wait to end; the code of a voltage is the model's own function. -/
theorem sequencesConvert : Obligations.SequencesConvert := by
  intro s s1 q cv ev
  refine ⟨exec_seqTrigger_of_none, fun htake => ⟨exec_seqTrigger_of_later htake, fun hfirst hstopped => ?_,
      fun hfirst hruns => ?_⟩,
    ⟨exec_converterFree_of_none, fun p hfound =>
      ⟨exec_converterFree_of_mayStart hfound, exec_converterFree_of_not_mayStart hfound⟩⟩,
    ⟨exec_seqWaitDrop_of_over, exec_seqWaitDrop_of_not_over⟩, fun _ => rfl⟩
  · rw [exec_seqTrigger_of_first htake hfirst, if_neg (Bool.eq_false_iff.mp hstopped)]
  · rw [exec_seqTrigger_of_first htake hfirst, if_pos hruns]
    refine ⟨fun hbusy => ?_, fun hidle hfree => ?_, fun hidle hheld hurgent => ?_, fun hidle hheld hurgent => ?_⟩
    · rw [seqEvent_of_busy hbusy]; rfl
    · rw [seqEvent_of_idle hidle]
      exact congrArg Host.Outcome.next (if_neg (Bool.eq_false_iff.mp hfree))
    · rw [seqEvent_of_idle hidle]
      exact congrArg Host.Outcome.next ((if_pos hheld).trans (if_neg hurgent))
    · rw [seqEvent_of_idle hidle]
      exact congrArg Host.Outcome.next ((if_pos hheld).trans (if_pos hurgent))

/-! ### CONVERSION_COMPLETE and PAIR_CHECK -/

section conversions

variable {s : State} {q k p : Nat} {src : AdcIn} {uv : Int × Int}

/-- A conversion is the next of a running sequence, has come to its hold, and is of the input that its mux code selects
(R224, R227). -/
def convNext (s : State) (q k : Nat) (src : AdcIn) : Prop :=
  running s = true ∧ (seqOf s q).st = 2 ∧ (seqOf s q).step = k ∧ (seqOf s q).hold + nsTime (125 * k) ≤ s.dt
    ∧ muxInput (ob s (seqBase q) 1) (ob s (seqBase q + 1) (k + 1)) = some src

theorem not_convNext_iff :
    ¬ convNext s q k src ↔ (!running s) = true ∨ (seqOf s q).st ≠ 2 ∨ (seqOf s q).step ≠ k
      ∨ s.dt < (seqOf s q).hold + nsTime (125 * k)
      ∨ muxInput (ob s (seqBase q) 1) (ob s (seqBase q + 1) (k + 1)) ≠ some src := by
  simp only [convNext, Classical.not_and_iff_not_or_not, Bool.not_eq_true, Bool.not_eq_true', Nat.not_le, ne_eq]

theorem exec_conversionComplete_of_not_next (h : ¬ convNext s q k src) :
    exec (.conversionComplete q k src uv) s = .next s :=
  congrArg Host.Outcome.next (if_pos (not_convNext_iff.mp h))

/-- The sequence goes on to its next step, and is done after its last (R227, R228). -/
def stepOn (s : State) (q k : Nat) : State :=
  setSeq s q { seqOf s q with step := k + 1, st := if ob s (seqBase q) 3 ≤ k + 1 then 3 else 2 }

theorem exec_conversionComplete_of_next (h : convNext s q k src) :
    exec (.conversionComplete q k src uv) s
      = .next (stepWords (stepOn s q k) q k { src := src, uv := uv.1, uv2 := uv.2 }
          ((seqOf s q).lims.getD k (chanLims s (16 * q + k)))) :=
  congrArg Host.Outcome.next (if_neg fun hno => not_convNext_iff.mpr hno h)

/-- A pair's check is due, of the input that Pair.CheckInput selects (R245). -/
def checkNext (s : State) (p : Nat) (src : AdcIn) : Prop :=
  running s = true ∧ isShored s 0x3400 = false ∧ pairDue s p = true
    ∧ muxInput (2 * p) (ob s 0x3403 (p + 1)) = some src

theorem not_checkNext_iff :
    ¬ checkNext s p src ↔ (!running s) = true ∨ isShored s 0x3400 = true ∨ (!pairDue s p) = true
      ∨ muxInput (2 * p) (ob s 0x3403 (p + 1)) ≠ some src := by
  simp only [checkNext, Classical.not_and_iff_not_or_not, Bool.not_eq_true, Bool.not_eq_true', Bool.not_eq_false, ne_eq]

theorem exec_pairCheck_of_not_next (h : ¬ checkNext s p src) : exec (.pairCheck p src uv) s = .next s :=
  congrArg Host.Outcome.next (if_pos (not_checkNext_iff.mp h))

/-- Thermal samples come before a check that has not converted yet (R585). -/
def thermFirst (s : State) (p : Nat) : Bool :=
  !outDone s 1 p [2 * p, 2 * p + 1] && [2 * p, 2 * p + 1].any (thermDue s)

/-- What a check finds of its conversion outside the sequences: the state, and whether it has ended (R234, R245). -/
def checkConv (s : State) (p : Nat) : State × Bool :=
  if thermFirst s p = true then (s, false) else outConv s 1 p [2 * p, 2 * p + 1] 1

/-- The difference of a pair's codes for the voltages that its converters see (R245). -/
def pairDiff (s : State) (src : AdcIn) (uv : Int × Int) : Int :=
  (sampleCode s (muxVolt s src uv.1) : Int) - sampleCode s (muxVolt s src uv.2)

theorem exec_pairCheck_of_next (h : checkNext s p src) :
    let o := checkConv s p
    exec (.pairCheck p src uv) s = .next (
      if o.2 = true then
        pairResult (putOb o.1 0x3408 (p + 1) (ofInt 32 (pairDiff s src uv))) p
          (decide (ob s 0x3404 (p + 1) < (pairDiff s src uv).natAbs))
      else if pairLate s p = true ∧ [2 * p, 2 * p + 1].any (fun c => outFree o.1 c s.dt) = true then pairStarve o.1
      else o.1) :=
  congrArg Host.Outcome.next (if_neg fun hno => not_checkNext_iff.mpr hno h)

theorem checkConv_of_free (h : thermFirst s p = false) : checkConv s p = outConv s 1 p [2 * p, 2 * p + 1] 1 :=
  if_neg (Bool.eq_false_iff.mp h)

theorem checkConv_fst :
    (checkConv s p).1 = if thermFirst s p = true then s else (outConv s 1 p [2 * p, 2 * p + 1] 1).1 :=
  apply_ite Prod.fst _ _ _

/-- A check has no result while thermal samples come first or its conversion has not ended. -/
theorem checkConv_open (h : thermFirst s p = true ∨ (outConv s 1 p [2 * p, 2 * p + 1] 1).2 = false) :
    ¬ (checkConv s p).2 = true := by
  rcases h with hfirst | hopen
  · rw [checkConv, if_pos hfirst]
    exact Bool.false_ne_true
  · rw [checkConv, apply_ite Prod.snd, hopen]
    simp

end conversions

/-- Settles O35: a conversion that is the next writes the words of its step; a check that is due waits for thermal samples,
has its result, or begins. -/
theorem conversionWritesItsChannel : Obligations.ConversionWritesItsChannel := by
  intro s q k p src uv
  refine ⟨exec_conversionComplete_of_not_next, fun hnext => ?_, exec_pairCheck_of_not_next,
    fun hcheck hfree hdone => ?_, fun hcheck hwait => ?_⟩
  · rw [exec_conversionComplete_of_next hnext]
    simp only [stepWords, decide_eq_true_eq]
    rfl
  · have hconv := checkConv_of_free hfree
    rw [exec_pairCheck_of_next hcheck, hconv]
    exact congrArg Host.Outcome.next (if_pos hdone)
  · have hopen : ¬ (checkConv s p).2 = true := checkConv_open hwait
    rw [exec_pairCheck_of_next hcheck]
    exact congrArg Host.Outcome.next ((if_neg hopen).trans (by rw [checkConv_fst]; rfl))

/-! ### The calibration commands -/

section calibration

variable {s s1 : State} {r : Req} {ch : Nat} {q : QReq} {w : Row} {c : Instr}

theorem exec_calibration (hc : c ∈ [Instr.calCaptureLow r ch, .calCaptureHigh r ch, .calCompute r ch, .calClear r ch,
    .calAbandon r ch]) : exec c s = .next (calCmd r ch s) := by
  simp only [List.mem_cons, List.not_mem_nil, or_false] at hc
  rcases hc with rfl | rfl | rfl | rfl | rfl <;> rfl

theorem calCmd_of_served (h : served s r (calCmdAt ch).1 (calCmdAt ch).2 = some (s1, q))
    (hrow : rowOf (calCmdAt ch).1 (calCmdAt ch).2 = some w) :
    calCmd r ch s = conclude (doCal ch s1 q).1 q w.ty (doCal ch s1 q).2 :=
  serveWrite_eq_conclude (doCal ch) h (by rw [hrow]; rfl)

theorem calBar_of_shored (h : isShored s (chanBlock ch) = true) : calBar s ch = 0x03000005 := if_pos h

theorem calBar_of_live (hblk : isShored s (chanBlock ch) = false) (h : (chanUsers s ch).any (fnLive s) = true) :
    calBar s ch = 0x03000001 :=
  (if_neg (Bool.eq_false_iff.mp hblk)).trans (if_pos h)

theorem calBar_of_idle (hblk : isShored s (chanBlock ch) = false) (h : (chanUsers s ch).any (fnLive s) = false) :
    calBar s ch = if chanMode s ch ≠ 0 then 0x02000006 else 0 :=
  (if_neg (Bool.eq_false_iff.mp hblk)).trans (if_neg (Bool.eq_false_iff.mp h))

theorem doCal_of_barred {n : Nat} (hbar : calBar s ch = n) (hn : n ≠ 0) : doCal ch s q = (s, n) := by
  subst hbar
  exact if_pos hn

/-- A capture of another step of the channel's sequence runs (R241). -/
def otherCapture (s : State) (ch : Nat) : Prop :=
  (calState s ch = 1 ∨ calState s ch = 3) ∧ (calOf s ch).taking ≠ 0 ∧ (calOf s ch).step ≠ ch % 16

theorem doCal_of_otherCapture (hbar : calBar s ch = 0) (h : otherCapture s ch) :
    doCal ch s q = (s, 0x03000005) :=
  (if_neg (not_not_intro hbar)).trans (if_pos h)

section values

variable (hbar : calBar s ch = 0) (hown : ¬ otherCapture s ch)

include hbar hown

/-- A command that nothing bars does what its value names (R242). -/
theorem doCal_of_free :
    doCal ch s q =
      if leNat q.data = 1 ∨ leNat q.data = 2 then (calStart s ch (leNat q.data), 0)
      else if leNat q.data = 3 then
        if calState s ch ≠ 4 ∨ (calOf s ch).step ≠ ch % 16 then (s, 0x03000005)
        else if tabGet 0 s.led.stored (chanBlock ch) ≠ 0
          ∧ now s < tabGet 0 s.led.stored (chanBlock ch) - 1 + 10000000000 then (s, 0x03000009)
        else calSolve s ch
      else if leNat q.data = 4 then (calPut s ch 0 0, 0)
      else (putCalState (setCal s ch {}) ch 0, 0) :=
  (if_neg (not_not_intro hbar)).trans (if_neg hown)

theorem doCal_of_capture (hv : leNat q.data = 1 ∨ leNat q.data = 2) :
    doCal ch s q = (calStart s ch (leNat q.data), 0) :=
  (doCal_of_free hbar hown).trans (if_pos hv)

/-- Command 3 asks for both captures of the channel, then for 10 s since the latest persist (R244). -/
theorem doCal_of_compute (hv : leNat q.data = 3) :
    doCal ch s q =
      if calState s ch ≠ 4 ∨ (calOf s ch).step ≠ ch % 16 then (s, 0x03000005)
      else if tabGet 0 s.led.stored (chanBlock ch) ≠ 0
        ∧ now s < tabGet 0 s.led.stored (chanBlock ch) - 1 + 10000000000 then (s, 0x03000009)
      else calSolve s ch :=
  (doCal_of_free hbar hown).trans ((if_neg (by omega)).trans (if_pos hv))

theorem doCal_of_clear (hv : leNat q.data = 4) : doCal ch s q = (calPut s ch 0 0, 0) :=
  (doCal_of_free hbar hown).trans ((if_neg (by omega)).trans ((if_neg (by omega)).trans (if_pos hv)))

theorem doCal_of_discard (hv : leNat q.data = 0 ∨ 5 ≤ leNat q.data) :
    doCal ch s q = (putCalState (setCal s ch {}) ch 0, 0) :=
  (doCal_of_free hbar hown).trans ((if_neg (by omega)).trans ((if_neg (by omega)).trans (if_neg (by omega))))

end values

/-- The gain that two held captures give, formed in binary64 (R244). -/
def calGain (s : State) (ch : Nat) (l h : Int) : Rat :=
  r64 (r64 (chanF s ch 8 - chanF s ch 7) / (mkRat h 256 - mkRat l 256))

/-- Two held captures give gain and offset unless their codes or the true values do not differ enough (R244). -/
theorem calSolve_of_held {l h : Int} (hlow : (calOf s ch).low = some l) (hhigh : (calOf s ch).high = some h) :
    calSolve s ch =
      if rabs (mkRat h 256 - mkRat l 256) < 1024 ∨ chanF s ch 7 = chanF s ch 8 then (putCalState s ch 5, 0x02000006)
      else (putCalState (setCal (calPut s ch (f32Of (calGain s ch l h))
        (f32Of (r64 (chanF s ch 7 - r64 (calGain s ch l h * mkRat l 256))))) ch {}) ch 0, 0) := by
  simp only [calSolve, hlow, hhigh]
  rfl

section effects

variable (hc : c ∈ [Instr.calCaptureLow r ch, .calCaptureHigh r ch, .calCompute r ch, .calClear r ch, .calAbandon r ch])
  (h : served s r (calCmdAt ch).1 (calCmdAt ch).2 = some (s1, q))
  (hrow : rowOf (calCmdAt ch).1 (calCmdAt ch).2 = some w)

include hc h hrow

theorem exec_calibration_of_done {t : State} (heff : doCal ch s1 q = (t, 0)) :
    exec c s = .next (reply t q w.ty []) := by
  rw [exec_calibration hc, calCmd_of_served h hrow, heff, conclude_zero]

theorem exec_calibration_of_refused {t : State} {n : Nat} (heff : doCal ch s1 q = (t, n)) (hn : n ≠ 0)
    (hd : n ≠ deferred) : exec c s = .next (refuse t q n) := by
  rw [exec_calibration hc, calCmd_of_served h hrow, heff, conclude_code _ _ _ hn hd]

end effects

/-- A capture of a channel has its 256 conversions (R243). -/
def captureFull (s : State) (ch : Nat) : Prop :=
  running s = true ∧ (calOf s ch).step = ch % 16 ∧ 256 ≤ (calOf s ch).n

theorem exec_calCaptureDone_of_full (h : captureFull s ch) (htaking : (calOf s ch).taking ≠ 0) :
    exec (.calCaptureDone ch) s = .next (
      if (calOf s ch).taking = 1 then
        putCalState (setCal s ch { calOf s ch with low := some (calOf s ch).sum, taking := 0 }) ch
          (if (calOf s ch).high.isSome then 4 else 2)
      else
        putCalState (setCal s ch { calOf s ch with high := some (calOf s ch).sum, taking := 0 }) ch
          (if (calOf s ch).low.isSome then 4 else 3)) := by
  obtain ⟨hrun, hstep, hn⟩ := h
  exact congrArg Host.Outcome.next (if_neg (by simp [hrun, htaking, hstep, hn]))

theorem exec_calCaptureDone_of_not_full (h : ¬ captureFull s ch ∨ (calOf s ch).taking = 0) :
    exec (.calCaptureDone ch) s = .next s := by
  refine congrArg Host.Outcome.next (if_pos ?_)
  simp only [captureFull, Classical.not_and_iff_not_or_not, Nat.not_le] at h
  rcases h with (hrun | hstep | hn) | htaking
  · exact .inl (by simp [hrun])
  · exact .inr (.inr (.inl hstep))
  · exact .inr (.inr (.inr hn))
  · exact .inr (.inl htaking)

end calibration

/-- Settles O36: the bars of R241 in their order, then the value of the command; the end of a capture by its count and
its time. -/
theorem calibrationCaptures : Obligations.CalibrationCaptures := by
  intro s s1 r ch q w c
  refine ⟨fun hc h hrow => ⟨fun hblk => ?_, fun hblk hlive => ?_, fun hblk hidle => ⟨fun hmode => ?_,
      fun hmode hother => ?_, fun hmode hown => ?_⟩⟩,
    ⟨fun hfull htaking => ?_, fun hfull htaking => ?_, exec_calCaptureDone_of_not_full⟩,
    ⟨fun hlate => congrArg Host.Outcome.next (if_pos hlate), fun hlate => congrArg Host.Outcome.next (if_neg hlate)⟩⟩
  · exact exec_calibration_of_refused hc h hrow (doCal_of_barred (calBar_of_shored hblk) (by decide))
      (by decide) (by decide)
  · exact exec_calibration_of_refused hc h hrow (doCal_of_barred (calBar_of_live hblk hlive) (by decide))
      (by decide) (by decide)
  · have hbar := (calBar_of_idle hblk hidle).trans (if_pos hmode)
    exact exec_calibration_of_refused hc h hrow (doCal_of_barred hbar (by decide)) (by decide) (by decide)
  · have hbar := (calBar_of_idle hblk hidle).trans (if_neg (not_not_intro hmode))
    exact exec_calibration_of_refused hc h hrow (doCal_of_otherCapture hbar hother) (by decide) (by decide)
  · have hbar := (calBar_of_idle hblk hidle).trans (if_neg (not_not_intro hmode))
    refine ⟨fun hv => exec_calibration_of_done hc h hrow (doCal_of_capture hbar hown hv), fun hv hopen => ?_,
      fun hv hstate hstep => ?_, fun hv => exec_calibration_of_done hc h hrow (doCal_of_clear hbar hown hv),
      fun hv => exec_calibration_of_done hc h hrow (doCal_of_discard hbar hown hv)⟩
    · have heff := (doCal_of_compute hbar hown hv).trans (if_pos hopen)
      exact exec_calibration_of_refused hc h hrow heff (by decide) (by decide)
    · have hheld := (doCal_of_compute hbar hown hv).trans (if_neg (by simp [hstate, hstep]))
      refine ⟨fun hearly => ?_, fun l m hlate hlow hhigh => ?_⟩
      · exact exec_calibration_of_refused hc h hrow (hheld.trans (if_pos hearly)) (by decide) (by decide)
      · have hsolve := (hheld.trans (if_neg hlate)).trans (calSolve_of_held hlow hhigh)
        refine ⟨fun hbad => ?_, fun hgood => ?_⟩
        · exact exec_calibration_of_refused hc h hrow (hsolve.trans (if_pos hbad)) (by decide) (by decide)
        · exact exec_calibration_of_done hc h hrow (hsolve.trans (if_neg hgood))
  · rw [exec_calCaptureDone_of_full hfull (by omega), if_pos htaking]
  · rw [exec_calCaptureDone_of_full hfull (by omega), if_neg (by omega)]

/-! ### SD_OUTPUT and SD_STUCK -/

section demodulators

variable {s : State} {dm : Nat} {rise fall : List Bool}

theorem sdRuns_iff : sdRuns s dm = true ↔ sdOn s dm = true ∧ isShored s 0x3700 = false := by
  simp [sdRuns]

/-- No bit comes to a demodulator: CLK is confirmed, or the modulator clocks are shored (R23, R254). -/
def noBits (s : State) (dm : Nat) : Prop := (sdOf s dm).clk = true ∨ isShored s 0x3700 = true

/-- A demodulator without bits misses its output: in TRIG at its first trigger event on the way, else every Sd.Osr clocks
(R27, R254). -/
def sdMissed (s : State) (dm : Nat) : State :=
  if ob s (sdBase dm) 4 = 1 then (takeTrig s 2 dm).elim s fun p => missChan p.2 (512 + dm)
  else if (sdOf s dm).lastAt + sdClocks s dm (ob s (sdBase dm) 3) ≤ now s then
    missChan (setSd s dm { sdOf s dm with lastAt := now s }) (512 + dm)
  else s

/-- A demodulator once modulator clocks have entered its filters at this command (R248 to R252). -/
def sdTaken (s : State) (dm : Nat) (bs : List SdBit) : State :=
  let s1 := sdClocksIn dm (4 * sdcDivider (viewNow s) dm) (outNow s) bs s
  setSd s1 dm { sdOf s1 dm with lastAt := now s }

theorem exec_sdOutput_of_off (h : sdOn s dm = false) : exec (.sdOutput dm rise fall) s = .next s :=
  congrArg Host.Outcome.next (if_pos (by simp [h]))

theorem exec_sdOutput_of_noBits (hon : sdOn s dm = true) (h : noBits s dm) :
    exec (.sdOutput dm rise fall) s = .next (sdMissed s dm) := by
  have hstop : ¬ (!sdOn s dm) = true := by simp [hon]
  refine congrArg Host.Outcome.next ((if_neg hstop).trans ((if_pos h).trans ?_))
  rw [sdMissed]
  cases takeTrig s 2 dm <;> rfl

theorem not_noBits_of_runs (hrun : sdRuns s dm = true) (hclk : (sdOf s dm).clk = false) : ¬ noBits s dm := by
  simp [noBits, hclk, (sdRuns_iff.mp hrun).2]

theorem exec_sdOutput_of_early (hrun : sdRuns s dm = true) (hclk : (sdOf s dm).clk = false)
    (h : now s < (sdOf s dm).startAt + sdClocks s dm ((sdOf s dm).clocks + (List.zipWith SdBit.mk rise fall).length)) :
    exec (.sdOutput dm rise fall) s = .next s := by
  have hstop : ¬ (!sdOn s dm) = true := by simp [(sdRuns_iff.mp hrun).1]
  exact congrArg Host.Outcome.next
    ((if_neg hstop).trans ((if_neg (not_noBits_of_runs hrun hclk)).trans (if_pos h)))

/-- The clocks of a running demodulator enter it, and in TRIG its first trigger event then gives an output (R250, R254). -/
theorem exec_sdOutput_of_clocked (hrun : sdRuns s dm = true) (hclk : (sdOf s dm).clk = false)
    (h : (sdOf s dm).startAt + sdClocks s dm ((sdOf s dm).clocks + (List.zipWith SdBit.mk rise fall).length) ≤ now s) :
    let t := sdTaken s dm (List.zipWith SdBit.mk rise fall)
    exec (.sdOutput dm rise fall) s
      = .next (if ob s (sdBase dm) 4 = 1 then (takeTrig t 2 dm).elim t fun p => sdOutput p.2 dm else t) := by
  have hstop : ¬ (!sdOn s dm) = true := by simp [(sdRuns_iff.mp hrun).1]
  refine congrArg Host.Outcome.next ((if_neg hstop).trans ((if_neg (not_noBits_of_runs hrun hclk)).trans
    ((if_neg (Nat.not_lt.mpr h)).trans ?_)))
  dsimp only
  rw [sdTaken]
  cases takeTrig _ 2 dm <;> rfl

/-- SDDd of a running, clocked demodulator has not changed for Sd.StuckLimit clocks (R254). -/
def sdStands (s : State) (dm : Nat) : Prop :=
  sdRuns s dm = true ∧ (sdOf s dm).stuck = false ∧ (sdOf s dm).clk = false ∧ ob s (sdBase dm) 7 ≤ (sdOf s dm).same

theorem sdStands_iff : sdStands s dm ↔ sdRuns s dm = true ∧ (!(sdOf s dm).stuck) = true ∧ (!(sdOf s dm).clk) = true
    ∧ ob s (sdBase dm) 7 ≤ (sdOf s dm).same := by
  simp [sdStands]

theorem exec_sdStuck_of_stands (h : sdStands s dm) :
    exec (.sdStuck dm) s = .next (sdFault (setSd s dm { sdOf s dm with stuck := true }) dm 2) :=
  congrArg Host.Outcome.next (if_pos (sdStands_iff.mp h))

theorem exec_sdStuck_of_not_stands (h : ¬ sdStands s dm) : exec (.sdStuck dm) s = .next s :=
  congrArg Host.Outcome.next (if_neg (h ∘ sdStands_iff.mpr))

end demodulators

/-! ### SDC_FAULT and SDC_CLOCK_RETURN -/

section clocks

variable {s : State} {k miss extra : Nat}

/-- The readback of a running modulator clock has seen a wrong edge (R248). -/
def clockWrong (s : State) (k miss extra : Nat) : Prop :=
  running s = true ∧ ob s 0x3700 (k + 1) ≠ 0 ∧ isShored s 0x3700 = false ∧ miss + extra ≠ 0

theorem not_clockWrong_iff : ¬ clockWrong s k miss extra ↔
    (!running s) = true ∨ ob s 0x3700 (k + 1) = 0 ∨ isShored s 0x3700 = true ∨ miss + extra = 0 := by
  simp only [clockWrong, Classical.not_and_iff_not_or_not, Bool.not_eq_true, Bool.not_eq_true', Bool.not_eq_false,
    ne_eq, Classical.not_not]

/-- The wrong edges of a modulator clock, with those that came now (R248). -/
def clockBad (s : State) (k miss extra : Nat) : Nat := (tabGet ({} : SdcRead) s.sdc k).bad + miss + extra

/-- The wrong edges of a modulator clock are counted (R248). -/
def clockCounted (s : State) (k miss extra : Nat) : State :=
  { s with sdc := tabSet {} s.sdc k { bad := clockBad s k miss extra, badAt := now s } }

/-- CLK is confirmed on a demodulator of a modulator clock (R254). -/
def clkConfirm (k : Nat) (t : State) (d : Nat) : State :=
  if sdRuns t d = true ∧ ob t (sdBase d) 2 = k ∧ (!(sdOf t d).clk) = true then
    missChan (sdFault (setSd t d { sdOf t d with clk := true, lastAt := now t }) d 3) (512 + d)
  else t

theorem exec_sdcFault_of_right (h : ¬ clockWrong s k miss extra) : exec (.sdcFault ⟨k, miss, extra⟩) s = .next s :=
  congrArg Host.Outcome.next (if_pos (not_clockWrong_iff.mp h))

/-- The fourth wrong edge confirms CLK on the demodulators of the clock (R248, R254). -/
theorem exec_sdcFault_of_wrong (h : clockWrong s k miss extra) :
    exec (.sdcFault ⟨k, miss, extra⟩) s = .next (
      if clockBad s k miss extra < 4 then clockCounted s k miss extra
      else (List.range 24).foldl (clkConfirm k) (putOb (clockCounted s k miss extra) 0x3701 (k + 1) 2)) :=
  congrArg Host.Outcome.next (if_neg fun hno => not_clockWrong_iff.mpr hno h)

/-- CLK ends on a demodulator of a modulator clock that has seen correct edges for Sd.StuckLimit clocks (R254). -/
def clkEnd (s : State) (k : Nat) (t : State) (d : Nat) : State :=
  if (sdOf t d).clk = true ∧ decide (ob s (sdBase d) 2 = k) = true
      ∧ (tabGet ({} : SdcRead) s.sdc k).badAt + sdClocks t d (ob t (sdBase d) 7) ≤ now t then
    clearDet (setSd t d { sdOf t d with clk := false }) (sdBase d * 16 + 3)
  else t

/-- CLK has ended on each demodulator of a modulator clock that lets it (R254). -/
def clkEnded (s : State) (k : Nat) : State := (List.range 24).foldl (clkEnd s k) s

/-- CLK is still confirmed on a demodulator of the clock. -/
def clkStays (s : State) (k : Nat) : Bool :=
  (List.range 24).any (fun d => (sdOf (clkEnded s k) d).clk && decide (ob s (sdBase d) 2 = k))

theorem exec_sdcClockReturn_of_good (h : running s = false ∨ ob s 0x3701 (k + 1) ≠ 2) :
    exec (.sdcClockReturn k) s = .next s :=
  congrArg Host.Outcome.next (if_pos (h.imp_left (by simp [·])))

theorem exec_sdcClockReturn_of_failed (hrun : running s = true) (hfail : ob s 0x3701 (k + 1) = 2) :
    exec (.sdcClockReturn k) s = .next (
      if clkStays s k = true then clkEnded s k
      else putOb { clkEnded s k with sdc := tabSet {} (clkEnded s k).sdc k {} } 0x3701 (k + 1) 1) :=
  congrArg Host.Outcome.next (if_neg (by simp [hrun, hfail]))

end clocks

/-! ### STAT_BOUNDARY and STAT_TIMEOUT -/

section statistics

variable {s : State} {u t : Nat}

theorem exec_stat_of_stopped (h : statRuns s u = false) :
    exec (.statBoundary u) s = .next s ∧ exec (.statTimeout u) s = .next s :=
  ⟨congrArg Host.Outcome.next (if_neg (by simp [h])), congrArg Host.Outcome.next (if_neg (by simp [h]))⟩

theorem exec_statBoundary_of_runs (h : statRuns s u = true) : exec (.statBoundary u) s = .next (statDue s u) :=
  congrArg Host.Outcome.next (if_pos h)

theorem statDue_of_none (h : (statOf s u).due = none) : statDue s u = s := by
  simp only [statDue, h]

/-- A boundary takes effect 5 ns after it, on a period that runs or as the start of the first (R259, R262). -/
theorem statDue_of_some (h : (statOf s u).due = some t) :
    statDue s u =
      if s.dt < t + nsTime 5 then s
      else if (statOf s u).on = true then statLatch s u (t / 2 ^ 32) false
      else setStat s u { ({} : Stat) with on := true, start := t / 2 ^ 32, armed := (statOf s u).armed } := by
  simp only [statDue, h]

/-- The end that Stat.MaxPeriod sets to the period of a unit, in ns (R261). -/
def statEnd (s : State) (u : Nat) : Nat := (statOf s u).start + ob s (statBase u) 6 * 1000000

theorem exec_statTimeout_of_early (h : (statOf s u).on = false ∨ now s < statEnd s u) :
    exec (.statTimeout u) s = .next s := by
  refine congrArg Host.Outcome.next (if_neg ?_)
  rintro ⟨-, hon, hend⟩
  rcases h with hoff | hearly
  · simp [hoff] at hon
  · exact Nat.not_le.mpr hearly hend

/-- A period at its end is ended by a boundary that came by then, else with TIMEOUT (R261). -/
theorem exec_statTimeout_of_late (hrun : statRuns s u = true) (hon : (statOf s u).on = true)
    (hend : statEnd s u ≤ now s) :
    exec (.statTimeout u) s = .next ((statOf s u).due.elim (statLatch s u (statEnd s u) true) fun t =>
      if t ≤ nsTime (statEnd s u) then statDue s u else statLatch s u (statEnd s u) true) := by
  refine congrArg Host.Outcome.next ((if_pos ⟨hrun, hon, hend⟩).trans ?_)
  cases (statOf s u).due <;> rfl

end statistics

/-- Settles O37: the ways through each row of a demodulator, a modulator clock and a statistic unit. -/
theorem demodulatorsAndStatistics : Obligations.DemodulatorsAndStatistics := by
  intro s dm k miss extra u rise fall
  refine ⟨exec_sdOutput_of_off, fun hstop => exec_sdStuck_of_not_stands fun h => ?_,
    fun hon hno => ⟨fun htrig hnone => ?_, fun p htrig hsome => ?_, fun htrig hdue => ?_, fun htrig hearly => ?_⟩,
    fun hrun hclk => ⟨exec_sdOutput_of_early hrun hclk, fun hdue => ⟨fun hnone => ?_, fun p htrig hsome => ?_⟩⟩,
    ⟨exec_sdStuck_of_stands, exec_sdStuck_of_not_stands⟩,
    ⟨exec_sdcFault_of_right, fun hwrong hfew => ?_, fun hwrong hmany => ?_⟩,
    ⟨exec_sdcClockReturn_of_good, fun hrun hfail hstill => ?_, fun hrun hfail hstill => ?_⟩,
    exec_stat_of_stopped,
    fun hrun => ⟨fun hnone => ?_, fun t hsome hearly => ?_, fun t hsome hdue hon => ?_, fun t hsome hdue hoff => ?_,
      fun hon hend hnone => ?_, fun t hon hend hsome hby => ?_, exec_statTimeout_of_early⟩⟩
  · obtain ⟨hrun, -⟩ := h
    exact absurd hrun (Bool.eq_false_iff.mp hstop)
  · rw [exec_sdOutput_of_noBits hon hno, sdMissed, if_pos htrig, hnone]
    rfl
  · rw [exec_sdOutput_of_noBits hon hno, sdMissed, if_pos htrig, hsome]
    rfl
  · rw [exec_sdOutput_of_noBits hon hno, sdMissed, if_neg htrig, if_pos hdue]
  · rw [exec_sdOutput_of_noBits hon hno, sdMissed, if_neg htrig, if_neg (Nat.not_le.mpr hearly)]
  · rw [exec_sdOutput_of_clocked hrun hclk hdue]
    rcases hnone with hmode | hnone
    · rw [if_neg hmode]; rfl
    · have hkept : (takeTrig (sdTaken s dm (List.zipWith SdBit.mk rise fall)) 2 dm) = none := hnone
      rw [hkept]
      exact congrArg Host.Outcome.next (ite_self _)
  · have htaken : (takeTrig (sdTaken s dm (List.zipWith SdBit.mk rise fall)) 2 dm) = some p := hsome
    rw [exec_sdOutput_of_clocked hrun hclk hdue, if_pos htrig, htaken]
    rfl
  · exact (exec_sdcFault_of_wrong hwrong).trans (congrArg Host.Outcome.next (if_pos hfew))
  · exact (exec_sdcFault_of_wrong hwrong).trans (congrArg Host.Outcome.next (if_neg (Nat.not_lt.mpr hmany)))
  · exact (exec_sdcClockReturn_of_failed hrun hfail).trans (congrArg Host.Outcome.next (if_pos hstill))
  · exact (exec_sdcClockReturn_of_failed hrun hfail).trans
      (congrArg Host.Outcome.next (if_neg (Bool.eq_false_iff.mp hstill)))
  · rw [exec_statBoundary_of_runs hrun, statDue_of_none hnone]
  · rw [exec_statBoundary_of_runs hrun, statDue_of_some hsome, if_pos hearly]
  · rw [exec_statBoundary_of_runs hrun, statDue_of_some hsome, if_neg (Nat.not_lt.mpr hdue), if_pos hon]
  · rw [exec_statBoundary_of_runs hrun, statDue_of_some hsome, if_neg (Nat.not_lt.mpr hdue),
      if_neg (Bool.eq_false_iff.mp hoff)]
  · rw [exec_statTimeout_of_late hrun hon hend]
    rcases hnone with hnone | ⟨t, hsome, hafter⟩
    · rw [hnone]; rfl
    · rw [hsome]
      exact congrArg Host.Outcome.next (if_neg (Nat.not_le.mpr hafter))
  · rw [exec_statTimeout_of_late hrun hon hend, hsome, exec_statBoundary_of_runs hrun]
    exact congrArg Host.Outcome.next (if_pos hby)

end Sys2Proof.Machine
end

section
/-! PROOFS. Window comparators (08_comparators). A change of a comparator, of a raw output and of a blanking is followed
through the window's logic, operation by operation; a command of a window that does not run, or that comes out of its turn,
is stopped at its row's guard. -/

namespace Sys2Proof.Machine

/-! ### The window's logic -/

section logic

variable {s : State} {w t u : Nat} {isH raw cmp blank bl : Bool}

theorem winSide_of_same (h : cmp = if isH then (winOf s w).cmpH else (winOf s w).cmpL) : winSide s w isH cmp t = s :=
  if_pos h

/-- A comparator that changes brings the window's logic to its time, then starts or ends its wait (R268). -/
theorem winSide_of_change (h : cmp ≠ if isH then (winOf s w).cmpH else (winOf s w).cmpL) :
    let v := winAdvance s w t
    let x := winOf v w
    let wait := if cmp = (if isH then x.rawH else x.rawL) then none else some (t, winBlank v w t)
    winSide s w isH cmp t
      = winFilter (setWin v w (if isH then { x with cmpH := cmp, waitH := wait } else { x with cmpL := cmp, waitL := wait }))
          w isH t :=
  if_neg h

/-- A change that waits reaches the window's logic once it has held for Win.Filter ticks (R268). -/
theorem winFilter_of_waiting (h : (if isH then (winOf s w).waitH else (winOf s w).waitL) = some (u, bl)) :
    winFilter s w isH t =
      if u + 32 * ob s (winBase w) 7 ≤ t then
        winRaw (setWin s w (if isH then { winOf s w with waitH := none } else { winOf s w with waitL := none })) w isH
          (if isH then (winOf s w).cmpH else (winOf s w).cmpL) bl u
      else s := by
  simp only [winFilter, h]

/-- A window with a raw output put in place. -/
def setRaw (s : State) (w : Nat) (isH raw : Bool) : State :=
  setWin s w (if isH then { winOf s w with rawH := raw } else { winOf s w with rawL := raw })

theorem winRaw_of_same (h : raw = if isH then (winOf s w).rawH else (winOf s w).rawL) : winRaw s w isH raw blank t = s :=
  if_pos h

/-- A raw output that asserts under an output that stands already is only noted. -/
theorem winRaw_of_rise_standing (h : true ≠ if isH then (winOf s w).rawH else (winOf s w).rawL)
    (hout : (if isH then (winOf s w).outH else (winOf s w).outL) = true) :
    winRaw s w isH true blank t = setRaw s w isH true :=
  (if_neg h).trans ((if_pos rfl).trans (if_pos hout))

/-- A raw output that asserts asserts its output, for L unless blanking was open at its first sample (R268, R270). -/
theorem winRaw_of_rise_unblanked (h : true ≠ if isH then (winOf s w).rawH else (winOf s w).rawL)
    (hout : (if isH then (winOf s w).outH else (winOf s w).outL) = false) (hopen : isH = true ∨ blank = false) :
    winRaw s w isH true blank t = winAssert (setRaw s w isH true) w isH t :=
  (if_neg h).trans ((if_pos rfl).trans ((if_neg (Bool.eq_false_iff.mp hout)).trans
    (if_pos (hopen.imp_right (by simp [·])))))

/-- A raw output that deasserts releases its output under FOLLOW alone (R272). -/
theorem winRaw_of_fall (h : false ≠ if isH then (winOf s w).rawH else (winOf s w).rawL) :
    winRaw s w isH false blank t =
      if (if isH then (winOf s w).outH else (winOf s w).outL) = true ∧ ob s (winBase w) 0xB = 0 then
        winRelease (setRaw s w isH false) w isH t
      else setRaw s w isH false :=
  (if_neg h).trans (if_neg Bool.false_ne_true)

theorem winClearOut_of_fresh (h : (if isH then (winOf s w).asH else (winOf s w).asL) = s.tick + 1) :
    winClearOut s w isH t = s :=
  if_pos (Or.inr h)

/-- A clear of an output that stands since an earlier tick (R272). -/
theorem winClearOut_of_standing (hout : (if isH then (winOf s w).outH else (winOf s w).outL) = true)
    (hold : (if isH then (winOf s w).asH else (winOf s w).asL) ≠ s.tick + 1) :
    winClearOut s w isH t =
      if (if isH then (winOf s w).rawH else (winOf s w).rawL) = true then
        winAssert (setWin s w (if isH then { winOf s w with outH := false } else { winOf s w with outL := false })) w isH t
      else winRelease s w isH t :=
  if_neg (by simp [hout, hold])

end logic

/-! ### WINDOW_CROSSING, BLANK_MAX_TIMEOUT and BLANK_TIME_END -/

section events

variable {s : State} {w phase t u : Nat} {uv : Int}

/-- WINDOW_CROSSING brings a window a sample: it runs and has an analogue source (R266). -/
def winReads (s : State) (w : Nat) : Prop :=
  winRuns s w = true ∧ ob s (winBase w) 2 ≠ 0xFF ∧ winDemod (ob s (winBase w) 2) = false

theorem winReads_iff :
    winReads s w ↔ winRuns s w = true ∧ ob s (winBase w) 2 ≠ 0xFF ∧ (!winDemod (ob s (winBase w) 2)) = true := by
  simp [winReads]

theorem exec_windowCrossing_of_reads (h : winReads s w) :
    exec (.windowCrossing w uv phase) s = .next (winSample s w uv (outNow s - 32 + phase)) :=
  congrArg Host.Outcome.next (if_pos (winReads_iff.mp h))

theorem exec_windowCrossing_of_not_reads (h : ¬ winReads s w) : exec (.windowCrossing w uv phase) s = .next s :=
  congrArg Host.Outcome.next (if_neg (h ∘ winReads_iff.mpr))

theorem exec_blank_of_stopped (h : winRuns s w = false) :
    exec (.blankMaxTimeout w) s = .next s ∧ exec (.blankTimeEnd w) s = .next s :=
  ⟨congrArg Host.Outcome.next (if_neg (by simp [h])), congrArg Host.Outcome.next (if_neg (by simp [h]))⟩

theorem exec_blankMaxTimeout_of_runs (h : winRuns s w = true) :
    exec (.blankMaxTimeout w) s = .next (winMaxEnd s w (outNow s)) :=
  congrArg Host.Outcome.next (if_pos h)

theorem exec_blankTimeEnd_of_runs (h : winRuns s w = true) :
    exec (.blankTimeEnd w) s = .next (winLaneEnd s w (outNow s)) :=
  congrArg Host.Outcome.next (if_pos h)

theorem winMaxEnd_of_none (h : (winOf s w).markOpen = none) : winMaxEnd s w t = s := by
  simp only [winMaxEnd, h]

/-- A blanking by marks closes once it has lasted Win.BlankMax, and is counted (R269). -/
theorem winMaxEnd_of_some (h : (winOf s w).markOpen = some u) :
    let c := u + nsPhases (ob s (winBase w) 0xA)
    winMaxEnd s w t =
      if c ≤ t then
        winUnblank (incOb (setWin s w { winOf s w with markOpen := none, closedAt := max (winOf s w).closedAt c })
          (winBase w) 0x19) w c
      else s := by
  simp only [winMaxEnd, h]

theorem winLaneEnd_of_none (h : (winOf s w).laneOpen = none) : winLaneEnd s w t = s := by
  simp only [winLaneEnd, h]

/-- A blanking by the lane closes once it has lasted Win.BlankTime (R269). -/
theorem winLaneEnd_of_some (h : (winOf s w).laneOpen = some u) :
    let c := u + ob s (winBase w) 9
    winLaneEnd s w t =
      if c ≤ t then
        winUnblank (setWin s w { winOf s w with laneOpen := none, closedAt := max (winOf s w).closedAt c }) w c
      else s := by
  simp only [winLaneEnd, h]

theorem exec_blankMaxTimeout_of_none (h : (winOf s w).markOpen = none) : exec (.blankMaxTimeout w) s = .next s := by
  cases hrun : winRuns s w
  · exact (exec_blank_of_stopped hrun).1
  · rw [exec_blankMaxTimeout_of_runs hrun, winMaxEnd_of_none h]

theorem exec_blankMaxTimeout_of_early (h : (winOf s w).markOpen = some u)
    (hno : ¬ (winRuns s w = true ∧ u + nsPhases (ob s (winBase w) 0xA) ≤ outNow s)) :
    exec (.blankMaxTimeout w) s = .next s := by
  cases hrun : winRuns s w
  · exact (exec_blank_of_stopped hrun).1
  · rw [exec_blankMaxTimeout_of_runs hrun, winMaxEnd_of_some h, if_neg fun hlate => hno ⟨hrun, hlate⟩]

theorem exec_blankTimeEnd_of_none (h : (winOf s w).laneOpen = none) : exec (.blankTimeEnd w) s = .next s := by
  cases hrun : winRuns s w
  · exact (exec_blank_of_stopped hrun).2
  · rw [exec_blankTimeEnd_of_runs hrun, winLaneEnd_of_none h]

theorem exec_blankTimeEnd_of_early (h : (winOf s w).laneOpen = some u) (hearly : outNow s < u + ob s (winBase w) 9) :
    exec (.blankTimeEnd w) s = .next s := by
  cases hrun : winRuns s w
  · exact (exec_blank_of_stopped hrun).2
  · rw [exec_blankTimeEnd_of_runs hrun, winLaneEnd_of_some h, if_neg (Nat.not_le.mpr hearly)]

end events

/-! ### WIN_CLEAR and WIN_PERIOD_CLEAR -/

section clears

variable {s s1 : State} {r : Req} {w d : Nat} {q : QReq} {row : Row}

/-- A served write to Win.Clear is answered after its effect. -/
theorem exec_winClear_of_served (h : served s r (winBase w) 0x15 = some (s1, q))
    (hrow : rowOf (winBase w) 0x15 = some row) :
    exec (.winClear r w) s = .next (reply (doWinClear w s1 q).1 q row.ty []) :=
  congrArg Host.Outcome.next (serveWrite_eq_conclude (doWinClear w) h (by rw [hrow]; rfl))

theorem doWinClear_of_host (h : ob s (winBase w) 0xB = 1) :
    let u := if bit (leNat q.data) 0 then winClearOut s w false (outNow s) else s
    (doWinClear w s q).1 = if bit (leNat q.data) 1 then winClearOut u w true (outNow s) else u := by
  simp only [doWinClear, if_pos h]

theorem doWinClear_of_not_host (h : ob s (winBase w) 0xB ≠ 1) : (doWinClear w s q).1 = s := by
  simp [doWinClear, if_neg h, bit]

/-- The PERIOD clear of a running window is armed (R168, R272). -/
def periodArmed (s : State) (w : Nat) : Prop :=
  winRuns s w = true ∧ ob s (winBase w) 0xB = 2 ∧ (winOf s w).armed = true

/-- The phase at which a window's clear source passes its position at a distance (R160, R169). -/
def clearPhase (s : State) (w d : Nat) : Nat :=
  outNow s - 32 + passPhase (moveAt s (ob s (winBase w) 0xC) (outNow s - 1)).2 d

/-- The passage of a window's clear source through Win.ClearPosition in the output stage's latest tick (R272). -/
def clearPass (s : State) (w : Nat) : Option Nat := outPass s (ob s (winBase w) 0xC) (ob s (winBase w) 0xD * 2 ^ 32)

theorem execWinPeriodClear_of_none (h : clearPass s w = none) : execWinPeriodClear w s = .next s := by
  rw [clearPass] at h
  simp only [execWinPeriodClear, h]

theorem execWinPeriodClear_of_pass (h : clearPass s w = some d) :
    let v := winAdvance s w (clearPhase s w d)
    execWinPeriodClear w s = .next (
      if winRuns s w = true ∧ ob s (winBase w) 0xB = 2 ∧ (winOf s w).armed = true then
        winClearOut (winClearOut (setWin v w { winOf v w with armed := false }) w false (clearPhase s w d)) w true
          (clearPhase s w d)
      else s) := by
  rw [clearPass] at h
  simp only [execWinPeriodClear, h, clearPhase]

theorem exec_winPeriodClear_of_idle (h : clearPass s w = none ∨ ¬ periodArmed s w) :
    exec (.winPeriodClear w) s = .next s := by
  cases hpass : clearPass s w with
  | none => exact execWinPeriodClear_of_none hpass
  | some d =>
    have hoff : ¬ periodArmed s w := h.resolve_left (by simp [hpass])
    exact (execWinPeriodClear_of_pass hpass).trans (congrArg Host.Outcome.next (if_neg hoff))

/-- The passage of an armed clear source clears both outputs at its phase (R272). -/
theorem exec_winPeriodClear_of_pass (h : clearPass s w = some d) (harm : periodArmed s w) :
    let v := winAdvance s w (clearPhase s w d)
    exec (.winPeriodClear w) s
      = .next (winClearOut (winClearOut (setWin v w { winOf v w with armed := false }) w false (clearPhase s w d)) w true
          (clearPhase s w d)) :=
  (execWinPeriodClear_of_pass h).trans (congrArg Host.Outcome.next (if_pos harm))

end clears

/-- Settles O38: a sample through both comparators, a change through its wait and its raw output to the output, a blanking at
its end, and each way of clearing an output that is latched. -/
theorem windowsAssertAndClear : Obligations.WindowsAssertAndClear := by
  intro s s1 w phase t uv isH raw cmp blank r q
  refine ⟨exec_windowCrossing_of_reads, exec_windowCrossing_of_not_reads, winSide_of_same, winSide_of_change,
    fun u bl hwait => ⟨fun hheld => ?_, fun hearly => ?_⟩,
    ⟨winRaw_of_same, fun hne => ⟨fun htrue hout => ?_, fun htrue hout hopen => ?_, fun hfalse => ?_⟩⟩,
    exec_blankMaxTimeout_of_none, fun u hopen => ⟨fun ⟨hrun, hend⟩ => ?_, exec_blankMaxTimeout_of_early hopen⟩,
    fun u hopen hrun hend => ?_, fun hidle => ?_, fun row h hrow => ⟨fun hhost => ?_, fun hother => ?_⟩,
    ⟨exec_winPeriodClear_of_idle, fun d => exec_winPeriodClear_of_pass⟩, winClearOut_of_fresh,
    fun hout hold hraw => ?_, fun hout hold hraw => ?_, fun rawNow hnow hraw hout hold => ?_⟩
  · exact (winFilter_of_waiting hwait).trans (if_pos hheld)
  · exact (winFilter_of_waiting hwait).trans (if_neg (Nat.not_le.mpr hearly))
  · subst htrue
    exact winRaw_of_rise_standing hne hout
  · subst htrue
    exact winRaw_of_rise_unblanked hne hout hopen
  · subst hfalse
    exact winRaw_of_fall hne
  · rw [exec_blankMaxTimeout_of_runs hrun, winMaxEnd_of_some hopen, if_pos hend]
  · rw [exec_blankTimeEnd_of_runs hrun, winLaneEnd_of_some hopen, if_pos hend]
  · rcases hidle with hstop | hnone | ⟨u, hopen, hearly⟩
    · exact (exec_blank_of_stopped hstop).2
    · exact exec_blankTimeEnd_of_none hnone
    · exact exec_blankTimeEnd_of_early hopen hearly
  · rw [exec_winClear_of_served h hrow, doWinClear_of_host hhost]
  · rw [exec_winClear_of_served h hrow, doWinClear_of_not_host hother]
  · exact (winClearOut_of_standing (isH := true) hout hold).trans (if_pos hraw)
  · exact (winClearOut_of_standing (isH := false) hout hold).trans (if_pos hraw)
  · subst hnow
    exact (winClearOut_of_standing hout hold).trans (if_neg (Bool.eq_false_iff.mp hraw))

/-! ### WINDOW_CHECK, WINDOW_CHECK_READBACK and WINDOW_CHECK_END -/

section checks

variable {s : State} {w codeL codeH : Nat} {agree : Bool}

theorem exec_windowCheck_of_out_of_turn (h : winRuns s w = false ∨ (winOf s w).chk ≠ 0) :
    exec (.windowCheck w agree) s = .next s :=
  congrArg Host.Outcome.next (if_pos (h.imp_left (by simp [·])))

/-- A check in its turn fails on disagreement, and else takes the relief comparator of its kind once that is free (R279,
R280). -/
theorem exec_windowCheck_of_turn (hrun : winRuns s w = true) (hchk : (winOf s w).chk = 0) :
    exec (.windowCheck w agree) s = .next (
      if agree = false then winCheckFail s w
      else if reliefTaken s w = true then s
      else setWin s w { winOf s w with relief := true, chk := if winDemod (ob s (winBase w) 2) then 2 else 1 }) := by
  refine congrArg Host.Outcome.next ((if_neg (by simp [hrun, hchk])).trans ?_)
  cases agree with
  | false => simp
  | true => simp

/-- The DACs of a window under check are read: the check has come to step 5 and a converter is in a gap (R279). -/
def readbackTurn (s : State) (w : Nat) : Prop :=
  winRuns s w = true ∧ (winOf s w).chk = 1 ∧ (List.range 16).any (gapFree s) = true

theorem exec_windowCheckReadback_of_turn (h : readbackTurn s w) :
    exec (.windowCheckReadback w codeL codeH) s = .next (
      if readbackOk s w (ob s (winBase w) 3) codeL && readbackOk s w (ob s (winBase w) 4) codeH then
        setWin s w { winOf s w with chk := 2 }
      else winCheckFail s w) :=
  congrArg Host.Outcome.next (if_pos h)

theorem exec_windowCheckReadback_of_out_of_turn (h : ¬ readbackTurn s w) :
    exec (.windowCheckReadback w codeL codeH) s = .next s :=
  congrArg Host.Outcome.next (if_neg h)

theorem exec_windowCheckEnd_of_turn (hrun : winRuns s w = true) (hchk : (winOf s w).chk = 2) :
    exec (.windowCheckEnd w agree) s = .next (
      if agree = true then
        reliefFreed (clearDet (setWin s w { winOf s w with chk := 0, relief := false, chkFail := false })
          (winBase w * 16 + 3)) w
      else winCheckFail s w) :=
  congrArg Host.Outcome.next (if_pos ⟨hrun, hchk⟩)

theorem exec_windowCheckEnd_of_out_of_turn (h : winRuns s w = false ∨ (winOf s w).chk ≠ 2) :
    exec (.windowCheckEnd w agree) s = .next s := by
  refine congrArg Host.Outcome.next (if_neg ?_)
  rintro ⟨hrun, hchk⟩
  rcases h with hstop | hother
  · simp [hstop] at hrun
  · exact hother hchk

end checks

/-- Settles O39: the three commands of a check in and out of their turn, then the samples, blankings and clears of O38 on a
running window. -/
theorem windowChecksMoveToRelief : Obligations.WindowChecksMoveToRelief := by
  intro s w codeL codeH agree
  refine ⟨fun hrun hchk => ⟨fun hbad => ?_, fun hgood htaken => ?_, fun hgood hfree => ?_⟩,
    exec_windowCheck_of_out_of_turn,
    fun hrun hchk hgap => exec_windowCheckReadback_of_turn ⟨hrun, hchk, hgap⟩,
    fun hno => exec_windowCheckReadback_of_out_of_turn ?_,
    fun hrun hchk => ⟨fun hgood => ?_, fun hbad => ?_⟩, exec_windowCheckEnd_of_out_of_turn,
    fun s1 phase uv r q row d => ⟨fun hrun hsrc hana => exec_windowCrossing_of_reads ⟨hrun, hsrc, hana⟩,
      exec_blankMaxTimeout_of_runs, winMaxEnd_of_none, exec_blankTimeEnd_of_runs, winLaneEnd_of_none,
      fun h hrow hhost hboth => ?_,
      fun hrun hlatch harm hpass => exec_winPeriodClear_of_pass hpass ⟨hrun, hlatch, harm⟩⟩⟩
  · exact (exec_windowCheck_of_turn hrun hchk).trans (congrArg Host.Outcome.next (if_pos hbad))
  · rw [exec_windowCheck_of_turn hrun hchk, if_neg (by simp [hgood]), if_pos htaken]
  · rw [exec_windowCheck_of_turn hrun hchk, if_neg (by simp [hgood]), if_neg (by simp [hfree])]
  · rintro ⟨hrun, hchk, hgap⟩
    rcases hno with hstop | hother | hbusy
    · simp [hstop] at hrun
    · exact hother hchk
    · exact Bool.noConfusion (hgap.symm.trans hbusy)
  · exact (exec_windowCheckEnd_of_turn hrun hchk).trans (congrArg Host.Outcome.next (if_pos hgood))
  · exact (exec_windowCheckEnd_of_turn hrun hchk).trans (congrArg Host.Outcome.next (if_neg (by simp [hbad])))
  · rw [exec_winClear_of_served h hrow, doWinClear_of_host hhost, hboth]
    rfl

end Sys2Proof.Machine
end

section
/-! PROOFS. The Truss (09_truss). LOOP_TRIGGER is followed from the event it takes to the choice between a drop and an
evaluation; each command of the bench is a served write whose effect is decided by the value its row stands for. -/

namespace Sys2Proof.Machine

/-! ### LOOP_TRIGGER -/

section loops

variable {s : State} {l trig : Nat} {e : TrigEv}

/-- The first trigger event under way to a loop (R306). -/
def firstTrig (s : State) (l : Nat) : Option TrigEv := s.trigs.find? (fun e => decide (e.kind = 1) && decide (e.num = l))

/-- An event of a loop is not taken yet: its instant has not come, or an event of an active loop starts before it (R306, R308). -/
def trigEarly (s : State) (l : Nat) (e : TrigEv) : Prop :=
  s.dt < evTime e + nsTime (ob s (loopBase l) 2 + 10) ∨ (loopActive s l = true ∧ loopFirst s e = false)

/-- The state once a trigger event has been taken. -/
def trigTaken (s : State) (e : TrigEv) : State := { s with trigs := s.trigs.erase e }

/-- What a drive does first on an event of its current loop: its reference unit and bands (R332). -/
def driveFirst (s : State) (l trig : Nat) : State := match loopDrv s l with | none => s | some x => drvBefore s x trig

theorem exec_loopTrigger_of_none (h : firstTrig s l = none) : exec (.loopTrigger l) s = .next s := by
  rw [firstTrig] at h
  change execLoopTrigger l s = _
  simp only [execLoopTrigger, h]

theorem exec_loopTrigger_of_early (h : firstTrig s l = some e) (hearly : trigEarly s l e) :
    exec (.loopTrigger l) s = .next s := by
  rw [firstTrig] at h
  change execLoopTrigger l s = _
  simp only [execLoopTrigger, h]
  exact congrArg Host.Outcome.next (if_pos (by simpa [trigEarly] using hearly))

theorem exec_loopTrigger_of_idle (h : firstTrig s l = some e) (hturn : ¬ trigEarly s l e)
    (hidle : loopActive (trigTaken s e) l = false) : exec (.loopTrigger l) s = .next (trigTaken s e) := by
  rw [firstTrig] at h
  rw [trigTaken] at hidle
  change execLoopTrigger l s = _
  simp only [execLoopTrigger, h, hidle]
  exact congrArg Host.Outcome.next ((if_neg (by simpa [trigEarly] using hturn)).trans (if_pos rfl))

/-- An event of an active loop in its turn acts on the state it is taken from (R306). -/
theorem exec_loopTrigger_of_active (h : firstTrig s l = some e) (hturn : ¬ trigEarly s l e)
    (hact : loopActive (trigTaken s e) l = true) :
    exec (.loopTrigger l) s = .next (loopEvent (driveFirst (trigTaken s e) l (evTime e)) l (evTime e)) := by
  rw [firstTrig] at h
  rw [trigTaken] at hact
  change execLoopTrigger l s = _
  simp only [execLoopTrigger, h, hact]
  exact congrArg Host.Outcome.next ((if_neg (by simpa [trigEarly] using hturn)).trans (if_neg Bool.false_ne_true))

/-- An event before the end of the running evaluation drops the loop with its due nested loops, and is counted (R310). -/
theorem loopEvent_of_busy (h : trig < (loopAt (dueLoops 3 s l).1 l).busyUntil) :
    loopEvent s l trig
      = incOb (((dueLoops 3 s l).2 ++ [l]).foldl loopDrop (dueLoops 3 s l).1) (loopBase l + 2) 4 := if_pos h

/-- The loop and its due nested loops with their runs of drops and causes of TRS ended (R310). -/
def runsEnded (s : State) (l : Nat) : State := ((dueLoops 3 s l).2 ++ [l]).foldl loopTaken (dueLoops 3 s l).1

/-- An event on a loop that is free starts the evaluation on the MAC lanes, and the due nested loops and the loop are evaluated
(R307, R308, R311). -/
theorem loopEvent_of_free (h : (loopAt (dueLoops 3 s l).1 l).busyUntil ≤ trig) :
    loopEvent s l trig
      = ((dueLoops 3 s l).2 ++ [l]).foldl (loopEval trig)
          (macStart (setLoop (runsEnded s l) l { loopAt (runsEnded s l) l with trigAt := trig }) {
            loop := l, trig := trig, start := trig + nsTime (ob s (loopBase l) 2 + 10),
            items := evalItems s l (dueLoops 3 s l).2 }) := if_neg (Nat.not_lt.mpr h)

end loops

/-- Settles O40: the event is missing, early, of an idle loop, dropped, or evaluated. -/
theorem loopsEvaluateOnTheirTrigger : Obligations.LoopsEvaluateOnTheirTrigger := by
  intro s l
  refine ⟨exec_loopTrigger_of_none, fun e h => ⟨exec_loopTrigger_of_early h, exec_loopTrigger_of_idle h,
    fun hturn hact hbusy => ?_, fun hturn hact hfree => ?_⟩⟩
  · exact (exec_loopTrigger_of_active h hturn hact).trans (congrArg Host.Outcome.next (loopEvent_of_busy hbusy))
  · exact (exec_loopTrigger_of_active h hturn hact).trans (congrArg Host.Outcome.next (loopEvent_of_free hfree))

/-! ### The writes of a brace -/

section served

variable {s s1 t : State} {r : Req} {q : QReq} {idx sub : Nat} {eff : State → QReq → State × Nat}

/-- A served request whose effect succeeds is answered after it (R105). -/
theorem serveWrite_of_done {ty : Nat} (h : served s r idx sub = some (s1, q))
    (hty : (rowOf idx sub).map Row.ty = some ty) (heff : eff s1 q = (t, 0)) :
    serveWrite s r idx sub eff = reply t q ty [] := by
  rw [serveWrite_eq_conclude eff h hty, heff, conclude_zero]

/-- A served request whose effect refuses is answered with that code (R105). -/
theorem serveWrite_of_code {c : Nat} (h : served s r idx sub = some (s1, q)) (heff : eff s1 q = (t, c)) (hc : c ≠ 0)
    (hd : c ≠ deferred) : serveWrite s r idx sub eff = refuse t q c := by
  rw [serveWrite_of_served eff h, heff, conclude_code _ _ _ hc hd]

end served

section braces

variable {s s1 : State} {r : Req} {q : QReq} {w : Row} {i bank k : Nat}

/-- A coefficient goes to the pending values of a shored brace; in effect it is checked with the others of its brace (R286). -/
theorem doCoef_eq :
    doCoef i bank k s q =
      let a := oaddr (braceBase i + 1 + bank) (k + 1)
      (if addrShored s a then { s with pend := tabPut s.pend a (cellOf (leNat q.data)) }
       else coefCheck (setCell s a (cellOf (leNat q.data))) i, 0) := by
  cases hshored : addrShored s (oaddr (braceBase i + 1 + bank) (k + 1)) <;> simp [doCoef, putValue, hshored]

theorem exec_braceCoefWrite_of_served (h : served s r (braceBase i + 1 + bank) (k + 1) = some (s1, q))
    (hrow : rowOf (braceBase i + 1 + bank) (k + 1) = some w) :
    let a := oaddr (braceBase i + 1 + bank) (k + 1)
    exec (.braceCoefWrite r i bank k) s = .next (reply (
      if addrShored s1 a then { s1 with pend := tabPut s1.pend a (cellOf (leNat q.data)) }
      else coefCheck (setCell s1 a (cellOf (leNat q.data))) i) q w.ty []) :=
  congrArg Host.Outcome.next (serveWrite_of_done h (by rw [hrow]; rfl) doCoef_eq)

/-- A write to Brace.Select names bank 1 of a brace without Brace.Shadow (R299). -/
def noShadowBank (s : State) (i : Nat) (q : QReq) : Prop :=
  leNat q.data = 1 ∧ vw (viewOf s [braceBase i]) (braceBase i) 9 = 0

/-- A write to Brace.Select presets nothing: the brace is shored, the bank is no other, or SelectPreset is 0 (R303). -/
def selectPlain (s : State) (i : Nat) (q : QReq) : Prop :=
  isShored s (braceBase i) = true ∨ leNat q.data = ob s (braceBase i + 3) 1 ∨ ob s (braceBase i + 3) 2 = 0

theorem doSelect_of_noShadowBank (h : noShadowBank s i q) : doSelect i s q = (s, 0x02000006) := if_pos h

theorem doSelect_of_plain (h : ¬ noShadowBank s i q) (hplain : selectPlain s i q) :
    doSelect i s q = (putValue s (oaddr (braceBase i + 3) 1) (leNat q.data), 0) :=
  (if_neg h).trans (if_pos hplain)

/-- A change of bank in effect with SelectPreset presets the history with the latest output (R303). -/
theorem doSelect_of_preset (h : ¬ noShadowBank s i q) (hpreset : ¬ selectPlain s i q) :
    doSelect i s q = (presetBrace (putValue s (oaddr (braceBase i + 3) 1) (leNat q.data)) i
      (f32Of (ofMant (braceEd s i) (brcOf s i).u)), 0) :=
  (if_neg h).trans (if_neg hpreset)

theorem presetBrace_of_lt {n : Nat} (hi : i < 192) :
    presetBrace s i n = setBrc s i { brcOf s i with preset := some n } := if_pos hi

end braces

/-! ### The injection generator -/

section injection

variable {s s1 : State} {r : Req} {q : QReq} {l : Nat}

/-- The claimed loop of the brace that the generator is to excite (R322). -/
def injectLoop (s : State) : Option Nat :=
  if ob s 0x3C20 1 < 192 then memberLoop (viewNow s) s.owned (ob s 0x3C20 1) else none

/-- The generator's sine lies above half the rate of its brace (R322). -/
def sineTooFast (s : State) : Prop :=
  ob s 0x3C20 3 = 3 ∧ (ob s (braceBase (ob s 0x3C20 1) + 3) 11 : Rat) ≤ 2 * obF s 0x3C20 5

theorem exec_injectStart_of_done {t : State} (h : served s (byteReq r 2 1) 0x3C20 9 = some (s1, q))
    (heff : doInject s1 q = (t, 0)) : exec (.injectStart r) s = .next (reply t q 2 []) :=
  congrArg Host.Outcome.next (serveWrite_of_done h rfl heff)

theorem exec_injectStart_of_code {c : Nat} (h : served s (byteReq r 2 1) 0x3C20 9 = some (s1, q))
    (heff : doInject s1 q = (s1, c)) (hc : c ≠ 0) (hd : c ≠ deferred) :
    exec (.injectStart r) s = .next (refuse s1 q c) :=
  congrArg Host.Outcome.next (serveWrite_of_code h heff hc hd)

theorem doInject_without_role (hv : leNat q.data = 1) (hrole : hasRole s q.ses 4 = false) :
    doInject s q = (s, 0x04000002) :=
  (if_pos hv).trans (if_pos (by simp [hrole]))

section allowed

variable (hv : leNat q.data = 1) (hrole : hasRole s q.ses 4 = true)

include hv hrole

theorem doInject_of_running (hrun : s.inj.st = 1) : doInject s q = (s, 0x03000005) :=
  (if_pos hv).trans ((if_neg (by simp [hrole])).trans (if_pos hrun))

/-- A start of the idle generator asks for the loop of its brace. -/
theorem doInject_of_idle (hidle : s.inj.st ≠ 1) :
    doInject s q = match injectLoop s with
      | none => (s, 0x02000006)
      | some l =>
        if ob s 0x3C20 3 = 3 ∧ (ob s (braceBase (ob s 0x3C20 1) + 3) 11 : Rat) ≤ 2 * obF s 0x3C20 5 then (s, 0x02000006)
        else ({ s with inj := { st := 1, brace := ob s 0x3C20 1, fn := fnOfBlock (loopOwner s.owned l) } }, 0) :=
  (if_pos hv).trans ((if_neg (by simp [hrole])).trans ((if_neg hidle).trans rfl))

theorem doInject_without_loop (hidle : s.inj.st ≠ 1) (hloop : injectLoop s = none) :
    doInject s q = (s, 0x02000006) := by
  rw [doInject_of_idle hv hrole hidle, hloop]

theorem doInject_of_sineTooFast (hidle : s.inj.st ≠ 1) (hloop : injectLoop s = some l) (hfast : sineTooFast s) :
    doInject s q = (s, 0x02000006) := by
  rw [doInject_of_idle hv hrole hidle, hloop]
  exact if_pos hfast

theorem doInject_of_start (hidle : s.inj.st ≠ 1) (hloop : injectLoop s = some l) (hslow : ¬ sineTooFast s) :
    doInject s q
      = ({ s with inj := { st := 1, brace := ob s 0x3C20 1, fn := fnOfBlock (loopOwner s.owned l) } }, 0) := by
  rw [doInject_of_idle hv hrole hidle, hloop]
  exact if_neg hslow

end allowed

theorem exec_injectStop_of_served (h : served s (byteReq r 2 2) 0x3C20 9 = some (s1, q)) :
    exec (.injectStop r) s
      = .next (reply (if s1.inj.st = 1 then { s1 with inj := { s1.inj with st := 3 } } else s1) q 2 []) := by
  have hv : leNat q.data = 2 := leNat_of_served_byteReq (by decide) h
  exact congrArg Host.Outcome.next (serveWrite_of_done h rfl (if_neg (by simp [hv])))

end injection

/-! ### The response capture -/

section capture

variable {s s1 t : State} {r : Req} {q : QReq}

/-- A served write to Resp.Command whose effect succeeds is answered with its type. -/
theorem serveWrite_resp_of_done {v : Nat} (h : served s (byteReq r 2 v) 0x3C29 7 = some (s1, q))
    (heff : doResp s1 q = (t, 0)) : serveWrite s (byteReq r 2 v) 0x3C29 7 doResp = reply t q 2 [] :=
  serveWrite_of_done h rfl heff

/-- The capture asks for what R326 rules out: an unclaimed loop, a source that does not pass, or above 100 MB/s. -/
def respBad (s : State) : Prop :=
  loopOwner s.owned (ob s 0x3C29 2) = 0 ∨ (respSrc s).all (respSrcOk s) = false
    ∨ 100000000 < mkRat (ob s (loopBase (ob s 0x3C29 2) + 2) 1) (max 1 (ob s 0x3C29 3)) * (8 + 4 * ob s 0x3C29 1 : Nat)

theorem doResp_arm_without_role (hv : leNat q.data = 1) (hrole : hasRole s q.ses 4 = false) :
    doResp s q = (s, 0x04000002) :=
  (if_pos hv).trans (if_pos (by simp [hrole]))

section allowed

variable (hv : leNat q.data = 1) (hrole : hasRole s q.ses 4 = true)

include hv hrole

theorem doResp_arm_of_bad (hbad : respBad s) : doResp s q = (s, 0x02000006) := by
  refine (if_pos hv).trans ((if_neg (by simp [hrole])).trans ?_)
  rcases hbad with hfree | hsrc | hrate
  · exact if_pos (.inl hfree)
  · exact if_pos (.inr (by simp only [hsrc, Bool.not_false]))
  · exact (congrArg (ite _ _) (if_pos hrate)).trans (ite_self _)

/-- A command that R326 does not rule out arms the capture that is neither armed nor recording. -/
theorem doResp_arm_of_not_bad (hgood : ¬ respBad s) :
    doResp s q
      = if s.resp.st = 1 ∨ s.resp.st = 2 then (s, 0x03000005) else ({ s with resp := { st := 1 } }, 0) := by
  simp only [respBad, not_or, Bool.not_eq_false] at hgood
  obtain ⟨hloop, hsrc, hrate⟩ := hgood
  exact (if_pos hv).trans ((if_neg (by simp [hrole])).trans ((if_neg (by simp [hloop, hsrc])).trans (if_neg hrate)))

end allowed

theorem doResp_of_trigger (hv : leNat q.data = 2) :
    doResp s q = (if s.resp.st = 1 then { s with resp := { s.resp with st := 2 } } else s, 0) :=
  (if_neg (by simp [hv])).trans (if_pos hv)

theorem doResp_of_stop (hv : leNat q.data = 3) :
    doResp s q = (if s.resp.st = 1 ∨ s.resp.st = 2 then { s with resp := { s.resp with st := 3 } } else s, 0) :=
  (if_neg (by simp [hv])).trans (if_neg (by simp [hv]))

theorem respFull_iff : respFull s = true ↔
    262144 < s.resp.rows.foldl (fun a x => a + rowBytes x.vals.length) 0 + rowBytes (max 1 (ob s 0x3C29 1)) :=
  decide_eq_true_iff

end capture

/-- Settles O41: the writes of a brace, then the generator's start, stop and end, then the capture's commands and its end. -/
theorem benchAndBraceWrites : Obligations.BenchAndBraceWrites := by
  intro s s1 r i bank k q w
  refine ⟨exec_braceCoefWrite_of_served, fun h hrow => ⟨fun hnone => ?_, fun hbank hplain => ?_, fun hbank hpreset => ?_⟩,
    fun h hrow hi => ?_, fun h => ?_, exec_injectStop_of_served,
    fun hrun hlen => congrArg Host.Outcome.next (if_pos ⟨hrun, hlen⟩), fun hno => congrArg Host.Outcome.next (if_neg ?_),
    fun h => ?_, fun h => ?_, fun h => ?_,
    fun hrec hfull => congrArg Host.Outcome.next (if_pos ⟨hrec, respFull_iff.mpr hfull⟩),
    fun hno => congrArg Host.Outcome.next (if_neg ?_)⟩
  · exact congrArg Host.Outcome.next (serveWrite_of_code h (doSelect_of_noShadowBank hnone) (by decide) (by decide))
  · exact congrArg Host.Outcome.next (serveWrite_of_done h (by rw [hrow]; rfl) (doSelect_of_plain hbank hplain))
  · exact congrArg Host.Outcome.next (serveWrite_of_done h (by rw [hrow]; rfl) (doSelect_of_preset hbank hpreset))
  · rw [← presetBrace_of_lt hi]
    exact congrArg Host.Outcome.next (serveWrite_of_done (eff := doPreset i) h (by rw [hrow]; rfl) rfl)
  · have hv : leNat q.data = 1 := leNat_of_served_byteReq (by decide) h
    refine ⟨fun hrole => ?_, fun hrole hrun => ?_, fun hrole hidle hloop => ?_,
      fun l hrole hidle hloop => ⟨fun hfast => ?_, fun hslow => ?_⟩⟩
    · exact exec_injectStart_of_code h (doInject_without_role hv hrole) (by decide) (by decide)
    · exact exec_injectStart_of_code h (doInject_of_running hv hrole hrun) (by decide) (by decide)
    · exact exec_injectStart_of_code h (doInject_without_loop hv hrole hidle hloop) (by decide) (by decide)
    · exact exec_injectStart_of_code h (doInject_of_sineTooFast hv hrole hidle hloop hfast) (by decide) (by decide)
    · exact exec_injectStart_of_done h (doInject_of_start hv hrole hidle hloop hslow)
  · rintro ⟨hrun, hlen⟩
    exact hno.elim (· hrun) (Nat.not_lt.mpr hlen)
  · have hv : leNat q.data = 1 := leNat_of_served_byteReq (by decide) h
    refine ⟨fun hrole => ?_, fun hrole hbad => ?_, fun hrole hgood hbusy => ?_, fun hrole hgood hidle => ?_⟩
    · exact congrArg Host.Outcome.next
        (serveWrite_of_code h (doResp_arm_without_role hv hrole) (by decide) (by decide))
    · exact congrArg Host.Outcome.next
        (serveWrite_of_code h (doResp_arm_of_bad hv hrole hbad) (by decide) (by decide))
    · exact congrArg Host.Outcome.next (serveWrite_of_code h
        ((doResp_arm_of_not_bad hv hrole hgood).trans (if_pos hbusy)) (by decide) (by decide))
    · exact congrArg Host.Outcome.next (serveWrite_resp_of_done h
        ((doResp_arm_of_not_bad hv hrole hgood).trans (if_neg hidle)))
  · exact congrArg Host.Outcome.next
      (serveWrite_resp_of_done h (doResp_of_trigger (leNat_of_served_byteReq (by decide) h)))
  · exact congrArg Host.Outcome.next
      (serveWrite_resp_of_done h (doResp_of_stop (leNat_of_served_byteReq (by decide) h)))
  · rintro ⟨hrec, hfull⟩
    exact hno.elim (· hrec) (· (respFull_iff.mp hfull))

end Sys2Proof.Machine
end

section
/-! PROOFS. The sequencers of the traction drives (10_traction). A row out of its turn leaves the state as it is; the
derating of both drives is one lemma over the drive, and a write of the direction is a served write. -/

namespace Sys2Proof.Machine

section drives

variable {s s1 : State} {d : Drv} {r : Req} {q : QReq} {f : Fn}

/-- A ramp after a fault ends where T_ref is 0 or Stop.FaultRamp has passed since its start (R355). -/
theorem exec_driveFaultRampEnd_of_ramp {t : Nat} {x : Rat} (h : (drvOf s d).ramp = some (t, x)) :
    exec (.driveFaultRampEnd d) s = .next (
      if running s = true ∧ ((drvOf s d).tref = 0 ∨ t + ob s (drvBase d + 6) 3 * 1000000 ≤ now s) then
        setDrv s d { drvOf s d with ending := 2 }
      else s) := by
  change execDriveFaultRampEnd d s = _
  simp only [execDriveFaultRampEnd, h]

theorem exec_driveFaultRampEnd_of_none (h : (drvOf s d).ramp = none) : exec (.driveFaultRampEnd d) s = .next s := by
  change execDriveFaultRampEnd d s = _
  simp only [execDriveFaultRampEnd, h]

/-! ### The direction -/

/-- The sign of the speed that a value of Direction.Select asks for, after Direction.Sense; 0 for a value that names no
direction (R359). -/
def selectedSense (s : State) (d : Drv) (v : Nat) : Rat :=
  let k : Rat := if v = 1 then 1 else if v = 2 then -1 else 0
  if ob s (drvBase d + 5) 2 = 1 then -k else k

/-- A direction is written against a rotor that turns faster than Direction.Threshold (R359). -/
def againstRotor (s : State) (d : Drv) (v : Nat) : Prop :=
  (ob s (drvBase d + 5) 3 : Rat) < rabs (drvRpm s d) ∧ selectedSense s d v * drvRpm s d < 0

theorem doDirection_of_against (h : againstRotor s d (leNat q.data)) : doDirection d s q = (s, 0x03000005) := if_pos h

theorem doDirection_of_not_against (h : ¬ againstRotor s d (leNat q.data)) :
    doDirection d s q = (putValue s (oaddr (drvBase d + 5) 1) (leNat q.data), 0) := if_neg h

theorem rowOf_directionSelect_ty : (rowOf (drvBase d + 5) 1).map Row.ty = some 2 := by
  cases d
  case a => rfl
  case b => rfl

theorem exec_directionSelect_of_against (h : served s r (drvBase d + 5) 1 = some (s1, q))
    (hag : againstRotor s1 d (leNat q.data)) : exec (.directionSelect r d) s = .next (refuse s1 q 0x03000005) :=
  congrArg Host.Outcome.next (serveWrite_of_code h (doDirection_of_against hag) (by decide) (by decide))

theorem exec_directionSelect_of_not_against (h : served s r (drvBase d + 5) 1 = some (s1, q))
    (hwith : ¬ againstRotor s1 d (leNat q.data)) :
    exec (.directionSelect r d) s
      = .next (reply (putValue s1 (oaddr (drvBase d + 5) 1) (leNat q.data)) q 2 []) :=
  congrArg Host.Outcome.next
    (serveWrite_of_done h rowOf_directionSelect_ty (doDirection_of_not_against hwith))

/-! ### The derating -/

/-- The derating block of a drive (R361). -/
def derateBlock (d : Drv) : Nat := if d = .a then 0x4400 else 0x4C00

/-- At least 1 ms has passed since a derating was last evaluated, in a device that runs (R360). -/
def derateDue (s : State) (t : Nat) : Prop := running s = true ∧ t + 1000000 ≤ now s

/-- The two drives derate alike, each with its own block. -/
theorem exec_derateUpdate_drive :
    exec (.derateUpdate (drvFn d)) s = .next (
      if running s = true then
        if (drvOf s d).derAt + 1000000 ≤ now s then
          drvWatch (if isShored s (derateBlock d) = true then setDrv s d { drvOf s d with derAt := now s }
            else derateEval (setDrv s d { drvOf s d with derAt := now s }) (drvFn d) (derateBlock d)) d
        else s
      else s) := by
  cases d
  case a => rfl
  case b => rfl

theorem exec_derateUpdate_drive_of_due (h : derateDue s (drvOf s d).derAt) :
    exec (.derateUpdate (drvFn d)) s = .next (drvWatch (
      if isShored s (derateBlock d) = true then setDrv s d { drvOf s d with derAt := now s }
      else derateEval (setDrv s d { drvOf s d with derAt := now s }) (drvFn d) (derateBlock d)) d) := by
  obtain ⟨hrun, hgap⟩ := h
  rw [exec_derateUpdate_drive, if_pos hrun, if_pos hgap]

theorem exec_derateUpdate_drive_of_not_due (h : ¬ derateDue s (drvOf s d).derAt) :
    exec (.derateUpdate (drvFn d)) s = .next s := by
  rw [exec_derateUpdate_drive]
  by_cases hrun : running s = true
  · rw [if_pos hrun, if_neg (fun hgap => h ⟨hrun, hgap⟩)]
  · rw [if_neg hrun]

theorem exec_derateUpdate_charger :
    exec (.derateUpdate .charger) s = .next (
      if running s = true then
        if s.chg.derAt + 1000000 ≤ now s ∧ (!isShored s 0x5000) = true then
          derateEval (setChg s (fun y => { y with derAt := now s })) .charger 0x5010
        else s
      else s) := rfl

theorem exec_derateUpdate_charger_of_due (h : derateDue s s.chg.derAt) (hopen : isShored s 0x5000 = false) :
    exec (.derateUpdate .charger) s
      = .next (derateEval (setChg s (fun y => { y with derAt := now s })) .charger 0x5010) := by
  obtain ⟨hrun, hgap⟩ := h
  rw [exec_derateUpdate_charger, if_pos hrun, if_pos ⟨hgap, congrArg not hopen⟩]

theorem exec_derateUpdate_charger_of_not_due (h : ¬ derateDue s s.chg.derAt ∨ isShored s 0x5000 = true) :
    exec (.derateUpdate .charger) s = .next s := by
  rw [exec_derateUpdate_charger]
  by_cases hrun : running s = true
  · rw [if_pos hrun, if_neg]
    rintro ⟨hgap, hopen⟩
    rcases h with hearly | hshored
    · exact hearly ⟨hrun, hgap⟩
    · exact Bool.noConfusion (hopen.symm.trans (congrArg not hshored))
  · rw [if_neg hrun]

/-- A function without a derating block derates nothing. -/
theorem exec_derateUpdate_of_other (ha : f ≠ .driveA) (hb : f ≠ .driveB) (hc : f ≠ .charger) :
    exec (.derateUpdate f) s = .next s := by
  cases f
  case driveA => exact absurd rfl ha
  case driveB => exact absurd rfl hb
  case charger => exact absurd rfl hc
  all_goals exact congrArg Host.Outcome.next (ite_self s)

end drives

/-- Settles O42: the four steps of a drive in and out of their turn, the direction with and against the rotor, and the
derating of a drive, of the Charger and of any other function. -/
theorem driveSequencerSteps : Obligations.DriveSequencerSteps := by
  intro s s1 d r q f
  refine ⟨fun hturn => congrArg Host.Outcome.next (if_pos (and_assoc.mp hturn)),
    fun hno => congrArg Host.Outcome.next (if_neg (mt and_assoc.mpr hno)),
    fun hturn => congrArg Host.Outcome.next (if_pos (and_assoc.mp hturn)),
    fun hno => congrArg Host.Outcome.next (if_neg (mt and_assoc.mpr hno)),
    fun hturn => congrArg Host.Outcome.next (if_pos (and_assoc.mp hturn)),
    fun hno => congrArg Host.Outcome.next (if_neg (mt and_assoc.mpr hno)),
    fun t x hramp => ⟨fun hpast => ?_, fun hno => ?_⟩, exec_driveFaultRampEnd_of_none,
    fun h => ⟨exec_directionSelect_of_against h, exec_directionSelect_of_not_against h⟩, ?_,
    exec_derateUpdate_charger_of_due, exec_derateUpdate_charger_of_not_due, exec_derateUpdate_of_other⟩
  · exact (exec_driveFaultRampEnd_of_ramp hramp).trans (congrArg Host.Outcome.next (if_pos hpast))
  · exact (exec_driveFaultRampEnd_of_ramp hramp).trans (congrArg Host.Outcome.next (if_neg hno))
  · rintro x rfl
    refine ⟨fun hdue hopen => ?_, fun hdue hshored => ?_, exec_derateUpdate_drive_of_not_due⟩
    · exact (exec_derateUpdate_drive_of_due hdue).trans
        (congrArg (fun t => Host.Outcome.next (drvWatch t x)) (if_neg (ne_true_of_eq_false hopen)))
    · exact (exec_derateUpdate_drive_of_due hdue).trans
        (congrArg (fun t => Host.Outcome.next (drvWatch t x)) (if_pos hshored))

end Sys2Proof.Machine
end

section
/-! PROOFS. Power-stage protection and the link guard (11_power_stage_protection). A row of a fault input turns on the
function that its lane is sealed to, which neither the note of its level nor its count changes; the other rows ask one
condition of the state they find. -/

namespace Sys2Proof.Machine

/-! ### FAULT_INPUT_EDGE and FAULT_INPUT_RISE -/

section inputs

variable {s : State} {k l : Nat} {d : Drv} {f : Fn}

/-- The level of a fault input is noted: what R365 and R375 read of it. -/
def noteFlt (s : State) (k : Nat) (low : Bool) : State :=
  { s with link := { s.link with fltLow := tabSet false s.link.fltLow k low } }

/-- An accepted edge is noted and counted (R372). -/
def edgeCounted (s : State) (k : Nat) : State := incOb (noteFlt s k true) 0x2104 (k + 1)

theorem exec_faultInputEdge_of_not_running (h : running s = false) : exec (.faultInputEdge k) s = .next s :=
  congrArg Host.Outcome.next (if_pos (congrArg not h))

theorem exec_faultInputRise_of_not_running (h : running s = false) : exec (.faultInputRise k) s = .next s :=
  congrArg Host.Outcome.next (if_pos (congrArg not h))

/-- One fault input's part in clearing the cause of a drive whose inputs are all high (R365). -/
def clearInputOf (f : Fn) (s : State) (j : Nat) : State :=
  match fltLane s j with
  | none => s
  | some m => if fnOf (sealFunc s m) = some f then clearDet s (fltDet j) else s

section running

variable (h : running s = true)
include h

/-- The note and the count of an edge leave the function that its lane is sealed to, which decides
the rest (R372, R373). -/
theorem exec_faultInputEdge_of_running :
    exec (.faultInputEdge k) s = .next (match fltLane s k with
      | none => edgeCounted s k
      | some l =>
        match fnOf (sealFunc s l) with
        | none => edgeCounted s k
        | some f =>
          match fnDrv f with
          | some d => fltHolds (drvFault (edgeCounted s k) d l) d k
          | none => raise (edgeCounted s k) .sc 4 (fnCode f) 1 (fltDetail k) (fltDet k)) :=
  congrArg Host.Outcome.next (if_neg (ne_true_of_eq_false (congrArg not h)))

/-- A rise, likewise, turns on the function that its lane is sealed to (R365). -/
theorem exec_faultInputRise_of_running :
    exec (.faultInputRise k) s = .next (match fltLane s k with
      | none => noteFlt s k false
      | some l =>
        match fnOf (sealFunc s l) with
        | none => noteFlt s k false
        | some f =>
          if (fnDrv f).isSome then
            if fltLowOf (noteFlt s k false) f then noteFlt s k false
            else (List.range 24).foldl (clearInputOf f) (noteFlt s k false)
          else clearDet (noteFlt s k false) (fltDet k)) :=
  congrArg Host.Outcome.next (if_neg (ne_true_of_eq_false (congrArg not h)))

theorem exec_faultInputEdge_of_no_lane (hl : fltLane s k = none) :
    exec (.faultInputEdge k) s = .next (edgeCounted s k) := by
  simp only [exec_faultInputEdge_of_running h, hl]

theorem exec_faultInputRise_of_no_lane (hl : fltLane s k = none) :
    exec (.faultInputRise k) s = .next (noteFlt s k false) := by
  simp only [exec_faultInputRise_of_running h, hl]

variable (hl : fltLane s k = some l)
include hl

theorem exec_faultInputEdge_of_no_function (hf : fnOf (sealFunc s l) = none) :
    exec (.faultInputEdge k) s = .next (edgeCounted s k) := by
  simp only [exec_faultInputEdge_of_running h, hl, hf]

theorem exec_faultInputRise_of_no_function (hf : fnOf (sealFunc s l) = none) :
    exec (.faultInputRise k) s = .next (noteFlt s k false) := by
  simp only [exec_faultInputRise_of_running h, hl, hf]

variable (hf : fnOf (sealFunc s l) = some f)
include hf

/-- A function without a selector faults at once (R372). -/
theorem exec_faultInputEdge_of_no_drive (hd : fnDrv f = none) :
    exec (.faultInputEdge k) s = .next (raise (edgeCounted s k) .sc 4 (fnCode f) 1 (fltDetail k) (fltDet k)) := by
  simp only [exec_faultInputEdge_of_running h, hl, hf, hd]

theorem exec_faultInputRise_of_no_drive (hd : fnDrv f = none) :
    exec (.faultInputRise k) s = .next (clearDet (noteFlt s k false) (fltDet k)) := by
  simp only [exec_faultInputRise_of_running h, hl, hf, hd, Option.isSome_none, Bool.false_eq_true, if_false]

theorem exec_faultInputEdge_of_drive (hd : fnDrv f = some d) :
    exec (.faultInputEdge k) s = .next (fltHolds (drvFault (edgeCounted s k) d l) d k) := by
  simp only [exec_faultInputEdge_of_running h, hl, hf, hd]

/-- A drive's cause clears once every one of its inputs is high (R365). -/
theorem exec_faultInputRise_of_drive (hd : fnDrv f = some d) :
    exec (.faultInputRise k) s = .next (
      if fltLowOf (noteFlt s k false) f then noteFlt s k false
      else (List.range 24).foldl (clearInputOf f) (noteFlt s k false)) := by
  simp only [exec_faultInputRise_of_running h, hl, hf, hd, Option.isSome_some, if_true]

end running

/-- A low input joins the detectors of an active SC fault that does not hold it yet (R365). -/
theorem fltHolds_eq : fltHolds s d k =
    let z := keyAt s (keyNo .sc (fnCode (drvFn d)))
    if z.active ∧ z.srcs.contains (fltDet k) = false then
      publishKey (setKey s (keyNo .sc (fnCode (drvFn d))) { z with srcs := z.srcs ++ [fltDet k] })
        (keyNo .sc (fnCode (drvFn d)))
    else s := by
  simp only [fltHolds, Bool.and_eq_true, Bool.not_eq_true']

end inputs

/-! ### The selector of a drive -/

section selector

variable {s : State} {d : Drv} {l : Nat}

theorem drvFault_of_lockout (h : s.dev = .lockout) : drvFault s d l = s := if_pos h

section open_device

variable (h : s.dev ≠ .lockout)
include h

/-- Collection is open: the suspect is added to it (R373). -/
theorem drvFault_of_collecting (hc : (selOf s d).collecting = true) :
    drvFault s d l = setSel s d { selOf s d with
      susLow := (selOf s d).susLow || !suspectHigh s l, susHigh := (selOf s d).susHigh || suspectHigh s l } :=
  (if_neg h).trans (if_pos hc)

variable (hc : (selOf s d).collecting = false)
include hc

theorem drvFault_of_twoBank (h2 : (selOf s d).twoBank = true) : drvFault s d l = s := by
  rw [drvFault, if_neg h, if_neg (ne_true_of_eq_false hc), if_pos h2]

variable (h2 : (selOf s d).twoBank = false)
include h2

/-- On a one-bank short the same bank says nothing new and the other one makes it two banks (R374). -/
theorem drvFault_of_oneBank (h1 : (selOf s d).oneBank = true) :
    drvFault s d l
      = if (selOf s d).highBank = suspectHigh s l then s else latchShort s d true (suspectHigh s l) := by
  rw [drvFault, if_neg h, if_neg (ne_true_of_eq_false hc), if_neg (ne_true_of_eq_false h2), if_pos h1]

/-- The first suspect: the legs freewheel and collection opens (R372, R373). -/
theorem drvFault_of_no_short (h1 : (selOf s d).oneBank = false) :
    drvFault s d l = freewheel s d none (fun z => { z with
      offAt := s.dt, byRule := false, collecting := true, openedAt := now s, firstAt := fltStamp s d,
      susLow := !suspectHigh s l, susHigh := suspectHigh s l }) := by
  rw [drvFault, if_neg h, if_neg (ne_true_of_eq_false hc), if_neg (ne_true_of_eq_false h2),
    if_neg (ne_true_of_eq_false h1)]

end open_device

/-- A choice that is due is taken once Prot.AscDelay has passed since the legs turned off (R366). -/
theorem exec_ascApply_of_due {c : Choice} (h : (selOf s d).ascDue = some c) :
    exec (.ascApply d) s = .next (
      if running s = true ∧ s.dev ≠ .lockout ∧ (selOf s d).choice = .freewheel
          ∧ (selOf s d).offAt + nsTime (ob s (drvBase d + 0x700) 4) ≤ s.dt then
        setSel s d { selOf s d with choice := c, ascDue := none }
      else s) := by
  change execAscApply d s = _
  simp only [execAscApply, h]

theorem exec_ascApply_of_none (h : (selOf s d).ascDue = none) : exec (.ascApply d) s = .next s := by
  change execAscApply d s = _
  simp only [execAscApply, h]

end selector

/-- Settles O43: a fault input by what its lane is sealed to, the selector by what it holds, then the two times that follow
an edge. -/
theorem faultInputsCollectAndLatch : Obligations.FaultInputsCollectAndLatch := by
  intro s k d
  refine ⟨fun hoff => ⟨exec_faultInputEdge_of_not_running hoff, exec_faultInputRise_of_not_running hoff⟩,
    fun hrun => ⟨fun hl => ⟨exec_faultInputEdge_of_no_lane hrun hl, exec_faultInputRise_of_no_lane hrun hl⟩,
      fun l hl => ⟨
        fun hf => ⟨exec_faultInputEdge_of_no_function hrun hl hf, exec_faultInputRise_of_no_function hrun hl hf⟩,
        fun f hf hd => ⟨exec_faultInputEdge_of_no_drive hrun hl hf hd, exec_faultInputRise_of_no_drive hrun hl hf hd⟩,
        fun f hf hd => ⟨?_, exec_faultInputRise_of_drive hrun hl hf hd⟩⟩⟩,
    fun l => ⟨drvFault_of_lockout, fun hdev => ⟨drvFault_of_collecting hdev, drvFault_of_twoBank hdev,
      fun hc h2 h1 hsame => ?_, fun hc h2 h1 hother => ?_, drvFault_of_no_short hdev⟩⟩,
    ⟨fun hclose => congrArg Host.Outcome.next (if_pos hclose), fun hno => congrArg Host.Outcome.next (if_neg hno)⟩,
    fun c hdue => ⟨fun happly => ?_, fun hno => ?_⟩, exec_ascApply_of_none⟩
  · exact (exec_faultInputEdge_of_drive hrun hl hf hd).trans (congrArg Host.Outcome.next fltHolds_eq)
  · exact (drvFault_of_oneBank hdev hc h2 h1).trans (if_pos hsame)
  · exact (drvFault_of_oneBank hdev hc h2 h1).trans (if_neg hother)
  · exact (exec_ascApply_of_due hdue).trans (congrArg Host.Outcome.next (if_pos happly))
  · exact (exec_ascApply_of_due hdue).trans (congrArg Host.Outcome.next (if_neg hno))

/-! ### The link guard -/

section guard

variable {s : State}

/-- No word has been compared for Link.Timeout (R380). -/
def linkSilent (s : State) : Prop :=
  guardRuns s = true ∧ s.link.stale = false ∧ s.link.wordAt + ob s 0x2100 5 * 1000 ≤ now s

theorem linkSilent_iff : linkSilent s ↔
    guardRuns s = true ∧ (!s.link.stale) = true ∧ s.link.wordAt + ob s 0x2100 5 * 1000 ≤ now s := by
  rw [linkSilent, Bool.not_eq_true']

/-- No dump current has been seen 50 µs after the command (R383). -/
def dumpUnseen (s : State) : Prop :=
  running s = true ∧ dumpCmd s = true ∧ s.link.dumpSeen = false ∧ s.link.dumpAt + nsTime 50000 ≤ s.dt

theorem dumpUnseen_iff : dumpUnseen s ↔
    running s = true ∧ dumpCmd s = true ∧ (!s.link.dumpSeen) = true ∧ s.link.dumpAt + nsTime 50000 ≤ s.dt := by
  rw [dumpUnseen, Bool.not_eq_true']

/-- Without a link channel, or in a device that does not run, no word reaches Plumb or the guard (R380). -/
theorem exec_linkWord_of_no_channel (h : running s = false ∨ ob s 0x2100 1 = 0xFFFF) : exec .linkWord s = .next s := by
  refine congrArg Host.Outcome.next (if_neg ?_)
  rintro ⟨hrun, hch⟩
  rcases h with hoff | hnone
  · exact Bool.noConfusion (hrun.symm.trans hoff)
  · exact hch hnone

end guard

/-! ### DUMP_TEST -/

section dumpTest

variable {s : State} {src : AdcIn} {uv : Int} {t : Nat}

/-- The input that the step of the dump channel converts (R387). -/
def dumpInput (s : State) : Option AdcIn :=
  muxInput (ob s (seqBase (ob s 0x2100 6 / 16)) 1) (ob s (seqBase (ob s 0x2100 6 / 16) + 1) (ob s 0x2100 6 % 16 + 1))

/-- What a pulse that started at `t` finds of its conversion: none is begun that cannot end 500 ns before the pulse
(R234, R387). -/
def dumpConv (s : State) (t : Nat) : State × Bool :=
  if (!outDone s 3 0 (dumpConvs s) && decide (t + nsTime (ob s 0x2100 9) < s.dt + nsTime 625)) = true then (s, false)
  else outConv s 3 0 (dumpConvs s) 1

/-- Without a pulse, or after one that is over, the test asks whether it can start (R387). -/
theorem exec_dumpTest_of_no_pulse (h : s.link.pulse = none ∨ ∃ t, s.link.pulse = some (t, true)) :
    exec (.dumpTest src uv) s
      = .next (if dumpReady s then setLink s (fun y => { y with pulse := some (s.dt, false) }) else s) := by
  change execDumpTest src uv s = _
  rcases h with hnone | ⟨t, hover⟩
  · simp only [execDumpTest, hnone]
  · simp only [execDumpTest, hover]

/-- A pulse under way ends without a result, passes over another input, or looks at its conversion (R387, R595). -/
theorem exec_dumpTest_of_pulse (h : s.link.pulse = some (t, false)) :
    exec (.dumpTest src uv) s = .next (
      if (!running s) = true ∨ (!pulseOn s) = true ∨ isShored s 0x2100 = true then
        setLink s (fun y => { y with pulse := some (t, true) })
      else if dumpInput s ≠ some src then s
      else if (dumpConv s t).2 = true then
        dumpResult (setLink (dumpConv s t).1 (fun y => { y with pulse := some (t, true) }))
          (sampleCode s (muxVolt s src uv))
      else (dumpConv s t).1) := by
  change execDumpTest src uv s = _
  simp only [execDumpTest, h]
  rfl

theorem exec_dumpTest_of_ended (h : s.link.pulse = some (t, false))
    (hend : running s = false ∨ pulseOn s = false ∨ isShored s 0x2100 = true) :
    exec (.dumpTest src uv) s = .next (setLink s (fun y => { y with pulse := some (t, true) })) := by
  rw [exec_dumpTest_of_pulse h, if_pos]
  simpa only [Bool.not_eq_true'] using hend

section running

variable (h : s.link.pulse = some (t, false)) (hrun : running s = true) (hon : pulseOn s = true)
  (hopen : isShored s 0x2100 = false)
include h hrun hon hopen

/-- A pulse that nothing ends is decided by the input and its conversion. -/
theorem exec_dumpTest_of_pulse_on :
    exec (.dumpTest src uv) s = .next (
      if dumpInput s ≠ some src then s
      else if (dumpConv s t).2 = true then
        dumpResult (setLink (dumpConv s t).1 (fun y => { y with pulse := some (t, true) }))
          (sampleCode s (muxVolt s src uv))
      else (dumpConv s t).1) := by
  rw [exec_dumpTest_of_pulse h, if_neg]
  simp only [hrun, hon, hopen, Bool.not_true, Bool.false_eq_true, or_self, not_false_eq_true]

theorem exec_dumpTest_of_other_input (hsrc : dumpInput s ≠ some src) : exec (.dumpTest src uv) s = .next s := by
  rw [exec_dumpTest_of_pulse_on h hrun hon hopen, if_pos hsrc]

theorem exec_dumpTest_of_input (hsrc : dumpInput s = some src) :
    exec (.dumpTest src uv) s = .next (
      if (dumpConv s t).2 = true then
        dumpResult (setLink (dumpConv s t).1 (fun y => { y with pulse := some (t, true) }))
          (sampleCode s (muxVolt s src uv))
      else (dumpConv s t).1) := by
  rw [exec_dumpTest_of_pulse_on h hrun hon hopen, if_neg (not_not_intro hsrc)]

end running

end dumpTest

/-- Settles O44: a word by its way to Plumb and the guard, the three time-outs in and out of their time, the test by its
pulse, and the result of its conversion. -/
theorem linkGuardWatchesTheLink : Obligations.LinkGuardWatchesTheLink := by
  intro s src uv w code
  refine ⟨fun hrun hch => congrArg Host.Outcome.next (if_pos ⟨hrun, hch⟩), exec_linkWord_of_no_channel, rfl,
    fun hstale => congrArg Host.Outcome.next (if_pos (linkSilent_iff.mp hstale)),
    fun hno => congrArg Host.Outcome.next (if_neg (mt linkSilent_iff.mpr hno)),
    fun hblind => congrArg Host.Outcome.next (if_pos (dumpUnseen_iff.mp hblind)),
    fun hno => congrArg Host.Outcome.next (if_neg (mt dumpUnseen_iff.mpr hno)),
    fun hlong => congrArg Host.Outcome.next (if_pos hlong), fun hno => congrArg Host.Outcome.next (if_neg hno),
    exec_dumpTest_of_no_pulse,
    fun t hpulse => ⟨exec_dumpTest_of_ended hpulse, exec_dumpTest_of_other_input hpulse, exec_dumpTest_of_input hpulse⟩,
    fun hlow => if_pos hlow, fun hhigh => if_neg hhigh⟩

end Sys2Proof.Machine
end

section
/-! PROOFS. The machine as a whole (01_architecture, 95_what_each_step_holds): a step and its queue, the state after reset, and what
every command keeps. -/

namespace Sys2Proof.Machine

/-! ### A step and its queue -/

theorem step_of_empty {s : State} (h : s.pending = []) : step s = .next s := by
  rw [step, h]

theorem step_of_cons {c : Instr} {rest : List Instr} {s : State} (h : s.pending = c :: rest) :
    step s = exec c { s with pending := rest } := by
  rw [step, h]

/-- Settles O1: the front of the queue runs on the rest of it, and an empty queue idles. -/
theorem stepRunsFront : Obligations.StepRunsFront :=
  fun _ _ => ⟨step_of_cons rfl, step_of_empty⟩

/-- Settles O6: each arm of the dispatch ends in a next state, whatever its guards. -/
theorem everyCommandAnswersNext : Obligations.EveryCommandAnswersNext := by
  intro c s
  cases c
  all_goals exact ⟨_, rfl⟩

/-! ### The state after reset -/

/-- Settles O2: each part of the reset state is read off its definition. -/
theorem resetState : Obligations.ResetState :=
  ⟨rfl, rfl, ⟨fun _ => rfl, rfl, fun _ => rfl⟩, fun _ => rfl, rfl, rfl, rfl⟩

/-- Settles O3: at reset the three tables list nothing. -/
theorem canonicalAtReset : Obligations.CanonicalAtReset :=
  ⟨rfl, rfl, rfl⟩

/-! ### What every command keeps -/

/-- The end of a twin-key commit leaves the queue and keeps the tables canonical (R518). -/
theorem keeps_of_execTkCommitDone {ok : Bool} {s t : State} (h : execTkCommitDone ok s = .next t) :
    t.pending = s.pending ∧ (canonical s → canonical t) := by
  obtain ⟨f, n, hk⟩ := execTkCommitDone_kept ok s
  obtain ⟨hqueue, -, -, -, htables⟩ := hk t h
  exact ⟨hqueue, htables⟩

/-- Every command, the end of a twin-key commit among them, leaves the queue and keeps the tables canonical. -/
theorem keeps_of_exec {c : Instr} {s t : State} (h : exec c s = .next t) :
    t.pending = s.pending ∧ (canonical s → canonical t) := by
  by_cases hc : ∃ b, c = .tkCommitDone b
  · obtain ⟨b, rfl⟩ := hc
    exact keeps_of_execTkCommitDone h
  · obtain ⟨hqueue, -, -, -, htables⟩ := exec_kept c s (fun b hb => hc ⟨b, hb⟩) t h
    exact ⟨hqueue, htables⟩

/-- Settles O5: no operation of the model writes the queue, whatever command calls it. -/
theorem queueKept : Obligations.QueueKept :=
  fun _ _ _ h => (keeps_of_exec h).1

/-- Settles O4: the queue is no table, so the state that a command runs on is as canonical as the one the step found. -/
theorem canonicalKept : Obligations.CanonicalKept := by
  intro s t hcanon hstep
  match hq : s.pending with
  | [] =>
    rw [step_of_empty hq] at hstep
    exact Host.Outcome.next.inj hstep ▸ hcanon
  | c :: rest =>
    rw [step_of_cons hq] at hstep
    exact (keeps_of_exec hstep).2 hcanon

/-- Settles O7: every command but the end of a twin-key commit is made of operations that leave what is blown. -/
theorem fusesOnlyByCommit : Obligations.FusesOnlyByCommit := by
  intro c s t hc h
  obtain ⟨-, -, hwords, hcrc, -⟩ := exec_kept c s hc t h
  exact ⟨hwords, hcrc⟩

end Sys2Proof.Machine
end

section
/-! PROOFS. The Charger (12_charger). A row of its session asks one condition of the state it finds. -/

namespace Sys2Proof.Machine

/-- A command that acts under a condition, where the condition holds. -/
theorem next_of_turn {s t : State} {c : Prop} [Decidable c] (h : c) :
    (Host.Outcome.next (if c then t else s) : Host.Outcome State Fault Refusal) = .next t :=
  congrArg Host.Outcome.next (if_pos h)

/-- A command that acts under a condition, where the condition fails. -/
theorem next_of_no_turn {s t : State} {c : Prop} [Decidable c] (h : ¬ c) :
    (Host.Outcome.next (if c then t else s) : Host.Outcome State Fault Refusal) = .next s :=
  congrArg Host.Outcome.next (if_neg h)

/-! ### The session -/

section session

variable {s : State} {c : Nat}

/-- The first reason of a session stands (R417). -/
theorem noteReason_first (hstep : s.chg.step ≠ 0) (hfirst : s.chg.reason = 0) : (noteReason s c).chg.reason = c := by
  rw [noteReason, if_neg hstep, if_pos hfirst]
  rfl

/-- A reason of another device time than the first adds nothing (R417). -/
theorem noteReason_later (hreason : s.chg.reason ≠ 0) (hat : s.chg.reasonAt ≠ now s) : noteReason s c = s := by
  rw [noteReason, if_neg hreason, if_neg (c := _ ∧ _) (fun h => hat h.1), ite_self]

end session

/-- Settles O45: each step of a start in and out of its turn; the bus that is ready is first asked for by a charge, then by
vehicle-to-load. -/
theorem chargingSessionSteps : Obligations.ChargingSessionSteps := by
  intro s
  exact ⟨next_of_turn, next_of_no_turn, next_of_turn, next_of_no_turn, next_of_turn, next_of_no_turn, next_of_turn,
    next_of_no_turn, next_of_turn, next_of_no_turn, next_of_turn, next_of_no_turn, next_of_turn,
    fun hno hv2l => (next_of_no_turn hno).trans (next_of_turn hv2l),
    fun hno hnone => (next_of_no_turn hno).trans (next_of_no_turn hnone)⟩

/-- Settles O46: each row of a pause, a completion and a stop in and out of its turn, and the reason that a stop keeps. -/
theorem chargingSessionPausesAndEnds : Obligations.ChargingSessionPausesAndEnds := by
  intro s ph
  exact ⟨next_of_turn, next_of_no_turn, next_of_turn, next_of_no_turn, next_of_turn, next_of_no_turn, next_of_turn,
    next_of_no_turn, next_of_turn, next_of_no_turn, next_of_turn, next_of_no_turn, next_of_turn, next_of_no_turn,
    next_of_turn, next_of_no_turn, fun _ => noteReason_first, fun _ => noteReason_later, rfl⟩

/-! ### The inlet, the DAB's frequency and vehicle-to-load -/

section inlet

variable {s : State} {c st duty : Nat}

/-- Fewer than three windows in a row of one class accept nothing (R394). -/
theorem pilotAccept_of_early (h : c ≠ s.chg.pilotCand ∨ s.chg.pilotRun < 2) :
    pilotAccept s c = (setChg s (fun y => { y with
      pilotCand := c, pilotRun := if c = s.chg.pilotCand then s.chg.pilotRun + 1 else 1 }), false) := by
  by_cases hc : c = s.chg.pilotCand
  · have hrun : s.chg.pilotRun < 2 := h.resolve_left (not_not_intro hc)
    have hmin : min 3 (s.chg.pilotRun + 1) = s.chg.pilotRun + 1 := by omega
    simp only [pilotAccept, if_pos hc, hmin, if_neg (show ¬ 3 ≤ s.chg.pilotRun + 1 by omega)]
  · simp only [pilotAccept, if_neg hc, show ¬ 3 ≤ 1 by omega, if_false]

/-- The third window in a row accepts its class (R394). -/
theorem pilotAccept_third (hrun : 2 ≤ s.chg.pilotRun) (hc : c = s.chg.pilotCand) :
    pilotAccept s c = (putOb (setChg s (fun y => { y with pilotRun := 3 })) 0x5101 1 c,
      decide (c = 1) && decide (ob s 0x5101 1 ≠ 1)) := by
  have hmin : min 3 (s.chg.pilotRun + 1) = 3 := by omega
  subst hc
  simp only [pilotAccept, if_true, hmin, le_refl]
  rfl

theorem pilotCurrent_of_no_vehicle (h : st < 2 ∨ 4 < st) : pilotCurrent s st duty true = 0 :=
  if_pos (.inr h)

/-- From 10 % to 85 % of duty a vehicle may draw 0.6 A for each percent (R395). -/
theorem pilotCurrent_of_duty (hlow : 2 ≤ st) (hhigh : st ≤ 4) (hmin : 100 ≤ duty) (hmax : duty ≤ 850) :
    pilotCurrent s st duty true = mkRat duty 10 * mkRat 6 10 := by
  rw [pilotCurrent, if_neg (by simp; omega), if_neg (by omega), if_neg (by omega), if_neg (by omega), if_neg (by omega),
    if_pos hmax]

end inlet

section frequency

variable {s s1 : State} {r : Req} {q : QReq}

/-- A value of Dab.Fsw beyond Rod.MaxRate of rod 4, or beyond 2 MHz of samples (R409). -/
def dabTooFast (s : State) (q : QReq) : Prop :=
  rodMaxHz (viewNow s) 4 < f32Val (storedOf 9 q.data) ∨ 2000000 < f32Val (storedOf 9 q.data) * (ob s 0x5300 5 : Nat)

theorem doDabFsw_of_shored (h : isShored s 0x5300 = true) :
    doDabFsw s q = (putValue s (oaddr 0x5300 1) (storedOf 9 q.data), 0) := if_pos h

theorem doDabFsw_of_tooFast (h : isShored s 0x5300 = false) (hfast : dabTooFast s q) :
    doDabFsw s q = (s, 0x02000006) :=
  (if_neg (ne_true_of_eq_false h)).trans (if_pos hfast)

theorem doDabFsw_of_not_tooFast (h : isShored s 0x5300 = false) (hslow : ¬ dabTooFast s q) :
    doDabFsw s q = (sendFreqAll (putValue s (oaddr 0x5300 1) (storedOf 9 q.data)) 9, 0) :=
  (if_neg (ne_true_of_eq_false h)).trans (if_neg hslow)

variable (h : served s r 0x5300 1 = some (s1, q))
include h

theorem exec_dabFswWrite_of_done {t : State} (heff : doDabFsw s1 q = (t, 0)) :
    exec (.dabFswWrite r) s = .next (reply t q 9 []) :=
  congrArg Host.Outcome.next (serveWrite_of_done h rfl heff)

theorem exec_dabFswWrite_of_tooFast (hopen : isShored s1 0x5300 = false) (hfast : dabTooFast s1 q) :
    exec (.dabFswWrite r) s = .next (refuse s1 q 0x02000006) :=
  congrArg Host.Outcome.next (serveWrite_of_code h (doDabFsw_of_tooFast hopen hfast) (by decide) (by decide))

end frequency

section ramps

variable {s : State}

/-- The ramp of V2l.Vd has had its time (R425, R426). -/
def rampDone (s : State) : Prop := s.chg.t0 + ob s 0x5400 6 * 1000000 ≤ now s

theorem exec_v2lRampEnd_up (hstep : atStep s 24 = true) (hdone : rampDone s) :
    exec .v2lRampEnd s = .next (putPhase (setChg s (fun x => { x with step := 25, t0 := now s })) 10) :=
  next_of_turn ⟨hstep, hdone⟩

theorem exec_v2lRampEnd_down (hup : atStep s 24 = false) (hstep : atStep s 26 = true) (hdone : rampDone s) :
    exec .v2lRampEnd s = .next (setChg s (fun x => { x with step := 9, pfcEnd := true })) :=
  (next_of_no_turn (fun h => ne_true_of_eq_false hup h.1)).trans (next_of_turn ⟨hstep, hdone⟩)

/-- Before its time, or in another step, no ramp ends. -/
theorem exec_v2lRampEnd_of_no_ramp (h : ¬ rampDone s ∨ atStep s 24 = false ∧ atStep s 26 = false) :
    exec .v2lRampEnd s = .next s := by
  refine (next_of_no_turn ?_).trans (next_of_no_turn ?_)
  · rintro ⟨hstep, hdone⟩
    exact h.elim (fun hno => hno hdone) (fun hno => ne_true_of_eq_false hno.1 hstep)
  · rintro ⟨hstep, hdone⟩
    exact h.elim (fun hno => hno hdone) (fun hno => ne_true_of_eq_false hno.2 hstep)

end ramps

/-- Settles O47: the evaluations in and out of their time, the pilot's classes and its current, a written frequency by the
shore of its block and its bounds, and the ramps of vehicle-to-load. -/
theorem inletLimitsAndVehicleToLoad : Obligations.InletLimitsAndVehicleToLoad := by
  intro s s1 r q
  exact ⟨next_of_turn, next_of_no_turn, next_of_turn, next_of_no_turn, next_of_turn, next_of_no_turn, next_of_turn,
    next_of_no_turn, next_of_turn, next_of_no_turn, fun _ => pilotAccept_of_early, fun _ => pilotAccept_third,
    fun _ _ => pilotCurrent_of_no_vehicle, fun _ _ => pilotCurrent_of_duty,
    fun h => ⟨fun hshored => exec_dabFswWrite_of_done h (doDabFsw_of_shored hshored), exec_dabFswWrite_of_tooFast h,
      fun hopen hslow => exec_dabFswWrite_of_done h (doDabFsw_of_not_tooFast hopen hslow)⟩,
    exec_v2lRampEnd_up, exec_v2lRampEnd_down, exec_v2lRampEnd_of_no_ramp⟩

end Sys2Proof.Machine
end

section
/-! PROOFS. The Converter, the Axle arbiter, the HVIL current and camp mode (13_converter_and_camp). A row asks one condition of the
state it finds; the end of a stop and a wake go by the step of their sequencer. -/

namespace Sys2Proof.Machine

/-! ### The Converter -/

section stop

variable {s : State}

/-- A stop's current is low, or its 10 ms have passed (R438). -/
def stopCurrentLow (s : State) : Prop :=
  rabs (chanVal s (ob s 0x5903 2)) < mkRat 2 100 * obF s 0x5803 4 ∨ s.cnv.t0 + 10000000 ≤ now s

/-- The buck-boost has turned off and rod 5 passes through 0 (R438). -/
def dcxPasses (s : State) : Prop :=
  s.cnv.step = 21 ∧ (!s.cnv.buckEnd) = true ∧ (srcPass s 5 0).isSome = true

theorem exec_converterStopDone_of_not_running (h : running s = false) : exec .converterStopDone s = .next s :=
  next_of_turn (congrArg not h)

section running

variable (hrun : running s = true)
include hrun

/-- In a device that runs, the step of the stop decides. -/
theorem not_not_running_of_running : ¬ (!running s) = true := ne_true_of_eq_false (congrArg not hrun)

theorem exec_converterStopDone_of_low (hstep : s.cnv.step = 20) (hlow : stopCurrentLow s) :
    exec .converterStopDone s = .next (cnvEnd s) :=
  ((next_of_no_turn (not_not_running_of_running hrun)).trans (next_of_turn hstep)).trans (next_of_turn hlow)

theorem exec_converterStopDone_of_high (hstep : s.cnv.step = 20) (hhigh : ¬ stopCurrentLow s) :
    exec .converterStopDone s = .next s :=
  ((next_of_no_turn (not_not_running_of_running hrun)).trans (next_of_turn hstep)).trans (next_of_no_turn hhigh)

theorem exec_converterStopDone_of_pass (hpass : dcxPasses s) :
    exec .converterStopDone s = .next (
      if fnState (cnvOff s) .converter = .run then setFn (cnvOff s) .converter s.cnv.after else cnvOff s) := by
  have hstep : s.cnv.step ≠ 20 := by rw [hpass.1]; decide
  exact ((next_of_no_turn (not_not_running_of_running hrun)).trans (next_of_no_turn hstep)).trans (next_of_turn hpass)

theorem exec_converterStopDone_of_no_pass (hstep : s.cnv.step ≠ 20) (hno : ¬ dcxPasses s) :
    exec .converterStopDone s = .next s :=
  ((next_of_no_turn (not_not_running_of_running hrun)).trans (next_of_no_turn hstep)).trans (next_of_no_turn hno)

end running

theorem exec_converterStopDone_of_idle
    (h : running s = false ∨ s.cnv.step = 20 ∧ ¬ stopCurrentLow s ∨ s.cnv.step ≠ 20 ∧ ¬ dcxPasses s) :
    exec .converterStopDone s = .next s := by
  cases hrun : running s with
  | false => exact exec_converterStopDone_of_not_running hrun
  | true =>
    rcases h with hoff | ⟨hstep, hhigh⟩ | ⟨hstep, hno⟩
    · exact absurd hrun (ne_true_of_eq_false hoff)
    · exact exec_converterStopDone_of_high hrun hstep hhigh
    · exact exec_converterStopDone_of_no_pass hrun hstep hno

end stop

section frequency

variable {s s1 : State} {r : Req} {q : QReq}

theorem doDcxFsw_of_shored (h : isShored s 0x5900 = true) :
    doDcxFsw s q = (putValue s (oaddr 0x5900 2) (storedOf 9 q.data), 0) := if_pos h

theorem doDcxFsw_of_fast (h : isShored s 0x5900 = false)
    (hfast : rodMaxHz (viewNow s) 5 < f32Val (storedOf 9 q.data)) : doDcxFsw s q = (s, 0x02000006) :=
  (if_neg (ne_true_of_eq_false h)).trans (if_pos hfast)

theorem doDcxFsw_of_slow (h : isShored s 0x5900 = false)
    (hslow : f32Val (storedOf 9 q.data) ≤ rodMaxHz (viewNow s) 5) :
    doDcxFsw s q = (sendFreqAll (putValue s (oaddr 0x5900 2) (storedOf 9 q.data)) 10, 0) :=
  (if_neg (ne_true_of_eq_false h)).trans (if_neg (not_lt.mpr hslow))

variable (h : served s r 0x5900 2 = some (s1, q))
include h

theorem exec_dcxFswWrite_of_done {t : State} (heff : doDcxFsw s1 q = (t, 0)) :
    exec (.dcxFswWrite r) s = .next (reply t q 9 []) :=
  congrArg Host.Outcome.next (serveWrite_of_done h rfl heff)

theorem exec_dcxFswWrite_of_fast (hopen : isShored s1 0x5900 = false)
    (hfast : rodMaxHz (viewNow s1) 5 < f32Val (storedOf 9 q.data)) :
    exec (.dcxFswWrite r) s = .next (refuse s1 q 0x02000006) :=
  congrArg Host.Outcome.next (serveWrite_of_code h (doDcxFsw_of_fast hopen hfast) (by decide) (by decide))

end frequency

/-- Settles O48: each row of a start and a precharge in and out of its turn, the end of a stop by its step, and a written
frequency by the shore of its block and its bound. -/
theorem converterStartsAndStops : Obligations.ConverterStartsAndStops := by
  intro s s1 r q
  exact ⟨next_of_turn, next_of_no_turn, next_of_turn, next_of_no_turn, next_of_turn, next_of_no_turn, next_of_turn,
    next_of_no_turn, next_of_turn, next_of_no_turn, next_of_turn, next_of_no_turn, next_of_turn, next_of_no_turn,
    fun hrun => ⟨exec_converterStopDone_of_low hrun, exec_converterStopDone_of_pass hrun⟩,
    exec_converterStopDone_of_idle, rfl,
    fun h => ⟨fun hshored => exec_dcxFswWrite_of_done h (doDcxFsw_of_shored hshored), exec_dcxFswWrite_of_fast h,
      fun hopen hslow => exec_dcxFswWrite_of_done h (doDcxFsw_of_slow hopen hslow)⟩⟩

/-! ### The Axle arbiter -/

/-- Both drives' shares of a power that suffices sum to it (R442). -/
theorem share_of_enough {s : State} {a b v : Rat} (hA : fnLive s .driveA = true) (hB : fnLive s .driveB = true)
    (h : a + b ≤ v) : (share s a b v).1 + (share s a b v).2.1 = v ∧ (share s a b v).2.2 = true := by
  simp only [share, if_pos h, hA, hB, Bool.and_self, if_true, and_true]
  ring

/-! ### Camp mode -/

section enter

variable {s s1 : State} {r : Req} {q : QReq}

/-- Camp mode is entered from PREOP and from OPERATIONAL (R446). -/
def campOpen (s : State) : Prop := s.dev = .preop ∨ s.dev = .operational

theorem not_camp_refused_of_campOpen (h : campOpen s) : ¬ (s.dev ≠ .preop ∧ s.dev ≠ .operational) :=
  fun hno => h.elim hno.1 hno.2

theorem doCampEnter_of_live (hopen : campOpen s) (hlive : fnAll.any (fnLive s) = true) :
    doCampEnter s q = (s, 0x03000001) := by
  rw [doCampEnter, if_neg (not_camp_refused_of_campOpen hopen), if_pos hlive]

/-- An entry that runs goes on (log 32). -/
theorem doCampEnter_of_entering (hopen : campOpen s) (hlive : fnAll.any (fnLive s) = false) (hstep : s.camp.step ≠ 0) :
    doCampEnter s q = (s, 0) := by
  rw [doCampEnter, if_neg (not_camp_refused_of_campOpen hopen), if_neg (ne_true_of_eq_false hlive), if_pos hstep]

theorem doCampEnter_of_idle (hopen : campOpen s) (hlive : fnAll.any (fnLive s) = false) (hstep : s.camp.step = 0) :
    doCampEnter s q = (setCamp s (fun x => { x with step := 1, t0 := now s, woken := none, result := 1 }), 0) := by
  rw [doCampEnter, if_neg (not_camp_refused_of_campOpen hopen), if_neg (ne_true_of_eq_false hlive),
    if_neg (not_not_intro hstep)]

theorem exec_campEnter_of_done {t : State} (h : served s r 0x2200 1 = some (s1, q)) (heff : doCampEnter s1 q = (t, 0)) :
    exec (.campEnter r) s = .next (reply t q 2 []) :=
  congrArg Host.Outcome.next (serveWrite_of_done h rfl heff)

theorem exec_campEnter_of_live (h : served s r 0x2200 1 = some (s1, q)) (hopen : campOpen s1)
    (hlive : fnAll.any (fnLive s1) = true) : exec (.campEnter r) s = .next (refuse s1 q 0x03000001) :=
  congrArg Host.Outcome.next (serveWrite_of_code h (doCampEnter_of_live hopen hlive) (by decide) (by decide))

end enter

section entry

variable {s : State} {n : Nat} {v : WakeEv}

/-- The second step of an entry is 1 ms after the link read low (R446). -/
theorem exec_campLinkLow_second (hrun : running s = true) (hstep : s.camp.step = 2) (hgap : s.camp.t0 + 1000000 ≤ now s) :
    exec .campLinkLow s = .next (setCamp (campClose s) (fun x => { x with step := 3, t0 := now s })) := by
  refine (next_of_no_turn ?_).trans (next_of_turn ⟨hrun, hstep, hgap⟩)
  rintro ⟨-, hfirst, -⟩
  omega

theorem exec_campEntryComplete_of_turn (hrun : running s = true) (hstep : s.camp.step = 3) :
    exec (.campEntryComplete n) s = .next (match s.camp.woken with
      | none => toCamp s n
      | some x => campWakeUp (toCamp s n) x) :=
  next_of_turn ⟨hrun, hstep⟩

theorem exec_campEntryComplete_of_none (hrun : running s = true) (hstep : s.camp.step = 3) (hw : s.camp.woken = none) :
    exec (.campEntryComplete n) s = .next (toCamp s n) := by
  rw [exec_campEntryComplete_of_turn hrun hstep, hw]

theorem exec_campEntryComplete_of_woken (hrun : running s = true) (hstep : s.camp.step = 3)
    (hw : s.camp.woken = some v) : exec (.campEntryComplete n) s = .next (campWakeUp (toCamp s n) v) := by
  rw [exec_campEntryComplete_of_turn hrun hstep, hw]

end entry

section wake

variable {s : State} {w : WakeEv}

/-- A wake by a code that the settings in effect admit, in a device that runs (R448). -/
def wakesNow (s : State) (w : WakeEv) : Prop := running s = true ∧ wakeCodes (campArm s) w ≠ []

variable (hdev : s.dev ≠ .camp)
include hdev

theorem exec_campWake_of_early (hwake : wakesNow s w) (hstep : s.camp.step = 1 ∨ s.camp.step = 2) :
    exec (.campWake w) s = .next (campAbandon s 4) :=
  (next_of_no_turn hdev).trans (next_of_turn ⟨hwake.1, hstep, hwake.2⟩)

/-- From step 3 on a wake waits for CAMP (R447). -/
theorem exec_campWake_of_late (hwake : wakesNow s w) (hstep : s.camp.step = 3) :
    exec (.campWake w) s = .next (setCamp s (fun x => { x with woken := some w })) := by
  refine ((next_of_no_turn hdev).trans (next_of_no_turn ?_)).trans (next_of_turn ⟨hwake.1, hstep, hwake.2⟩)
  rintro ⟨-, hearly, -⟩
  omega

theorem exec_campWake_of_none (h : ¬ wakesNow s w ∨ s.camp.step = 0 ∨ 3 < s.camp.step) :
    exec (.campWake w) s = .next s := by
  refine ((next_of_no_turn hdev).trans (next_of_no_turn ?_)).trans (next_of_no_turn ?_)
  · rintro ⟨hrun, hstep, hcodes⟩
    exact h.elim (fun hno => hno ⟨hrun, hcodes⟩) (fun hno => by omega)
  · rintro ⟨hrun, hstep, hcodes⟩
    exact h.elim (fun hno => hno ⟨hrun, hcodes⟩) (fun hno => by omega)

end wake

/-- Settles O49: the arbiter and the HVIL rows in and out of their turn, then an entry into camp by its step and a wake by the
device's state and that step. -/
theorem axleHvilAndCamp : Obligations.AxleHvilAndCamp := by
  intro s s1 r q n w
  exact ⟨next_of_turn, next_of_no_turn, next_of_turn, next_of_no_turn, next_of_turn, next_of_no_turn, next_of_turn,
    next_of_no_turn, fun _ _ _ => share_of_enough,
    fun h => ⟨exec_campEnter_of_live h,
      fun hopen hlive hstep => exec_campEnter_of_done h (doCampEnter_of_entering hopen hlive hstep),
      fun hopen hlive hstep => exec_campEnter_of_done h (doCampEnter_of_idle hopen hlive hstep)⟩,
    next_of_turn, fun ⟨hrun, hstep, hgap⟩ => exec_campLinkLow_second hrun hstep hgap,
    fun hno hno2 => (next_of_no_turn hno).trans (next_of_no_turn hno2),
    fun ⟨hrun, hstep⟩ => exec_campEntryComplete_of_none hrun hstep,
    fun _ ⟨hrun, hstep⟩ => exec_campEntryComplete_of_woken hrun hstep, next_of_no_turn, ⟨rfl, rfl, rfl⟩,
    fun hcamp => ⟨fun hwoke => (next_of_turn hcamp).trans (next_of_turn hwoke),
      fun hno => (next_of_turn hcamp).trans (next_of_no_turn hno)⟩,
    fun hdev => ⟨exec_campWake_of_early hdev, exec_campWake_of_late hdev, exec_campWake_of_none hdev⟩⟩

end Sys2Proof.Machine
end

section
/-! PROOFS. The actuators (14_actuators): the commutators, the Pump, the Park lock and the Clutch. A served request goes by the
checks of its function, a row of a sequence by its step. -/

namespace Sys2Proof.Machine

/-! ### A period of a commutator -/

section period

variable {s : State} {n t : Nat}

/-- The duty of a period: 0 with STL or INV (R458). -/
def periodDuty (s : State) (n : Nat) : Rat :=
  if Nat.land (dutyWord s n).2 5 ≠ 0 then 0 else rclamp (-1) 1 (f32Val (dutyWord s n).1)

/-- The period that starts at t has its duty, which is written (R458). -/
def periodTaken (s : State) (n t : Nat) : State :=
  ridgeOut (setAct s n { actOf s n with startAt := t, duty := f32Of (periodDuty s n), ilim := false, refreshed := false })
    (actBase n + 1) 2 (f32Of (periodDuty s n)) (dutyWord s n).2

/-- The first mode that waits is entered with the period (R457). -/
def periodEntered (s : State) (n t : Nat) : State :=
  match (actOf s n).next with
  | [] => periodTaken s n t
  | m :: rest => actWaited (periodTaken s n t) n m rest

/-- The legs and Plumb follow the period that has started. -/
def periodTicked (s : State) (n t : Nat) : State := parkPlumb (actTick (periodEntered s n t) n)

theorem exec_actPeriodStart_of_none (h : periodStart s n = none) : exec (.actPeriodStart n) s = .next s := by
  change execActPeriodStart n s = _
  simp only [execActPeriodStart, h]

/-- A device that does not run, a shored block and a period that has been acted on start nothing (R457). -/
def periodIdle (s : State) (n t : Nat) : Prop :=
  running s = false ∨ isShored s (actBase n) = true ∨ (actOf s n).startAt = t

theorem periodIdle_iff : periodIdle s n t ↔
    (!running s) = true ∨ isShored s (actBase n) = true ∨ (actOf s n).startAt = t := by
  rw [periodIdle, Bool.not_eq_true']

theorem exec_actPeriodStart_of_idle (h : periodStart s n = some t) (hidle : periodIdle s n t) :
    exec (.actPeriodStart n) s = .next s := by
  change execActPeriodStart n s = _
  simp only [execActPeriodStart, h]
  exact next_of_turn (periodIdle_iff.mp hidle)

theorem exec_actPeriodStart_of_turn (h : periodStart s n = some t) (hturn : ¬ periodIdle s n t) :
    exec (.actPeriodStart n) s = .next (
      if 116 ≤ ob s (actBase n) 12 ∧ ob s (actBase n) 12 ≤ 127 then
        laneAction (setLive (periodTicked s n t) [ob s (actBase n) 12] true) 3 (ob s (actBase n) 12)
          ((s.tick - 1) * 32 + (t + 2 ^ 96 - s.dtPrev) % 2 ^ 96 / 671088640)
      else periodTicked s n t) := by
  change execActPeriodStart n s = _
  simp only [execActPeriodStart, h]
  exact next_of_no_turn (mt periodIdle_iff.mpr hturn)

end period

/-! ### The current limit, the refresh and the VGD lock-out -/

section limits

variable {s : State} {n : Nat} {uv : Int} {g : ActLeg}

/-- The current limit acts: the amplifier stands at Act.ILimit, for the first time in the period and past the blanking (R461). -/
def ilimActs (s : State) (n : Nat) (uv : Int) (g : ActLeg) : Prop :=
  running s = true ∧ actAbove s n 7 uv = true ∧ (!(actOf s n).ilim) = true
    ∧ g.hiAt + phasesOf (ob s (actBase n) 9) ≤ phases s

theorem exec_actIlimit_of_none (h : pwmOn s n = none) : exec (.actIlimit ⟨n, uv⟩) s = .next s := by
  change execActIlimit ⟨n, uv⟩ s = _
  simp only [execActIlimit, h]

theorem exec_actIlimit_of_acts (h : pwmOn s n = some g) (hacts : ilimActs s n uv g) :
    exec (.actIlimit ⟨n, uv⟩) s
      = .next (actTick (incOb (setAct s n { actOf s n with ilim := true }) (actBase n + 1) 4) n) := by
  change execActIlimit ⟨n, uv⟩ s = _
  simp only [execActIlimit, h]
  exact next_of_turn hacts

theorem exec_actIlimit_of_not_acts (h : pwmOn s n = some g) (hno : ¬ ilimActs s n uv g) :
    exec (.actIlimit ⟨n, uv⟩) s = .next s := by
  change execActIlimit ⟨n, uv⟩ s = _
  simp only [execActIlimit, h]
  exact next_of_no_turn hno

theorem exec_vgdLockout_of_idle (h : running s = false ∨ ob s 0x5E00 1 = 1) : exec .vgdLockout s = .next s :=
  next_of_turn (h.imp_left (congrArg not))

/-- The lock-out is counted and stamped, and the three commutators turn off (R466). -/
def vgdLocked (s : State) : State :=
  (List.range 3).foldl actOff (putOb (incOb (putOb s 0x5E00 1 1) 0x5E00 2) 0x5E00 3 (now s % 2 ^ 64))

theorem exec_vgdLockout_of_turn (hrun : running s = true) (hfree : ob s 0x5E00 1 ≠ 1) :
    exec .vgdLockout s = .next (
      if [Fn.pump, .parkLock, .clutch].any (fnLive s) then
        raiseAll (vgdLocked s) [.pump, .parkLock, .clutch] .bst 3 1 0x5E000100 0x5E000
      else vgdLocked s) :=
  next_of_no_turn (not_or.mpr ⟨not_not_running_of_running hrun, hfree⟩)

end limits

/-! ### The Pump -/

section pump

variable {s : State}

/-- The motion that Hall triplet 0 reads. -/
def pumpMotion (s : State) : Nat := (tabGet ({} : Hall) s.hall 0).io.motion

/-- The Pump's record of a rotor that turned at its start. -/
def withWindmill (s : State) (b : Bool) : State := { s with pump := { s.pump with windmill := b } }

/-- The same with the rotor braked from now on (R471). -/
def withBrake (s : State) (b : Bool) : State :=
  { s with pump := { s.pump with windmill := b, start := false, brake := true, brakeAt := now s } }

/-- The Pump is evaluated: each 10 ms, in ARMED and RUN (R469, R470). -/
theorem pumpEval_turn_iff : running s = true ∧ fnLive s .pump = true ∧ s.pump.evalAt + 10000000 ≤ now s ↔
    ¬ ((!running s) = true ∨ (!fnLive s .pump) = true ∨ now s < s.pump.evalAt + 10000000) := by
  simp only [not_or, Bool.not_eq_true', Bool.not_eq_false, not_lt]

/-- The start of the Pump asks for its rotor while MOTION is known (R471). -/
theorem pumpStart_turn_iff :
    running s = true ∧ fnState s .pump = .run ∧ s.pump.start = true ∧ pumpMotion s ≠ 3 ↔
    ¬ ((!running s) = true ∨ fnState s .pump ≠ .run ∨ (!s.pump.start) = true ∨ pumpMotion s = 3) := by
  simp only [not_or, Bool.not_eq_true', Bool.not_eq_false, not_not, ne_eq]

variable (h : ¬ ((!running s) = true ∨ fnState s .pump ≠ .run ∨ (!s.pump.start) = true ∨ pumpMotion s = 3))
include h

/-- A motor that turns is braked first (R471). -/
theorem exec_pumpStart_of_windmill (hm : pumpMotion s = 2) :
    exec .pumpStart s = .next (actEnter { s with pump := { s.pump with
      windmill := true, start := false, brake := true, brakeAt := now s } } 0 .brake) := by
  exact ((next_of_no_turn h).trans (next_of_turn hm)).trans
    (congrArg (fun b => Host.Outcome.next (actEnter (withBrake s b) 0 .brake)) (decide_eq_true hm))

/-- A motor at rest, or one that turns forward, is driven at once (R471). -/
theorem exec_pumpStart_of_other (hm : pumpMotion s ≠ 2) :
    exec .pumpStart s = .next (pumpDrive { s with pump := { s.pump with windmill := false } }
      (let hi := pumpRate s (obF s 0x5C03 8); if hi = 0 then 0 else (rodRate (rodAt s 6) : Rat) / (hi : Rat))) := by
  exact ((next_of_no_turn h).trans (next_of_no_turn hm)).trans
    (congrArg (fun b => Host.Outcome.next (pumpDrive (withWindmill s b) _)) (decide_eq_false hm))

end pump

/-- Settles O50: a commutator's rows by the period or the leg they act on, the lock-out by its status, and the Pump by its turn
and its motion. -/
theorem commutatorsAndPump : Obligations.CommutatorsAndPump := by
  intro s n leg uv
  refine ⟨fun t ht => ⟨exec_actPeriodStart_of_idle ht, fun hrun hopen hnew => exec_actPeriodStart_of_turn ht ?_⟩,
    exec_actPeriodStart_of_none, fun g hg => ⟨exec_actIlimit_of_acts hg, exec_actIlimit_of_not_acts hg⟩,
    exec_actIlimit_of_none, next_of_turn, next_of_no_turn, next_of_turn, next_of_no_turn, next_of_turn, next_of_no_turn,
    next_of_turn, next_of_no_turn, next_of_turn, next_of_no_turn, exec_vgdLockout_of_turn, exec_vgdLockout_of_idle,
    fun hturn => next_of_no_turn (pumpEval_turn_iff.mp hturn),
    fun hno => next_of_turn (not_not.mp (mt pumpEval_turn_iff.mpr hno)),
    fun hgo => exec_pumpStart_of_windmill (pumpStart_turn_iff.mp hgo),
    fun hgo => exec_pumpStart_of_other (pumpStart_turn_iff.mp hgo),
    fun hno => next_of_turn (not_not.mp (mt pumpStart_turn_iff.mpr hno)), fun _ _ => rfl⟩
  rintro (hoff | hshored | hsame)
  · exact ne_true_of_eq_false hoff hrun
  · exact ne_true_of_eq_false hopen hshored
  · exact hnew hsame

/-! ### The Park lock -/

section parkRequest

variable {s s1 : State} {r : Req} {q : QReq}

theorem doPark_out_of_run (h : fnState s .parkLock ≠ .run) : doPark s q = (s, 0x03000005) := if_pos h

theorem exec_parklockEngage_of_code {c : Nat} (h : served s (byteReq r 2 1) 0x5C13 1 = some (s1, q))
    (heff : doPark s1 q = (s1, c)) (hc : c ≠ 0) (hd : c ≠ deferred) :
    exec (.parklockEngage r) s = .next (refuse s1 q c) :=
  congrArg Host.Outcome.next (serveWrite_of_code h heff hc hd)

theorem exec_parklockEngage_of_done {t : State} (h : served s (byteReq r 2 1) 0x5C13 1 = some (s1, q))
    (heff : doPark s1 q = (t, 0)) : exec (.parklockEngage r) s = .next (reply t q 2 []) :=
  congrArg Host.Outcome.next (serveWrite_of_done h rfl heff)

theorem exec_parklockRelease_of_code {c : Nat} (h : served s (byteReq r 2 2) 0x5C13 1 = some (s1, q))
    (heff : doPark s1 q = (s1, c)) (hc : c ≠ 0) (hd : c ≠ deferred) :
    exec (.parklockRelease r) s = .next (refuse s1 q c) :=
  congrArg Host.Outcome.next (serveWrite_of_code h heff hc hd)

theorem exec_parklockRelease_of_done {t : State} (h : served s (byteReq r 2 2) 0x5C13 1 = some (s1, q))
    (heff : doPark s1 q = (t, 0)) : exec (.parklockRelease r) s = .next (reply t q 2 []) :=
  congrArg Host.Outcome.next (serveWrite_of_done h rfl heff)

/-- An engage asks for the drives, then for the interlock, then for the position (R475). -/
theorem doPark_engage (hrun : fnState s .parkLock = .run) (hv : leNat q.data = 1) :
    doPark s q = if fnState s .driveA = .run ∨ fnState s .driveB = .run then (s, 0x03000001)
      else if parkInterlock s = true then (s, 0x03000005)
      else if parkReport s = 2 ∨ s.plock.seq = 1 then (s, 0) else (parkStart s 1, 0) := by
  simp only [doPark, hrun, hv, ne_eq, not_true_eq_false, if_false, true_and, if_true,
    Nat.reduceEqDiff, false_and]

/-- A release asks for the Charger, then for the position (R475). -/
theorem doPark_release (hrun : fnState s .parkLock = .run) (hv : leNat q.data = 2) :
    doPark s q = if fnLive s .charger = true then (s, 0x03000001)
      else if parkReport s = 1 ∨ s.plock.seq = 2 then (s, 0) else (parkStart s 2, 0) := by
  simp only [doPark, hrun, hv, ne_eq, not_true_eq_false, if_false, true_and, Nat.reduceEqDiff,
    false_and]

end parkRequest

section parkStart

variable {s : State} {ls : List Nat} {b : Bool} {n v : Nat} {m : CommMode}

@[simp] theorem setLive_plock : (setLive s ls b).plock = s.plock :=
  List.foldlRecOn (motive := fun t : State => t.plock = s.plock) ls _ rfl fun _ h _ _ => h

/-- A mode other than OFF leaves the record of the Park lock. -/
theorem actEnter_plock (hm : m ≠ .off) : (actEnter s n m).plock = s.plock := by
  rw [actEnter, if_neg hm]
  exact setLive_plock

/-- A sequence of the Park lock starts now, whatever its commutator does first (R475, R476). -/
theorem parkStart_plock :
    (parkStart s v).plock
      = { s.plock with seq := v, t0 := now s, tooth := false, sf4 := s.plock.sf4 && decide (v ≠ 1) } := by
  rw [parkStart]
  split
  · exact actEnter_plock (by decide)
  · rfl

theorem reportOf_first {k l : Nat} (hk : 3 ≤ k) : reportOf true k l = 1 := if_pos hk

theorem reportOf_second {k l : Nat} (hk : 3 ≤ k) (hl : l < 3) : reportOf true l k = 2 :=
  (if_neg (Nat.not_le.mpr hl)).trans (if_pos hk)

end parkStart

section parkRows

variable {s : State}

/-- The Park lock's position is read each 1 ms outside SHORED and LOCKOUT (R474). -/
theorem parkReport_turn_iff :
    running s = true ∧ fnState s .parkLock ≠ .shored ∧ fnState s .parkLock ≠ .lockout ∧ s.plock.repAt + 1000000 ≤ now s ↔
    ¬ ((!running s) = true ∨ fnState s .parkLock = .shored ∨ fnState s .parkLock = .lockout
      ∨ now s < s.plock.repAt + 1000000) := by
  simp only [not_or, Bool.not_eq_true', Bool.not_eq_false, not_lt, ne_eq]

end parkRows

/-- Settles O51: a request by the checks of R475 in their order, the rows of a sequence in and out of their turn, and what the
start of a sequence and a report hold. -/
theorem parkLockSequence : Obligations.ParkLockSequence := by
  intro s s1 r q
  refine ⟨fun h => ?_, fun h => ?_, fun v => ⟨congrArg ParkLock.seq parkStart_plock, congrArg ParkLock.t0 parkStart_plock⟩,
    next_of_turn, next_of_no_turn, next_of_turn, next_of_no_turn, fun hturn => next_of_no_turn (parkReport_turn_iff.mp hturn),
    fun hno => next_of_turn (not_not.mp (mt parkReport_turn_iff.mpr hno)),
    fun hrun => next_of_no_turn (not_not_running_of_running hrun), fun hoff => next_of_turn (congrArg not hoff),
    fun k l hk => ⟨reportOf_first hk, reportOf_second hk, rfl⟩⟩
  · have hv : leNat q.data = 1 := leNat_of_served_byteReq (by decide) h
    refine ⟨fun hout => exec_parklockEngage_of_code h (doPark_out_of_run hout) (by decide) (by decide), fun hrun =>
      ⟨fun hdrive => exec_parklockEngage_of_code h ?_ (by decide) (by decide), fun hA hB =>
        ⟨fun hlock => exec_parklockEngage_of_code h ?_ (by decide) (by decide),
          fun hfree hthere => exec_parklockEngage_of_done h ?_,
          fun hfree hpos hseq => exec_parklockEngage_of_done h ?_⟩⟩⟩
    all_goals rw [doPark_engage hrun hv]
    · exact if_pos hdrive
    · rw [if_neg (not_or.mpr ⟨hA, hB⟩), if_pos hlock]
    · rw [if_neg (not_or.mpr ⟨hA, hB⟩), if_neg (ne_true_of_eq_false hfree), if_pos hthere]
    · rw [if_neg (not_or.mpr ⟨hA, hB⟩), if_neg (ne_true_of_eq_false hfree), if_neg (not_or.mpr ⟨hpos, hseq⟩)]
  · have hv : leNat q.data = 2 := leNat_of_served_byteReq (by decide) h
    refine ⟨fun hout => exec_parklockRelease_of_code h (doPark_out_of_run hout) (by decide) (by decide),
      fun hrun hlive => exec_parklockRelease_of_code h ?_ (by decide) (by decide),
      fun hrun hidle hthere => exec_parklockRelease_of_done h ?_,
      fun hrun hidle hpos hseq => exec_parklockRelease_of_done h ?_⟩
    all_goals rw [doPark_release hrun hv]
    · exact if_pos hlive
    · rw [if_neg (ne_true_of_eq_false hidle), if_pos hthere]
    · rw [if_neg (ne_true_of_eq_false hidle), if_neg (not_or.mpr ⟨hpos, hseq⟩)]

/-! ### The Clutch -/

section clutch

variable {s s1 : State} {r : Req} {q : QReq}

/-- A close asks for RUN of the Clutch and of Drive B and for both rod words (R481). -/
def clutchMayClose (s : State) : Prop := fnState s .clutch = .run ∧ fnState s .driveB = .run ∧ clutchRodsOk s = true

/-- A close runs: its match, its travel or the return before a retry. -/
def clutchCloses (s : State) : Prop := s.clutch.st = 1 ∨ s.clutch.st = 2 ∨ s.clutch.st = 3

theorem doClutch_out_of_run (h : fnState s .clutch ≠ .run) : doClutch s q = (s, 0x03000005) := if_pos h

/-- A close in RUN asks for Drive B and the rod words, then for a close that runs (R481, log 33). -/
theorem doClutch_close (hrun : fnState s .clutch = .run) (hv : leNat q.data = 1) :
    doClutch s q = if fnState s .driveB ≠ .run ∨ (!clutchRodsOk s) = true then (s, 0x03000005)
      else if s.clutch.st = 1 ∨ s.clutch.st = 2 ∨ s.clutch.st = 3 then (s, 0)
      else (clutchMatchStart (putOb (actOff { s with clutch := { s.clutch with retries := 0 } } 2) 0x5C25 2 0), 0) :=
  (if_neg (not_not_intro hrun)).trans (if_pos hv)

theorem doClutch_close_of_not_allowed (hv : leNat q.data = 1) (h : ¬ clutchMayClose s) :
    doClutch s q = (s, 0x03000005) := by
  by_cases hrun : fnState s .clutch = .run
  · rw [doClutch_close hrun hv, if_pos]
    by_contra hno
    rw [not_or, not_not, Bool.not_eq_true', Bool.not_eq_false] at hno
    exact h ⟨hrun, hno⟩
  · exact doClutch_out_of_run hrun

section allowed

variable (hv : leNat q.data = 1) (h : clutchMayClose s)
include hv h

theorem doClutch_close_of_allowed :
    doClutch s q = if s.clutch.st = 1 ∨ s.clutch.st = 2 ∨ s.clutch.st = 3 then (s, 0)
      else (clutchMatchStart (putOb (actOff { s with clutch := { s.clutch with retries := 0 } } 2) 0x5C25 2 0), 0) := by
  obtain ⟨hrun, hB, hrods⟩ := h
  rw [doClutch_close hrun hv, if_neg (not_or.mpr ⟨not_not_intro hB, ne_true_of_eq_false (congrArg not hrods)⟩)]

theorem doClutch_close_of_closing (hbusy : clutchCloses s) : doClutch s q = (s, 0) :=
  (doClutch_close_of_allowed hv h).trans (if_pos hbusy)

theorem doClutch_close_of_free (hfree : ¬ clutchCloses s) :
    doClutch s q
      = (clutchMatchStart (putOb (actOff { s with clutch := { s.clutch with retries := 0 } } 2) 0x5C25 2 0), 0) :=
  (doClutch_close_of_allowed hv h).trans (if_neg hfree)

end allowed

/-- The Clutch's record holds nothing of Drive B. -/
theorem clutchTorque_withClutch (u : State) (y : Clutch) (t : Rat) :
    clutchTorque { u with clutch := y } t = setDrv { u with clutch := y } .b { drvOf u .b with clutchT := some t } := rfl

/-- An open unloads Drive B where it is in RUN, and drives open at once elsewhere (R483). -/
theorem doClutch_open (hrun : fnState s .clutch = .run) (hv : leNat q.data = 2) :
    doClutch s q = if fnState s .driveB = .run then
        (clutchTorque { clutchGo (actOff s 2) 5 with
          clutch := { (clutchGo (actOff s 2) 5).clutch with sync := true, match_ := false } } 0, 0)
      else (clutchGo (clutchDrive (clutchRelease s) false) 6, 0) :=
  (if_neg (not_not_intro hrun)).trans (if_neg (by rw [hv]; decide))

theorem exec_clutchClose_of_done {t : State} (h : served s (byteReq r 2 1) 0x5C23 1 = some (s1, q))
    (heff : doClutch s1 q = (t, 0)) : exec (.clutchClose r) s = .next (reply t q 2 []) :=
  congrArg Host.Outcome.next (serveWrite_of_done h rfl heff)

theorem exec_clutchClose_of_not_allowed (h : served s (byteReq r 2 1) 0x5C23 1 = some (s1, q))
    (hno : ¬ clutchMayClose s1) : exec (.clutchClose r) s = .next (refuse s1 q 0x03000005) :=
  congrArg Host.Outcome.next (serveWrite_of_code h
    (doClutch_close_of_not_allowed (leNat_of_served_byteReq (by decide) h) hno) (by decide) (by decide))

theorem exec_clutchOpen_of_done {t : State} (h : served s (byteReq r 2 2) 0x5C23 1 = some (s1, q))
    (heff : doClutch s1 q = (t, 0)) : exec (.clutchOpen r) s = .next (reply t q 2 []) :=
  congrArg Host.Outcome.next (serveWrite_of_done h rfl heff)

theorem exec_clutchOpen_out_of_run (h : served s (byteReq r 2 2) 0x5C23 1 = some (s1, q))
    (hout : fnState s1 .clutch ≠ .run) : exec (.clutchOpen r) s = .next (refuse s1 q 0x03000005) :=
  congrArg Host.Outcome.next (serveWrite_of_code h (doClutch_out_of_run hout) (by decide) (by decide))

/-- Drive B's torque is updated each 1 ms of a close (R480). -/
def torqueTurn (s : State) : Prop :=
  (clutchAt s 1 || clutchAt s 2 || clutchAt s 3) = true ∧ s.clutch.torqueAt + 1000000 ≤ now s

theorem torqueTurn_iff : torqueTurn s ↔
    ¬ ((!(clutchAt s 1 || clutchAt s 2 || clutchAt s 3)) = true ∨ now s < s.clutch.torqueAt + 1000000) := by
  rw [torqueTurn, not_or, Bool.not_eq_true', Bool.not_eq_false, not_lt]

/-- The Clutch's position is read each 1 ms outside SHORED and LOCKOUT (R479). -/
theorem clutchReport_turn_iff :
    running s = true ∧ fnState s .clutch ≠ .shored ∧ fnState s .clutch ≠ .lockout ∧ s.clutch.repAt + 1000000 ≤ now s ↔
    ¬ ((!running s) = true ∨ fnState s .clutch = .shored ∨ fnState s .clutch = .lockout
      ∨ now s < s.clutch.repAt + 1000000) := by
  simp only [not_or, Bool.not_eq_true', Bool.not_eq_false, not_lt, ne_eq]

end clutch

/-- Settles O52: a request by the checks of R481 and R483, and each row of a sequence in and out of its step. -/
theorem clutchSequence : Obligations.ClutchSequence := by
  intro s s1 r q
  refine ⟨fun h => ?_, fun h => ?_, next_of_turn, next_of_no_turn, next_of_turn, next_of_no_turn, next_of_turn,
    next_of_no_turn, next_of_turn, next_of_no_turn, next_of_turn, next_of_no_turn, next_of_turn, next_of_no_turn,
    fun hturn => next_of_no_turn (torqueTurn_iff.mp hturn), fun hno => next_of_turn (not_not.mp (mt torqueTurn_iff.mpr hno)),
    fun hturn => next_of_no_turn (clutchReport_turn_iff.mp hturn),
    fun hno => next_of_turn (not_not.mp (mt clutchReport_turn_iff.mpr hno)), rfl⟩
  · have hv : leNat q.data = 1 := leNat_of_served_byteReq (by decide) h
    exact ⟨exec_clutchClose_of_not_allowed h,
      fun hmay hbusy => exec_clutchClose_of_done h (doClutch_close_of_closing hv hmay hbusy),
      fun hmay hfree => exec_clutchClose_of_done h (doClutch_close_of_free hv hmay hfree)⟩
  · have hv : leNat q.data = 2 := leNat_of_served_byteReq (by decide) h
    exact ⟨exec_clutchOpen_out_of_run h,
      fun hrun hB => exec_clutchOpen_of_done h (((doClutch_open hrun hv).trans (if_pos hB)).trans
        (congrArg (fun t => (t, 0)) (clutchTorque_withClutch (clutchGo (actOff s1 2) 5) _ 0))),
      fun hrun hB => exec_clutchOpen_of_done h ((doClutch_open hrun hv).trans (if_neg hB))⟩

end Sys2Proof.Machine
end

section
/-! PROOFS. Safety (15_safety): Plumb's supervision, Waybill, the discharge, and the twin-key transaction. A served request goes by
the checks of its row in their order. -/

namespace Sys2Proof.Machine

/-! ### Waybill -/

section command

variable {s : State} {x : WbFrame} {n : Nat}

/-- A frame that the device serves and whose transport takes it up. -/
def wbTakes (s : State) (x : WbFrame) : Prop := serving s = true ∧ rxReady s x.tr x.bytes = true

theorem wbTakes_iff : wbTakes s x ↔ ¬ (!serving s || !rxReady s x.tr x.bytes) = true := by
  rw [wbTakes, Bool.or_eq_true, not_or, Bool.not_eq_true', Bool.not_eq_false, Bool.not_eq_true', Bool.not_eq_false]

theorem exec_waybillCommand_of_not_taken (h : ¬ wbTakes s x) : exec (.waybillCommand x) s = .next s :=
  next_of_turn (not_not.mp (mt wbTakes_iff.mpr h))

section taken

variable (h : wbTakes s x)
include h

theorem exec_waybillCommand_of_bad_form (hform : ¬ wbFormOk (takeRx s x.tr x.bytes).2 x = true) :
    exec (.waybillCommand x) s = .next (incOb (takeRx s x.tr x.bytes).2 0x6040 3) :=
  (next_of_no_turn (wbTakes_iff.mp h)).trans (next_of_turn ((Bool.not_eq_true' _).mpr (eq_false_of_ne_true hform)))

variable (hform : wbFormOk (takeRx s x.tr x.bytes).2 x = true)
include hform

theorem exec_waybillCommand_of_bad_seq
    (hseq : ¬ wbSeqOk (wbOf (takeRx s x.tr x.bytes).2 (wbField x 1 1)) (wbField x 2 2) = true) :
    exec (.waybillCommand x) s = .next (incOb (takeRx s x.tr x.bytes).2 0x6040 4) :=
  ((next_of_no_turn (wbTakes_iff.mp h)).trans (next_of_no_turn (ne_true_of_eq_false (congrArg not hform)))).trans
    (next_of_turn ((Bool.not_eq_true' _).mpr (eq_false_of_ne_true hseq)))

variable (hseq : wbSeqOk (wbOf (takeRx s x.tr x.bytes).2 (wbField x 1 1)) (wbField x 2 2) = true)
include hseq

/-- A frame in form and in sequence goes by its profile's slot (R504). -/
theorem exec_waybillCommand_of_good :
    exec (.waybillCommand x) s = .next (match (wbOf (takeRx s x.tr x.bytes).2 (wbField x 1 1)).slot with
      | some k => wbAccept (takeRx s x.tr x.bytes).2 (wbField x 1 1) k x (takeRx s x.tr x.bytes).1
      | none =>
        match wbFreeSlot (takeRx s x.tr x.bytes).2 with
        | none => incOb (takeRx s x.tr x.bytes).2 0x6040 5
        | some k => wbAccept (takeRx s x.tr x.bytes).2 (wbField x 1 1) k x (takeRx s x.tr x.bytes).1) :=
  ((next_of_no_turn (wbTakes_iff.mp h)).trans (next_of_no_turn (ne_true_of_eq_false (congrArg not hform)))).trans
    (next_of_no_turn (ne_true_of_eq_false (congrArg not hseq)))

theorem exec_waybillCommand_of_slot (hslot : (wbOf (takeRx s x.tr x.bytes).2 (wbField x 1 1)).slot = some n) :
    exec (.waybillCommand x) s
      = .next (wbAccept (takeRx s x.tr x.bytes).2 (wbField x 1 1) n x (takeRx s x.tr x.bytes).1) := by
  simp only [exec_waybillCommand_of_good h hform hseq, hslot]

variable (hslot : (wbOf (takeRx s x.tr x.bytes).2 (wbField x 1 1)).slot = none)
include hslot

theorem exec_waybillCommand_of_no_slot (hfree : wbFreeSlot (takeRx s x.tr x.bytes).2 = none) :
    exec (.waybillCommand x) s = .next (incOb (takeRx s x.tr x.bytes).2 0x6040 5) := by
  simp only [exec_waybillCommand_of_good h hform hseq, hslot, hfree]

theorem exec_waybillCommand_of_free_slot (hfree : wbFreeSlot (takeRx s x.tr x.bytes).2 = some n) :
    exec (.waybillCommand x) s
      = .next (wbAccept (takeRx s x.tr x.bytes).2 (wbField x 1 1) n x (takeRx s x.tr x.bytes).1) := by
  simp only [exec_waybillCommand_of_good h hform hseq, hslot, hfree]

end taken

end command

section connect

variable {s s1 : State} {r : Req} {q : QReq} {n : Nat}

/-- A profile that is disabled or holds a slot does not connect by a request (R504). -/
def wbNotFree (s : State) (p : Nat) : Prop := ob s (wbIdx p) 1 ≠ 1 ∨ (wbOf s p).slot.isSome = true

theorem doConnect_of_not_free (h : wbNotFree s (leNat q.data)) : doConnect s q = (s, 0x02000006) := if_pos h

section free

variable (hon : ob s (wbIdx (leNat q.data)) 1 = 1) (hslot : (wbOf s (leNat q.data)).slot = none)
include hon hslot

theorem doConnect_of_free :
    doConnect s q = match wbFreeSlot s with
      | none => (s, 0x03000004)
      | some k => (wbConnect s (leNat q.data) k, 0) :=
  if_neg (not_or.mpr ⟨not_not_intro hon, by rw [hslot]; decide⟩)

theorem doConnect_of_no_slot (hfree : wbFreeSlot s = none) : doConnect s q = (s, 0x03000004) := by
  rw [doConnect_of_free hon hslot, hfree]

theorem doConnect_of_slot (hfree : wbFreeSlot s = some n) : doConnect s q = (wbConnect s (leNat q.data) n, 0) := by
  rw [doConnect_of_free hon hslot, hfree]

end free

variable (h : served s r 0x6040 6 = some (s1, q))
include h

theorem exec_waybillConnect_of_code {c : Nat} (heff : doConnect s1 q = (s1, c)) (hc : c ≠ 0) (hd : c ≠ deferred) :
    exec (.waybillConnect r) s = .next (refuse s1 q c) :=
  congrArg Host.Outcome.next (serveWrite_of_code h heff hc hd)

theorem exec_waybillConnect_of_slot (hon : ob s1 (wbIdx (leNat q.data)) 1 = 1)
    (hslot : (wbOf s1 (leNat q.data)).slot = none) (hfree : wbFreeSlot s1 = some n) :
    exec (.waybillConnect r) s = .next (reply (wbConnect s1 (leNat q.data) n) q 2 []) :=
  congrArg Host.Outcome.next (serveWrite_of_done h rfl (doConnect_of_slot hon hslot hfree))

end connect

/-! ### The refused reset out of LOCKOUT -/

section reset

variable {s s1 : State} {r : Req} {q : QReq}

/-- Safety.Lockout.Reset is an object that may be written, and whoever may write it is refused (R497). -/
theorem checkWrite_lockoutReset (hidx : q.idx = 0x6007) (hsub : q.sub = 0) (hrole : hasRole s q.ses 2 = true) :
    checkWrite s q = 0x05000004 := by
  have hrow : rowOf 0x6007 0 = some ⟨0x6007, 1, 1, 0, 1, 4, .wo, 0, .all, false⟩ := by decide +kernel
  simp [checkWrite, hidx, hsub, hrow, shoreNoBlock, accAt, writeRole, accessCode, hrole]

theorem exec_lockoutResetWrite (h : admitted s r 2 0x6007 0 = (s1, some q)) (hidx : q.idx = 0x6007) (hsub : q.sub = 0)
    (hrole : hasRole s1 q.ses 2 = true) : exec (.lockoutResetWrite r) s = .next (refuse s1 q 0x05000004) := by
  have hcode := checkWrite_lockoutReset hidx hsub hrole
  have hserve := serveWrite_of_refused (fun t _ => (t, 0x05000004)) h (by rw [hcode]; decide)
  exact congrArg Host.Outcome.next (hserve.trans (by rw [hcode]))

end reset

/-- Settles O53: supervision by the run of the device, a Waybill frame by its form, its sequence and its slot, a request to
connect by its profile, and the discharge in and out of its time. -/
theorem supervisionAndWaybill : Obligations.SupervisionAndWaybill := by
  intro s s1 r q x p
  refine ⟨fun hrun => ⟨next_of_turn hrun, ?_, fun z hz => ?_⟩,
    fun hoff => ⟨next_of_no_turn (ne_true_of_eq_false hoff), fun z => next_of_turn (congrArg not hoff)⟩,
    exec_waybillCommand_of_not_taken, exec_waybillCommand_of_bad_form, exec_waybillCommand_of_bad_seq,
    fun htake hform hseq => ⟨fun n => exec_waybillCommand_of_slot htake hform hseq,
      exec_waybillCommand_of_no_slot htake hform hseq, fun n => exec_waybillCommand_of_free_slot htake hform hseq⟩,
    next_of_turn, next_of_no_turn, next_of_turn, next_of_no_turn, next_of_turn, next_of_no_turn, next_of_turn,
    next_of_no_turn,
    fun h => ⟨fun hno => exec_waybillConnect_of_code h (doConnect_of_not_free hno) (by decide) (by decide),
      fun hon hslot => ⟨fun hfree => exec_waybillConnect_of_code h (doConnect_of_no_slot hon hslot hfree) (by decide)
        (by decide), fun n => exec_waybillConnect_of_slot h hon hslot⟩⟩,
    exec_lockoutResetWrite⟩
  · exact (next_of_no_turn (not_not_running_of_running hrun)).trans (next_of_turn rfl)
  · exact (next_of_no_turn (not_not_running_of_running hrun)).trans (next_of_no_turn hz)

/-! ### The twin-key transaction: its requests -/

section transaction

variable {s s1 t : State} {r : Req} {q : QReq} {c : Nat}

/-! A write to Safety.Tk.Command is the operation that its value names (R517, R519, R520). -/

theorem doTkCommand_open (hv : leNat q.data = 1) : doTkCommand s q = doTkOpen s q := if_pos hv

theorem doTkCommand_propose (hv : leNat q.data = 2) : doTkCommand s q = doTkPropose s q := by
  rw [doTkCommand, hv, if_neg (by decide), if_pos rfl]

theorem doTkCommand_commit (hv : leNat q.data = 3) : doTkCommand s q = doTkCommit s q := by
  rw [doTkCommand, hv, if_neg (by decide), if_neg (by decide), if_pos rfl]

theorem doTkCommand_abort (hv : leNat q.data = 4) : doTkCommand s q = doTkAbort s q := by
  rw [doTkCommand, hv, if_neg (by decide), if_neg (by decide), if_neg (by decide)]

section served

variable {v : Nat} (h : served s (byteReq r 2 v) 0x6001 1 = some (s1, q))
include h

theorem serveTk_of_done (heff : doTkCommand s1 q = (t, 0)) :
    serveWrite s (byteReq r 2 v) 0x6001 1 doTkCommand = reply t q 2 [] :=
  serveWrite_of_done h rfl heff

theorem serveTk_of_code (heff : doTkCommand s1 q = (t, c)) (hc : c ≠ 0) (hd : c ≠ deferred) :
    serveWrite s (byteReq r 2 v) 0x6001 1 doTkCommand = refuse t q c :=
  serveWrite_of_code h heff hc hd

/-- An answer that waits leaves the state as the operation made it (log 17). -/
theorem serveTk_of_deferred (heff : doTkCommand s1 q = (t, deferred)) :
    serveWrite s (byteReq r 2 v) 0x6001 1 doTkCommand = t := by
  rw [serveWrite_of_served doTkCommand h, heff, conclude_deferred]

end served

/-! OPEN -/

theorem doTkOpen_of_busy (h : s.saf.tk ≠ 0) : doTkOpen s q = (s, 0x05000002) := if_pos h

theorem doTkOpen_of_unshored (h : s.saf.tk = 0) (hout : s.dev ≠ .preop ∨ shoredBy s 0x6000 q.ses = false) :
    doTkOpen s q = (s, 0x03000005) :=
  (if_neg (not_not_intro h)).trans (if_pos (hout.imp_right (congrArg not)))

theorem doTkOpen_of_free (h : s.saf.tk = 0) (hdev : s.dev = .preop) (hshored : shoredBy s 0x6000 q.ses = true) :
    doTkOpen s q = ({ s with saf := { s.saf with
      tk := 1, keeper := some q.ses, witness := none, tkOpened := q.stamp, tkPend := [], tkList := [],
      staged := [] } }, 0) :=
  (if_neg (not_not_intro h)).trans
    (if_neg (not_or.mpr ⟨not_not_intro hdev, ne_true_of_eq_false (congrArg not hshored)⟩))

/-! PROPOSE -/

/-- The cross-checks of a pending set know one refusal (R517). -/
theorem tkCheck_eq_zero_or (view : Nat → Cell) (l : List Nat) : tkCheck s view l = 0 ∨ tkCheck s view l = 0x02000006 := by
  unfold tkCheck
  split
  · exact .inr rfl
  · split
    · exact .inr rfl
    · exact .inl rfl

theorem doTkPropose_of_other (h : s.saf.tk ≠ 1 ∨ s.saf.keeper ≠ some q.ses) : doTkPropose s q = (s, 0x05000002) :=
  if_pos h

section keeper

variable (htk : s.saf.tk = 1) (hkeeper : s.saf.keeper = some q.ses)
include htk hkeeper

theorem doTkPropose_of_bad (hbad : tkCheck s (tkView s) s.saf.tkList ≠ 0) : doTkPropose s q = (s, 0x02000006) := by
  have hcode := (tkCheck_eq_zero_or (tkView s) s.saf.tkList).resolve_left hbad
  exact ((if_neg (not_or.mpr ⟨not_not_intro htk, not_not_intro hkeeper⟩)).trans (if_pos hbad)).trans
    (congrArg (Prod.mk s) hcode)

theorem doTkPropose_of_good (hgood : tkCheck s (tkView s) s.saf.tkList = 0) :
    doTkPropose s q
      = ({ s with saf := { s.saf with tk := 2, proposed := (checkOf s (tkView s) (stagedCrc s)).toNat } }, 0) :=
  (if_neg (not_or.mpr ⟨not_not_intro htk, not_not_intro hkeeper⟩)).trans (if_neg (not_not_intro hgood))

end keeper

/-! APPROVE -/

theorem doTkApprove_of_none (h : s.saf.tk ≠ 2) : doTkApprove s q = (s, 0x05000002) := if_pos h

section proposed

variable (h : s.saf.tk = 2)
include h

theorem doTkApprove_of_same_key (hsame : tkDistinct s q.ses = false) : doTkApprove s q = (s, 0x05000003) :=
  (if_neg (not_not_intro h)).trans (if_pos (congrArg not hsame))

variable (hother : tkDistinct s q.ses = true)
include hother

theorem doTkApprove_of_value (hv : leNat q.data = s.saf.proposed) :
    doTkApprove s q = ({ s with saf := { s.saf with tk := 3, witness := some q.ses } }, 0) :=
  ((if_neg (not_not_intro h)).trans (if_neg (ne_true_of_eq_false (congrArg not hother)))).trans (if_pos hv)

theorem doTkApprove_of_other_value (hv : leNat q.data ≠ s.saf.proposed) :
    doTkApprove s q = (abortTk s 0x02000006, 0x02000006) :=
  ((if_neg (not_not_intro h)).trans (if_neg (ne_true_of_eq_false (congrArg not hother)))).trans (if_neg hv)

end proposed

/-! COMMIT -/

theorem doTkCommit_of_other (h : s.saf.tk ≠ 3 ∨ s.saf.keeper ≠ some q.ses ∨ s.saf.committing.isSome = true) :
    doTkCommit s q = (s, 0x05000002) := if_pos h

/-- The state at the commit instant: the pending values are in effect, and the answer waits (R518). -/
def tkCommitted (s : State) (q : QReq) : State :=
  let u := s.saf.tkPend.foldl (fun t e => setCell t e.1 e.2) s
  { u with saf := { u.saf with tkPend := [], committing := some (q, now s) } }

theorem doTkCommit_of_approved (htk : s.saf.tk = 3) (hkeeper : s.saf.keeper = some q.ses)
    (hfree : s.saf.committing = none) :
    doTkCommit s q = (afterCommit s (tkRestart ((tkCommitted s q).saf.wb.foldl freeSlot (tkCommitted s q)) s.saf.tkList),
      deferred) :=
  if_neg (not_or.mpr ⟨not_not_intro htk, not_or.mpr ⟨not_not_intro hkeeper, by rw [hfree]; decide⟩⟩)

/-! ABORT -/

theorem doTkAbort_of_none (h : s.saf.tk = 0 ∨ s.saf.committing.isSome = true) : doTkAbort s q = (s, 0x05000002) :=
  if_pos h

section abort

variable (htk : s.saf.tk ≠ 0) (hfree : s.saf.committing = none)
include htk hfree

/-- A transaction before its commit is aborted by its keeper or by a distinct witness (R119, R519). -/
theorem doTkAbort_of_open :
    doTkAbort s q = if s.saf.keeper = some q.ses then (abortTk s 0, 0)
      else if (!hasRole s q.ses 16) = true then (s, 0x05000002)
      else if (!tkDistinct s q.ses) = true then (s, 0x05000003) else (abortTk s 0, 0) :=
  if_neg (not_or.mpr ⟨htk, by rw [hfree]; decide⟩)

end abort

section rows

/-- ABORT, row by row: each session by its keys (R119, R519). -/
theorem exec_tkAbort_of_open (h : served s (byteReq r 2 4) 0x6001 1 = some (s1, q)) (htk : s1.saf.tk ≠ 0)
    (hfree : s1.saf.committing = none) :
    exec (.tkAbort r) s = .next (if s1.saf.keeper = some q.ses then reply (abortTk s1 0) q 2 []
      else if hasRole s1 q.ses 16 = false then refuse s1 q 0x05000002
      else if tkDistinct s1 q.ses = false then refuse s1 q 0x05000003 else reply (abortTk s1 0) q 2 []) := by
  have hcmd := (doTkCommand_abort (leNat_of_served_byteReq (by decide) h)).trans (doTkAbort_of_open htk hfree)
  refine congrArg Host.Outcome.next ?_
  split
  case isTrue hkeeper => exact serveTk_of_done h (hcmd.trans (if_pos hkeeper))
  case isFalse hkeeper =>
    rw [if_neg hkeeper] at hcmd
    split
    case isTrue hrole => exact serveTk_of_code h (hcmd.trans (if_pos (congrArg not hrole))) (by decide) (by decide)
    case isFalse hrole =>
      rw [if_neg (by rwa [Bool.not_eq_true'])] at hcmd
      split
      case isTrue hsame => exact serveTk_of_code h (hcmd.trans (if_pos (congrArg not hsame))) (by decide) (by decide)
      case isFalse hsame => exact serveTk_of_done h (hcmd.trans (if_neg (by rwa [Bool.not_eq_true'])))

theorem exec_tkApprove_of_code (h : served s r 0x6001 5 = some (s1, q)) (heff : doTkApprove s1 q = (t, c)) (hc : c ≠ 0)
    (hd : c ≠ deferred) : exec (.tkApprove r) s = .next (refuse t q c) :=
  congrArg Host.Outcome.next (serveWrite_of_code h heff hc hd)

theorem exec_tkApprove_of_done (h : served s r 0x6001 5 = some (s1, q)) (heff : doTkApprove s1 q = (t, 0)) :
    exec (.tkApprove r) s = .next (reply t q 4 []) :=
  congrArg Host.Outcome.next (serveWrite_of_done h rfl heff)

end rows

end transaction

/-! ### The end of a commit and the staging of seals -/

section commitDone

variable {s : State} {ok : Bool} {m : QReq} {t : Nat}

theorem exec_tkCommitDone_of_none (h : s.saf.committing = none) : exec (.tkCommitDone ok) s = .next s := by
  change execTkCommitDone ok s = _
  simp only [execTkCommitDone, h]

/-- The end of a commit comes in its time, in a device that runs (R490, R518). -/
def commitEnds (s : State) (t : Nat) : Prop :=
  running s = true ∧ t + (10 * s.saf.staged.length + 20) * 970000 ≤ now s

/-- The values persisted after the groups are blown, and the transaction at its end (steps 3 and 4 of R518). -/
def commitEnded (ok : Bool) (s : State) : State :=
  let u := s.saf.tkList.foldl persistAt (s.saf.staged.foldl (blowGroup ok) s)
  { u with saf := { u.saf with
    computed := checkValue u, confirmed := BitVec.ofNat 32 u.saf.proposed, tk := 0, keeper := none, witness := none,
    tkList := [], staged := [], committing := none, tkResult := 0 } }

/-- Block 0x6000 is released and the commit is answered (R518). -/
def commitAnswered (ok : Bool) (s : State) (m : QReq) : State :=
  let v := commitEnded ok s
  reply (if isShored v 0x6000 = true then releaseBlocks true v [0x6000] else v) m 2 []

/-- A check value that differs from the confirmed one is told (R514). -/
def commitChecked (ok : Bool) (s : State) (m : QReq) : State :=
  let d := commitAnswered ok s m
  if d.saf.computed ≠ d.saf.confirmed then raiseEv d .cfg 1 0 7 0x60030000 else d

variable (h : s.saf.committing = some (m, t))
include h

theorem exec_tkCommitDone_of_some :
    exec (.tkCommitDone ok) s = .next (
      if (!running s) = true ∨ now s < t + (10 * s.saf.staged.length + 20) * 970000 then s
      else if ok = true ∨ s.saf.staged = [] then commitChecked ok s m
      else raiseEv (commitChecked ok s m) .cfg 5 0 7 0x62000100) := by
  change execTkCommitDone ok s = _
  simp only [execTkCommitDone, h]
  rfl

theorem exec_tkCommitDone_of_early
    (hearly : running s = false ∨ now s < t + (10 * s.saf.staged.length + 20) * 970000) :
    exec (.tkCommitDone ok) s = .next s :=
  (exec_tkCommitDone_of_some h).trans (next_of_turn (hearly.imp_left (congrArg not)))

theorem exec_tkCommitDone_of_end (hrun : running s = true)
    (hend : t + (10 * s.saf.staged.length + 20) * 970000 ≤ now s) :
    exec (.tkCommitDone ok) s = .next (if ok = true ∨ s.saf.staged = [] then commitChecked ok s m
      else raiseEv (commitChecked ok s m) .cfg 5 0 7 0x62000100) := by
  rw [exec_tkCommitDone_of_some h, if_neg (not_or.mpr ⟨not_not_running_of_running hrun, not_lt.mpr hend⟩)]

end commitDone

section stage

variable {s s1 : State} {r : Req} {q : QReq} {g : Nat} {w : Row}

/-- The words that a request brings for a group (R511). -/
def stageWords (q : QReq) (g : Nat) : List (BitVec 16) :=
  (List.range (groupLen g)).map (fun n => BitVec.ofNat 16 (leNat ((q.data.drop (2 * n)).take 2)))

theorem doStage_of_bad_length (h : q.data.length ≠ 2 * groupLen g) : doStage g s q = (s, 0x02000006) := if_pos h

theorem doStage_of_closed (h : q.data.length = 2 * groupLen g) (hg : g = 6 ∨ g = 7 ∨ groupBlank s.fuse g = false) :
    doStage g s q = (s, 0x03000005) :=
  (if_neg (not_not_intro h)).trans (if_pos (hg.imp_right (Or.imp_right (congrArg not))))

theorem doStage_of_blank (h : q.data.length = 2 * groupLen g) (h6 : g ≠ 6) (h7 : g ≠ 7)
    (hblank : groupBlank s.fuse g = true) :
    doStage g s q = ({ s with saf := { s.saf with
      staged := tabPut s.saf.staged g (stageWords q g), tkList := tkNote s.saf.tkList (oaddr 0x6202 (g + 1)) } }, 0) :=
  (if_neg (not_not_intro h)).trans
    (if_neg (not_or.mpr ⟨h6, not_or.mpr ⟨h7, ne_true_of_eq_false (congrArg not hblank)⟩⟩))

variable (h : served s r 0x6202 (g + 1) = some (s1, q))
include h

theorem exec_sealStageWrite_of_code {c : Nat} (heff : doStage g s1 q = (s1, c)) (hc : c ≠ 0) (hd : c ≠ deferred) :
    exec (.sealStageWrite r g) s = .next (refuse s1 q c) :=
  congrArg Host.Outcome.next (serveWrite_of_code h heff hc hd)

theorem exec_sealStageWrite_of_done {t : State} (hw : rowOf 0x6202 (g + 1) = some w) (heff : doStage g s1 q = (t, 0)) :
    exec (.sealStageWrite r g) s = .next (reply t q w.ty []) :=
  congrArg Host.Outcome.next (serveWrite_of_done h (by rw [hw, Option.map_some]) heff)

end stage

/-- Settles O54: each request by the checks of R517 to R519 in their order, the end of a commit by its time, and the rows that
end a transaction or check it. -/
theorem twinKeyTransaction : Obligations.TwinKeyTransaction := by
  intro s s1 r q g w ok
  refine ⟨fun h => ?_, fun h => ?_, fun h => ?_, fun h => ?_, exec_tkCommitDone_of_none,
    fun m t hcommit => ⟨exec_tkCommitDone_of_early hcommit, exec_tkCommitDone_of_end hcommit⟩, fun h => ?_, next_of_turn,
    next_of_no_turn, fun h hw => ?_, next_of_turn, next_of_no_turn⟩
  · have hcmd := doTkCommand_open (s := s1) (leNat_of_served_byteReq (by decide) h)
    exact ⟨fun hbusy => congrArg Host.Outcome.next
        (serveTk_of_code h (hcmd.trans (doTkOpen_of_busy hbusy)) (by decide) (by decide)),
      fun hfree hout => congrArg Host.Outcome.next
        (serveTk_of_code h (hcmd.trans (doTkOpen_of_unshored hfree hout)) (by decide) (by decide)),
      fun hfree hdev hshored => congrArg Host.Outcome.next
        (serveTk_of_done h (hcmd.trans (doTkOpen_of_free hfree hdev hshored)))⟩
  · have hcmd := doTkCommand_propose (s := s1) (leNat_of_served_byteReq (by decide) h)
    exact ⟨fun hother => congrArg Host.Outcome.next
        (serveTk_of_code h (hcmd.trans (doTkPropose_of_other hother)) (by decide) (by decide)),
      fun htk hkeeper hbad => congrArg Host.Outcome.next
        (serveTk_of_code h (hcmd.trans (doTkPropose_of_bad htk hkeeper hbad)) (by decide) (by decide)),
      fun htk hkeeper hgood => congrArg Host.Outcome.next
        (serveTk_of_done h (hcmd.trans (doTkPropose_of_good htk hkeeper hgood)))⟩
  · exact ⟨fun hnone => exec_tkApprove_of_code h (doTkApprove_of_none hnone) (by decide) (by decide),
      fun htk hsame => exec_tkApprove_of_code h (doTkApprove_of_same_key htk hsame) (by decide) (by decide),
      fun htk hother => ⟨fun hv => exec_tkApprove_of_done h (doTkApprove_of_value htk hother hv),
        fun hv => exec_tkApprove_of_code h (doTkApprove_of_other_value htk hother hv) (by decide) (by decide)⟩⟩
  · have hcmd := doTkCommand_commit (s := s1) (leNat_of_served_byteReq (by decide) h)
    exact ⟨fun hother => congrArg Host.Outcome.next
        (serveTk_of_code h (hcmd.trans (doTkCommit_of_other hother)) (by decide) (by decide)),
      fun htk hkeeper hfree => congrArg Host.Outcome.next
        (serveTk_of_deferred h (hcmd.trans (doTkCommit_of_approved htk hkeeper hfree)))⟩
  · have hcmd := doTkCommand_abort (s := s1) (leNat_of_served_byteReq (by decide) h)
    exact ⟨fun hnone => congrArg Host.Outcome.next
        (serveTk_of_code h (hcmd.trans (doTkAbort_of_none hnone)) (by decide) (by decide)), exec_tkAbort_of_open h⟩
  · exact ⟨fun hlen => exec_sealStageWrite_of_code h (doStage_of_bad_length hlen) (by decide) (by decide),
      fun hlen hg => exec_sealStageWrite_of_code h (doStage_of_closed hlen hg) (by decide) (by decide),
      fun hlen h6 h7 hblank => exec_sealStageWrite_of_done h hw (doStage_of_blank hlen h6 h7 hblank)⟩

end Sys2Proof.Machine
end

section
/-! PROOFS. The Tally (16_tally): a raise by whether one of its class, scope and stamp waits, the commit of the next raise, and an
acknowledgement. -/

namespace Sys2Proof.Machine

section raises

variable {s : State} {c : Cls} {l sc stamp rank det : Nat} {k : Key} {y : Raise}

/-! ### The effective level (R528) -/

theorem effLevel_of_inactive (hl : 1 ≤ l) (h : k.active = false) : effLevel k l = l := by
  rw [effLevel, if_neg (by omega), h]
  rfl

theorem effLevel_of_acked (hl : 1 ≤ l) (h : k.active = true) (hack : k.unack = false) : effLevel k l = max l k.eff := by
  rw [effLevel, if_neg (by omega), h, hack]
  rfl

/-- A raise into a live key that is not acknowledged stands one level above it, at most at 5. -/
theorem effLevel_of_unacked (hl : 1 ≤ l) (h : k.active = true) (hack : k.unack = true) :
    effLevel k l = min 5 (max l (k.eff + 1)) := by
  rw [effLevel, if_neg (by omega), h, hack]
  rfl

/-! ### A raise -/

/-- The waiting raise of a class, a scope and a stamp (R527). -/
def waitingRaise (s : State) (c : Cls) (sc stamp : Nat) : Option Raise :=
  s.tally.raised.find? (fun r => decide (r.cls = c) && decide (r.scope = sc) && decide (r.stamp = stamp))

/-- The raise that a detector's event makes now of its key (R526, R535). -/
def newRaise (s : State) (c : Cls) (l sc rank det : Nat) : Raise :=
  { cls := c, lvl := l, eff := effLevel (keyAt s (keyNo c sc)) l, scope := sc, stamp := now s, rank := rank, detail := det,
    merged := false,
    count := if (keyRaise (keyAt s (keyNo c sc)) l (effLevel (keyAt s (keyNo c sc)) l) (now s) 0).active then
      (keyRaise (keyAt s (keyNo c sc)) l (effLevel (keyAt s (keyNo c sc)) l) (now s) 0).count else 1,
    seq := 0, due := max (now s + 1000) (now s) }

/-- The raise has entered its key and waits for its commit (R528, R535). -/
def raiseEntered (s : State) (c : Cls) (l sc rank det : Nat) : State :=
  let u := setKey s (keyNo c sc) (keyRaise (keyAt s (keyNo c sc)) l (effLevel (keyAt s (keyNo c sc)) l) (now s) 0)
  { u with tally := { u.tally with raised := u.tally.raised ++ [newRaise s c l sc rank det] } }

theorem raiseEv_of_none (h : waitingRaise s c sc (now s) = none) :
    raiseEv s c l sc rank det = reaction (raiseEntered s c l sc rank det) (newRaise s c l sc rank det) := by
  rw [waitingRaise] at h
  simp only [raiseEv, raiseAt, h]
  rfl

/-- The effective level of a merged raise (R527). -/
def mergedEff (s : State) (c : Cls) (l sc : Nat) (y : Raise) : Nat :=
  if l ≤ y.lvl then y.eff else if y.lvl = 0 then effLevel (keyAt s (keyNo c sc)) l else max y.eff l

/-- A waiting raise after another of its class, scope and stamp (R527). -/
def mergedRaise (s : State) (c : Cls) (l sc : Nat) (y : Raise) : Raise :=
  { y with lvl := max y.lvl l, eff := mergedEff s c l sc y, merged := true }

/-- The merged raise stands in the place of the waiting one and in its key (R527). -/
def raiseMerged (s : State) (c : Cls) (l sc : Nat) (y : Raise) : State :=
  let k := keyAt s (keyNo c sc)
  let m := setKey s (keyNo c sc) (if l = 0 then { k with
      srcs := (keyRaise k 0 0 (now s) 0).srcs, from_ := (keyRaise k 0 0 (now s) 0).from_ }
    else { keyRaise k l (max k.eff (mergedEff s c l sc y)) (now s) 0 with count := if k.active then k.count else 1 })
  { m with tally := { m.tally with raised := m.tally.raised.map (fun r => if r = y then mergedRaise s c l sc y else r) } }

theorem raiseEv_of_some (h : waitingRaise s c sc (now s) = some y) :
    raiseEv s c l sc rank det = if y.eff < mergedEff s c l sc y then
      reaction (raiseMerged s c l sc y) (mergedRaise s c l sc y) else raiseMerged s c l sc y := by
  rw [waitingRaise] at h
  simp only [raiseEv, raiseAt, h]
  rfl

/-! ### A commit -/

theorem exec_faultCommit_of_some (h : nextCommit s = some y) :
    exec .faultCommit s = .next (if running s = true then commitRaise s y else s) := by
  change execFaultCommit s = _
  simp only [execFaultCommit, h]

theorem exec_faultCommit_of_idle (h : nextCommit s = none ∨ running s = false) : exec .faultCommit s = .next s := by
  cases hn : nextCommit s with
  | none =>
    change execFaultCommit s = _
    simp only [execFaultCommit, hn]
  | some y =>
    rcases h with hnone | hoff
    · exact absurd (hn.symm.trans hnone) (Option.some_ne_none y)
    · exact (exec_faultCommit_of_some hn).trans (next_of_no_turn (ne_true_of_eq_false hoff))

end raises

/-- Settles O55: a raise by the waiting one, at L5 through LOCKOUT; the effective level by its key; a commit by the next raise;
an acknowledgement by what it names. -/
theorem faultsEscalateAndRetire : Obligations.FaultsEscalateAndRetire := by
  intro s s1 r q c l sc rank det
  refine ⟨fun hoff => next_of_no_turn (ne_true_of_eq_false hoff),
    fun hrun hnone => ⟨(next_of_turn hrun).trans (congrArg Host.Outcome.next (raiseEv_of_none hnone)),
      reaction_dev_of_eff_five _ (r := newRaise s c l sc rank det)⟩,
    fun y hrun hsome => (next_of_turn hrun).trans (congrArg Host.Outcome.next (raiseEv_of_some hsome)),
    fun hl _ => ⟨effLevel_of_inactive hl, effLevel_of_acked hl, effLevel_of_unacked hl⟩,
    fun y hy hrun => ⟨(exec_faultCommit_of_some hy).trans (next_of_turn hrun), rfl⟩, exec_faultCommit_of_idle,
    fun h => ⟨fun hnames => congrArg Host.Outcome.next (serveWrite_of_done h rfl (if_pos hnames)),
      fun hno => congrArg Host.Outcome.next (serveWrite_of_code h (if_neg hno) (by decide) (by decide))⟩⟩

end Sys2Proof.Machine
end

section
/-! PROOFS. The networks (17_networks): the Ethernet filters and answers, gPTP and device time, and the CAN controllers. -/

namespace Sys2Proof.Machine

/-! ### The filters of the MAC -/

section filters

variable {s : State} {x : EthFrame}

/-- The MAC in use hears a frame of a length that it takes (R546, R549). -/
def ethHears (s : State) (x : EthFrame) : Prop :=
  running s = true ∧ bootOb s 0x6C00 1 ≠ 0 ∧ 64 ≤ x.length ∧ x.length ≤ 1522

theorem ethHears_iff : ethHears s x ↔
    ¬ ((!running s) = true ∨ bootOb s 0x6C00 1 = 0 ∨ x.length < 64 ∨ 1522 < x.length) := by
  simp only [ethHears, not_or, Bool.not_eq_true', Bool.not_eq_false, not_lt, ne_eq]

/-- A datagram goes to the Ledger or to Waybill (R556). -/
def ethOurs (s : State) (x : EthFrame) : Prop := x.dport = bootOb s 0x1030 1 ∨ x.dport = ob s 0x6040 2

theorem exec_ethFrameRx_of_deaf (h : ¬ ethHears s x) : exec (.ethFrameRx x) s = .next s :=
  next_of_turn (not_not.mp (mt ethHears_iff.mpr h))

section hears

variable (h : ethHears s x)
include h

theorem exec_ethFrameRx_of_bad_fcs (hfcs : ¬ x.fcsOk = true) : exec (.ethFrameRx x) s = .next (incOb s 0x6C01 5) := by
  change execEthFrameRx x s = _
  simp only [execEthFrameRx, if_neg (ethHears_iff.mp h), hfcs, Bool.not_false, if_true]

variable (hfcs : x.fcsOk = true)
include hfcs

theorem exec_ethFrameRx_of_other_dst (hdst : ¬ ethDstOk s x = true) :
    exec (.ethFrameRx x) s = .next (incOb s 0x6C02 1) := by
  change execEthFrameRx x s = _
  simp only [execEthFrameRx, if_neg (ethHears_iff.mp h), hfcs, hdst, Bool.not_true, Bool.not_false, Bool.false_eq_true,
    if_false, if_true]

variable (hdst : ethDstOk s x = true)
include hdst

/-- A frame for the device is counted, then filtered by its tag and its type (R552, R553). -/
theorem exec_ethFrameRx_of_bad_tag (hvlan : ¬ ethVlanOk s x = true) :
    exec (.ethFrameRx x) s = .next (incOb (incOb s 0x6C01 3) 0x6C02 2) := by
  change execEthFrameRx x s = _
  simp only [execEthFrameRx, if_neg (ethHears_iff.mp h), hfcs, hdst, hvlan, Bool.not_true, Bool.not_false,
    Bool.false_eq_true, if_false, if_true]

variable (hvlan : ethVlanOk s x = true)
include hvlan

theorem exec_ethFrameRx_of_other_type (hip : ¬ x.ethertype = 0x0800) :
    exec (.ethFrameRx x) s = .next (incOb s 0x6C01 3) := by
  change execEthFrameRx x s = _
  simp only [execEthFrameRx, if_neg (ethHears_iff.mp h), hfcs, hdst, hvlan, Bool.not_true, Bool.false_eq_true, if_false,
    ne_eq, hip, not_false_eq_true, if_true]

variable (hip : x.ethertype = 0x0800)
include hip

/-- An IPv4 packet goes by its own checks (R555). -/
theorem exec_ethFrameRx_of_ip :
    exec (.ethFrameRx x) s = .next (
      if (!ipOk s x) = true then incOb (incOb s 0x6C01 3) 0x6C02 3
      else if x.proto ≠ 17 then incOb s 0x6C01 3
      else if (!x.udpSumOk) = true ∨ x.dport ≠ bootOb s 0x1030 1 ∧ x.dport ≠ ob s 0x6040 2 then
        incOb (incOb s 0x6C01 3) 0x6C02 4
      else { incOb s 0x6C01 3 with
        net := { (incOb s 0x6C01 3).net with rx := (incOb s 0x6C01 3).net.rx ++ [(now s, x)] } }) := by
  change execEthFrameRx x s = _
  simp only [execEthFrameRx, if_neg (ethHears_iff.mp h), hfcs, hdst, hvlan, Bool.not_true, Bool.false_eq_true, if_false,
    ne_eq, hip, not_true_eq_false]

theorem exec_ethFrameRx_of_bad_ip (hbad : ipOk s x = false) :
    exec (.ethFrameRx x) s = .next (incOb (incOb s 0x6C01 3) 0x6C02 3) := by
  rw [exec_ethFrameRx_of_ip h hfcs hdst hvlan hip]
  exact next_of_turn (congrArg not hbad)

variable (hgood : ipOk s x = true)
include hgood

theorem exec_ethFrameRx_of_other_proto (hproto : x.proto ≠ 17) :
    exec (.ethFrameRx x) s = .next (incOb s 0x6C01 3) := by
  rw [exec_ethFrameRx_of_ip h hfcs hdst hvlan hip, if_neg (ne_true_of_eq_false (congrArg not hgood)), if_pos hproto]

variable (hproto : x.proto = 17)
include hproto

theorem exec_ethFrameRx_of_bad_udp (hbad : x.udpSumOk = false ∨ ¬ ethOurs s x) :
    exec (.ethFrameRx x) s = .next (incOb (incOb s 0x6C01 3) 0x6C02 4) := by
  rw [exec_ethFrameRx_of_ip h hfcs hdst hvlan hip, if_neg (ne_true_of_eq_false (congrArg not hgood)),
    if_neg (not_not_intro hproto)]
  exact next_of_turn (hbad.imp (congrArg not) not_or.mp)

/-- A datagram that passes waits with its stamp (R556). -/
theorem exec_ethFrameRx_of_good_udp (hsum : x.udpSumOk = true) (hours : ethOurs s x) :
    exec (.ethFrameRx x) s = .next { incOb s 0x6C01 3 with
      net := { (incOb s 0x6C01 3).net with rx := (incOb s 0x6C01 3).net.rx ++ [(now s, x)] } } := by
  rw [exec_ethFrameRx_of_ip h hfcs hdst hvlan hip, if_neg (ne_true_of_eq_false (congrArg not hgood)),
    if_neg (not_not_intro hproto)]
  exact next_of_no_turn (not_or.mpr ⟨ne_true_of_eq_false (congrArg not hsum), fun hno => not_or.mpr hno hours⟩)

end hears

end filters

/-! ### The link, MDIO, ARP and ICMP -/

section answers

variable {s s1 : State} {r : Req} {q : QReq} {a : ArpMsg} {p : LinkPoll} {ip : Word} {mac : BitVec 48} {msg : List Byte}

theorem linkPolls_iff : serving s = true ∧ bootOb s 0x6C00 1 ≠ 0 ↔
    ¬ ((!serving s) = true ∨ bootOb s 0x6C00 1 = 0) := by
  simp only [not_or, Bool.not_eq_true', Bool.not_eq_false, ne_eq]

/-- The device with an address answers ARP and ICMP (R557, R558). -/
def ethTalks (s : State) : Prop := serving s = true ∧ bootOb s 0x6C00 3 ≠ 0 ∧ bootOb s 0x6C00 1 ≠ 0

theorem ethTalks_iff : ethTalks s ↔ ¬ ((!serving s) = true ∨ bootOb s 0x6C00 3 = 0 ∨ bootOb s 0x6C00 1 = 0) := by
  simp only [ethTalks, not_or, Bool.not_eq_true', Bool.not_eq_false, ne_eq]

theorem echoTurn_iff : ethTalks s ∧ msg.length ≤ 1472 ↔
    ¬ ((!serving s) = true ∨ bootOb s 0x6C00 3 = 0 ∨ bootOb s 0x6C00 1 = 0 ∨ 1472 < msg.length) := by
  simp only [ethTalks, not_or, Bool.not_eq_true', Bool.not_eq_false, ne_eq, not_lt, and_assoc]

theorem exec_icmpEcho_of_silent (h : ¬ ethTalks s ∨ 1472 < msg.length) : exec (.icmpEcho ip mac msg) s = .next s := by
  refine next_of_turn (not_not.mp (mt echoTurn_iff.mpr ?_))
  rintro ⟨htalk, hlen⟩
  exact h.elim (fun hno => hno htalk) (fun hlong => Nat.not_lt.mpr hlen hlong)

/-! MDIO -/

section mdio

/-- The 16 free bits that stand where no data was read (log 4). -/
def mdioFree (s : State) : Nat := (Config.freeWord s.free).toNat % 65536

/-- The result of an MDIO transaction, with one free value used. -/
def mdioResult (s : State) (v : Nat) : State := putOb { s with free := s.free + 1 } 0x6C04 0 v

theorem doMdio_of_bad {ans : Option (Option Nat)} (h : mdioOk (leNat q.data) = false) :
    doMdio ans s q = (s, 0x02000006) := if_pos (congrArg not h)

section good

variable (h : mdioOk (leNat q.data) = true)
include h

theorem doMdio_of_no_answer : doMdio none s q = (mdioResult s (65536 + mdioFree s), 0) :=
  if_neg (ne_true_of_eq_false (congrArg not h))

theorem doMdio_of_write : doMdio (some none) s q = (mdioResult s (mdioFree s), 0) := by
  rw [doMdio, if_neg (ne_true_of_eq_false (congrArg not h))]
  simp only [ite_self]
  rfl

theorem doMdio_of_read_as_write {n : Nat} (hw : bit (leNat q.data) 63 = true) :
    doMdio (some (some n)) s q = (mdioResult s (mdioFree s), 0) := by
  rw [doMdio, if_neg (ne_true_of_eq_false (congrArg not h))]
  simp only [hw, if_true]
  rfl

theorem doMdio_of_read {n : Nat} (hr : bit (leNat q.data) 63 = false) :
    doMdio (some (some n)) s q = (putOb s 0x6C04 0 (n % 65536), 0) := by
  rw [doMdio, if_neg (ne_true_of_eq_false (congrArg not h))]
  simp only [hr, Bool.false_eq_true, if_false]

end good

variable (h : served s r 0x6C03 0 = some (s1, q))
include h

theorem serveMdio_of_bad {ans : Option (Option Nat)} (hbad : mdioOk (leNat q.data) = false) :
    serveWrite s r 0x6C03 0 (doMdio ans) = refuse s1 q 0x02000006 :=
  serveWrite_of_code h (doMdio_of_bad hbad) (by decide) (by decide)

theorem serveMdio_of_done {ans : Option (Option Nat)} {t : State} (heff : doMdio ans s1 q = (t, 0)) :
    serveWrite s r 0x6C03 0 (doMdio ans) = reply t q 5 [] :=
  serveWrite_of_done h rfl heff

end mdio

/-! ARP -/

section arp

/-- A reply that the device waits for is learnt and frees what waits for it (R557). -/
theorem exec_arpRx_of_reply (h : ethTalks s) (hreply : a.isReply = true) :
    exec (.arpRx a) s = .next (if s.net.arpWait.any (fun e => e.1 == a.senderIp) = true
      then arpRelease (arpLearn s a.senderIp a.senderMac) a.senderIp a.senderMac else s) :=
  (next_of_no_turn (ethTalks_iff.mp h)).trans (next_of_turn hreply)

/-- A request for the device's address is learnt and answered (R557). -/
theorem exec_arpRx_of_request (h : ethTalks s) (hreply : a.isReply = false) :
    exec (.arpRx a) s = .next (if a.targetIp.toNat = bootOb s 0x6C00 3
      then ethPush (arpLearn s a.senderIp a.senderMac) 4
        { kind := 1, mac := a.senderMac, ip := a.senderIp, dport := 0, sport := 0, bytes := arpBytes s 2 a.senderMac a.senderIp }
      else s) :=
  (next_of_no_turn (ethTalks_iff.mp h)).trans (next_of_no_turn (ne_true_of_eq_false hreply))

/-- The frame that waits for an address, with the count and the time of its requests. -/
def arpWaits (s : State) (ip : Word) : Option (Word × Nat × Nat × Nat × EthOut) :=
  s.net.arpWait.find? (fun e => e.1 == ip)

theorem exec_arpRetry_of_none (h : arpWaits s ip = none) : exec (.arpRetry ip) s = .next s := by
  change execArpRetry ip s = _
  rw [arpWaits] at h
  simp only [execArpRetry, h]

/-- A request that waits is repeated after 1 s, and after the third its frame is dropped (R557). -/
theorem exec_arpRetry_of_some {e : Word × Nat × Nat × Nat × EthOut} (h : arpWaits s ip = some e) :
    exec (.arpRetry ip) s = .next (
      if now s < e.2.2.1 + 1000000000 then s
      else if 3 ≤ e.2.1 then
        dropMan (incOb { s with net := { s.net with arpWait := s.net.arpWait.filter (fun w => w.1 != ip) } } 0x6C02 5)
          e.2.2.2.2.man
      else arpAsk { s with net := { s.net with
        arpWait := s.net.arpWait.map (fun w => if w.1 = ip then (w.1, w.2.1 + 1, now s, w.2.2.2) else w) } } ip) := by
  change execArpRetry ip s = _
  rw [arpWaits] at h
  simp only [execArpRetry, h]

end arp

/-! The wire -/

section wire

/-- The frame on the wire has left its queue, and the next by priority has taken its place (R554). -/
def wireNext (s : State) (k : Nat) : State :=
  let u := { s with net := { s.net with q := tabSet [] s.net.q k ((tabGet [] s.net.q k).drop 1) } }
  incOb { u with net := { u.net with wire := nextWire u } } 0x6C01 4

/-- The manifest of the publication on the wire. -/
def wireMan (s : State) (k : Nat) : Option Nat := ((tabGet [] s.net.q k).head?).bind (fun f => f.man)

theorem exec_ethTxDone_of_none (h : s.net.wire = none) : exec .ethTxDone s = .next s := by
  change execEthTxDone s = _
  simp only [execEthTxDone, h]

variable {k m : Nat}

theorem exec_ethTxDone_of_some (h : s.net.wire = some k) :
    exec .ethTxDone s = .next (match wireMan s k with
      | none => wireNext s k
      | some m => manSent (wireNext s k) m) := by
  change execEthTxDone s = _
  simp only [execEthTxDone, h]
  rfl

theorem exec_ethTxDone_of_plain (h : s.net.wire = some k) (hman : wireMan s k = none) :
    exec .ethTxDone s = .next (wireNext s k) := by
  rw [exec_ethTxDone_of_some h, hman]

theorem exec_ethTxDone_of_publication (h : s.net.wire = some k) (hman : wireMan s k = some m) :
    exec .ethTxDone s = .next (manSent (wireNext s k) m) := by
  rw [exec_ethTxDone_of_some h, hman]

end wire

end answers

/-- Settles O56: a frame by the filters in their order, a poll by the link it finds, an MDIO command by its value and its answer,
ARP and ICMP in a device that talks, and the end of a frame on the wire. -/
theorem ethernetFiltersAndAnswers : Obligations.EthernetFiltersAndAnswers := by
  intro s s1 r q x p a ip mac msg
  refine ⟨exec_ethFrameRx_of_deaf, exec_ethFrameRx_of_bad_fcs, exec_ethFrameRx_of_other_dst, exec_ethFrameRx_of_bad_tag,
    exec_ethFrameRx_of_other_type, exec_ethFrameRx_of_bad_ip, exec_ethFrameRx_of_other_proto,
    fun hon hfcs hdst hvlan hip hgood hproto => ⟨exec_ethFrameRx_of_bad_udp hon hfcs hdst hvlan hip hgood hproto,
      exec_ethFrameRx_of_good_udp hon hfcs hdst hvlan hip hgood hproto⟩,
    fun hpoll hup => (next_of_no_turn (linkPolls_iff.mp hpoll)).trans (next_of_turn hup),
    fun hpoll hdown => (next_of_no_turn (linkPolls_iff.mp hpoll)).trans (next_of_no_turn (ne_true_of_eq_false hdown)),
    fun hno => next_of_turn (not_not.mp (mt linkPolls_iff.mpr hno)), exec_arpRx_of_reply, exec_arpRx_of_request,
    fun hno => next_of_turn (not_not.mp (mt ethTalks_iff.mpr hno)),
    fun htalk hlen => next_of_no_turn (echoTurn_iff.mp ⟨htalk, hlen⟩), exec_icmpEcho_of_silent,
    fun h d w => ⟨fun hbad => ⟨congrArg Host.Outcome.next (serveMdio_of_bad h hbad),
        congrArg Host.Outcome.next (serveMdio_of_bad h hbad)⟩,
      fun hok => ⟨congrArg Host.Outcome.next (serveMdio_of_done h (doMdio_of_no_answer hok)),
        congrArg Host.Outcome.next (serveMdio_of_done h (doMdio_of_no_answer hok)),
        congrArg Host.Outcome.next (serveMdio_of_done h (doMdio_of_write hok)), fun n => ?_⟩⟩,
    exec_arpRetry_of_none, fun e he => ⟨fun hearly => ?_, fun hdue hfew => ?_, fun hdue hmany => ?_⟩, rfl,
    exec_ethTxDone_of_none, fun k hk => ⟨exec_ethTxDone_of_plain hk, fun m => exec_ethTxDone_of_publication hk⟩⟩
  · refine congrArg Host.Outcome.next ?_
    split
    case isTrue hw => exact serveMdio_of_done h (doMdio_of_read_as_write hok hw)
    case isFalse hr => exact serveMdio_of_done h (doMdio_of_read hok (eq_false_of_ne_true hr))
  · exact (exec_arpRetry_of_some he).trans (next_of_turn hearly)
  · exact ((exec_arpRetry_of_some he).trans (next_of_no_turn (not_lt.mpr hdue))).trans
      (next_of_no_turn (not_le.mpr hfew))
  · exact ((exec_arpRetry_of_some he).trans (next_of_no_turn (not_lt.mpr hdue))).trans (next_of_turn hmany)

/-! ### gPTP -/

section gptp

variable {s : State} {x y : PtpMsg} {t1 : Nat} {announce : Bool}

section mine

variable (h : ptpMine s x = true)
include h

/-- A message of the device's domain is not passed over (R564). -/
theorem not_not_ptpMine_of_ptpMine : ¬ (!ptpMine s x) = true := ne_true_of_eq_false (congrArg not h)

theorem exec_ptpFollowUp_of_some (hsync : s.net.sync = some y) :
    exec (.ptpFollowUp x) s = .next (
      if x.seq = y.seq then ptpUpdate s x.timeNs (x.corrNs + y.corrNs) y.rxNs y.logInterval else s) := by
  change execPtpFollowUp x s = _
  simp only [execPtpFollowUp, hsync, h, true_and]

end mine

theorem exec_ptpFollowUp_of_none (hsync : s.net.sync = none) : exec (.ptpFollowUp x) s = .next s := by
  change execPtpFollowUp x s = _
  simp only [execPtpFollowUp, hsync]

theorem exec_ptpFollowUp_of_other (h : ptpMine s x = false) : exec (.ptpFollowUp x) s = .next s := by
  change execPtpFollowUp x s = _
  cases hsync : s.net.sync with
  | none => simp only [execPtpFollowUp, hsync]
  | some y => simp only [execPtpFollowUp, hsync, h, Bool.false_eq_true, false_and, if_false]

/-! The peer delay -/

/-- The interval of the peer-delay requests in ns (R565). -/
def pdelayInterval (s : State) : Nat := (1000000000 * pow2 (obI16 s 0x6C41 2)).floor.toNat

theorem pdelayAsks_iff :
    serving s = true ∧ s.net.link = true ∧ (s.net.pdAt = 0 ∨ s.net.pdAt - 1 + pdelayInterval s ≤ now s) ↔
    ¬ ((!serving s) = true ∨ (!s.net.link) = true ∨ s.net.pdAt ≠ 0 ∧ now s < s.net.pdAt - 1 + pdelayInterval s) := by
  simp only [not_or, not_and_or, Bool.not_eq_true', Bool.not_eq_false, ne_eq, not_not, not_lt]

theorem pdelayLinked_iff : serving s = true ∧ s.net.link = true ↔ ¬ ((!serving s) = true ∨ (!s.net.link) = true) := by
  simp only [not_or, Bool.not_eq_true', Bool.not_eq_false]

/-- A response to the latest request (R565). -/
def pdelayHears (s : State) (x : PtpMsg) : Prop := serving s = true ∧ x.seq = s.net.pdSeq

theorem pdelayHears_iff : pdelayHears s x ↔ ¬ ((!serving s) = true ∨ x.seq ≠ s.net.pdSeq) := by
  simp only [pdelayHears, not_or, Bool.not_eq_true', Bool.not_eq_false, ne_eq, not_not]

/-- The neighbour's and the device's times of a response (R565). -/
def pdelayTimes (s : State) (x : PtpMsg) : Nat × Nat := (((x.timeNs : Int) + x.corrNs).toNat, x.rxNs - ob s 0x6C00 9)

/-- The times of a response are kept for the next exchange (R566). -/
def pdelayKept (ts : Nat × Nat) (u : State) : State := putPtp { u with net := { u.net with pdPrev := some ts } }

/-- The rate ratio and the link delay of two exchanges (R565). -/
def pdelayMeasured (s : State) (x : PtpMsg) (p : Nat × Nat) : State :=
  let ratio : Rat := mkRat (((pdelayTimes s x).1 : Int) - p.1) ((pdelayTimes s x).2 - p.2)
  let d := (mkRat (((pdelayTimes s x).2 : Int) - s.net.pdT1) 1 * ratio - (x.corrNs : Rat)) / 2
  let u := putOb s 0x6C41 6 (f32Of ratio)
  { putOb u 0x6C41 5 (min 4294967295 (rround d).toNat) with net := { u.net with ratioOk := true } }

theorem exec_ptpPdelayRespRx_of_not_heard (h : ¬ pdelayHears s x) : exec (.ptpPdelayRespRx x) s = .next s :=
  next_of_turn (not_not.mp (mt pdelayHears_iff.mpr h))

section heard

variable (h : pdelayHears s x)
include h

theorem exec_ptpPdelayRespRx_of_first (hprev : s.net.pdPrev = none) :
    exec (.ptpPdelayRespRx x) s = .next (pdelayKept (pdelayTimes s x) s) := by
  change execPtpPdelayRespRx x s = _
  simp only [execPtpPdelayRespRx, if_neg (pdelayHears_iff.mp h), hprev]
  rfl

theorem exec_ptpPdelayRespRx_of_next {p3 p4 : Nat} (hprev : s.net.pdPrev = some (p3, p4)) :
    exec (.ptpPdelayRespRx x) s = .next (pdelayKept (pdelayTimes s x)
      (if p4 < x.rxNs - ob s 0x6C00 9 then pdelayMeasured s x (p3, p4) else s)) := by
  change execPtpPdelayRespRx x s = _
  simp only [execPtpPdelayRespRx, if_neg (pdelayHears_iff.mp h), hprev]
  rfl

theorem exec_ptpPdelayRespRx_of_old {p3 p4 : Nat} (hprev : s.net.pdPrev = some (p3, p4))
    (hold : x.rxNs - ob s 0x6C00 9 ≤ p4) :
    exec (.ptpPdelayRespRx x) s = .next (pdelayKept (pdelayTimes s x) s) := by
  rw [exec_ptpPdelayRespRx_of_next h hprev, if_neg (not_lt.mpr hold)]

theorem exec_ptpPdelayRespRx_of_later {p3 p4 : Nat} (hprev : s.net.pdPrev = some (p3, p4))
    (hlater : p4 < x.rxNs - ob s 0x6C00 9) :
    exec (.ptpPdelayRespRx x) s = .next (pdelayKept (pdelayTimes s x) (pdelayMeasured s x (p3, p4))) := by
  rw [exec_ptpPdelayRespRx_of_next h hprev, if_pos hlater]

end heard

/-! The receipt timeouts -/

theorem ptpOverdue_iff : serving s = true ∧ ptpLate s announce = true ↔ ¬ (!serving s || !ptpLate s announce) = true := by
  rw [Bool.or_eq_true, not_or, Bool.not_eq_true', Bool.not_eq_false, Bool.not_eq_true', Bool.not_eq_false]

theorem exec_ptpReceiptTimeout_of_idle (h : serving s = false ∨ ptpLate s announce = false) :
    exec (.ptpReceiptTimeout announce) s = .next s := by
  refine next_of_turn (not_not.mp (mt ptpOverdue_iff.mpr ?_))
  rintro ⟨hserve, hlate⟩
  exact h.elim (fun hoff => ne_true_of_eq_false hoff hserve) (fun hno => ne_true_of_eq_false hno hlate)

end gptp

/-! ### The source of device time -/

section source

variable {s s1 : State} {r : Req} {q : QReq}

/-- A source on a CAN controller that is itself the time master (R578). -/
def ownTimeMaster (s : State) (v : Nat) : Prop := 2 ≤ v ∧ ob s (canBaseIdx (v - 2) + 1) 1 = 1

/-- The new source, with no update seen yet (R560). -/
def sourcePut (s : State) (v : Nat) : State := putOb { s with net := { s.net with seen := false, good := 0 } } 0x6C40 1 v

theorem doTimeSource_of_master (h : ownTimeMaster s (leNat q.data)) : doTimeSource s q = (s, 0x03000005) := if_pos h

theorem doTimeSource_of_source (h : ¬ ownTimeMaster s (leNat q.data)) (hv : leNat q.data ≠ 0) :
    doTimeSource s q = (putOb (sourcePut s (leNat q.data)) 0x6C40 5 1, 0) :=
  (if_neg h).trans (if_neg hv)

/-- Source 0 ends the discipline (R560, R562). -/
theorem doTimeSource_of_zero (hv : leNat q.data = 0) :
    doTimeSource s q
      = (putOb (putOb (setCorr (sourcePut s (leNat q.data)) 0 0) 0x6C40 6 0) 0x6C40 5 0, 0) :=
  (if_neg (fun h => by omega)).trans (if_pos hv)

theorem exec_timeSourceWrite_of_done {t : State} (h : served s r 0x6C40 1 = some (s1, q))
    (heff : doTimeSource s1 q = (t, 0)) : exec (.timeSourceWrite r) s = .next (reply t q 2 []) :=
  congrArg Host.Outcome.next (serveWrite_of_done h rfl heff)

theorem exec_timeSourceWrite_of_master (h : served s r 0x6C40 1 = some (s1, q))
    (hm : ownTimeMaster s1 (leNat q.data)) : exec (.timeSourceWrite r) s = .next (refuse s1 q 0x03000005) :=
  congrArg Host.Outcome.next (serveWrite_of_code h (doTimeSource_of_master hm) (by decide) (by decide))

/-- The first update takes the offset as it is (R561). -/
theorem timeUpdate_first {a b : Int} {t : Rat} (h : s.net.seen = false) :
    timeUpdate s a b t
      = putOb (putOb { s with net := { s.net with seen := true, good := 0 } } 0x6C40 6 (ofInt 64 (a - b))) 0x6C40 5 1 :=
  if_pos (congrArg not h)

end source

/-- Settles O57: a message by its domain, a peer-delay row by the link and the exchange it meets, a timeout by what is overdue, and a
written source by its value. -/
theorem gptpAndDeviceTime : Obligations.GptpAndDeviceTime := by
  intro s s1 r q x t1
  refine ⟨fun hmine => ⟨fun htwo => ?_, fun hone => ?_, ?_, fun y hsync hseq => ?_, fun y hsync hseq => ?_,
      exec_ptpFollowUp_of_none⟩,
    fun hother => ⟨next_of_turn (congrArg not hother), next_of_turn (congrArg not hother),
      exec_ptpFollowUp_of_other hother⟩,
    fun hasks => next_of_no_turn (pdelayAsks_iff.mp hasks),
    fun hno => next_of_turn (not_not.mp (mt pdelayAsks_iff.mpr hno)),
    fun hlinked => next_of_no_turn (pdelayLinked_iff.mp hlinked),
    fun hno => next_of_turn (not_not.mp (mt pdelayLinked_iff.mpr hno)),
    exec_ptpPdelayRespRx_of_first, fun _ _ hhears => exec_ptpPdelayRespRx_of_old hhears,
    fun _ _ hhears => exec_ptpPdelayRespRx_of_later hhears, exec_ptpPdelayRespRx_of_not_heard,
    fun hserve => ⟨fun hlate => next_of_no_turn (ptpOverdue_iff.mp ⟨hserve, hlate⟩),
      fun hlate => next_of_no_turn (ptpOverdue_iff.mp ⟨hserve, hlate⟩)⟩,
    fun b => exec_ptpReceiptTimeout_of_idle, next_of_turn, next_of_no_turn,
    fun h => ⟨exec_timeSourceWrite_of_master h,
      fun hslave hv => exec_timeSourceWrite_of_done h (doTimeSource_of_source hslave hv),
      fun hv => exec_timeSourceWrite_of_done h (doTimeSource_of_zero hv)⟩,
    fun a b t => timeUpdate_first⟩
  · exact (next_of_no_turn (not_not_ptpMine_of_ptpMine hmine)).trans (next_of_turn htwo)
  · exact (next_of_no_turn (not_not_ptpMine_of_ptpMine hmine)).trans (next_of_no_turn (ne_true_of_eq_false hone))
  · exact next_of_no_turn (not_not_ptpMine_of_ptpMine hmine)
  · exact (exec_ptpFollowUp_of_some hmine hsync).trans (next_of_turn hseq)
  · exact (exec_ptpFollowUp_of_some hmine hsync).trans (next_of_no_turn hseq)

/-! ### The CAN controllers -/

section can

variable {s : State} {cn sof k : Nat} {x : CanFrame} {f : CanOut}

/-! A received frame -/

/-- A CAN XL frame that the controller does not take (R569). -/
def canXlBad (s : State) (cn : Nat) (x : CanFrame) : Prop :=
  x.xl = true ∧ (bootOb s (canBaseIdx cn) 6 = 0 ∨ x.sec = true ∨ x.vcid.toNat ≠ bits (ob s (canBaseIdx cn) 0xA) 15 8)

/-- A controller that is on and not in bus-off hears a frame that it takes. -/
def canHears (s : State) (cn : Nat) (x : CanFrame) : Prop :=
  running s = true ∧ (canOf s cn).on = true ∧ (canOf s cn).busOff = false ∧ ¬ canXlBad s cn x

theorem canListens_iff : running s = true ∧ (canOf s cn).on = true ∧ (canOf s cn).busOff = false ↔
    ¬ ((!running s) = true ∨ (!(canOf s cn).on) = true ∨ (canOf s cn).busOff = true) := by
  simp only [not_or, Bool.not_eq_true', Bool.not_eq_false, Bool.not_eq_true]

theorem exec_canFrameRx_of_deaf (h : ¬ canHears s cn x) : exec (.canFrameRx cn x) s = .next s := by
  by_cases hlisten : running s = true ∧ (canOf s cn).on = true ∧ (canOf s cn).busOff = false
  · obtain ⟨hrun, hon, hbus⟩ := hlisten
    have hxl : canXlBad s cn x := not_not.mp fun hgood => h ⟨hrun, hon, hbus, hgood⟩
    exact (next_of_no_turn (canListens_iff.mp ⟨hrun, hon, hbus⟩)).trans (next_of_turn hxl)
  · exact next_of_turn (not_not.mp (mt canListens_iff.mpr hlisten))

/-- A frame without an error is counted on the way to its consumer (R575, R576). -/
def canHeard (s : State) (cn : Nat) (x : CanFrame) : State :=
  canErrs (setCan s cn { canOf s cn with
    good := if (canOf s cn).detecting then (canOf s cn).good + 1 else (canOf s cn).good,
    brsSeen := (canOf s cn).brsSeen || x.brs }) cn (canOf s cn).txErr ((canOf s cn).rxErr - 1)

/-- The high-priority filter that takes a frame (R572). -/
def canFilter (s : State) (cn : Nat) (x : CanFrame) : Option Nat :=
  (List.range 4).find? (fun k => hpfMatch (ob64 s (canBaseIdx cn + 3) (k + 1)) x)

/-- A classical frame under an identifier of the Ledger (R570). -/
def canClassicalLedger (s : State) (cn : Nat) (x : CanFrame) : Prop :=
  (!x.fdf && !x.xl && !x.ide
    && (isLedgerId s cn x.ident || (decide (8 ≤ x.ident) && isLedgerId s cn (x.ident - 8)))) = true

section hears

variable (h : canHears s cn x)
include h

theorem exec_canFrameRx_of_filter (hf : canFilter s cn x = some k) :
    exec (.canFrameRx cn x) s = .next (hpfStore (canHeard s cn x) cn k x) := by
  obtain ⟨hrun, hon, hbus, hgood⟩ := h
  rw [canFilter] at hf
  rw [canXlBad] at hgood
  refine (next_of_no_turn (canListens_iff.mp ⟨hrun, hon, hbus⟩)).trans ((next_of_no_turn hgood).trans ?_)
  simp only [hf]
  rfl

variable (hf : canFilter s cn x = none)
include hf

/-- A frame that no filter takes goes to its user (R570, R571). -/
theorem exec_canFrameRx_of_no_filter :
    exec (.canFrameRx cn x) s = .next (
      if (!x.fdf && !x.xl && !x.ide
          && (isLedgerId s cn x.ident || (decide (8 ≤ x.ident) && isLedgerId s cn (x.ident - 8)))) = true then
        incOb (canHeard s cn x) (canBaseIdx cn + 7) 0xA
      else if (!isUserId s cn x) = true then canHeard s cn x
      else if 28 ≤ (canOf (canHeard s cn x) cn).fifo.length then incOb (canHeard s cn x) (canBaseIdx cn + 7) 7
      else incOb (setCan (canHeard s cn x) cn { canOf (canHeard s cn x) cn with
        fifo := (canOf (canHeard s cn x) cn).fifo ++ [(now s, x)] }) (canBaseIdx cn + 7) 5) := by
  obtain ⟨hrun, hon, hbus, hgood⟩ := h
  rw [canFilter] at hf
  rw [canXlBad] at hgood
  refine (next_of_no_turn (canListens_iff.mp ⟨hrun, hon, hbus⟩)).trans ((next_of_no_turn hgood).trans ?_)
  simp only [hf]
  rfl

theorem exec_canFrameRx_of_classical_ledger (hold : canClassicalLedger s cn x) :
    exec (.canFrameRx cn x) s = .next (incOb (canHeard s cn x) (canBaseIdx cn + 7) 0xA) :=
  (exec_canFrameRx_of_no_filter h hf).trans (next_of_turn hold)

variable (hnew : ¬ canClassicalLedger s cn x)
include hnew

theorem exec_canFrameRx_of_no_user (huser : isUserId s cn x = false) :
    exec (.canFrameRx cn x) s = .next (canHeard s cn x) :=
  ((exec_canFrameRx_of_no_filter h hf).trans (next_of_no_turn hnew)).trans (next_of_turn (congrArg not huser))

variable (huser : isUserId s cn x = true)
include huser

theorem exec_canFrameRx_of_full (hfull : 28 ≤ (canOf (canHeard s cn x) cn).fifo.length) :
    exec (.canFrameRx cn x) s = .next (incOb (canHeard s cn x) (canBaseIdx cn + 7) 7) :=
  (((exec_canFrameRx_of_no_filter h hf).trans (next_of_no_turn hnew)).trans
    (next_of_no_turn (ne_true_of_eq_false (congrArg not huser)))).trans (next_of_turn hfull)

theorem exec_canFrameRx_of_room (hroom : (canOf (canHeard s cn x) cn).fifo.length < 28) :
    exec (.canFrameRx cn x) s = .next (incOb (setCan (canHeard s cn x) cn { canOf (canHeard s cn x) cn with
      fifo := (canOf (canHeard s cn x) cn).fifo ++ [(now s, x)] }) (canBaseIdx cn + 7) 5) :=
  (((exec_canFrameRx_of_no_filter h hf).trans (next_of_no_turn hnew)).trans
    (next_of_no_turn (ne_true_of_eq_false (congrArg not huser)))).trans (next_of_no_turn (not_le.mpr hroom))

end hears

/-! A transmit attempt -/

/-- A controller on its bus sends (R567, R574). -/
def canSends (s : State) (cn : Nat) : Prop :=
  running s = true ∧ (canOf s cn).on = true ∧ (canOf s cn).listen = false ∧ (canOf s cn).busOff = false
    ∧ (canOf s cn).integ = true

theorem canSends_iff : canSends s cn ↔
    ¬ ((!running s) = true ∨ (!(canOf s cn).on) = true ∨ (canOf s cn).listen = true ∨ (canOf s cn).busOff = true
      ∨ (!(canOf s cn).integ) = true) := by
  simp only [canSends, not_or, Bool.not_eq_true', Bool.not_eq_false, Bool.not_eq_true]

theorem exec_canTxAttemptDone_of_none {z : TxResult} (h : ¬ canSends s cn ∨ canOffer (canOf s cn).tx = none) :
    exec (.canTxAttemptDone cn z sof) s = .next s := by
  by_cases hsends : canSends s cn
  · have hnone := h.resolve_left (not_not_intro hsends)
    refine (next_of_no_turn (canSends_iff.mp hsends)).trans ?_
    simp only [hnone]
  · exact next_of_turn (not_not.mp (mt canSends_iff.mpr hsends))

section offered

variable (h : canSends s cn) (hf : canOffer (canOf s cn).tx = some f)
include h hf

theorem exec_canTxAttemptDone_lostArbitration : exec (.canTxAttemptDone cn .lostArbitration sof) s = .next s := by
  refine (next_of_no_turn (canSends_iff.mp h)).trans ?_
  simp only [hf]

theorem exec_canTxAttemptDone_error :
    exec (.canTxAttemptDone cn .error sof) s = .next (canErrs s cn ((canOf s cn).txErr + 8) (canOf s cn).rxErr) := by
  refine (next_of_no_turn (canSends_iff.mp h)).trans ?_
  simp only [hf]

/-- A frame that is sent leaves the pending ones; a reference message leaves its start (R574, R577). -/
def canSentBy (s : State) (cn sof : Nat) (f : CanOut) : Can :=
  let c1 := { canOf s cn with tx := (canOf s cn).tx.erase f, sent := some (f, canWire s cn f) }
  if f.use = 3 then { c1 with refSof := sof, refSent := true } else c1

/-- The sent frame is counted (R575). -/
def canSent (s : State) (cn sof : Nat) (f : CanOut) : State :=
  canErrs (incOb (setCan s cn (canSentBy s cn sof f)) (canBaseIdx cn + 7) 6) cn ((canOf s cn).txErr - 1) (canOf s cn).rxErr

theorem exec_canTxAttemptDone_sent :
    exec (.canTxAttemptDone cn .sent sof) s
      = .next (if f.use = 1 then manSent (canSent s cn sof f) f.num else canSent s cn sof f) := by
  refine (next_of_no_turn (canSends_iff.mp h)).trans ?_
  simp only [hf]
  rfl

end offered

/-! A reference message -/

theorem canOn_iff : running s = true ∧ (canOf s cn).on = true ↔
    ¬ ((!running s) = true ∨ (!(canOf s cn).on) = true) := by
  simp only [not_or, Bool.not_eq_true', Bool.not_eq_false]

/-- A reference message to a slave of its controller (R578). -/
def refForSlave (s : State) (cn : Nat) (x : CanFrame) : Prop :=
  ob s 0x6C40 1 = 2 + cn ∧ ob s (canBaseIdx cn + 1) 1 ≠ 1 ∧ x.ide = false ∧ x.ident = ob s (canBaseIdx cn + 1) 2
    ∧ x.data.length = 8

theorem refForSlave_iff : refForSlave s cn x ↔
    ¬ (ob s 0x6C40 1 ≠ 2 + cn ∨ ob s (canBaseIdx cn + 1) 1 = 1 ∨ x.ide = true ∨ x.ident ≠ ob s (canBaseIdx cn + 1) 2
      ∨ x.data.length ≠ 8) := by
  simp only [refForSlave, not_or, ne_eq, not_not, Bool.not_eq_true]

theorem exec_canRefMessage_of_off (h : running s = false ∨ (canOf s cn).on = false) :
    exec (.canRefMessage cn x sof) s = .next s :=
  next_of_turn (h.imp (congrArg not) (congrArg not))

theorem exec_canRefMessage_of_on (hrun : running s = true) (hon : (canOf s cn).on = true) :
    exec (.canRefMessage cn x sof) s = .next (refTake cn x sof (canTaken s cn x)) :=
  next_of_no_turn (canOn_iff.mp ⟨hrun, hon⟩)

/-- The master's next reference message is due; the first one stands within 6 ns after a multiple of the cycle (R577). -/
def refDue (s : State) (cn : Nat) : Prop :=
  running s = true ∧ (canOf s cn).on = true ∧ ob s (canBaseIdx cn + 1) 1 ≠ 0 ∧ (canOf s cn).refDue ≤ now s
    ∧ ((canOf s cn).refDue ≠ 0 ∨ now s % max 1 (ob s (canBaseIdx cn + 1) 3 * 1000000) < 6)

theorem refDue_iff : refDue s cn ↔
    ¬ ((!running s) = true ∨ (!(canOf s cn).on) = true ∨ ob s (canBaseIdx cn + 1) 1 = 0 ∨ now s < (canOf s cn).refDue
      ∨ (canOf s cn).refDue = 0 ∧ 6 ≤ now s % max 1 (ob s (canBaseIdx cn + 1) 3 * 1000000)) := by
  simp only [refDue, not_or, not_and_or, Bool.not_eq_true', Bool.not_eq_false, ne_eq, not_lt, not_le]

end can

/-- Settles O58: a frame by the filters and users in their order, an attempt by its result, each row of bus-off and detection in
and out of its turn, and the reference messages of a slave and a master. -/
theorem canControllersAct : Obligations.CanControllersAct := by
  intro s cn x sof e brs z
  exact ⟨exec_canFrameRx_of_deaf, fun _ => exec_canFrameRx_of_filter,
    fun hheard hf => ⟨exec_canFrameRx_of_classical_ledger hheard hf, exec_canFrameRx_of_no_user hheard hf,
      exec_canFrameRx_of_full hheard hf, exec_canFrameRx_of_room hheard hf⟩,
    fun f hsends hf => ⟨exec_canTxAttemptDone_lostArbitration hsends hf, exec_canTxAttemptDone_error hsends hf,
      exec_canTxAttemptDone_sent hsends hf⟩,
    exec_canTxAttemptDone_of_none, next_of_turn, next_of_no_turn, next_of_turn, next_of_no_turn, next_of_turn,
    next_of_no_turn, next_of_turn, next_of_no_turn, next_of_turn, next_of_no_turn, next_of_turn, next_of_no_turn,
    next_of_turn, next_of_no_turn,
    fun hrun hon => ⟨fun hslave => (exec_canRefMessage_of_on hrun hon).trans
        (congrArg Host.Outcome.next (if_neg (refForSlave_iff.mp hslave))),
      fun hno => (exec_canRefMessage_of_on hrun hon).trans
        (congrArg Host.Outcome.next (if_pos (not_not.mp (mt refForSlave_iff.mpr hno))))⟩,
    exec_canRefMessage_of_off, fun hdue => next_of_no_turn (refDue_iff.mp hdue),
    fun hno => next_of_turn (not_not.mp (mt refDue_iff.mpr hno))⟩

end Sys2Proof.Machine
end

section
/-! PROOFS. Thermal sensing and the Outrider (18_thermal_and_outrider). A sample and an element test ask for their turn, then for
their conversion, which waits for a gap of its converter. -/

namespace Sys2Proof.Machine

/-! ### A thermal sample -/

section thermal

variable {s : State} {n : Nat} {m : AdcMeas}

/-- A sensor is due, and the measurement is of its own input (R581, R583, R584). -/
def sampleDue (s : State) (n : Nat) (m : AdcMeas) : Prop :=
  running s = true ∧ ((sensOf s n).seen = false ∨ (sensOf s n).due ≤ now s) ∧ (n < 8 ∨ ntcRuns s (n - 8) = true)
    ∧ sensInput s n = some m.src

theorem sampleDue_iff : sampleDue s n m ↔
    ¬ ((!running s) = true ∨ (sensOf s n).seen = true ∧ now s < (sensOf s n).due ∨ 8 ≤ n ∧ (!ntcRuns s (n - 8)) = true
      ∨ sensInput s n ≠ some m.src) := by
  simp only [sampleDue, not_or, not_and_or, Bool.not_eq_true', Bool.not_eq_false, Bool.not_eq_true, ne_eq, not_not, not_lt,
    not_le]

/-- The sample's conversion: it waits for a gap, and for a sensor that has been due for longer (R234, R585). -/
def sampleConv (s : State) (n : Nat) : State × Bool :=
  if (!outDone s 0 n (sensConvs s n) && !sensOldest s n) = true then (s, false) else outConv s 0 n (sensConvs s n) 1

/-- The temperature that a die's code stands for, with the sensor's stored gain and offset (R582). -/
def dieTemp (s : State) (n : Nat) (m : AdcMeas) : Rat :=
  f32Val (f32Of (Config.dieGain n
    * ((mkRat (sampleCode s (muxVolt s m.src m.uv) * s.power.refUv : Nat) 65536 - 700000) / 3000) + Config.dieOffset n))

theorem exec_thermalSample_of_not_due (h : ¬ sampleDue s n m) : exec (.thermalSample n m) s = .next s :=
  next_of_turn (not_not.mp (mt sampleDue_iff.mpr h))

section due

variable (h : sampleDue s n m)
include h

theorem exec_thermalSample_of_due :
    exec (.thermalSample n m) s = .next (
      if (!(sampleConv s n).2) = true then (sampleConv s n).1
      else if n < 8 then dieSample (sampleConv s n).1 n (dieTemp s n m)
      else ntcSample (sampleConv s n).1 (n - 8) m) :=
  next_of_no_turn (sampleDue_iff.mp h)

theorem exec_thermalSample_of_waiting (hwait : (sampleConv s n).2 = false) :
    exec (.thermalSample n m) s = .next (sampleConv s n).1 :=
  (exec_thermalSample_of_due h).trans (next_of_turn (congrArg not hwait))

variable (hdone : (sampleConv s n).2 = true)
include hdone

theorem exec_thermalSample_of_die (hn : n < 8) :
    exec (.thermalSample n m) s = .next (dieSample (sampleConv s n).1 n (dieTemp s n m)) :=
  ((exec_thermalSample_of_due h).trans (next_of_no_turn (ne_true_of_eq_false (congrArg not hdone)))).trans
    (next_of_turn hn)

theorem exec_thermalSample_of_slot (hn : 8 ≤ n) :
    exec (.thermalSample n m) s = .next (ntcSample (sampleConv s n).1 (n - 8) m) :=
  ((exec_thermalSample_of_due h).trans (next_of_no_turn (ne_true_of_eq_false (congrArg not hdone)))).trans
    (next_of_no_turn (not_lt.mpr hn))

end due

theorem exec_shutdownComparator_of_idle (h : running s = false ∨ 8 ≤ n) : exec (.shutdownComparator n) s = .next s :=
  next_of_no_turn fun ⟨hrun, hn⟩ => h.elim (fun hoff => ne_true_of_eq_false hoff hrun) (not_le.mpr hn)

end thermal

/-! ### The Outrider -/

section outrider

variable {s : State} {t e mended blk : Nat} {pass : Bool}

/-- A coverage cycle starts in PREOP or OPERATIONAL (R592). -/
theorem outrStarts_iff : outrRuns s = true ∧ outrDue s ≤ now s ↔ ¬ ((!outrRuns s) = true ∨ now s < outrDue s) := by
  simp only [not_or, Bool.not_eq_true', Bool.not_eq_false, not_lt]

/-- A coverage cycle begins in a state, at the multiple that was due (R592). -/
def cycleBegun (s u : State) : State :=
  { u with outr := { u.outr with cycle := ob u 0x7400 1, startAt := outrDue s + 1 }, link := { u.link with testDone := false } }

section starts

variable (h : outrRuns s = true ∧ outrDue s ≤ now s)
include h

theorem exec_outriderCycle_of_starts :
    exec .outriderCycle s = .next (cycleBegun s
      (if s.outr.startAt = 0 then s else incOb ((List.range 10).foldl testCycle s) 0x7401 0)) :=
  next_of_no_turn (outrStarts_iff.mp h)

theorem exec_outriderCycle_first (hfirst : s.outr.startAt = 0) : exec .outriderCycle s = .next (cycleBegun s s) := by
  rw [exec_outriderCycle_of_starts h, if_pos hfirst]

theorem exec_outriderCycle_next (hnext : s.outr.startAt ≠ 0) :
    exec .outriderCycle s = .next (cycleBegun s (incOb ((List.range 10).foldl testCycle s) 0x7401 0)) := by
  rw [exec_outriderCycle_of_starts h, if_neg hnext]

end starts

/-- The element is the next untested one of a test in a cycle, and the dump path's has its result (R593, R595). -/
def testTurn (s : State) (t e : Nat) (pass : Bool) : Prop :=
  outrRuns s = true ∧ s.outr.startAt ≠ 0 ∧ elemShored s t e = false
    ∧ (t = 8 → s.link.testDone = true ∧ pass ≠ s.link.testFail)
    ∧ ((testLeft s t).filter (fun k => !elemShored s t k)).head? = some e

theorem testTurn_iff : testTurn s t e pass ↔
    ¬ ((!outrRuns s) = true ∨ s.outr.startAt = 0 ∨ elemShored s t e = true
      ∨ t = 8 ∧ (s.link.testDone = false ∨ pass = s.link.testFail)
      ∨ ((testLeft s t).filter (fun k => !elemShored s t k)).head? ≠ some e) := by
  simp only [testTurn, not_or, not_and, Bool.not_eq_true', Bool.not_eq_false, Bool.not_eq_true, ne_eq, not_not]

/-- The element's own work: the scrub reports its corrected words, and the test of a MAC lane takes the lane (R593). -/
def testWorked (s : State) (t e mended blk : Nat) : State :=
  if t = 7 then scrubbed (tieTaken s t e).1 e mended blk
  else if t = 4 then macTest (tieTaken s t e).1 e else (tieTaken s t e).1

/-- The pass or the failure is counted and acts (R593). -/
def testCounted (s : State) (t e : Nat) (pass : Bool) (mended blk : Nat) : State :=
  let w := testWorked s t e mended blk
  if pass then testPass (incOb w (0x7410 + t) 2) t e else testFail (incOb w (0x7410 + t) 3) t e blk

/-- The record of a test whose element is done (R594). -/
def testRun (s : State) (t e : Nat) (pass : Bool) (mended blk : Nat) : TestRun :=
  let x := testOf (testCounted s t e pass mended blk) t
  { x with tested := x.tested ++ [e], failedNow := x.failedNow || !pass }

/-- The element of a test is done. -/
def testDone (s : State) (t e : Nat) (pass : Bool) (mended blk : Nat) : State :=
  setTest (testCounted s t e pass mended blk) t (testRun s t e pass mended blk)

/-- The last element ends its test, with its result and time (R594). -/
def testEnded (s : State) (t e : Nat) (pass : Bool) (mended blk : Nat) : State :=
  let y := testRun s t e pass mended blk
  let w := setTest (testDone s t e pass mended blk) t { y with done := true, failed := y.failedNow }
  clearDet (clearDet (putOb (putOb w (0x7410 + t) 5 0) (0x7410 + t) 6 (now s % 2 ^ 64)) (0x74000000 + 2 * t))
    (0x74000001 + 2 * t)

theorem exec_outriderTest_of_no_turn (h : ¬ testTurn s t e pass) : exec (.outriderTest t e pass mended blk) s = .next s :=
  next_of_turn (not_not.mp (mt testTurn_iff.mpr h))

section turn

variable (h : testTurn s t e pass)
include h

theorem exec_outriderTest_of_turn :
    exec (.outriderTest t e pass mended blk) s = .next (
      if (!(tieTaken s t e).2) = true then (tieTaken s t e).1
      else if (testLeft (testDone s t e pass mended blk) t).isEmpty = true then testEnded s t e pass mended blk
      else testDone s t e pass mended blk) :=
  next_of_no_turn (testTurn_iff.mp h)

theorem exec_outriderTest_of_waiting (hwait : (tieTaken s t e).2 = false) :
    exec (.outriderTest t e pass mended blk) s = .next (tieTaken s t e).1 :=
  (exec_outriderTest_of_turn h).trans (next_of_turn (congrArg not hwait))

variable (htaken : (tieTaken s t e).2 = true)
include htaken

theorem exec_outriderTest_of_more (hmore : (testLeft (testDone s t e pass mended blk) t).isEmpty = false) :
    exec (.outriderTest t e pass mended blk) s = .next (testDone s t e pass mended blk) :=
  ((exec_outriderTest_of_turn h).trans (next_of_no_turn (ne_true_of_eq_false (congrArg not htaken)))).trans
    (next_of_no_turn (ne_true_of_eq_false hmore))

theorem exec_outriderTest_of_last (hlast : (testLeft (testDone s t e pass mended blk) t).isEmpty = true) :
    exec (.outriderTest t e pass mended blk) s = .next (testEnded s t e pass mended blk) :=
  ((exec_outriderTest_of_turn h).trans (next_of_no_turn (ne_true_of_eq_false (congrArg not htaken)))).trans
    (next_of_turn hlast)

end turn

end outrider

/-- Settles O59: a sample and an element test by their turn and their conversion, and a coverage cycle by whether one is under
way. -/
theorem thermalAndOutriderAct : Obligations.ThermalAndOutriderAct := by
  intro s n t e mended blk m pass
  exact ⟨exec_thermalSample_of_waiting, exec_thermalSample_of_die, exec_thermalSample_of_slot,
    exec_thermalSample_of_not_due, fun hrun hn => next_of_turn ⟨hrun, hn⟩, exec_shutdownComparator_of_idle,
    exec_outriderCycle_first, exec_outriderCycle_next, fun hno => next_of_turn (not_not.mp (mt outrStarts_iff.mpr hno)),
    exec_outriderTest_of_waiting, exec_outriderTest_of_more, exec_outriderTest_of_last, exec_outriderTest_of_no_turn⟩

end Sys2Proof.Machine
end

section
/-! PROOFS. The host port (19_host_port). A frame is decided by its CRC, then by whether the port is open to it, then by its
operation; every other command of the port acts while the device serves. -/

namespace Sys2Proof.Machine

/-! ### Frames -/

section frames

variable {s : State} {f : BitVec 64}

/-- The command word of a frame (R599). -/
def frameCmd (f : BitVec 64) : Nat := f.toNat / 2 ^ 32

/-- The data word of a frame (R599). -/
def frameData (f : BitVec 64) : Nat := f.toNat % 2 ^ 32

/-- The operation of a frame (R599). -/
def frameOp (f : BitVec 64) : Nat := bits (frameCmd f) 31 30

/-- The register address of a frame (R599). -/
def frameAddr (f : BitVec 64) : Nat := bits (frameCmd f) 29 16

/-- A running device takes a frame whose CRC is right (R600). -/
def frameGood (s : State) (f : BitVec 64) : Prop :=
  running s = true ∧ crc8 (crcBytes (frameCmd f) (frameData f)) = frameCmd f % 256

/-- The port executes the operation: the device serves, or the frame reads one of the two registers that are always readable
(R602). -/
def frameOpen (s : State) (f : BitVec 64) : Prop :=
  serving (touchHost s) = true ∨ frameOp f = 1 ∧ frameAddr f ≤ 1

/-- The operation of a frame and its reply (R599). -/
def frameReply (s : State) (op ad dat : Nat) : State :=
  if op = 0 then setReply s op ad 0 0
  else if op = 1 then setReply (hostRead s ad).1 op ad (hostRead s ad).2.1 (hostRead s ad).2.2
  else if op = 2 then setReply (hostWrite s ad dat).1 op ad (hostWrite s ad dat).2 0
  else setReply (freshWord s).2 op ad ((freshWord s).1.toNat % 256) 0

theorem frameOpen_iff : frameOpen s f ↔
    ¬ ((!serving (touchHost s)) = true ∧ (!decide (frameOp f = 1 ∧ frameAddr f ≤ 1)) = true) := by
  simp only [frameOpen, not_and_or, Bool.not_eq_true', Bool.not_eq_false, decide_eq_true_eq]

theorem exec_spiFrame_of_running (hrun : running s = true) :
    exec (.spiFrame f) s = .next (
      if crc8 (crcBytes (frameCmd f) (frameData f)) ≠ frameCmd f % 256 then
        setReply { s with host := { s.host with crcErrs := (s.host.crcErrs + 1) % 65536 } } (frameOp f) (frameAddr f) 1 0
      else if (!serving (touchHost s)) = true ∧ (!decide (frameOp f = 1 ∧ frameAddr f ≤ 1)) = true then
        setReply (touchHost s) (frameOp f) (frameAddr f) 6 0
      else frameReply (touchHost s) (frameOp f) (frameAddr f) (frameData f)) :=
  next_of_no_turn (ne_true_of_eq_false (congrArg not hrun))

theorem exec_spiFrame_of_bad_crc (hrun : running s = true)
    (hcrc : crc8 (crcBytes (frameCmd f) (frameData f)) ≠ frameCmd f % 256) :
    exec (.spiFrame f) s = .next (setReply
      { s with host := { s.host with crcErrs := (s.host.crcErrs + 1) % 65536 } } (frameOp f) (frameAddr f) 1 0) :=
  (exec_spiFrame_of_running hrun).trans (next_of_turn hcrc)

section good

variable (hgood : frameGood s f)
include hgood

theorem exec_spiFrame_of_shut (hshut : ¬ frameOpen s f) :
    exec (.spiFrame f) s = .next (setReply (touchHost s) (frameOp f) (frameAddr f) 6 0) :=
  ((exec_spiFrame_of_running hgood.1).trans (next_of_no_turn (not_not.mpr hgood.2))).trans
    (next_of_turn (not_not.mp (mt frameOpen_iff.mpr hshut)))

variable (hopen : frameOpen s f)
include hopen

theorem exec_spiFrame_of_open :
    exec (.spiFrame f) s = .next (frameReply (touchHost s) (frameOp f) (frameAddr f) (frameData f)) :=
  ((exec_spiFrame_of_running hgood.1).trans (next_of_no_turn (not_not.mpr hgood.2))).trans
    (next_of_no_turn (frameOpen_iff.mp hopen))

theorem exec_spiFrame_of_op {k : Nat} (hop : frameOp f = k) :
    exec (.spiFrame f) s = .next (frameReply (touchHost s) k (frameAddr f) (frameData f)) :=
  hop ▸ exec_spiFrame_of_open hgood hopen

end good

end frames

/-! ### Registers and the mailbox -/

section serving

variable {s : State} {w addr n : Nat} {d : Word}

theorem doStoreReg_of_req (hlo : 0x40 ≤ addr) (hhi : addr < 0x80) (v : Nat) :
    (doStoreReg s addr v).1 = { s with host := { s.host with req := tabSet 0 s.host.req (addr - 0x40) v } } := by
  have h6 : addr ≠ 6 := by omega
  rw [doStoreReg, if_neg h6, if_pos ⟨hlo, hhi⟩]

theorem doStoreReg_of_no_store (h6 : addr ≠ 6) (hout : addr < 0x40 ∨ 0x80 ≤ addr) (v : Nat) : (doStoreReg s addr v).1 = s := by
  have hreq : ¬ (0x40 ≤ addr ∧ addr < 0x80) := by omega
  rw [doStoreReg, if_neg h6, if_neg hreq]
  split <;> rfl

/-- A submitted message is under way: BUSY, with no answer yet (R605). -/
def mboxTaken (s : State) : State := { s with host := { s.host with busy := true, ready := false, answer := none } }

theorem doMbox_of_refused {v : Nat} (h : s.host.busy = true ∨ bits v 8 0 = 0 ∨ 256 < bits v 8 0) : (doMbox s v).1 = s := by
  rw [doMbox]
  split
  · rfl
  · next hfree => rw [if_pos (h.resolve_left hfree)]

section taken

variable {v : Nat} (hfree : s.host.busy = false) (hlo : 1 ≤ bits v 8 0) (hhi : bits v 8 0 ≤ 256)
include hfree hlo hhi

theorem doMbox_of_open (hopen : ((reqBytes s (bits v 8 0)).getD 0 0).toNat = 8) : (doMbox s v).1 = mboxTaken s := by
  have hlen : ¬ (bits v 8 0 = 0 ∨ 256 < bits v 8 0) := by omega
  simp only [doMbox, hfree, Bool.false_eq_true, if_false, if_neg hlen, if_pos hopen, mboxTaken]

variable (hother : ((reqBytes s (bits v 8 0)).getD 0 0).toNat ≠ 8)
include hother

theorem doMbox_of_session (hses : hostSession s = some n) :
    (doMbox s v).1 = enqueue (mboxTaken s) n (now s) false 0 (reqBytes s (bits v 8 0)) := by
  have hlen : ¬ (bits v 8 0 = 0 ∨ 256 < bits v 8 0) := by omega
  have hses' : hostSession (mboxTaken s) = some n := hses
  simp only [doMbox, hfree, Bool.false_eq_true, if_false, if_neg hlen, if_neg hother]
  rw [mboxTaken] at hses'
  rw [hses', mboxTaken]

theorem doMbox_of_no_session (hses : hostSession s = none) :
    (doMbox s v).1 = { mboxTaken s with host := { (mboxTaken s).host with
      answer := some (msgHead 0xFF ((reqBytes s (bits v 8 0)).getD 1 0).toNat (leNat (((reqBytes s (bits v 8 0)).drop 2).take 2))
        (leNat (((reqBytes s (bits v 8 0)).drop 4).take 1)) 0 ++ leBytes 4 0x01000005) } } := by
  have hlen : ¬ (bits v 8 0 = 0 ∨ 256 < bits v 8 0) := by omega
  have hses' : hostSession (mboxTaken s) = none := hses
  simp only [doMbox, hfree, Bool.false_eq_true, if_false, if_neg hlen, if_neg hother]
  rw [mboxTaken] at hses'
  rw [hses', mboxTaken]

end taken

/-! ### Window slots -/

section window

/-- The outcome of a binding, as WIN_ABORT and the slot's number tell it (R607). -/
def bindTold (s : State) (w c : Nat) : State := { s with host := { s.host with winAbort := c, winSlot := w } }

theorem doBind_of_no_session (hses : hostSession s = none) (v : Nat) : (doBind s w v).1 = s := by
  simp only [doBind, hses]

theorem doVal_of_no_session (hses : hostSession s = none) (hi : Bool) (v : Nat) : (doVal s w hi v).1 = s := by
  simp only [doVal, hses]

variable (hses : hostSession s = some n) {v : Nat}
include hses

theorem doBind_of_unbind (hbit : bit v 0 = false) : (doBind s w v).1 = setSlot s w {} := by
  simp only [doBind, hses, hbit, Bool.not_false, if_true]

theorem doBind_of_refused (hbit : bit v 0 = true) (hcode : bindCode s n (bits v 31 16) (bits v 15 8) ≠ 0) :
    (doBind s w v).1 = setSlot (bindTold s w (bindCode s n (bits v 31 16) (bits v 15 8))) w {} := by
  simp only [doBind, hses, hbit, Bool.not_true, Bool.false_eq_true, if_false, if_pos hcode, bindTold]

theorem doBind_of_accepted (hbit : bit v 0 = true) (hcode : bindCode s n (bits v 31 16) (bits v 15 8) = 0) :
    (doBind s w v).1 = setSlot (bindTold s w 0) w { ({} : Slot) with
      sel := bits v 31 8 * 256 + 1, ty := match rowOf (bits v 31 16) (bits v 15 8) with | none => 0 | some r => r.ty } := by
  simp only [doBind, hses, hbit, hcode, Bool.not_true, Bool.false_eq_true, if_false, ne_eq, not_true_eq_false,
    bindTold] <;> rfl

theorem doVal_of_refused {hi : Bool} (h : (slotAt s w).pend = true ∨ bit (slotAt s w).sel 0 = false) :
    (doVal s w hi v).1 = s := by
  simp only [doVal, hses]
  split
  · rfl
  · next hpend => simp only [h.resolve_left hpend, Bool.not_false, if_true]

section bound

variable (hpend : (slotAt s w).pend = false) (hbound : bit (slotAt s w).sel 0 = true)
include hpend hbound

theorem doVal_of_wide_low (hwide : tySize (slotAt s w).ty = 8) :
    (doVal s w false v).1 = setSlot s w { slotAt s w with staged := v } := by
  simp only [doVal, hses, hpend, hbound, hwide, Bool.not_true, Bool.false_eq_true, if_false, if_true]

theorem doVal_of_wide_high (hwide : tySize (slotAt s w).ty = 8) :
    (doVal s w true v).1 = doCommit s n w ((slotAt s w).staged + v * 2 ^ 32) := by
  simp only [doVal, hses, hpend, hbound, hwide, Bool.not_true, Bool.false_eq_true, if_false, if_true]

theorem doVal_of_narrow_low (hnarrow : tySize (slotAt s w).ty ≠ 8) : (doVal s w false v).1 = doCommit s n w v := by
  simp only [doVal, hses, hpend, hbound, hnarrow, Bool.not_true, Bool.false_eq_true, if_false]

theorem doVal_of_narrow_high (hnarrow : tySize (slotAt s w).ty ≠ 8) : (doVal s w true v).1 = s := by
  simp only [doVal, hses, hpend, hbound, hnarrow, Bool.not_true, Bool.false_eq_true, if_false, if_true]

end bound

end window

/-! ### The commands while the device serves, and while it does not -/

section acts

variable (hserve : serving s = true)
include hserve

theorem exec_registerWrite_of_serving : exec (.registerWrite addr d) s = .next (doStoreReg s addr d.toNat).1 :=
  next_of_turn hserve

theorem exec_mboxSubmit_of_serving : exec (.mboxSubmit d) s = .next (doMbox s d.toNat).1 := next_of_turn hserve

theorem exec_windowBind_of_serving : exec (.windowBind w d) s = .next (doBind s w d.toNat).1 := next_of_turn hserve

theorem exec_windowValWrite_of_serving {hi : Bool} : exec (.windowValWrite w hi d) s = .next (doVal s w hi d.toNat).1 :=
  next_of_turn hserve

theorem exec_windowRefresh_of_serving : exec (.windowRefresh w) s = .next (doRefresh s w) := next_of_turn hserve

theorem exec_lowWordRead_of_serving : exec (.lowWordRead addr) s = .next (latchHigh s addr) := next_of_turn hserve

end acts

theorem host_commands_of_not_serving (hi : Bool) (hno : serving s = false) :
    exec (.registerWrite addr d) s = .next s ∧ exec (.mboxSubmit d) s = .next s ∧ exec (.notePop d) s = .next s
      ∧ exec (.irqPendClear d) s = .next s ∧ exec (.windowBind w d) s = .next s ∧ exec (.windowValWrite w hi d) s = .next s
      ∧ exec (.windowRefresh w) s = .next s ∧ exec (.lowWordRead addr) s = .next s :=
  have hoff : ¬ serving s = true := ne_true_of_eq_false hno
  ⟨next_of_no_turn hoff, next_of_no_turn hoff, next_of_no_turn hoff, next_of_no_turn hoff, next_of_no_turn hoff,
    next_of_no_turn hoff, next_of_no_turn hoff, next_of_no_turn hoff⟩

theorem exec_mboxResponse_of_no_answer (h : s.host.answer = none) : exec .mboxResponse s = .next s := by
  change execMboxResponse s = _
  simp only [execMboxResponse, h]

theorem exec_mboxResponse_of_answer {p : List Byte} (h : s.host.answer = some p) :
    exec .mboxResponse s = .next (irq { s with host := { s.host with
      rsp := bytesWords p, rspLen := p.length, busy := false, ready := true, answer := none } } 2) := by
  change execMboxResponse s = _
  simp only [execMboxResponse, h]

end serving

/-- Settles O60: a frame by its CRC, the port and its operation, and every other command of the port by whether the device
serves and by what its register asks for. -/
theorem hostPortAnswersFrames : Obligations.HostPortAnswersFrames := by
  intro s f w addr n d hi
  refine ⟨exec_spiFrame_of_bad_crc, exec_spiFrame_of_shut, fun hgood hopen hop => exec_spiFrame_of_op hgood hopen hop,
    fun hgood hopen hop => exec_spiFrame_of_op hgood hopen hop, fun hgood hopen hop => exec_spiFrame_of_op hgood hopen hop,
    fun hgood hopen hop => exec_spiFrame_of_op hgood hopen hop, fun hrun => next_of_turn hrun,
    fun hno => ⟨next_of_turn (congrArg not hno), next_of_no_turn (ne_true_of_eq_false hno)⟩, fun hserve => ?_,
    host_commands_of_not_serving hi, exec_mboxResponse_of_no_answer, fun p => exec_mboxResponse_of_answer⟩
  have hreg {a : Nat} {t : State} (h : (doStoreReg s a d.toNat).1 = t) := h ▸ exec_registerWrite_of_serving (d := d) hserve
  have hmbox {t : State} (h : (doMbox s d.toNat).1 = t) := h ▸ exec_mboxSubmit_of_serving (d := d) hserve
  have hbind {t : State} (h : (doBind s w d.toNat).1 = t) := h ▸ exec_windowBind_of_serving (d := d) hserve
  have hval {b : Bool} {t : State} (h : (doVal s w b d.toNat).1 = t) := h ▸ exec_windowValWrite_of_serving (d := d) hserve
  refine ⟨hreg rfl, fun hlo hhi => hreg (doStoreReg_of_req hlo hhi _), fun h6 hout => hreg (doStoreReg_of_no_store h6 hout _),
    fun hno => hmbox (doMbox_of_refused hno),
    fun hfree hlo hhi => ⟨fun ho => hmbox (doMbox_of_open hfree hlo hhi ho),
      fun ho hses => hmbox (doMbox_of_session hfree hlo hhi ho hses),
      fun ho hses => hmbox (doMbox_of_no_session hfree hlo hhi ho hses)⟩,
    next_of_turn hserve, next_of_turn hserve,
    fun hses => ⟨fun hbit => hbind (doBind_of_unbind hses hbit), fun hbit hc => hbind (doBind_of_refused hses hbit hc),
      fun hbit hc => hbind (doBind_of_accepted hses hbit hc), fun hno => hval (doVal_of_refused hses hno),
      fun hp hb hwide => ⟨hval (doVal_of_wide_low hses hp hb hwide), hval (doVal_of_wide_high hses hp hb hwide)⟩,
      fun hp hb hnarrow => ⟨hval (doVal_of_narrow_low hses hp hb hnarrow), hval (doVal_of_narrow_high hses hp hb hnarrow)⟩⟩,
    fun hses => ⟨hbind (doBind_of_no_session hses _), hval (doVal_of_no_session hses hi _)⟩,
    fun hno => (exec_windowRefresh_of_serving hserve).trans (next_of_no_turn hno),
    fun hreads => (exec_windowRefresh_of_serving hserve).trans (next_of_turn hreads),
    fun hlow => (exec_lowWordRead_of_serving hserve).trans (next_of_turn hlow),
    fun hlow => (exec_lowWordRead_of_serving hserve).trans (next_of_no_turn (ne_true_of_eq_false hlow)), rfl⟩

end Sys2Proof.Machine
end
